-- ==== Sys2Proof/Word.lean ====
section
/-! DEFINITION. Bytes and byte strings, the units of the block's memories, frames and DOMAIN entries. -/

namespace Sys2Proof

/-- One byte. -/
abbrev Byte := BitVec 8

/-- A byte string, lowest address first (R10, R37). -/
abbrev Bytes := List Byte

end Sys2Proof
end

