-- ==== Sys2Proof/Syntax.lean ====
section
/-! DEFINITION. The commands of the HKZ8840 block: one constructor of `Instr` per row of spec/opcode_table.json, with
the operands that the row's rule gives the event.  The table gives no bit fields, so an operand is what the rule says the
step reads from outside the model's state: a frame, a packet, a reading of a sensor, the outcome of a computation that a
published standard defines (log entry 2). -/

namespace Sys2Proof

/-- The unit types of R410 (16_faults_and_safety.md), in the order of their codes 0x01 to 0x17. -/
inductive UnitKind where
  | kid | herd | slice | stereo | flow | anchorStore | geometry | tile | ray | compositor | port | piu | eth | csi
  | zennikLane | router | lpddr | coreSupply | mgmt | rtu | fc | discreteInput | pcie
deriving DecidableEq, Repr

/-- A unit code of R407: the type of R410 and the instance. -/
structure UnitCode where
  kind : UnitKind
  inst : Nat
deriving DecidableEq, Repr

/-- The requester of a dictionary access: CAN FD, the physical function, or the virtual function of user partition
`p + 1` (R42, R45). -/
inductive Requester where
  | can
  | pf
  | vf (p : Fin 8)
deriving DecidableEq, Repr

/-- A Jalmon frame that begins with the header of R50, as received: identifier fields of R48, header fields, and the data
bytes that follow the header. -/
structure JalmonFrame where
  cls      : BitVec 5
  node     : BitVec 7
  seq      : BitVec 16
  command  : BitVec 8
  index    : BitVec 16
  sub      : BitVec 8
  length   : BitVec 8
  data     : Bytes
deriving DecidableEq, Repr

/-- A data segment of R53 as received. -/
structure JalmonSegment where
  cls     : BitVec 5
  node    : BitVec 7
  seq     : BitVec 16
  last    : Bool
  segment : BitVec 11
  dataLen : BitVec 6
  data    : Bytes
deriving DecidableEq, Repr

/-- Why a CAN frame is ignored (R47, R49). -/
inductive IgnoredFrame where
  | classical | baseIdentifier | remote | otherClass | otherNode | noNode
deriving DecidableEq, Repr

/-- A write of the host to a function's BAR2 window at a byte offset (R56). -/
structure BarWrite where
  offset : BitVec 17
  data   : Bytes
deriving DecidableEq, Repr

/-- One NAL-level view of an RTP payload of RFC 7798 (R73). -/
inductive NalPacket where
  | single      (nalType : Nat)
  | aggregation (nalTypes : List Nat)
  | fragment    (nalType : Nat) (start stop : Bool)
  | paci
  | reserved    (nalType : Nat)
deriving DecidableEq, Repr

/-- The RTP packet of a UDP datagram (R70 to R75). -/
structure RtpPacket where
  version     : Nat
  payloadType : BitVec 7
  ssrc        : BitVec 32
  seq         : BitVec 16
  timestamp   : BitVec 32
  marker      : Bool
  payload     : NalPacket
  bytes       : Nat
deriving DecidableEq, Repr

/-- The certificate chain of a peer as the RTU's checks find it (R384, R393). -/
structure PeerChain where
  chainOk : Bool
  serial  : BitVec 64
  device  : BitVec 16
deriving DecidableEq, Repr

/-- What a handshake frame brings over UDP, as the RTU's checks find it (R384, R468): a chain, or the end of the signed exchange. -/
inductive Handshake where
  | none_
  | chain    (c : PeerChain)
  | exchange (signaturesOk : Bool)
deriving DecidableEq, Repr

/-- The header of a Zennik frame (R462) and its body as the link layer sees it; `excess`: should its tag fail, whether it is more than
the 16th such frame within 1 s (R384). -/
structure ZennikFrame where
  type         : Nat
  creditReturn : Nat
  ackNumber    : BitVec 32
  frameNumber  : BitVec 64
  tagOk        : Bool
  excess       : Bool
  body         : Bytes
  handshake    : Handshake
deriving DecidableEq, Repr

/-- What a UDP datagram carries. -/
inductive UdpContent where
  | rtp    (p : RtpPacket)
  | zennik (magic count srcDevice dstDevice : Nat) (frames : List ZennikFrame)
deriving DecidableEq, Repr

/-- A UDP datagram with addresses in the 16-byte form of R70. -/
structure UdpPacket where
  srcAddr    : Bytes
  dstAddr    : Bytes
  srcPort    : BitVec 16
  dstPort    : BitVec 16
  checksumOk : Bool
  content    : UdpContent
deriving DecidableEq, Repr

/-- What an Ethernet frame carries above its MAC header (R64 to R66). -/
inductive EthPayload where
  | arpRequest    (target : BitVec 32) (sender : BitVec 48)
  | neighbourSolicit (target : Bytes)
  | ipv4Fragment
  | ipv6Extension
  | icmpEcho
  | pause
  | udp (p : UdpPacket)
  | other
deriving DecidableEq, Repr

/-- A received Ethernet frame (R64, R65). -/
structure EthFrame where
  length   : Nat
  fcsOk    : Bool
  vlanTags : Nat
  payload  : EthPayload
deriving DecidableEq, Repr

/-- A picture of planar samples (R83): rows of luma and of the two chroma planes. -/
structure Picture where
  width  : Nat
  height : Nat
  luma   : List (List Nat)
  cb     : List (List Nat)
  cr     : List (List Nat)
deriving DecidableEq, Repr

/-- One motion record of R84. -/
structure MotionRecord where
  mvX      : Int
  mvY      : Int
  pocDelta : Int
  biPred   : Bool
  skip     : Bool
  intra    : Bool
deriving DecidableEq, Repr

/-- What HEVC decoding yields for one access unit (R81 to R84): the standard is outside the spec, so its result is the
operand. -/
structure DecodeResult where
  supported   : Bool
  irap        : Bool
  syntaxError : Bool
  sampleBits  : Nat
  picture     : Picture
  motion      : List MotionRecord
deriving DecidableEq, Repr

/-- A CSI-2 packet as received (R89, R90). -/
inductive CsiPacket where
  | frameStart (vc : Nat) (eccErrors : Nat)
  | lineStart  (vc : Nat) (eccErrors : Nat)
  | lineEnd    (vc : Nat) (eccErrors : Nat)
  | longPacket (vc dataType : Nat) (eccErrors : Nat) (crcOk : Bool) (pixels : Nat)
deriving DecidableEq, Repr

/-- One line of CSI-2 samples: raw or packed components, as codes of the data type (R92). -/
structure CsiLine where
  vc       : Nat
  dataType : Nat
  codes    : List Nat
deriving DecidableEq, Repr

/-- The baton descriptor of R265. -/
structure Baton where
  dstDevice    : BitVec 16
  dstStation   : BitVec 16
  srcDevice    : BitVec 16
  srcStation   : BitVec 16
  dstKid       : BitVec 10
  srcKid       : BitVec 10
  dstQueue     : BitVec 6
  partition    : BitVec 4
  kind         : BitVec 3
  payloadBytes : BitVec 13
  payloadPlace : BitVec 2
  payloadAddr  : BitVec 24
  job          : BitVec 24
  lap          : BitVec 32
  slot         : BitVec 7
  leg          : BitVec 14
  lane         : BitVec 6
  part         : BitVec 16
  format       : BitVec 4
  last         : Bool
  payload      : Bytes
deriving DecidableEq, Repr

/-- The class that a reporter assigns (R408), in the order of the codes. -/
inductive FaultClass where
  | correctable | uncorrectable | presentation | wiring
deriving DecidableEq, Repr

/-- A report to the FC (R406). -/
structure FaultReport where
  reporter : UnitCode
  suspect  : UnitCode
  cls      : FaultClass
  detail   : BitVec 32
deriving DecidableEq, Repr

/-- A Zennik link, or the UDP session with a device (R384, R468). -/
inductive LinkName where
  | zennik (z : Fin 6)
  | udp (device : BitVec 16)
deriving DecidableEq, Repr

/-- What has read a block of LPDDR6 whose error is reported, where the model cannot find it by the block's number: stereo and flow engines whose
frame has read it (R120), slots whose running lap has (R150, R276), streams of whose weights it holds a candidate (true) or the
active version (false) (R354), and ports whose compose buffer or hold frame holds it (R411). -/
structure DataHit where
  engines : List UnitCode := []
  slots   : List (Fin 128) := []
  weights : List (Fin 512 × Bool) := []
  ports   : BitVec 16 := 0
deriving DecidableEq, Repr

/-- The end of a pace control interval: whether a VOUT_COMMAND of it is acknowledged (R23), and the package power of the 250 ms that end, none
where none end (R35, R389). -/
structure PaceReadings where
  acked : Bool
  watts : Option Nat
deriving DecidableEq, Repr

/-- An MBX_CMD of another command byte than those of R57. -/
structure MbxCommand where
  command : BitVec 8
  index   : BitVec 16
  sub     : BitVec 8
deriving DecidableEq, Repr

/-- A frame end packet: the bit errors of its header (R90), and the line of each raster port in its frame in progress (R92). -/
structure CsiEnd where
  eccErrors : Nat
  lines     : List Nat
deriving DecidableEq, Repr

/-- A free tile unit, and the time left in the schedule window of each user partition, partition 1 first (R209). -/
structure TileFree where
  unit : Fin 16
  left : List Nat
deriving DecidableEq, Repr

/-- A port's frame start, and the CRC-32 of its hold frame as scan-out read it (R28, R251). -/
structure FrameStart where
  port    : Fin 16
  holdCrc : BitVec 32
deriving DecidableEq, Repr

/-- What a rising edge of FSYNC measures: the phase error in lines and the time since the last one in tenths of a frame period (R235, R489). -/
structure SyncPhase where
  e            : Int
  periodTenths : Nat
deriving DecidableEq, Repr

/-- The trigger of a slot, and the lines left in the open window that names it (R272, R373). -/
structure LapTrigger where
  slot  : Fin 128
  lines : Nat
deriving DecidableEq, Repr

/-- A row of LPDDR6 named by screening (R442) or by the repair list (R443). -/
structure MemRow where
  channel    : Nat
  bank       : Nat
  row        : Nat
  granule    : Nat
  repairable : Bool
deriving DecidableEq, Repr

/-- What bring-up meets outside the state (R437 to R446): the image areas as the board wrote them while the device was OFF (none where
it left them), the straps, the outcomes of the image signature checks, the
regulator's answer, the training, screening, lane-proof and self-test results, the sensors and the elapsed time. -/
structure BootEnv where
  imageA      : Option Bytes
  imageB      : Option Bytes
  node        : BitVec 7
  safetyEn    : Bool
  suppliesOk  : Bool
  signatureA  : Bool
  signatureB  : Bool
  vout        : Option Nat
  channelsBad : List Nat
  rowsBad     : List MemRow
  pcieWidth   : Nat
  pcieGen     : Nat
  zennikLanes : List Nat
  ethLanes    : Nat
  csiLanes    : List Nat
  dsiLanes    : List Nat
  testBad     : List UnitCode
  kidCrcBad   : List (Nat × Nat)
  bringUpMs   : Nat
  junctions   : List Int
deriving DecidableEq, Repr

/-- One device of a received route frame (R466): its number and hop count at the sender. -/
structure RouteEntry where
  device : BitVec 16
  hops   : Nat
deriving DecidableEq, Repr

/-- A kind of CAN FD bus error of ISO 11898-1 (R47). -/
inductive CanBusError where
  | receive | receiveDominant | transmit
deriving DecidableEq, Repr

/-- The frame number and line of a port, the clock of that port (R28). -/
structure PortTime where
  line : Nat
deriving DecidableEq, Repr

/-- The station where an arithmetic operation runs: the herd, and for a `conv` station the logical kid (R262, R265). -/
structure OpUnit where
  herd : Fin 8
  kid  : Option (Fin 1024)
  slot : Fin 128
  lane : BitVec 6
deriving DecidableEq, Repr

/-- The fields of a conversion configuration (R304) that the operations of R305 read. -/
structure ConvConfig where
  layerId        : Nat
  widenable      : Bool
  inFormat       : Nat
  outFormat      : Nat
  outScaleMode   : Nat
  outExponent    : Int
  statsBase      : Nat
  statsEnable    : Bool
  widenThreshold : Nat
deriving DecidableEq, Repr

/-- What RESCALE reads (R302): per row the exponent of its activations, the scale bank of the leg and the layer's ScaleBase in it (R297), per
channel the rescale entry of R301, and the outlier partials by row where the layer has outlier channels.  An exponent that is not listed is that of the
first row (R317), 0 where none is. -/
structure RescaleJob where
  integer    : Bool
  rowExps    : List Int
  bank       : Fin 4
  scaleBase  : Nat
  entries    : List (Nat × Nat × Nat)
  partials   : List (List Nat)
deriving DecidableEq, Repr

/-- The fields of an address-generator configuration (R318), and the stripe number of the leg's Immediate (R322, R331). -/
structure AddrConfig where
  kind      : Nat
  kernelW   : Nat
  kernelH   : Nat
  strideX   : Nat
  strideY   : Nat
  dilationX : Nat
  dilationY : Nat
  padLeft   : Nat
  padRight  : Nat
  padTop    : Nat
  padBottom : Nat
  modeLeft  : Nat
  modeRight : Nat
  modeTop   : Nat
  modeBottom : Nat
  padConstant : Nat
  inChannels  : Nat
  outChannels : Nat
  groups      : Nat
  inWidth     : Nat
  inHeight    : Nat
  inFormat    : Nat
  stripeCount : Nat
  expandRows  : Nat
  countPad    : Bool
  poolMax     : Bool
  srcRowPitch   : Nat
  srcPlanePitch : Nat
  srcOffset     : Nat
  srcPlace      : Nat
  dstPlace      : Nat
  dstRowPitch   : Nat
  dstOffset     : Nat
  stripe        : Nat
deriving DecidableEq, Repr

/-- A planar tensor (R316): codes by channel, row and column, and the exponent of each row by channel (R317). -/
structure Tensor where
  planes : List (List (List Nat))
  exps   : List (List Int)
deriving DecidableEq, Repr

/-- The commands of the block: one constructor per row of spec/opcode_table.json. -/
inductive Instr where
  /-- SUPPLY_MONITOR_SAMPLE: Rail readings in mV, in the order of SupplyVoltages (R475). -/
  | supplyMonitorSample (mv : List Nat)
  /-- RESET_ASSERTED: A filtered assertion of RESET_n (R32 step 1). -/
  | resetAsserted
  /-- RESET_RELEASED: The release of RESET_n and what bring-up meets (R437). -/
  | resetReleased (env : BootEnv)
  /-- JUNCTION_MIN_REACHED: The end of the wait of R486. -/
  | junctionMinReached (env : BootEnv)
  /-- RESTART: A write of 1 to 0x1800.0F and what the bring-up after it meets (R32 step 13). -/
  | restart (env : BootEnv)
  /-- SYSCLK_FAILURE: No SYSCLK edge for 1 µs, or a rate off by more than 1 % (R479). -/
  | sysclkFailure
  /-- JUNCTION_SENSOR_READ: The 24 sensors in 0.1 °C (R485). -/
  | junctionSensorRead (tenths : List Int)
  /-- PACE_MONITOR_WINDOW: Herd h's measured pace in 1 M handshakes/s (R18). -/
  | paceMonitorWindow (h : Fin 8) (pace : Nat)
  /-- PACE_CONTROL_INTERVAL: The READ_VOUT of a supply treated as fixed, none without acknowledge (R23); whether a VOUT_COMMAND of the interval is acknowledged (R23); the package power of the 250 ms that end, none where none end (R35, R389). -/
  | paceControlInterval (readback : Option Nat) (q : PaceReadings)
  /-- READ_VOUT_CHECK: READ_VOUT in mV, none where the controller does not acknowledge (R23). -/
  | readVoutCheck (reading : Option Nat)
  /-- WATCHDOG_EXPIRY: The station that fires, the partner it names and the baton concerned, none for a handshake of no baton (R25, R26). -/
  | watchdogExpiry (reporter suspect : UnitCode) (baton : Option Baton)
  /-- RCLK_FAULT: Port n's clock leaves its range (R30). -/
  | rclkFault (n : Fin 16)
  /-- RCLK_RECOVERED: RCLK in range for 100 ms (R254 step 7). -/
  | rclkRecovered (n : Fin 16)
  /-- BATON_SEND: The descriptor and payload sent (R14, R265). -/
  | batonSend (b : Baton)
  /-- BATON_RECEIVE: The station, its queue and how many batons the leg combines (R264). -/
  | batonReceive (station : BitVec 16) (queue : BitVec 6) (count : Nat)
  /-- CAN_EXPEDITED_READ: A 0x01 request (R51). -/
  | canExpeditedRead (f : JalmonFrame)
  /-- CAN_EXPEDITED_WRITE: A 0x02 request (R51). -/
  | canExpeditedWrite (f : JalmonFrame)
  /-- CAN_INITIATE_SEGMENTED_READ: A 0x03 request (R53). -/
  | canInitiateSegmentedRead (f : JalmonFrame)
  /-- CAN_INITIATE_SEGMENTED_WRITE: A 0x04 request (R53). -/
  | canInitiateSegmentedWrite (f : JalmonFrame)
  /-- CAN_DATA_SEGMENT: A 0x05 segment (R53). -/
  | canDataSegment (g : JalmonSegment)
  /-- CAN_CANCEL: A 0x06 request (R53). -/
  | canCancel (f : JalmonFrame)
  /-- CAN_FRAME_IGNORED: A frame that R47 or R49 ignores. -/
  | canFrameIgnored (why : IgnoredFrame)
  /-- SEGMENT_TIMEOUT: A gap longer than SegmentTimeout (R53). -/
  | segmentTimeout
  /-- CAN_BUS_OFF_RECOVERY: The standard's recovery sequence ends (R47). -/
  | canBusOffRecovery
  /-- JALMON_EVENT_SEND: The oldest queued event wins the bus (R54). -/
  | jalmonEventSend
  /-- MBX_READ: Function fn (0 physical, p virtual) writes MBX_CMD with 0x01, after its writes to the window since its last command (R56, R57). -/
  | mbxRead (fn : Fin 9) (writes : List BarWrite) (index : BitVec 16) (sub : BitVec 8)
  /-- MBX_WRITE: MBX_CMD with 0x02 (R57). -/
  | mbxWrite (fn : Fin 9) (writes : List BarWrite) (index : BitVec 16) (sub : BitVec 8)
  /-- MBX_UNKNOWN_COMMAND: MBX_CMD with another command byte (R57). -/
  | mbxUnknownCommand (fn : Fin 9) (writes : List BarWrite) (c : MbxCommand)
  /-- MBX_REQUEST_COMPLETE: The request of function fn finishes (R57). -/
  | mbxRequestComplete (fn : Fin 9)
  /-- MBX_ACK: A write of MBX_ACK (R56). -/
  | mbxAck (fn : Fin 9) (value : BitVec 32)
  /-- ENTRY_WRITE: A write by a requester (R39). -/
  | entryWrite (who : Requester) (index : BitVec 16) (sub : BitVec 8) (value : Bytes)
  /-- SAVE: A write of 1 to 0x1100.08 (R58). -/
  | save
  /-- SAVE_COMPLETE: The flash write ends, and whether it succeeded (R58). -/
  | saveComplete (ok : Bool)
  /-- RESTORE_DEFAULTS: A write of 1 to 0x1100.06 (R59). -/
  | restoreDefaults
  /-- ETH_FRAME_RECEIVED: Port e, the frame, the packet engine's ms count, and the line of each raster port in its frame in progress (R65, R71, R76). -/
  | ethFrameReceived (e : Fin 4) (f : EthFrame) (ms : Nat) (lines : List Nat)
  /-- MEMBERSHIP_REPORT_TIMER: 60 s have passed (R66). -/
  | membershipReportTimer (e : Fin 4)
  /-- ETH_LINK_DOWN: Loss of link (R69). -/
  | ethLinkDown (e : Fin 4)
  /-- ETH_LINK_UP: Link up (R69). -/
  | ethLinkUp (e : Fin 4)
  /-- MDIO_READ: MdioCommand with Op 0 (R68). -/
  | mdioRead (command : BitVec 64)
  /-- MDIO_WRITE: MdioCommand with Op 1 (R68). -/
  | mdioWrite (command : BitVec 64)
  /-- MDIO_NO_OPERATION: MdioCommand with Op 2 or 3 (R68). -/
  | mdioNoOperation (command : BitVec 64)
  /-- MDIO_TRANSACTION_DONE: The transaction ends with its data (R67). -/
  | mdioTransactionDone (data : BitVec 16)
  /-- ACCESS_UNIT_RELEASE: Context s (R75). -/
  | accessUnitRelease (s : Fin 512)
  /-- JITTER_TIMEOUT: The depth or time limit of context s's oldest access unit is reached (R75). -/
  | jitterTimeout (s : Fin 512)
  /-- DECODE_START: Slice d is free (R82). -/
  | decodeStart (d : Fin 8)
  /-- DECODE_COMPLETE: Slice d's result (R86). -/
  | decodeComplete (d : Fin 8) (r : DecodeResult)
  /-- NO_DATA_TIMEOUT: NoDataTimeout has passed without an accepted packet (R80). -/
  | noDataTimeout (s : Fin 512)
  /-- STREAM_ENABLE: Enable 1 (R94). -/
  | streamEnable (s : Fin 512)
  /-- STREAM_DISABLE: Enable 0 (R94). -/
  | streamDisable (s : Fin 512)
  /-- STREAM_STOP_COMPLETE: The stop of context s ends (R94). -/
  | streamStopComplete (s : Fin 512)
  /-- CSI_PACKET_RECEIVED: A packet at port c (R90). -/
  | csiPacketReceived (c : Fin 4) (p : CsiPacket)
  /-- CSI_LINE_RECEIVED: A line at port c (R91). -/
  | csiLineReceived (c : Fin 4) (l : CsiLine)
  /-- CSI_FRAME_END: A frame end packet, the bit errors of its header (R90), and the line of each raster port in its frame in progress (R92). -/
  | csiFrameEnd (c : Fin 4) (vc : BitVec 4) (e : CsiEnd)
  /-- PAIR_ENABLE: Enable 1 (R99). -/
  | pairEnable (p : Fin 64)
  /-- PAIR_DISABLE: Enable 0 (R99). -/
  | pairDisable (p : Fin 64)
  /-- PAIR_STOP_COMPLETE: The stop ends (R99). -/
  | pairStopComplete (p : Fin 64)
  /-- STEREO_PASS_START: Engine g is free (R111). -/
  | stereoPassStart (g : Fin 4)
  /-- STEREO_FRAME_COMPLETE: Engine g's last row is written (R111). -/
  | stereoFrameComplete (g : Fin 4)
  /-- FLOW_FRAME_START: Engine f is free (R119). -/
  | flowFrameStart (f : Fin 4)
  /-- FLOW_FRAME_COMPLETE: Engine f's frame completes (R119). -/
  | flowFrameComplete (f : Fin 4)
  /-- TRUE_FRAME_READY: The oldest waiting true frame of s whose conditions hold (R128). -/
  | trueFrameReady (s : Fin 512)
  /-- CHOICE_POINT: The choice point of port n's next frame (R135). -/
  | choicePoint (n : Fin 16)
  /-- GEN_MODE_WRITE: A write of Mode (R170). -/
  | genModeWrite (s : Fin 512) (mode : BitVec 8)
  /-- RENDER_RESET: A write of RenderReset (R186). -/
  | renderReset (n : Fin 16) (value : Bool)
  /-- DOORBELL: Function fn writes Tail (R365). -/
  | doorbell (fn : Fin 9) (ring : BitVec 15) (tail : BitVec 32)
  /-- RING_NOP: The next entry of the ring, a NOP (R366). -/
  | ringNop (ring : BitVec 15)
  /-- RING_COMPUTE: The next entry, a COMPUTE (R366). -/
  | ringCompute (ring : BitVec 15)
  /-- RING_COPY: The next entry, a COPY (R366). -/
  | ringCopy (ring : BitVec 15)
  /-- COPY_COMPLETE: The job and the bytes read from host memory (R368). -/
  | copyComplete (job : Nat) (hostData : Bytes)
  /-- HOST_TRANSFER_FAILURE: The job whose host transfer failed (R457). -/
  | hostTransferFailure (job : Nat)
  /-- RING_FENCE: The next entry, a FENCE (R367). -/
  | ringFence (ring : BitVec 15)
  /-- RING_MALFORMED_ENTRY: The next entry, of unknown Kind (R366). -/
  | ringMalformedEntry (ring : BitVec 15)
  /-- PASS_OPEN: The next entry, a RASTER entry whose header is a pass header (R203). -/
  | passOpen (ring : BitVec 15)
  /-- BATCH_BIN: The next entry, with a batch header (R201). -/
  | batchBin (ring : BitVec 15)
  /-- PARTIAL_RENDER_DONE: Partition p + 1's partial render is finished (R215). -/
  | partialRenderDone (p : Fin 8)
  /-- QUERY_BATCH: The next entry, with a query batch header (R220). -/
  | queryBatch (ring : BitVec 15)
  /-- RAY_BATCH_COMPLETE: Unit u's batch is done (R225). -/
  | rayBatchComplete (u : Fin 4)
  /-- TILE_START: A tile unit is free (R209). -/
  | tileStart (t : TileFree)
  /-- TILE_FINISHED: Unit t's tile, with the colours that the shading tables returned (R208). -/
  | tileFinished (t : Fin 16) (shaded : List (List Nat))
  /-- PASS_COMPLETE: The oldest open pass of partition p + 1 is finished (R203). -/
  | passComplete (p : Fin 8)
  /-- PASS_TIMEOUT: PassTimeout has passed since that pass opened (R203). -/
  | passTimeout (p : Fin 8)
  /-- PORT_ENABLE: Enable 1 (R254). -/
  | portEnable (n : Fin 16)
  /-- PORT_DISABLE: Enable 0 (R254). -/
  | portDisable (n : Fin 16)
  /-- PORT_STOP_COMPLETE: The stop ends (R254 step 6). -/
  | portStopComplete (n : Fin 16)
  /-- PORT_FRAME_START: A port's frame start (R28). -/
  | portFrameStart (f : FrameStart)
  /-- COMPOSE_POINT: The compose point of port n's next frame (R236). -/
  | composePoint (n : Fin 16)
  /-- COMPOSITION_COMPLETE: The composition is in its buffer, with the CRC-32 of its pixels (R236, R251). -/
  | compositionComplete (n : Fin 16) (crc : BitVec 32)
  /-- COMPOSE_LATE: The first active line comes with the composition unfinished (R250). -/
  | composeLate (n : Fin 16)
  /-- ROUTE_TAG_CHECK: The CRC-32 of the tag's pixels at the tap of each copy (R246). -/
  | routeTagCheck (n : Fin 16) (layer : Fin 48) (crcA crcB : BitVec 32)
  /-- CRC_RECTANGLE_CHECK: The CRC-32 of the rectangle's pixels at the tap of each copy (R248). -/
  | crcRectangleCheck (n : Fin 16) (rect : Fin 32) (crcA crcB : BitVec 32)
  /-- PIU_DISAGREEMENT: The two copies disagree (R242). -/
  | piuDisagreement
  /-- LAYER_TABLE_WRITE: A write of LayerTable (R239). -/
  | layerTableWrite (n : Fin 16) (table : Bytes)
  /-- SAFE_ACK: A write of SafeAck (R253). -/
  | safeAck (n : Fin 16) (value : Bool)
  /-- FSYNC_EDGE: A filtered edge, rising or falling; of a rising one its phase error in lines and the time since the last one in tenths of a frame period (R235, R489). -/
  | fsyncEdge (n : Fin 16) (rising : Bool) (p : SyncPhase)
  /-- GENLOCK_LOST: No edge for two frame periods (R235). -/
  | genlockLost (n : Fin 16)
  /-- LAP_START: A slot's trigger, and the lines left in the open window that names it (R272, R373). -/
  | lapStart (l : LapTrigger)
  /-- LAP_BOUNDARY: The last baton of slot k's lap is taken; the lap's length in 10 ns units (R272, R287). -/
  | lapBoundary (k : Fin 128) (tenNs : Nat)
  /-- NOP: The sequencer of position h steps a NOP leg of slot k (R269). -/
  | nop (k : Fin 128) (h : Fin 8)
  /-- BARRIER: A BARRIER leg (R269). -/
  | barrier (k : Fin 128) (h : Fin 8)
  /-- MODEL: A MODEL leg naming a model (R269). -/
  | model (k : Fin 128) (h : Fin 8) (number : BitVec 15)
  /-- COMPLETE: A COMPLETE leg of a lane (R269). -/
  | complete (k : Fin 128) (h : Fin 8) (lane : BitVec 6)
  /-- END: An END leg (R269). -/
  | endLegs (k : Fin 128) (h : Fin 8)
  /-- CONVERT: The rows of FP32 or BF16 codes, and which elements are outlier channels or masked (R299). -/
  | convert (u : OpUnit) (c : ConvConfig) (rows : List (List Nat)) (mask : List (List Bool))
  /-- MMA: Per handshake a column of activation codes and a row of weight codes (R293). -/
  | mma (u : OpUnit) (fmtA fmtW : Nat) (steps : List (List Nat × List Nat))
  /-- RESCALE: Exponents, rescale entries and outlier partials (R302). -/
  | rescale (u : OpUnit) (c : ConvConfig) (job : RescaleJob)
  /-- OUTLIER: FP32 activations before conversion and BF16 weights of the listed channels (R303). -/
  | outlier (u : OpUnit) (acts weights : List (List Nat))
  /-- WIDE: A wide layer (R305). -/
  | wide (u : OpUnit) (c : ConvConfig) (acts weights : List (List Nat)) (job : RescaleJob)
  /-- GRADCONV: FP32 gradients (R310). -/
  | gradconv (u : OpUnit) (rows : List (List Nat))
  /-- MOMPACK: FP32 moments, first or second (R310). -/
  | mompack (u : OpUnit) (second : Bool) (rows : List (List Nat))
  /-- MOMUNPACK: Codes and row exponents (R310). -/
  | momunpack (u : OpUnit) (second : Bool) (rows : List (List Nat)) (exps : List Int)
  /-- MASTERUPD: BF16 masters and FP32 updates (R305). -/
  | masterupd (u : OpUnit) (masters updates : List Nat)
  /-- STATS: The FP32 source, the conversion made elsewhere, and which elements are outlier channels or masked (R305, R306). -/
  | stats (u : OpUnit) (c : ConvConfig) (source : List (List Nat)) (codes : List (List Nat)) (exps : List Int) (mask : List (List Bool))
  /-- CONVWIN: The tensor and the weights per output channel (R323). -/
  | convwin (u : OpUnit) (g : AddrConfig) (fmtW : Nat) (x : Tensor) (w : List (List Nat))
  /-- EXPAND: The tensor and the first output row (R324). -/
  | expand (u : OpUnit) (g : AddrConfig) (x : Tensor) (firstRow : Nat)
  /-- GROUPCONV: The tensor, and the decoded weights per output channel as FP32 codes (R326). -/
  | groupconv (u : OpUnit) (g : AddrConfig) (c : ConvConfig) (x : Tensor) (w : List (List Nat)) (job : RescaleJob)
  /-- BLOCKCONV: Samples or INT8 codes and INT8 weights (R325). -/
  | blockconv (u : OpUnit) (g : AddrConfig) (c : ConvConfig) (x : Tensor) (w : List (List Int)) (job : RescaleJob)
  /-- POOL: The tensor (R327). -/
  | pool (u : OpUnit) (g : AddrConfig) (c : ConvConfig) (x : Tensor)
  /-- RESCALE_RELU: As RESCALE, rectified (R328). -/
  | rescaleRelu (u : OpUnit) (c : ConvConfig) (job : RescaleJob)
  /-- WIDE_RELU: As WIDE, rectified (R328). -/
  | wideRelu (u : OpUnit) (c : ConvConfig) (acts weights : List (List Nat)) (job : RescaleJob)
  /-- PLANARISE: Interleaved rows of a source in herd memory (R322). -/
  | planarise (u : OpUnit) (g : AddrConfig) (rows : List (List Nat))
  /-- STAGE: A write of Stage (R280). -/
  | stage (k : Fin 128) (value : Bool)
  /-- STAGE_LOAD_COMPLETE: The staged version is loaded (R280 step 3). -/
  | stageLoadComplete (k : Fin 128)
  /-- UNLOAD: A write of Unload (R280 step 5). -/
  | unload (k : Fin 128) (value : Bool)
  /-- FALLBACK_LOAD_COMPLETE: Partition p + 1's load for another herd count is done (R284). -/
  | fallbackLoadComplete (p : Fin 8)
  /-- HERD_RESET: A write of Reset (R285). -/
  | herdReset (h : Fin 8) (value : Bool)
  /-- HERD_RESET_COMPLETE: The reset ends, and whether the herd cleared (R285, R363). -/
  | herdResetComplete (h : Fin 8) (cleared : Bool)
  /-- ADAPT_BUDGET_PERIOD: A 100 ms period begins (R343). -/
  | adaptBudgetPeriod (p : Fin 8)
  /-- SELECT_VERSION: Command op 0 (R349). -/
  | selectVersion (p : Fin 8) (command : BitVec 64)
  /-- DISCARD_CANDIDATE: Command op 1 (R357). -/
  | discardCandidate (p : Fin 8) (command : BitVec 64)
  /-- CLEAR_ADAPTED_VERSIONS: Command op 2 (R357). -/
  | clearAdaptedVersions (p : Fin 8) (command : BitVec 64)
  /-- UNKNOWN_ADAPT_OP: Command ops 3-7 (R349). -/
  | unknownAdaptOp (p : Fin 8) (command : BitVec 64)
  /-- PARTITION_ENABLE: Enable 1 of partition p + 1 (R361). -/
  | partitionEnable (p : Fin 8)
  /-- PARTITION_LIVE: Keys ready and granules scrubbed (R362 step 2). -/
  | partitionLive (p : Fin 8)
  /-- PARTITION_DISABLE: Enable 0 (R362 step 3). -/
  | partitionDisable (p : Fin 8)
  /-- PARTITION_TEARDOWN_DONE: R362 step 4. -/
  | partitionTeardownDone (p : Fin 8)
  /-- SCRUB_GRANULE_DONE: A granule is written, or could not be (R391, R363). -/
  | scrubGranuleDone (p : Fin 8) (granule : Nat) (ok : Bool)
  /-- SCHEDULE_WRITE: A write of Schedule (R372). -/
  | scheduleWrite (p : Fin 8) (schedule : Bytes)
  /-- WINDOW_OPEN: Window w opens (R373). -/
  | windowOpen (p : Fin 8) (w : Fin 64)
  /-- WINDOW_CLOSE: Window w closes; lines from the opening to the boundary of its last lap, if one started and ended (R373). -/
  | windowClose (p : Fin 8) (w : Fin 64) (lastLines : Option Nat)
  /-- ZENNIK_LINK_TRAINED: Link z trains (R384). -/
  | zennikLinkTrained (z : Fin 6)
  /-- ZENNIK_CHAIN_RECEIVED: The peer's chain (R384 step 2). -/
  | zennikChainReceived (z : Fin 6) (c : PeerChain)
  /-- ZENNIK_KEY_EXCHANGE: The signed exchange (R384 steps 3 and 4). -/
  | zennikKeyExchange (z : Fin 6) (signaturesOk : Bool)
  /-- SESSION_RETRY_TIMER: 10 s after a refused session (R384). -/
  | sessionRetryTimer (z : LinkName)
  /-- ZENNIK_REKEY: 2^32 frames or 3,600 s (R384). -/
  | zennikRekey (z : LinkName) (signaturesOk : Bool)
  /-- TRNG_HEALTH_FAILURE: A failed health test (R379). -/
  | trngHealthFailure
  /-- IDE_KM_MESSAGE: IDE_KM for function fn: keys programmed, or the stream stopped (R386). -/
  | ideKmMessage (fn : Fin 9) (keys : Bool)
  /-- IDE_CHECK_FAILURE: A TLP fails IDE (R386). -/
  | ideCheckFailure (fn : Fin 9)
  /-- REPORT_REQUEST: A write of ReportRequest (R399). -/
  | reportRequest (slot : Fin 10) (mask : BitVec 16)
  /-- REPORT_COMPLETE: The report is built (R399 step 3). -/
  | reportComplete (slot : Fin 10)
  /-- FAULT_REPORT: A report, the FC oscillator's ms count, of an LPDDR6 error whether an integrity tag failed and what has read the block (R120, R150, R354, R411), and of an anchor store error the record that it frees (R133, R411, R413). -/
  | faultReport (r : FaultReport) (ms : Nat) (integrity : Bool) (hit : DataHit) (freed : Option (Fin 262144))
  /-- WIRING_FAULT: A pair reads 00 or 11 for 100 ns (R404). -/
  | wiringFault (u : UnitCode) (ms : Nat)
  /-- QUIET_PERIOD_END: The quiet period of u's event ends, and the outcome of the TRNG's health test where it is repeated (R379, R418). -/
  | quietPeriodEnd (u : UnitCode) (ms : Nat) (healthy : Bool)
  /-- RECOVERY_TEST_COMPLETE: U's self-test ends (R419). -/
  | recoveryTestComplete (u : UnitCode) (passed : Bool) (ms : Nat)
  /-- SAFE_REQ_ASSERTED: A taken assertion, and whether more than two edges fell within 1 ms (R423). -/
  | safeReqAsserted (toggling : Bool)
  /-- SAFE_REQ_RELEASED: A taken release (R423). -/
  | safeReqReleased (toggling : Bool)
  /-- SAFE_REQ_HELD: Held for 10 s (R423). -/
  | safeReqHeld (ms : Nat)
  /-- SAFE_REQ_TOGGLE_QUIET: 10 ms without a taken edge (R423). -/
  | safeReqToggleQuiet
  /-- INPUT_GLITCH_REJECTED: A pulse shorter than the filter minimum (R422). -/
  | inputGlitchRejected
  /-- FIRMWARE_DATA: A write of FirmwareData (R449). -/
  | firmwareData (data : Bytes)
  /-- FIRMWARE_NO_ACTION: FirmwareCommand 0 (R452). -/
  | firmwareNoAction
  /-- FIRMWARE_STAGE: FirmwareCommand 1 (R449). -/
  | firmwareStage
  /-- FIRMWARE_VERIFY_COMPLETE: The outcome of the signature check (R440, R449). -/
  | firmwareVerifyComplete (signatureOk : Bool)
  /-- FIRMWARE_SWITCH: FirmwareCommand 2 (R450). -/
  | firmwareSwitch
  /-- FIRMWARE_DISCARD: FirmwareCommand 3 (R449). -/
  | firmwareDiscard
  /-- FIRMWARE_SWITCH_COMPLETE: The last herd has switched (R450 step 6). -/
  | firmwareSwitchComplete
  /-- PCIE_RESET: PERST_n (R453). -/
  | pcieReset
  /-- PCIE_LINK_DOWN: Loss of the host link (R457). -/
  | pcieLinkDown
  /-- PCIE_FLR: A function-level reset (R457). -/
  | pcieFlr (fn : Fin 9)
  /-- PCIE_CONFIG_REQUEST: A configuration request (R438). -/
  | pcieConfigRequest
  /-- MSIX_HOLDOFF_EXPIRY: 10 µs after a vector fired (R456). -/
  | msixHoldoffExpiry (fn : Fin 9) (vector : BitVec 11)
  /-- ZENNIK_FRAME_RECEIVED: A frame on link z (R464). -/
  | zennikFrameReceived (z : Fin 6) (f : ZennikFrame)
  /-- ZENNIK_RETRAIN_COMPLETE: Link z has retrained (R465). -/
  | zennikRetrainComplete (z : Fin 6)
  /-- ZENNIK_NAK_RECEIVED: A negative acknowledgement naming the last good frame (R464). -/
  | zennikNakReceived (z : Fin 6) (lastGood : BitVec 64)
  /-- ZENNIK_ACK_TIMEOUT: 20 µs without an acknowledgement (R464). -/
  | zennikAckTimeout (z : LinkName)
  /-- ZENNIK_ROUTE_FRAME: A route frame on link z (R466). -/
  | zennikRouteFrame (z : Fin 6) (routes : List RouteEntry)
  /-- ROUTE_ANNOUNCE_TIMER: 100 ms have passed (R466). -/
  | routeAnnounceTimer
  /-- ROUTE_CHANGE_APPLY: The old route to a device is drained (R467). -/
  | routeChangeApply (device : BitVec 16)
  /-- CAN_BUS_ERROR: A bus error (R47). -/
  | canBusError (e : CanBusError)
  /-- ZENNIK_LANE_ERROR: An error on a lane, and whether it is more than the 64th within 1 s (R465). -/
  | zennikLaneError (z : Fin 6) (lane : Fin 8) (excess : Bool)
  /-- PCIE_LINK_UP: The link trains (R469). -/
  | pcieLinkUp (width gen : Nat)
  /-- CSI_PORT_ACTIVE: The receiver gains the lanes (R97). -/
  | csiPortActive (c : Fin 4)
  /-- CSI_PORT_DOWN: The receiver loses the lanes (R97). -/
  | csiPortDown (c : Fin 4)
deriving DecidableEq, Repr

end Sys2Proof
end

