-- ==== Sys2Proof/Decode.lean ====
section
/-! DEFINITION. Words and commands: the table gives no bit fields for any row. -/

namespace Sys2Proof

/-- The command that a word spells by the table's bits: none, since no row of spec/opcode_table.json has fields (log entry
1). -/
def decodeTableWord (nbits w : Nat) : Option Instr :=
  match nbits, w with
  | _, _ => none

end Sys2Proof
end

