-- ==== Sys2Proof/Config.lean ====
section
/-! DEFINITION. What the manual leaves to the unit, to firmware or to a standard: constants without a body, so that nothing
can be proved about their values. -/

namespace Sys2Proof

/-- The `n`-th value that the manual leaves open, `w` bits of it (log entry 5). -/
opaque Config.freeValue : Nat → (w : Nat) → BitVec w

/-- The MAC address that a serial number gives an Ethernet port by default: locally administered, its bits not stated (R97,
log entry 5). -/
opaque Config.defaultMac : (serial port : Nat) → BitVec 48

/-- The chroma sample made of two neighbours in a line of a picture with chroma at every pixel: R92 states only the averaging of vertical
pairs (log entry 5). -/
opaque Config.chroma422 : (a b : Nat) → BitVec 10

/-- A colour component that bilinear demosaicing gives a pixel at the picture's edge where a neighbour of that colour lies outside, from the
codes of those inside, as an FP32 code: R92 does not state the edge (log entry 5). -/
opaque Config.demosaicEdge : List Nat → BitVec 32

/-- Whether a view whose stream has no ready true frame carries the provenance code HOLD rather than TRUE: R137 and R139 do not
say (log entry 17). -/
opaque Config.noFrameHold : Bool

/-- How a block of a history frame comes to the picture's time: moved by so many pixels, or left out as a masked lane (R183). -/
inductive BlockAlign where
  | moved (dx dy : Rat)
  | masked
deriving DecidableEq, Repr

/-- What the networks of a generation or up-scaling job read, and nothing else (R146, R161, R176, R181 to R186, R193): the source pictures,
the flow words of the later one, the anchor records, the place of the picture between or after them, the masked source blocks, the
history pictures with their alignment by block; for a rendered frame its colour, motion and depth bytes, the jitter phase and the number of the
previous output (none at a reset); the version of the weights, the quality step and the geometries of the views; the digest of the
table image that ran it. -/
structure NetInputs where
  pictures : List Picture := []
  flow : List Nat := []
  anchors : List Bytes := []
  place : Rat := 0
  mask : List Nat := []
  history : List Picture := []
  alignment : List (List BlockAlign) := []
  colour : Bytes := []
  motion : Bytes := []
  depth : Bytes := []
  jitter : Nat := 0
  previous : Option Nat := none
  weights : Nat := 0
  step : Nat := 0
  geometries : List Nat := []
  image : Bytes := []
deriving DecidableEq, Repr

/-- The kinds of network that a program image lists (R147, R178, R191): interpolation, extrapolation, and the up-scalers of camera and
rendered content by their ratios in halves and their quality step. -/
inductive NetworkKind where
  | fill
  | lead
  | camera (rx ry step : Nat)
  | rendered (rx ry step : Nat)
deriving DecidableEq, Repr

/-- Whether a table image, by its digest, lists a network: the lists are outside the spec (R147, R178, R191, log entry 18). -/
opaque Config.carries : (image : Bytes) → NetworkKind → Bool

/-- The number of the output that the networks of a job make from their inputs: networks are outside the spec, but that nothing else acts on
the output is stated (R176, R193, log entry 16). -/
opaque Config.network : NetInputs → Nat

/-- A field of the lane record of a generation or up-scaling job: 1 Param, 2 InputBase, 3 OutputBase, 4 MaskBase where something is masked;
the addresses that firmware gives the buffers and the use of Param are not stated (R274, log entry 99). -/
opaque Config.laneField : NetInputs → (field : Nat) → Nat

/-- Whether a part of the masked legs of such a job is masked: how parts lie over blocks is the table's (R146, R183, R273, log entry 99). -/
opaque Config.laneMask : NetInputs → (part : Nat) → Bool

/-- The base weights that a program image gives a network: 1 interpolation, 2 extrapolation (R348; networks are outside the spec, log entry 16). -/
opaque Config.baseWeights : (image : Bytes) → (kind : Nat) → Bytes

/-- BF16 master weights, and moments of 0, decoded from a version's weights (R345, log entry 16). -/
opaque Config.masterOf : Bytes → Bytes

/-- The master weights and moments after one optimiser step over the lanes of a candidate in ascending order, each with the frames it predicts
from and its target, and the generator's state at the lap's start (R342, R344, log entry 16). -/
opaque Config.trained : (master : Bytes) → (lanes : List (Nat × List Picture × Picture)) → (generator : Nat) → Bytes

/-- The number of random values that a training lap of so many lanes draws (R344, log entry 16). -/
opaque Config.drawn : (image : Bytes) → (lanes : Nat) → Nat

/-- The weights of a version converted from master weights with their learned scales (R347, log entry 16). -/
opaque Config.versionOf : Bytes → Bytes

/-- The luma that weights predict for a target from the frames given, at the reduced resolution (R346, log entry 16). -/
opaque Config.predicted : (weights : Bytes) → List Picture → (row col : Nat) → BitVec 10

/-- A sample of a generated picture: `plane` 0 luma, 1 and 2 chroma (log entry 16). -/
opaque Config.generatedSample : (output plane row col : Nat) → BitVec 10

/-- A sample of the up-scaled picture of a geometry: of a camera picture's planes, or of a rendered frame's red, green, blue and alpha as FP32
codes (log entry 16). -/
opaque Config.upscaledSample : (output geometry plane row col : Nat) → BitVec 32

/-- The fixed glyph sets: whether a pixel of the 16×16 glyph of a character is white (R140, R252; the shapes are not stated, log entry 95). -/
opaque Config.glyph : (char x y : Nat) → Bool

/-- The 256×256 "no picture" symbol of the PIU as 30-bit pixels (R252; its shape is not stated, log entry 95). -/
opaque Config.noPicture : (x y : Nat) → BitVec 30

/-- The compressed line of a DSC slice line from the words of its pixels, and a picture parameter set: VESA DSC is outside the spec (R230, R232, log
entry 96). -/
opaque Config.dscLine : (bitsPerPixel slices line : Nat) → List Nat → Bytes
opaque Config.dscParameters : (bitsPerPixel slices width height : Nat) → Bytes

/-- The uncertainty output of a generation network for a source block (R144; log entry 16). -/
opaque Config.networkTerm : (output block : Nat) → BitVec 8

/-- From how many of a Fill picture's two true frames, or whether from the source of a Lead picture, a block is covered (R144;
the covering itself is not stated, log entry 16). -/
opaque Config.covered : (output block : Nat) → BitVec 2

/-- The bytes of the output range that a program image declares for a COMPUTE job, from its OutputBase on, by the digest of the slot's table image
and the job's Param: the declarations are outside the spec (R210, log entry 49). -/
opaque Config.outputBytes : (image : Bytes) → (param : Nat) → Nat

/-- A channel, as an FP32 code, that a texture gives at (u, v) where the host has changed it while a pass that reads it is open: R219 calls
it undefined (log entry 26). -/
opaque Config.changedTexel : (texture u v channel : Nat) → BitVec 32

/-- An attribute of a pixel that its batch does not carry, which a texture's CoordAttr names: R217 gives it no value (log entry 26). -/
opaque Config.missingAttr : Nat → BitVec 32

/-- The LINEAR16 word of a voltage in millivolts: its exponent, the controller's VOUT_MODE, is not stated (R20, log entry 84). -/
opaque Config.linear16 : (millivolts : Nat) → BitVec 16

/-- The bytes of a save area's copy, from its running number and the saved entries: R58 does not state their layout (log entry 85). -/
opaque Config.saveCopy : (number : Nat) → (entries : List (Nat × Bytes)) → Bytes

/-- SHAKE256 with 64 bytes of output (R394 to R397; FIPS 202 is outside the spec, log entry 6). -/
opaque Config.shake256 : Bytes → Bytes

/-- The device certificate chain of a unit: its alias certificate carries the digest of the firmware verified at BOOT and the serial number; X.509 and
the keys are outside the spec (R393). -/
opaque Config.certChain : (firmware : Bytes) → (serial : Nat) → Bytes

/-- The RTU's public identity key (R378, R393). -/
opaque Config.identityKey : Bytes

/-- The signature of the RTU over a report (R398). -/
opaque Config.sign : Bytes → Bytes

/-- A message of a link handshake beyond the certificate chain, made with keys that nothing reads (R378, R384). -/
opaque Config.handshake : Nat → Bytes

/-- The encrypted body and the tag of a frame inside a session, 240 bytes, from the session's key, the header and the body: AES-256-GCM is outside the
spec (R384, R462). -/
opaque Config.gcm : (key : Nat) → (header body : Bytes) → Bytes

/-- The body of a route frame that lists devices and hop counts: R466 does not state its layout (log entry 37). -/
opaque Config.routeBody : List (Nat × Nat) → Bytes

/-- The units whose stations no batons reach around a set of fenced track routers: the routers' map is not stated (R410, log entry 109). -/
opaque Config.cutOff : (routers : List Nat) → List UnitCode

/-- A number of the compose table that a firmware image holds for a count of herds: 0 Version, 1 Lanes, 2 WorkBytes, 3 and 4 the annex
bounds of its two versions (R278; the table is outside the spec, log entry 39). -/
opaque Config.composeField : (firmware : Bytes) → (herds field : Nat) → Nat

end Sys2Proof
end

