-- ==== Sys2Proof/Machine/Bits.lean ====
section
/-! DEFINITION. Finite maps as association lists, byte order and bit fields: the plain helpers of every other file. -/

namespace Sys2Proof.Machine

open Sys2Proof

/-- The value that an association list gives a key, if any. -/
def Assoc.find {α : Type} (m : List (Nat × α)) (k : Nat) : Option α :=
  match m with
  | [] => none
  | (k', v) :: r => if k' = k then some v else Assoc.find r k

/-- The value of a key, or the value `d` of an unlisted one. -/
def Assoc.get {α : Type} (m : List (Nat × α)) (k : Nat) (d : α) : α := (Assoc.find m k).getD d

/-- The list with the key's value replaced, or added at the end. -/
def Assoc.put {α : Type} (m : List (Nat × α)) (k : Nat) (v : α) : List (Nat × α) :=
  match m with
  | [] => [(k, v)]
  | (k', v') :: r => if k' = k then (k, v) :: r else (k', v') :: Assoc.put r k v

/-- The list without a key. -/
def Assoc.drop {α : Type} (m : List (Nat × α)) (k : Nat) : List (Nat × α) := m.filter fun e => e.1 ≠ k

/-- A number's `n` bytes, least significant first (R10, R37). -/
def leBytes (n v : Nat) : Bytes := (List.range n).map fun i => BitVec.ofNat 8 (v / 2 ^ (8 * i))

/-- The number that bytes hold, least significant first (R10, R37). -/
def leNat (b : Bytes) : Nat :=
  match b with
  | [] => 0
  | x :: r => x.toNat + 256 * leNat r

/-- `n` bytes of 0. -/
def zeros (n : Nat) : Bytes := List.replicate n 0

/-- `n` bytes of `b` from offset `o`, short where `b` ends. -/
def slice (b : Bytes) (o n : Nat) : Bytes := (b.drop o).take n

/-- The number in `n` bytes at offset `o`. -/
def field (b : Bytes) (o n : Nat) : Nat := leNat (slice b o n)

/-- Bits `lo + n - 1` to `lo` of a number. -/
def bits (v lo n : Nat) : Nat := v / 2 ^ lo % 2 ^ n

/-- `v` with bit `i` set or cleared. -/
def withBit (v i : Nat) (on : Bool) : Nat :=
  if v.testBit i then (if on then v else v - 2 ^ i) else if on then v + 2 ^ i else v

/-- The numbers below `n` whose bit is set in `v`, rising. -/
def bitsSet (v n : Nat) : List Nat := (List.range n).filter fun i => v.testBit i

/-- The number whose set bits are the members of a list without repeats. -/
def maskOf (l : List Nat) : Nat := l.eraseDups.foldl (fun a i => a + 2 ^ i) 0

/-- A number of 0 or 1. -/
def ofBool (b : Bool) : Nat := if b then 1 else 0

/-- The two's complement reading of an `n`-bit number. -/
def signed (n v : Nat) : Int := if v < 2 ^ (n - 1) then (v : Int) else (v : Int) - 2 ^ n

/-- The `n`-bit two's complement code of an integer. -/
def unsigned (n : Nat) (z : Int) : Nat := (z % 2 ^ n).toNat

/-- Division rounded to nearest, ties upward (R28). -/
def divRoundUp (a b : Nat) : Nat := if b = 0 then 0 else (2 * a + b) / (2 * b)

/-- Division rounded to the next integer above. -/
def divCeil (a b : Nat) : Nat := if b = 0 then 0 else (a + b - 1) / b

/-- An integer clamped to an interval. -/
def clampInt (lo hi z : Int) : Int := if z < lo then lo else if hi < z then hi else z

/-- The list with the element at a position replaced. -/
def setAt {α : Type} (l : List α) (i : Nat) (v : α) : List α := l.set i v

/-- The least element of a list under a measure; the first of equals. -/
def minBy {α : Type} (f : α → Int) (l : List α) : Option α :=
  match l with
  | [] => none
  | x :: r => some (r.foldl (fun best y => if f y < f best then y else best) x)

/-- Insertion of an element before the first whose measure is greater: a stable sort's step. -/
def insertBy {α : Type} (f : α → Int) (x : α) (l : List α) : List α :=
  match l with
  | [] => [x]
  | y :: r => if f x < f y then x :: y :: r else y :: insertBy f x r

/-- A list in rising order of a measure, equals in their own order. -/
def sortBy {α : Type} (f : α → Int) (l : List α) : List α := l.foldl (fun acc x => insertBy f x acc) []

/-- The members of a list joined as one byte string. -/
def joinBytes (l : List Bytes) : Bytes := l.foldr (fun a r => a ++ r) []

/-- A record of bit fields as one number: pairs of (width, value), least significant field first (R10). -/
def packFields (l : List (Nat × Nat)) : Nat :=
  match l with
  | [] => 0
  | (w, v) :: r => v % 2 ^ w + 2 ^ w * packFields r

/-- Bytes padded with zeros, or cut, to a length. -/
def fit (n : Nat) (b : Bytes) : Bytes := (b ++ zeros (n - b.length)).take n

end Sys2Proof.Machine
end

