-- ==== Sys2Proof/Machine/Float.lean ====
section
/-! DEFINITION. Floating-point codes and exact arithmetic on them with one rounding to nearest, ties to even (R290 to R292,
R294, R296). -/

namespace Sys2Proof.Machine

/-- What a floating-point code stands for: a NaN, an infinity, or plus or minus `m` times 2 to the `e`. -/
inductive Fl where
  | nan
  | inf (neg : Bool)
  | fin (neg : Bool) (m : Nat) (e : Int)
deriving DecidableEq, Repr

/-- A floating format: exponent bits, fraction bits, bias, whether the top exponent holds infinities, its largest finite
code without sign, and the NaN that the device writes (R290 to R292). -/
structure FloatFormat where
  ebits : Nat
  mbits : Nat
  bias  : Int
  ieee  : Bool
  top   : Nat
  nan   : Nat
deriving DecidableEq, Repr

/-- FP8 E4M3: no infinity, one NaN pattern (R291). -/
def fmtE4M3 : FloatFormat := ⟨4, 3, 7, false, 0x7E, 0x7F⟩
/-- FP8 E5M2 (R291). -/
def fmtE5M2 : FloatFormat := ⟨5, 2, 15, true, 0x7B, 0x7E⟩
/-- BF16 (R290). -/
def fmtBF16 : FloatFormat := ⟨8, 7, 127, true, 0x7F7F, 0x7FC0⟩
/-- FP16 (R290). -/
def fmtFP16 : FloatFormat := ⟨5, 10, 15, true, 0x7BFF, 0x7E00⟩
/-- FP32 (R290). -/
def fmtFP32 : FloatFormat := ⟨8, 23, 127, true, 0x7F7F_FFFF, 0x7FC0_0000⟩

/-- The value of a code. -/
def FloatFormat.decode (f : FloatFormat) (c : Nat) : Fl :=
  let neg := c.testBit (f.ebits + f.mbits)
  let e := c / 2 ^ f.mbits % 2 ^ f.ebits
  let m := c % 2 ^ f.mbits
  if e = 2 ^ f.ebits - 1 && (f.ieee || m = 2 ^ f.mbits - 1) then
    if f.ieee && m = 0 then .inf neg else .nan
  else if e = 0 then .fin neg m (1 - f.bias - f.mbits)
  else .fin neg (2 ^ f.mbits + m) ((e : Int) - f.bias - f.mbits)

/-- `m` divided by 2 to the `k`, rounded to nearest, ties to even (R296). -/
def rneShift (m k : Nat) : Nat :=
  let q := m / 2 ^ k
  let r := m % 2 ^ k
  if 2 * r < 2 ^ k then q else if 2 * r = 2 ^ k && q % 2 = 0 then q else q + 1

/-- The magnitude code nearest to `m` times 2 to the `e` (`m` not 0), before any limit. -/
def FloatFormat.nearest (f : FloatFormat) (m : Nat) (e : Int) : Nat :=
  let emin := 1 - f.bias
  let top := (Nat.log2 m : Int) + e
  let ulp := (if top < emin then emin else top) - f.mbits
  let mant := if ulp ≤ e then m * 2 ^ (e - ulp).toNat else rneShift m (ulp - e).toNat
  if mant < 2 ^ f.mbits then mant
  else (ulp + f.mbits + f.bias).toNat * 2 ^ f.mbits + (mant - 2 ^ f.mbits)

/-- The sign bit of a format. -/
def FloatFormat.signBit (f : FloatFormat) (neg : Bool) : Nat := if neg then 2 ^ (f.ebits + f.mbits) else 0

/-- A conversion of the device (R292, R296): a NaN becomes the format's, what lies beyond the largest finite value
saturates. -/
def FloatFormat.encode (f : FloatFormat) (x : Fl) : Nat :=
  match x with
  | .nan => f.nan
  | .inf neg => f.signBit neg + f.top
  | .fin neg m e => f.signBit neg + if m = 0 then 0 else min (f.nearest m e) f.top

/-- The result of an arithmetic operation in the format: as IEEE 754, an overflow is an infinity (DEDUCED, log entry 8). -/
def FloatFormat.round (f : FloatFormat) (x : Fl) : Nat :=
  match x with
  | .nan => f.nan
  | .inf neg => f.signBit neg + (2 ^ f.ebits - 1) * 2 ^ f.mbits
  | .fin neg m e =>
    f.signBit neg + if m = 0 then 0 else min (f.nearest m e) ((2 ^ f.ebits - 1) * 2 ^ f.mbits)

/-- A signed dyadic number as a value. -/
def Fl.ofDyadic (m e : Int) : Fl := .fin (m < 0) m.natAbs e

/-- An integer as a value. -/
def Fl.ofInt (z : Int) : Fl := Fl.ofDyadic z 0

/-- The signed mantissa of a finite value. -/
def signedMant (neg : Bool) (m : Nat) : Int := if neg then -(m : Int) else m

/-- The negation of a value. -/
def Fl.neg (x : Fl) : Fl :=
  match x with
  | .nan => .nan
  | .inf s => .inf !s
  | .fin s m e => .fin (!s) m e

/-- The exact sum of two finite values as mantissa and exponent. -/
def dyadicAdd (m₁ e₁ m₂ e₂ : Int) : Int × Int :=
  if e₁ ≤ e₂ then (m₁ + m₂ * 2 ^ (e₂ - e₁).toNat, e₁) else (m₁ * 2 ^ (e₁ - e₂).toNat + m₂, e₂)

/-- The exact sum. -/
def Fl.add (x y : Fl) : Fl :=
  match x, y with
  | .nan, _ => .nan
  | _, .nan => .nan
  | .inf s, .inf t => if s = t then .inf s else .nan
  | .inf s, .fin .. => .inf s
  | .fin .., .inf t => .inf t
  | .fin s m e, .fin t n d =>
    let (a, b) := dyadicAdd (signedMant s m) e (signedMant t n) d
    if a = 0 then .fin (s && t && m = 0 && n = 0) 0 0 else Fl.ofDyadic a b

/-- The exact difference. -/
def Fl.sub (x y : Fl) : Fl := x.add y.neg

/-- The exact product. -/
def Fl.mul (x y : Fl) : Fl :=
  match x, y with
  | .nan, _ => .nan
  | _, .nan => .nan
  | .inf s, .inf t => .inf (s != t)
  | .inf s, .fin t n _ => if n = 0 then .nan else .inf (s != t)
  | .fin s m _, .inf t => if m = 0 then .nan else .inf (s != t)
  | .fin s m e, .fin t n d => .fin (s != t) (m * n) (e + d)

/-- The quotient to 96 bits below the divisor's, with a sticky bit: enough for one rounding to any format here. -/
def Fl.div (x y : Fl) : Fl :=
  match x, y with
  | .nan, _ => .nan
  | _, .nan => .nan
  | .inf _, .inf _ => .nan
  | .inf s, .fin t _ _ => .inf (s != t)
  | .fin s _ _, .inf t => .fin (s != t) 0 0
  | .fin s m e, .fin t n d =>
    if n = 0 then (if m = 0 then .nan else .inf (s != t))
    else
      let a := m * 2 ^ 96
      .fin (s != t) (2 * (a / n) + (if a % n = 0 then 0 else 1)) (e - d - 97)

/-- The integer square root, bit by bit from `2 ^ k` down. -/
def isqrtFrom (n k acc : Nat) : Nat :=
  match k with
  | 0 => acc
  | k + 1 => let t := acc + 2 ^ k; isqrtFrom n k (if t * t ≤ n then t else acc)

/-- The integer square root. -/
def isqrt (n : Nat) : Nat := isqrtFrom n (Nat.log2 n / 2 + 1) 0

/-- The square root with a sticky bit. -/
def Fl.sqrt (x : Fl) : Fl :=
  match x with
  | .nan => .nan
  | .inf neg => if neg then .nan else .inf false
  | .fin neg m e =>
    if m = 0 then .fin neg 0 0
    else if neg then .nan
    else
      let (m', e') := if e % 2 = 0 then (m, e) else (2 * m, e - 1)
      let a := m' * 2 ^ 96
      let r := isqrt a
      .fin false (2 * r + (if r * r = a then 0 else 1)) (e' / 2 - 49)

/-- A value times 2 to the `k`. -/
def Fl.scale (x : Fl) (k : Int) : Fl :=
  match x with
  | .fin s m e => .fin s m (e + k)
  | y => y

/-- Whether a value is a NaN. -/
def Fl.isNan (x : Fl) : Bool := match x with | .nan => true | _ => false

/-- Whether a value is finite. -/
def Fl.isFin (x : Fl) : Bool := match x with | .fin .. => true | _ => false

/-- Whether one value is less than another; false where either is a NaN. -/
def Fl.lt (x y : Fl) : Bool :=
  match x, y with
  | .nan, _ => false
  | _, .nan => false
  | .inf s, .inf t => s && !t
  | .inf s, .fin .. => s
  | .fin .., .inf t => !t
  | .fin s m e, .fin t n d => (dyadicAdd (signedMant s m) e (-signedMant t n) d).1 < 0

/-- Whether one value is at most another; false where either is a NaN. -/
def Fl.le (x y : Fl) : Bool := !x.isNan && !y.isNan && !Fl.lt y x

/-- The absolute value. -/
def Fl.abs (x : Fl) : Fl :=
  match x with
  | .nan => .nan
  | .inf _ => .inf false
  | .fin _ m e => .fin false m e

/-- A finite value as the nearest integer, ties to even; 0 for the others (R292, R296). -/
def Fl.toInt (x : Fl) : Int :=
  match x with
  | .fin neg m e => signedMant neg (if 0 ≤ e then m * 2 ^ e.toNat else rneShift m (-e).toNat)
  | _ => 0

/-- A value rounded to nearest and saturated to an integer range; an infinity saturates, a NaN is 0 (R292, R296). -/
def Fl.toIntSat (x : Fl) (lo hi : Int) : Int :=
  match x with
  | .nan => 0
  | .inf neg => if neg then lo else hi
  | y => clampInt lo hi y.toInt

/-- The greatest integer not above a finite value; 0 for the others. -/
def Fl.floor (x : Fl) : Int :=
  match x with
  | .fin neg m e => if 0 ≤ e then signedMant neg (m * 2 ^ e.toNat) else signedMant neg m / 2 ^ (-e).toNat
  | _ => 0

/-! FP32 on codes: each operation rounds once. -/

/-- FP32 1. -/
def f32One : Nat := 0x3F800000

/-- The value of an FP32 code. -/
def f32 (c : Nat) : Fl := fmtFP32.decode c
/-- An FP32 sum. -/
def f32Add (a b : Nat) : Nat := fmtFP32.round ((f32 a).add (f32 b))
/-- An FP32 difference. -/
def f32Sub (a b : Nat) : Nat := fmtFP32.round ((f32 a).sub (f32 b))
/-- An FP32 product. -/
def f32Mul (a b : Nat) : Nat := fmtFP32.round ((f32 a).mul (f32 b))
/-- An FP32 quotient. -/
def f32Div (a b : Nat) : Nat := fmtFP32.round ((f32 a).div (f32 b))
/-- An FP32 square root. -/
def f32Sqrt (a : Nat) : Nat := fmtFP32.round (f32 a).sqrt
/-- A fused FP32 multiply-add: one rounding (R294). -/
def f32Fma (a b c : Nat) : Nat := fmtFP32.round (((f32 a).mul (f32 b)).add (f32 c))
/-- An integer as FP32. -/
def f32OfInt (z : Int) : Nat := fmtFP32.round (Fl.ofInt z)
/-- The quotient of two integers as FP32. -/
def f32Ratio (a b : Int) : Nat := fmtFP32.round ((Fl.ofInt a).div (Fl.ofInt b))
/-- Whether one FP32 code is less than another. -/
def f32Lt (a b : Nat) : Bool := Fl.lt (f32 a) (f32 b)
/-- Whether one FP32 code is at most another. -/
def f32Le (a b : Nat) : Bool := Fl.le (f32 a) (f32 b)
/-- An FP32 code with its sign changed. -/
def f32Neg (a : Nat) : Nat := if a < 2 ^ 31 then a + 2 ^ 31 else a - 2 ^ 31

end Sys2Proof.Machine
end

