-- ==== Sys2Proof/Machine/Fix.lean ====
section
/-! DEFINITION. Exact fractions and the real functions that the motion anchors use (R126 to R132).  Cosine, powers and the
arc tangent are evaluated in fixed point with 64 fraction bits, far below the least stored unit (log entry 12). -/

namespace Sys2Proof.Machine

/-- The fixed-point unit: 64 fraction bits. -/
def fixOne : Int := 2 ^ 64

/-- π in fixed point. -/
def fixPi : Int := 57952155664616982739

/-- ln 2 in fixed point. -/
def fixLn2 : Int := 12786308645202655659

/-- A product in fixed point. -/
def fixMul (a b : Int) : Int := a * b / fixOne

/-- A quotient in fixed point; 0 for the divisor 0. -/
def fixDiv (a b : Int) : Int := if b = 0 then 0 else a * fixOne / b

/-- A fraction in fixed point. -/
def fixOf (q : Rat) : Int := q.num * fixOne / q.den

/-- A fixed-point number as a fraction. -/
def fixRat (z : Int) : Rat := mkRat z (2 ^ 64)

/-- A power series from a term on: each further term is the last times `x` over `a · b`, with `a`, `b` advancing by 2. -/
def fixSeries (x : Int) (fuel : Nat) (a : Int) (term acc : Int) : Int :=
  match fuel with
  | 0 => acc
  | n + 1 =>
    let t := fixMul term x / (a * (a + 1))
    fixSeries x n (a + 2) t (acc + t)

/-- A fraction of a turn reduced to −1/2 ≤ t < 1/2. -/
def turnHalf (t : Rat) : Rat := t - ((t + mkRat 1 2).floor : Rat)

/-- cos of a number of turns. -/
def cosTurns (t : Rat) : Rat :=
  let x := fixMul (2 * fixPi) (fixOf (turnHalf t))
  fixRat (fixSeries (-(fixMul x x)) 24 1 fixOne fixOne)

/-- sin of a number of turns. -/
def sinTurns (t : Rat) : Rat :=
  let x := fixMul (2 * fixPi) (fixOf (turnHalf t))
  fixRat (fixSeries (-(fixMul x x)) 24 2 x x)

/-- e^x by its series, for |x| ≤ 1. -/
def fixExpSmall (x : Int) (fuel : Nat) (k : Int) (term acc : Int) : Int :=
  match fuel with
  | 0 => acc
  | n + 1 =>
    let t := fixMul term x / k
    fixExpSmall x n (k + 1) t (acc + t)

/-- e^x for x ≤ 0 or small: the series on x − k · ln 2, shifted by k. -/
def fixExp (x : Int) : Int :=
  let k := x / fixLn2
  let y := fixExpSmall (x - k * fixLn2) 30 1 fixOne fixOne
  if 0 ≤ k then y * 2 ^ (min k.toNat 64) else y / 2 ^ (min (-k).toNat 200)

/-- 2 · artanh z by its series. -/
def fixArtanh (z2 : Int) (fuel : Nat) (k : Int) (power acc : Int) : Int :=
  match fuel with
  | 0 => 2 * acc
  | n + 1 => fixArtanh z2 n (k + 2) (fixMul power z2) (acc + power / k)

/-- ln of a positive fixed-point number. -/
def fixLn (x : Int) : Int :=
  let e : Int := (Nat.log2 x.toNat : Int) - 64
  let m := if 0 ≤ e then x / 2 ^ e.toNat else x * 2 ^ (-e).toNat
  let z := fixDiv (m - fixOne) (m + fixOne)
  e * fixLn2 + fixArtanh (fixMul z z) 48 1 z 0

/-- A positive fraction to a fractional power. -/
def powRat (b e : Rat) : Rat :=
  if b ≤ 0 then 0 else if b = 1 then 1 else fixRat (fixExp (fixMul (fixLn (fixOf b)) (fixOf e)))

/-- arctan of 0 ≤ x ≤ 1 in fixed point: halved twice, then the series. -/
def fixAtan (x : Int) : Int :=
  let root := fun (a : Int) => ((a * fixOne).toNat.sqrt : Int)
  let halve := fun (a : Int) => fixDiv a (fixOne + root (fixOne + fixMul a a))
  let y := halve (halve x)
  let n2 := -(fixMul y y)
  let rec go (fuel : Nat) (k power acc : Int) : Int :=
    match fuel with
    | 0 => acc
    | n + 1 => go n (k + 2) (fixMul power n2) (acc + power / k)
  4 * go 30 1 y 0

/-- The absolute value of a rational number. -/
def ratAbs (q : Rat) : Rat := if q < 0 then -q else q

/-- The value of a finite float; 0 for the others. -/
def Fl.value (x : Fl) : Rat :=
  match x with
  | .fin neg m e => (if neg then -1 else 1) * (m : Rat) * (if 0 ≤ e then ((2 ^ e.toNat : Nat) : Rat) else 1 / ((2 ^ (-e).toNat : Nat) : Rat))
  | _ => 0

/-- atan2(y, x) in turns, 0 ≤ t < 1; 0 for the origin. -/
def atanTurns (y x : Rat) : Rat :=
  let ax := ratAbs x
  let ay := ratAbs y
  if ax = 0 && ay = 0 then 0
  else
    let eighth := if ay ≤ ax then fixAtan (fixOf (ay / ax)) else fixPi / 2 - fixAtan (fixOf (ax / ay))
    let t := fixRat (fixDiv eighth (2 * fixPi))
    let q := if 0 ≤ x then t else mkRat 1 2 - t
    let r := if 0 ≤ y then q else -q
    if r < 0 then r + 1 else r

/-- The square root of a fraction. -/
def sqrtRat (q : Rat) : Rat := if q ≤ 0 then 0 else fixRat ((fixOf q * fixOne).toNat.sqrt : Int)

/-- To the nearest integer, ties to even. -/
def roundEven (q : Rat) : Int :=
  let f := q.floor
  let r := q - (f : Rat)
  if r < mkRat 1 2 then f else if r = mkRat 1 2 && f % 2 = 0 then f else f + 1

/-- A number written to a fixed-point field with `scale` steps per unit: to nearest, ties to even, saturated (R126). -/
def toField (q : Rat) (scale : Nat) (lo hi : Int) : Int := clampInt lo hi (roundEven (q * (scale : Rat)))

/-- The mean of a list; 0 of an empty one. -/
def meanRat (l : List Rat) : Rat := if l.isEmpty then 0 else l.foldl (· + ·) 0 / (l.length : Rat)

/-- Twice the median of a list: the middle one twice, or the sum of the two middle ones (PRESUMED, log entry 13). -/
def median2 (l : List Nat) : Nat :=
  let s := sortBy (fun (n : Nat) => (n : Int)) l
  if l.isEmpty then 0 else s.getD ((l.length - 1) / 2) 0 + s.getD (l.length / 2) 0

end Sys2Proof.Machine
end

