-- ==== Sys2Proof/Machine/State.lean ====
section
/-! DEFINITION. The state of the block as plain data: the parameter dictionary, external memory, and what each unit holds
beside its dictionary entries; the reasons a step can stop; the state after reset. -/

namespace Sys2Proof.Machine

open Sys2Proof

/-- The two parts of R1. -/
inductive Part where
  | hkz8840 | hkz8830
deriving DecidableEq, Repr

/-- The value of a dictionary entry (R37): an integer (F32 as its code), or the bytes of a VSTR or DOMAIN. -/
inductive Value where
  | int   (z : Int)
  | bytes (b : Bytes)
deriving DecidableEq, Repr

/-- What is fixed for the unit (R3, R61, R62, R421, R440): set at test, changed by no command. -/
structure Fuses where
  serial : Nat := 1
  extendedGrade : Bool := false
  herdsOff : List Nat := []
  kidsOut : List (Nat × Nat) := []
  unitsBad : List UnitCode := []
  fwSecurityMin : Nat := 0
deriving DecidableEq, Repr

/-- The instructions of the TAP that R389 names, and any other by its code (R483). -/
inductive TapInstruction where
  | bypass | idcode | samplePreload | extest
  | other (code : Nat)
deriving DecidableEq, Repr

/-- The test access port (R483): the instruction in force, IDCODE after a reset of the TAP by IEEE 1149.1, and the values of the
boundary-scan cells, one for each 1.8 V ball but those of the TAP, in the order of the BSDL file, which is not in the spec. -/
structure Tap where
  instruction : TapInstruction := .idcode
  boundary : List Bool := []
deriving DecidableEq, Repr

/-- A key of the RTU (R378), named by what it protects; its bits are readable by nothing and are no part of the state. -/
inductive KeyName where
  | identity | signing | clear
  | memory  (partition : Nat)
  | scrub   (granule : Nat)
  | session (link : Nat)
  | udpSession (device : Nat)
  | ide     (function : Nat)
deriving DecidableEq, Repr

/-- An event of R54 waiting in the queue: the entry, its type code and the value that the frame carries. -/
structure JEvent where
  key : Nat := 0
  type : Nat := 0
  value : Bytes := []
deriving DecidableEq, Repr

/-- The open segmented transfer of R53. -/
structure Transfer where
  write : Bool := false
  seq : Nat := 0
  key : Nat := 0
  total : Nat := 0
  data : Bytes := []
  next : Nat := 0
deriving DecidableEq, Repr

/-- The CAN FD side of the dictionary (R47 to R54); `events`: the value of EventEnable in force (R34). -/
structure Can where
  events : Bool := false
  transfer : Option Transfer := none
  lastCancelled : Option Nat := none
  lastTimedOut : Option Nat := none
  queue : List JEvent := []
  droppedSince : Nat := 0
  eventCounter : Nat := 0
  errorPassive : Bool := false
  busOff : Bool := false
  transmitErrors : Nat := 0
deriving DecidableEq, Repr

/-- One function's mailbox of BAR2 (R56, R57), with the outcome of the request in progress, and its MSI-X: the vectors within 10 µs of
firing and those of them to fire again, the entries of the table of BAR0 that the host has written, and the pending bits (R454, R456). -/
structure Mailbox where
  command : Nat := 0
  length : Nat := 0
  state : Nat := 0
  abort : Nat := 0
  lost : Bool := false
  type : Nat := 0
  irq : Bool := false
  clamps : Nat := 0
  buffer : Bytes := []
  outcome : Nat := 0
  vectors : List Nat := []
  again : List Nat := []
  table : List (Nat × Nat) := []
  pendingBits : List Nat := []
deriving DecidableEq, Repr

/-- A firmware image header of R440. -/
structure FwHeader where
  magic : Nat := 0
  formatVersion : Nat := 0
  parts : Nat := 0
  version : Nat := 0
  securityVersion : Nat := 0
  restartRequired : Bool := false
  length : Nat := 0
deriving DecidableEq, Repr

/-- A save area of R58: a running number that tells the newer copy, the saved entries, and the CRC-32 at its end. -/
structure SaveArea where
  number : Nat := 0
  entries : List (Nat × Value) := []
  crc : Nat := 0
deriving DecidableEq, Repr

/-- The board's QSPI flash (R439): the bytes of the two image areas by offset in the area, the boot select where its CRC
holds, the repair list where its CRC holds, and the save areas. -/
structure Flash where
  imageA : List Host.Cell := []
  imageB : List Host.Cell := []
  bootSelect : Option Nat := none
  repairs : List MemRow := []
  saveA : Option SaveArea := none
  saveB : Option SaveArea := none
deriving DecidableEq, Repr

/-- Bring-up, saving and firmware update beyond their entries (R34, R58, R437, R449, R486). -/
structure Boot where
  resetLow : Bool := true
  suppliesOk : Bool := true
  managing : Bool := false
  waitingHeat : Bool := false
  storedWrites : List (Nat × Value) := []
  bootedArea : Nat := 0
  inForce : List (Nat × Value) := []
  saving : Option (List (Nat × Value)) := none
  saveQueued : Option (List (Nat × Value)) := none
  staged : Option FwHeader := none
  switched : List Nat := []
deriving DecidableEq, Repr

/-- Pace control beyond its entries (R19, R22, R23). -/
structure Pace where
  quiet : Nat := 0
  fixed : Bool := false
  lastGood : Nat := 750
  nacks : Nat := 0
  slacks : List (Nat × Nat × Nat) := []
  floorAt : List Nat := []
  setpoint : Nat := 750
  measured : Nat := 0
  paces : List (Nat × Nat) := []
  slackMin : Nat := 0
  rails : List Nat := []
deriving DecidableEq, Repr

/-- An access unit in a jitter buffer (R74, R75): its packets as (sequence number, 0 whole, 1 first, 2 middle, 3 last piece of
a fragmented NAL unit), and, once it is complete, the line counts of the raster ports at that moment (R76, R244). -/
structure AccessUnit where
  timestamp : Nat := 0
  markerSeq : Option Nat := none
  pkts : List (Nat × Nat) := []
  bytes : Nat := 0
  nalTypes : List Nat := []
  complete : Bool := false
  lossy : Bool := false
  arrival : List (Nat × Nat) := []
deriving DecidableEq, Repr

/-- One flow record of R118. -/
structure FlowRecord where
  vecX : Int := 0
  vecY : Int := 0
  cost : Nat := 0
  source : Nat := 0
  border : Bool := false
  valid : Bool := false
deriving DecidableEq, Repr

/-- The flow of a frame: pending, none (R116, R119), or its records. -/
inductive FlowState where
  | pending | without
  | have_ (records : List FlowRecord)
deriving DecidableEq, Repr

/-- The disparity and confidence planes of a pair frame (R105 to R112). -/
structure DepthMap where
  disparity : List (List Nat) := []
  confidence : List (List Nat) := []
deriving DecidableEq, Repr

/-- The depth of a frame: it waits for a pair frame of a pair, is resolved without one, or is the pair frame's (R128). -/
inductive DepthState where
  | waits (pair : Nat)
  | without
  | have_ (m : DepthMap)
deriving DecidableEq, Repr

/-- A true frame that the device still holds (R85, R128); `before`: the timestamp of the true frame before it. -/
structure Frame where
  ordinal : Nat := 0
  timestamp : Nat := 0
  before : Option Nat := none
  arrival : List (Nat × Nat) := []
  follows : Bool := false
  picture : Picture := ⟨0, 0, [], [], []⟩
  motion : List MotionRecord := []
  flow : FlowState := .without
  depth : DepthState := .without
  ready : Bool := false
deriving DecidableEq, Repr

/-- A pace ratio of R93 against one port: 16.16 ratio, number of frames counted, the last 257 (timestamp, arrival) pairs,
newest first, the phase, the run of agreeing measurements, RatioState and whether the last measurement was ignored. -/
structure Ratio where
  ratio : Nat := 0
  count : Nat := 0
  history : List (Nat × Nat) := []
  phase : Int := 0
  run : Nat := 0
  state : Nat := 0
  ignored : Bool := false
deriving DecidableEq, Repr

/-- A stream context beyond its entries (R70 to R94).  `config` is the copy of its configuration entries taken at start; `trueCount` and
`unitCount` are its true frames and released access units, which do not wrap (R29); `trueTs` is the timestamp of its last true frame. -/
structure Ctx where
  config : List (Nat × Value) := []
  lastSeq : Option Nat := none
  lastTs : Option Nat := none
  aligned : Bool := false
  marker : Option Nat := none
  ssrc : Option Nat := none
  lastMs : Nat := 0
  units : List AccessUnit := []
  releasedTs : Option Nat := none
  sawIrap : Bool := false
  lastTrue : Bool := false
  trueTs : Option Nat := none
  frames : List Frame := []
  ratios : List (Nat × Ratio) := []
  csiCount : Nat := 0
  trueCount : Nat := 0
  unitCount : Nat := 0
  resetOrdinal : Nat := 0
deriving DecidableEq, Repr

/-- A picture in the slice queue or on a slice (R82): its place in the decoding order of its stream, and whether its context was suspended
since (R88). -/
structure SliceJob where
  stream : Nat := 0
  order : Nat := 0
  discard : Bool := false
  unit : AccessUnit := {}
deriving DecidableEq, Repr

/-- A CSI-2 frame being received for a context (R90 to R92); `alone`: the streamed pairs whose pair frame of it was abandoned (R110). -/
structure CsiFrame where
  vc : Nat := 0
  stream : Nat := 0
  lines : List CsiLine := []
  lossy : Bool := false
  alone : List Nat := []
deriving DecidableEq, Repr

/-- The receive side of a CSI-2 port: frames in progress with their lines (R91). -/
structure CsiPort where
  frames : List CsiFrame := []
deriving DecidableEq, Repr

/-- A frame waiting for its partner, or one side of a pair frame (R109). -/
structure WaitFrame where
  ordinal : Nat := 0
  mapped : Int := 0
  picture : Picture := ⟨0, 0, [], [], []⟩
deriving DecidableEq, Repr

/-- A pair frame (R109 to R111). -/
structure PairFrame where
  pair : Nat := 0
  left : WaitFrame := {}
  right : WaitFrame := {}
deriving DecidableEq, Repr

/-- A stereo pair beyond its entries: its configuration as taken at its start, the frames that wait, and its output frames, oldest first,
with the ordinals of their left frames (R112). -/
structure PairSt where
  config : List (Nat × Value) := []
  waitLeft : Option WaitFrame := none
  waitRight : Option WaitFrame := none
  outputs : List (Nat × DepthMap) := []
deriving DecidableEq, Repr

/-- A flow frame on an engine, with the settings of 0x2488 as they were when it started (R119, R120). -/
structure FlowJob where
  stream : Nat := 0
  ordinal : Nat := 0
  levels : Nat := 0
  search : Nat := 0
  seeding : Bool := false
deriving DecidableEq, Repr

/-- Stereo and flow engines (R109 to R119): queued pair frames, what each engine runs, flow frames waiting (stream,
ordinal), what each flow engine runs, the streams that hold flow buffers. -/
structure Vision where
  pairs : List (Nat × PairSt) := []
  queued : List PairFrame := []
  stereo : List (Nat × PairFrame) := []
  flowQueue : List (Nat × Nat) := []
  flow : List (Nat × FlowJob) := []
  flowBufs : List Nat := []
deriving DecidableEq, Repr

/-- The classes of an anchor (R126). -/
inductive AnchorClass where
  | still | velocity | acceleration | pendulum
deriving DecidableEq, Repr

/-- An allocated anchor record: the fields of R126, in their stored units, and the speeds of the last half-swing. -/
structure Anchor where
  stream : Nat := 0
  cls : AnchorClass := .velocity
  shadow : Bool := false
  miss : Nat := 0
  conf : Nat := 0
  age : Nat := 0
  cx : Nat := 0
  cy : Nat := 0
  width : Nat := 0
  height : Nat := 0
  depth : Nat := 0
  velX : Int := 0
  velY : Int := 0
  accX : Int := 0
  accY : Int := 0
  depthRate : Int := 0
  period : Nat := 0
  damping : Nat := 0
  phase : Nat := 0
  ampX : Int := 0
  ampY : Int := 0
  refTime : Nat := 0
  residual : Nat := 0
  link : Nat := 0
  stillRun : Nat := 0
  accelRun : Nat := 0
  crossings : Nat := 0
  lastCross : Nat := 0
  halfPeriod : Nat := 0
  lastPeak : Nat := 0
  eqVelX : Int := 0
  eqVelY : Int := 0
  lastWX : Rat := 0
  lastWY : Rat := 0
  setOf : Nat := 0
  peakX : Rat := 0
  peakY : Rat := 0
  badRun : Nat := 0
  accSign : Int × Int := (0, 0)
deriving DecidableEq, Repr

/-- The motion anchor store (R124, R133). -/
structure AnchorStore where
  records : List (Nat × Anchor) := []
  errorTimes : List Nat := []
deriving DecidableEq, Repr

/-- A picture that a view can show (R137, R158): a true frame, an interpolation between two, an extrapolation, or a
frame of a render target. -/
inductive Pic where
  | trueFrame (stream ordinal timestamp : Nat)
  | fill (stream n m k r : Nat) (tn tm : Nat)
  | lead (stream source : Nat) (ts : Nat) (target : Rat)
  | render (target frameCount : Nat)
deriving DecidableEq, Repr

/-- A block of a port's grid that takes true pixels under the gate, and the offset in source pixels of the warp; 0 unwarped (R145). -/
structure GatedBlock where
  block : Nat := 0
  dx : Rat := 0
  dy : Rat := 0
deriving DecidableEq, Repr

/-- A choice made for one view of a port frame (R137): picture, provenance code (R139), whether it repeats, the newest true frame that was
ready at the choice point; from the compose point on, the blocks gated, the source blocks that show
generated pixels, whether a block takes the newest true frame by R146, the network output that the view shows, and whether the fixed
scaler stands in (R178, R188, R189). -/
structure ViewChoice where
  layer : Nat := 0
  stream : Nat := 0
  pic : Option Pic := none
  code : Nat := 0
  repeat_ : Bool := false
  newest : Option Nat := none
  gated : Nat := 0
  gates : List GatedBlock := []
  shown : List Nat := []
  plain : Bool := false
  output : Option Nat := none
  fixed : Bool := false
deriving DecidableEq, Repr

/-- What a rendered view of a port frame shows (R184 to R188): the target's frame, the network output that the view shows, and whether the
fixed scaler stands in. -/
structure RenderChoice where
  layer : Nat := 0
  target : Nat := 0
  count : Option Nat := none
  output : Option Nat := none
  fixed : Bool := false
deriving DecidableEq, Repr

/-- A generation (kind 1) or up-scaling (kind 2) job: in its partition's pending queue, in a lap, or done with its output in a
buffer (R147, R148, R187, R188).  `layer` is the lowest of the views that share it; `layers` those whose
up-scaling buffers it takes, the lowest of each geometry; `history` the true frames that it reads (R181), `anchors` the records (R161),
`bare` the masters without a shadow (R163), `threshold` the gate threshold (R145, R150), `networks` those that its lap needs (R147);
`output` numbers what its networks made. -/
structure GenJob where
  id : Nat := 0
  kind : Nat := 0
  partition : Nat := 0
  port : Nat := 0
  layer : Nat := 0
  layers : List Nat := []
  stream : Nat := 0
  render : Bool := false
  geometry : Nat := 0
  pic : Pic := .trueFrame 0 0 0
  due : Nat := 0
  version : Nat := 0
  history : List Nat := []
  anchors : List (Nat × Anchor) := []
  bare : List (Nat × Anchor) := []
  threshold : Nat := 0
  networks : List NetworkKind := []
  inputs : NetInputs := {}
  output : Nat := 0
  committed : Bool := false
  done : Bool := false
  dropped : Bool := false
  inLap : Option Nat := none
  widened : Option Nat := none
deriving DecidableEq, Repr

/-- Frame generation of one stream beyond its entries (R127, R136, R161 to R170, R182): what the next choice point acts on (scene cuts, an
event of step 3, a change that retracts speculative pictures), the frame that priming must come after, the last timestamp differences,
the quiet count, the held Lead picture with its output and the source blocks that showed generated pixels, the frame for which no
measurement is made, the current shadow set, the frames last shown as TRUE by port, the last history reset. -/
structure GenStream where
  pendingCuts : Nat := 0
  pendingPrime : Bool := false
  pendingRetract : Bool := false
  primeAfter : Nat := 0
  diffs : List Nat := []
  quiet : Nat := 0
  held : Option Pic := none
  heldOutput : Nat := 0
  heldBlocks : List Nat := []
  unmeasured : Option Nat := none
  currentSet : Option Nat := none
  shownTrue : List (Nat × Nat) := []
  historyFrom : Nat := 0
deriving DecidableEq, Repr

/-- Frame generation (R134 to R172): per stream state, jobs in queue order, generation buffers held as (stream, port,
GenFrames), the number of the next job. -/
structure Gen where
  streams : List (Nat × GenStream) := []
  jobs : List GenJob := []
  buffers : List (Nat × Nat × Nat) := []
  nextJob : Nat := 0
deriving DecidableEq, Repr

/-- A vertex after set-up (R204, R205): the screen position in 1/256 pixel, depth, W, the previous clip position and the attributes
as FP32 codes. -/
structure Vert where
  x : Int := 0
  y : Int := 0
  z : Nat := 0
  w : Nat := 0
  prev : List Nat := []
  attrs : List Nat := []
deriving DecidableEq, Repr

/-- A binned triangle: its sequence number and vertices (R201, R215). -/
structure Tri where
  seq : Nat := 0
  verts : List Vert := []
deriving DecidableEq, Repr

/-- A pixel that a tile unit sends to shading (R206): the triangle's sequence number, the pixel, its interpolated attributes and its
sampled texels as FP32 codes. -/
structure ShadePixel where
  seq : Nat := 0
  x : Nat := 0
  y : Nat := 0
  attrs : List Nat := []
  texels : List (List Nat) := []
deriving DecidableEq, Repr

/-- A tile that a tile unit renders, and the pixels it has sent to shading. -/
structure TileRun where
  unit : Nat := 0
  tile : Nat := 0
  pixels : List ShadePixel := []
deriving DecidableEq, Repr

/-- The depth of a tile in the overflow reserve (R215, R216): the bytes that it takes and the codes by sample and pixel. -/
structure Reserved where
  tile : Nat := 0
  bytes : Nat := 0
  codes : List Nat := []
deriving DecidableEq, Repr

/-- A pass that is open on a target (R198 to R203, R215): its header and descriptor as read, the pool and the reserve limit at its
opening, the batches that have been taken as (BatchIndex, ring job, header), the next batch and its next triangle, the triangles in
the bins by number, the list entries as (tile, triangle), the tiles that are ready, those being rendered, whether a partial render
runs or binning waits for an earlier pass, the tiles rendered before, the depth in the reserve, the motion words by tile, the tile units
among which its tiles are shared out (R207), and the textures of its batches as they were when the batch was taken (R219). -/
structure Pass where
  id : Nat := 0
  partition : Nat := 0
  target : Nat := 0
  job : Nat := 0
  header : Nat := 0
  desc : Nat := 0
  buffer : Nat := 0
  frameCount : Nat := 0
  poolSize : Nat := 0
  limit : Nat := 0
  batches : List (Nat × Nat × Nat) := []
  nextBatch : Nat := 0
  nextPrim : Nat := 0
  tris : List (Nat × Tri) := []
  nextTri : Nat := 0
  setup : Nat := 0
  entries : List (Nat × Nat) := []
  due : List Nat := []
  running : List TileRun := []
  partial_ : Bool := false
  waiting : Bool := false
  final : Bool := false
  rendered : List Nat := []
  reserve : List Reserved := []
  motion : List (Nat × List Nat) := []
  units : List Nat := []
  textures : List (Nat × Bytes) := []
deriving DecidableEq, Repr

/-- A render target in use (R198, R203): passes begun, the buffer of the newest complete frame, that frame's FrameCount and whether its
depth is external, the complete frames by buffer, oldest first, and Stale. -/
structure TargetRt where
  passes : Nat := 0
  newest : Nat := 0
  shown : Option (Nat × Bool) := none
  buffers : List (Nat × Nat) := []
  stale : Bool := false
  size : Nat := 0
deriving DecidableEq, Repr

/-- A query batch that waits or runs: partition, ring job, header, and the unit that runs it (R225). -/
structure QueryJob where
  partition : Nat := 0
  job : Nat := 0
  header : Nat := 0
  unit : Option Nat := none
deriving DecidableEq, Repr

/-- The raster pipeline beyond its entries (R199 to R226): open passes in order, query batches in order, the partition that each
tile unit last rendered for, the number of the next pass, and the targets by partition · 256 + number. -/
structure Raster where
  passes : List Pass := []
  queries : List QueryJob := []
  lastPart : List (Nat × Nat) := []
  nextPass : Nat := 0
  targets : List (Nat × TargetRt) := []
deriving DecidableEq, Repr

/-- The timing fields in use by a port, taken at its start (R233). -/
structure Timing where
  hActive : Nat := 0
  hFront : Nat := 0
  hSync : Nat := 0
  hBack : Nat := 0
  vActive : Nat := 0
  vFront : Nat := 0
  vSync : Nat := 0
  vBack : Nat := 0
  pixelClock : Nat := 0
  composeLines : Nat := 0
  sync : Bool := false
  dsc : Bool := false
  lanes : Nat := 0
deriving DecidableEq, Repr

/-- What a layer's pixels come from in a composition (R180, R240): the true frame that the view shows, the newest one of R145 and R146, the
outputs of the generation and of the up-scaling network, the size of the picture, the gated blocks; for a render target its frame as
stored with its ColourFormat. -/
structure LayerPixels where
  layer : Nat := 0
  width : Nat := 0
  height : Nat := 0
  picture : Option Picture := none
  newest : Option Picture := none
  generated : Option Nat := none
  output : Option Nat := none
  gates : List GatedBlock := []
  surface : Bytes := []
  format : Nat := 0
deriving DecidableEq, Repr

/-- The content of a composed frame (R237, R240): the size of its active area, its layer table, the no-synthesis rectangles, its layers, the route tags as
(x, y, payload), and the marker as (x, y, provenance code). -/
structure Composition where
  width : Nat := 0
  height : Nat := 0
  table : Bytes := []
  regions : List (Nat × Nat × Nat × Nat) := []
  layers : List LayerPixels := []
  tags : List (Nat × Nat × Nat) := []
  marker : Option (Nat × Nat × Nat) := none
deriving DecidableEq, Repr

/-- The hold frame of a port (R237, R251, R252). -/
structure HoldFrame where
  frame : Nat := 0
  crc : Nat := 0
  age : Nat := 0
  content : Composition := {}
deriving DecidableEq, Repr

/-- The choices of one port frame: its frame, the shedding level at its choice point, its camera views and its rendered views in layer
order (R137, R142, R184). -/
structure FrameChoice where
  frame : Nat := 0
  shed : Nat := 0
  views : List ViewChoice := []
  renders : List RenderChoice := []
deriving DecidableEq, Repr

/-- A composition (R236, R237, R244): its frame, the CRC-32 of its pixels, the largest SourceAge of its camera views in lines,
whether every camera view carries TRUE or HOLD, its content, and what its rectangles are checked against (R248, R249): the table, SymbolSelect,
the predictions read at its compose point. -/
structure Composed where
  frame : Nat := 0
  crc : Nat := 0
  age : Nat := 0
  plain : Bool := false
  content : Composition := {}
  rects : Bytes := []
  symbols : Nat := 0
  predicted : List (Nat × Nat) := []
deriving DecidableEq, Repr

/-- The up-scaling buffers of a view of a port: its layer, and the bytes of each (R187, R192). -/
structure UpView where
  layer : Nat := 0
  bytes : Nat := 0
deriving DecidableEq, Repr

/-- What the active area of a frame in scan-out shows (R231, R237, R252, R254): black, a composition, the hold frame with its age in hundredths of a
second, or the blank field. -/
inductive Active where
  | black
  | composed (c : Composition)
  | hold (c : Composition) (age : Nat)
  | blank
deriving DecidableEq, Repr

/-- A frame that a port sends as MIPI DSI-2 video (R230, R231): its counter, its timing, the lane rate in Mbit/s, with DSC the rate in 1/16 bit per pixel
and the slices per line, its lines of front porch, and what its active area shows. -/
structure DsiFrame where
  count : Nat := 0
  timing : Timing := {}
  laneRate : Nat := 0
  dsc : Option (Nat × Nat) := none
  active : Active := .black
deriving DecidableEq, Repr

/-- What the block drives on its pins and links, in the order in which it drives it (DESIGN CHOICE, log entry 4). -/
inductive Output where
  | can       (id : Nat) (data : Bytes)
  | pmbus     (address : Nat) (command : Nat) (word : Option Nat) (fast : Bool)
  | ethernet  (port : Nat) (kind : Nat) (data : Bytes)
  | mdio      (clause45 write : Bool) (phy device register data : Nat)
  | msix      (function : Nat) (vector : Nat)
  | hostWrite (function : Nat) (address : Nat) (data : Bytes)
  | zennik    (link : Nat) (type : Nat) (frameNumber : Nat) (ack : Nat) (credits : Nat) (body wire : Bytes)
  | pcieRetry
  | dsi       (port : Nat) (frame : DsiFrame)
  | dsiEnd    (port : Nat)
deriving DecidableEq, Repr

/-- A raster port beyond its entries (R28, R235 to R254): the timing taken at the start, whether frames are counted and the
frame in progress, the applied and the next layer table with the rectangles applied with it, the last two choices,
the composition in progress, the composed frame that waits, the one in scan-out, whether the frame in progress carries a
substitute and what its active area shows, whether a check failed in the frame in scan-out and in the next one, the count towards the exit from SAFE, the hold frame, genlock, frame records with RecordEnable and PV as they were at the frame's start, up-scaling (buffers per view, the views that hold them,
bytes of older ones that a composition still reads, the HistoryThreshold of the last choice point, the layers whose rendered history
restarts from a FrameCount, the last frame and output of each rendered view), clock recovery. -/
structure PortRt where
  timing : Option Timing := none
  counting : Bool := false
  frames : Nat := 0
  applied : Bytes := []
  nextTable : Option Bytes := none
  rects : Bytes := []
  chosen : List FrameChoice := []
  composing : Option Composed := none
  composed : Option Composed := none
  scan : Option Composed := none
  carrying : Bool := false
  failed : Bool := false
  failedNext : Bool := false
  exitCount : Nat := 0
  acked : Bool := false
  blankNext : Bool := false
  hold : Option HoldFrame := none
  lockRun : Nat := 0
  frontAdjust : Int := 0
  sequence : Nat := 0
  recordRing : Option (Nat × Nat) := none
  recorded : Option Nat := none
  recordOn : Bool := true
  pvAtStart : Bool := false
  upBuffers : Nat := 0
  upViews : List UpView := []
  upOld : Nat := 0
  histThreshold : Nat := 0
  renderReset : List (Nat × Option Nat) := []
  shownRender : List (Nat × Nat) := []
  lastOutputs : List (Nat × Nat) := []
  ratios : List (Nat × Nat) := []
  black : Bool := false
  active : Active := .black
  waitRclk : Bool := false
deriving DecidableEq, Repr

/-- A model that a table image lists (R281), with its digest. -/
structure ModelEntry where
  number : Nat := 0
  bytes : Nat := 0
  offset : Nat := 0
  pin : Bool := false
  safety : Bool := false
  digest : Bytes := []
deriving DecidableEq, Repr

/-- A loaded version of a table image (R287): its header fields, its bank, its bindings, configurations, models and the legs of its full
and fallback versions by position, the budget of configuration 0 (R304), and the digest of the image. -/
structure TableImage where
  base : Nat := 0
  length : Nat := 0
  herdsFull : Nat := 0
  lanes : Nat := 0
  trigger : Nat := 0
  jobKind : Nat := 0
  legsFull : Nat := 0
  legsFallback : Nat := 0
  workBytes : Nat := 0
  annexFull : Nat := 0
  annexFallback : Nat := 0
  version : Nat := 0
  bank : Nat := 0
  widenLanes : Option Nat := none
  bindings : List Nat := []
  configs : List Nat := []
  models : List ModelEntry := []
  full : List (List Nat) := []
  fallback : List (List Nat) := []
  digest : Bytes := []
deriving DecidableEq, Repr

/-- The error sums of a unit for a lane and layer of a lap (R306): Σ(x − x̂)² and Σx² as FP32 codes. -/
structure LapSum where
  lane : Nat := 0
  layer : Nat := 0
  herd : Nat := 0
  kid : Nat := 0
  err : Nat := 0
  sq : Nat := 0
  widenable : Bool := false
  threshold : Nat := 0
deriving DecidableEq, Repr

/-- The lane record of an occupied lane (R274). -/
structure LaneRecord where
  job : Nat := 0
  param : Nat := 0
  inputBase : Nat := 0
  outputBase : Nat := 0
  maskBase : Nat := 0
deriving DecidableEq, Repr

/-- A running lap of a slot (R272): its number, jobs by lane, whether it was abandoned, the herd positions whose legs have ended, the
lanes marked complete, the batons sent and not yet taken, the positions that a barrier holds, the error sums by lane and by channel
(herd, channel, Σ(x − x̂)², Σx², count), the window that started it, the port that a compose lap composes, the lane records and mask
bitmaps latched at its start in lane order (R273, R274), and for each kid of a `conv` station, as (herd, logical kid), how many batons
its legs have received and run for (R271), and the layer from which each lane's job is widened (R307). -/
structure Lap where
  number : Nat := 0
  lanes : List Nat := []
  abandoned : Bool := false
  ended : List Nat := []
  marked : List Nat := []
  inFlight : Nat := 0
  barrier : List Nat := []
  sums : List LapSum := []
  channels : List (Nat × Nat × Nat × Nat × Nat) := []
  window : Option Nat := none
  port : Nat := 0
  records : List LaneRecord := []
  masks : List Bytes := []
  convRuns : List ((Nat × Nat) × Nat) := []
  widened : List (Option Nat) := []
deriving DecidableEq, Repr

/-- A relay table slot beyond its entries (R280, R284): active, staged and loading version, laps started, an Unload that waits, whether the
fallback version is active, and a change of version for another herd count as (to the fallback, loaded). -/
structure SlotRt where
  active : Option TableImage := none
  staged : Option TableImage := none
  loading : Option TableImage := none
  laps : Nat := 0
  unload : Bool := false
  fallback : Bool := false
  reload : Option (Bool × Bool) := none
  lap : Option Lap := none
deriving DecidableEq, Repr

/-- A baton queue of a station (R14, R264), keyed by station number and queue: the batons in its slots and those that wait for a
credit, each in the order sent. -/
structure Queue where
  station : Nat := 0
  queue : Nat := 0
  batons : List Baton := []
  waiting : List Baton := []
deriving DecidableEq, Repr

/-- A model held in a herd's cache (R281). -/
structure CachedModel where
  partition : Nat := 0
  number : Nat := 0
  digest : Bytes := []
  bytes : Nat := 0
  pinned : Bool := false
  lastUse : Nat := 0
  data : Bytes := []
deriving DecidableEq, Repr

/-- A scale register bank (R297, R298): its tag and its exponents. -/
structure ScaleBank where
  bank : Nat := 0
  partition : Nat := 0
  model : Nat := 0
  offset : Nat := 0
  data : Bytes := []
deriving DecidableEq, Repr

/-- A herd beyond its entries (R12, R281, R283, R297, R309): dead kids, (logical, physical) kids mapped to spares, the cache, the scale
banks, accumulators by slot · 1024 + logical kid, the last output of the herd's stations by row, with its row exponents and the payload sent, channel accumulators
as (channel, Σ(x − x̂)², Σx², count), and the parts of counters below their units. -/
structure HerdRt where
  deadKids : List Nat := []
  swaps : List (Nat × Nat) := []
  cache : List CachedModel := []
  useClock : Nat := 0
  banks : List ScaleBank := []
  acc : List (Nat × List Nat) := []
  vecOut : List (List Nat) := []
  exponents : List Int := []
  payload : Bytes := []
  expanded : List (List Nat) := []
  stats : List (Nat × Nat × Nat × Nat) := []
  resetting : Bool := false
  satLow : Nat := 0
  batonsLow : Nat := 0
  reloadsLow : Nat := 0
deriving DecidableEq, Repr

/-- The statistics window of a partition (R309): slot, layer and laps taken at its start, laps done, layers widened from. -/
structure StatsWindow where
  slot : Nat := 0
  layer : Nat := 0
  laps : Nat := 0
  done : Nat := 0
  widened : List Nat := []
deriving DecidableEq, Repr

/-- The herds, slots and queues. -/
structure Herds where
  herds : List (Nat × HerdRt) := []
  slots : List (Nat × SlotRt) := []
  queues : List Queue := []
  satLow : Nat := 0
deriving DecidableEq, Repr

/-- A sample in a training lap: its stream, its target, the number of the candidate, the frames that the target is predicted from and the target's
frame (R340 to R342). -/
structure AdaptSample where
  stream : Nat
  target : Nat
  era : Nat
  inputs : List Picture
  answer : Picture
deriving DecidableEq, Repr

/-- The adaptation state of a stream: the fields of the stream table entry of R357 (the three slots' versions, none listed while no slot
is allocated), the digests and the weights of the slots' versions, the candidate, its master weights and moments, its number and the step
count of its next test, the ring of reduced copies by ordinal, newest first, the held-out targets latched by a test lap (what each is predicted from, and
its frame), whether a command discarded that test, whether a passed test waits (R339 to R352). -/
structure AdaptStream where
  state : Nat := 0
  cause : Nat := 0
  kind : Nat := 0
  activeSlot : Nat := 0
  steps : Nat := 0
  testRatio : Nat := 0
  slots : List Nat := []
  digests : List Bytes := []
  weights : List Bytes := []
  highest : Nat := 0
  promotions : Nat := 0
  rejections : Nat := 0
  candidate : Bool := false
  master : Bytes := []
  era : Nat := 0
  nextTest : Nat := 0
  copies : List (Nat × Picture) := []
  reduction : Nat := 0
  testing : Option (List (List Picture × Picture)) := none
  discardTest : Bool := false
  passed : Bool := false
deriving DecidableEq, Repr

/-- Adaptation of a partition (R341 to R352): the generator, streams, queued samples as (stream, target), the budget and the annex time
started in the period, in 10 ns units, the samples of the running lap in lane order, and the commands (true) and
promotions (false) that wait for a herd reset. -/
structure AdaptPart where
  generator : Nat := 0
  streams : List (Nat × AdaptStream) := []
  queue : List (Nat × Nat) := []
  budget : Nat := 0
  started : Nat := 0
  lapSamples : List AdaptSample := []
  waiting : List (Bool × Nat) := []
deriving DecidableEq, Repr

/-- A ring of R364: entries taken, completions written, what the last doorbell gave and read from the descriptor, and its counts
(R365, R369). -/
structure Ring where
  head : Nat := 0
  tail : Nat := 0
  completions : Nat := 0
  completeRead : Nat := 0
  slotsLog : Nat := 0
  submitBase : Nat := 0
  completeBase : Nat := 0
  irq : Bool := false
  vector : Nat := 0
  submitted : Nat := 0
  completed : Nat := 0
  abandoned : Nat := 0
  function : Nat := 0
deriving DecidableEq, Repr

/-- A ring job that has been taken and has not ended (R366, R368). -/
structure RingJob where
  id : Nat := 0
  number : Nat := 0
  partition : Nat := 0
  ring : Nat := 0
  index : Nat := 0
  tag : Nat := 0
  irq : Bool := false
  kind : Nat := 0
  slot : Nat := 0
  param : Nat := 0
  a : Nat := 0
  b : Nat := 0
  c : Nat := 0
  srcPlace : Nat := 0
  dstPlace : Nat := 0
  mode : Nat := 0
  held : Bool := false
  inLap : Bool := false
  widened : Option Nat := none
deriving DecidableEq, Repr

/-- What a started user partition owns, taken from its record at its start (R358). -/
structure Owned where
  herds : List Nat := []
  ports : List Nat := []
  streams : List Nat := []
  pairs : List Nat := []
  slots : List Nat := []
  blocks : List Nat := []
  memBase : Nat := 0
  memSize : Nat := 0
  hostMiB : Nat := 0
  deviceMap : List (Nat × Nat) := []
  master : Nat := 0
deriving DecidableEq, Repr

/-- An open window of a schedule (R373): its number, the slots that it names, those whose lap of this opening has started or been
skipped, the laps started in it, and whether the opening overran. -/
structure OpenWindow where
  number : Nat := 0
  slots : List Nat := []
  done : List Nat := []
  laps : Nat := 0
  late : Bool := false
deriving DecidableEq, Repr

/-- A partition beyond its entries (R358 to R373): what it owns, whether its keys are made, granules to scrub and done, bytes of device
buffers by tag, the next job number, the arrival mode in use and the entry's value when it was taken (255 none), the level that replay
sets, the frames that it withholds and the LATE entries that it has read as (port, frame, stream), the shedding level in effect, a schedule that no anchor port has judged yet, the one in use and whether the stored one replaces
it at the next frame start, open windows, ports whose compose lap is due, ports whose frame in progress the stop waits for. -/
structure PartRt where
  owned : Option Owned := none
  keysReady : Bool := false
  toScrub : List Nat := []
  scrubbed : Nat := 0
  deviceUse : List (Nat × Nat) := []
  nextJob : Nat := 0
  arrivalMode : Nat := 0
  arrivalSeen : Nat := 0
  replayLevel : Option Nat := none
  withheld : List (Nat × Nat) := []
  lates : List (Nat × Nat × Nat) := []
  shed : Nat := 0
  held : Option Bytes := none
  inUse : Option Bytes := none
  applyNext : Bool := false
  windows : List OpenWindow := []
  portsDue : List Nat := []
  portsLeft : List Nat := []
  stats : StatsWindow := {}
  satLow : Nat := 0
deriving DecidableEq, Repr

/-- A fault event of R414 and R417. -/
structure FaultEvent where
  number : Nat := 0
  unit : UnitCode := ⟨.kid, 0⟩
  cls : FaultClass := .correctable
  status : Nat := 0
  reaction : Nat := 0
  reporter : UnitCode := ⟨.kid, 0⟩
  merged : Nat := 0
  openedAt : Nat := 0
  duration : Nat := 0
  detail : Nat := 0
  ports : List Nat := []
  recovering : Bool := false
  failed : Bool := false
  fenced : Bool := false
deriving DecidableEq, Repr

/-- The fault collector beyond its entries (R409 to R421). -/
structure Fc where
  log : List FaultEvent := []
  fenced : List UnitCode := []
  permanent : List UnitCode := []
  testBad : List UnitCode := []
  correctable : List (UnitCode × Nat) := []
  channelErrors : List (Nat × Nat) := []
  recoveries : List (UnitCode × Nat) := []
  ms : Nat := 0
  supplyOpen : Bool := false
deriving DecidableEq, Repr

/-- The discrete inputs (R422, R423): the taken level of SAFE_REQ_n and whether it is treated as asserted. -/
structure Inputs where
  safeReq : Bool := false
  toggling : Bool := false
deriving DecidableEq, Repr

/-- A report in progress or made (R399). -/
structure Report where
  mask : Nat := 0
  nonce : Bytes := []
  content : Bytes := []
deriving DecidableEq, Repr

/-- Security beyond its entries (R378 to R401): keys held, blocks whose tag is bad, used granules, granules whose last scrub failed,
granules withheld by screening, reports by slot, functions with an IDE stream, the digests of the running, staged and booted firmware, DeviceEpoch and the epochs of
partitions. -/
structure Security where
  keys : List KeyName := []
  badBlocks : List Nat := []
  used : List Nat := []
  scrubFailed : List Nat := []
  withheld : List Nat := []
  reports : List (Nat × Report) := []
  ide : List Nat := []
  activeFw : Bytes := []
  bootFw : Bytes := []
  stagedFw : Bytes := []
  epoch : Nat := 0
  partEpochs : List (Nat × Nat) := []
deriving DecidableEq, Repr

/-- A frame in a replay buffer (R464): its number, type and body. -/
structure ZFrame where
  number : Nat := 0
  type : Nat := 0
  body : Bytes := []
deriving DecidableEq, Repr

/-- A Zennik link, or the session with a UDP peer, beyond its entries (R384, R458 to R468): `session` is 0 none, 1 own chain sent, 2 the
peer's chain accepted, 3 open, 4 refused by a UDP peer's check until the retry timer; the number of the key; the Ethernet port of a UDP
session; the peer's number and serial; the next frame expected and the next to send; the frames not acknowledged; the batons not
acknowledged, each with the number of its last frame; credits; frames freed and not reported; the bodies of a baton that arrives; the
batons whose payloads the receive buffer holds; the routes that the peer announced; the answer that is owed (0 none, 2 an acknowledgement,
3 a negative one); retraining; lanes that failed their proof. -/
structure ZLink where
  session : Nat := 0
  key : Nat := 0
  port : Nat := 0
  peerDevice : Nat := 0
  peerSerial : Nat := 0
  nextRx : Nat := 0
  nextTx : Nat := 0
  replay : List ZFrame := []
  sent : List (Nat × Baton) := []
  credits : Nat := 0
  toReturn : Nat := 0
  rxBuffer : List Bytes := []
  rxHeld : List Baton := []
  routes : List RouteEntry := []
  owes : Nat := 0
  retraining : Bool := false
  badLanes : List Nat := []
deriving DecidableEq, Repr

/-- A route to a device (R466, R467): hops and first link (255 for UDP), and the route waiting to take effect. -/
structure Route where
  device : Nat := 0
  hops : Nat := 0
  link : Nat := 0
  pending : Option (Nat × Nat) := none
deriving DecidableEq, Repr

/-- The peer links. -/
structure Peers where
  links : List (Nat × ZLink) := []
  routes : List Route := []
  waiting : List Baton := []
deriving DecidableEq, Repr

/-- The state of the block; what no row of the table brings keeps its value (DESIGN CHOICE, log entry 82). -/
structure State where
  pending : List Instr := []
  part : Part := .hkz8840
  fuses : Fuses := {}
  dict : List (Nat × Value) := []
  mem : List Host.Cell := []
  out : List Output := []
  free : Nat := 0
  can : Can := {}
  boxes : List (Nat × Mailbox) := []
  flash : Flash := {}
  boot : Boot := {}
  pace : Pace := {}
  streams : List (Nat × Ctx) := []
  released : List SliceJob := []
  slices : List (Nat × SliceJob) := []
  mdioRead : Bool := false
  csi : List (Nat × CsiPort) := []
  vision : Vision := {}
  anchors : AnchorStore := {}
  gen : Gen := {}
  raster : Raster := {}
  ports : List (Nat × PortRt) := []
  herds : Herds := {}
  adapt : List (Nat × AdaptPart) := []
  rings : List (Nat × Ring) := []
  jobs : List RingJob := []
  parts : List (Nat × PartRt) := []
  fc : Fc := {}
  inputs : Inputs := {}
  security : Security := {}
  peers : Peers := {}
  tap : Tap := {}
  meters : List (Nat × List Nat) := []
deriving DecidableEq, Repr

/-- What stops the block: nothing.  The manual ends no command in a stop of the whole block; a command that names a unit which
the part does not have has no effect (R2; log entry 83).  Raised by nobody, so neither safe nor unsafe. -/
inductive Fault where
deriving DecidableEq, Repr

/-- Why a command has no meaning. -/
inductive Refusal where
  /-- Raised by the arm of a command that is not modelled yet.  Safe: nothing follows from a refusal. -/
  | notModelled (mnemonic : String)
deriving DecidableEq, Repr

/-- The block right after a reset: RESET_n is asserted, the supplies are in range, the device state is OFF (R31, R32 step
1), every dictionary entry holds its default, external memory lists nothing, no unit runs, no command waits. -/
def State.reset : State := {}

end Sys2Proof.Machine
end

