-- ==== Sys2Proof/Machine/Catalog.lean ====
section
/-! DEFINITION. The catalog of the parameter dictionary: every record and entry of the tables of spec/01 to spec/19, with
type, access, default, range and whether its changes send an event (R36 to R40, R54).  Where a table gives no default for a
read-only entry, the value 0 stands here (DESIGN CHOICE, log entry 3). -/

namespace Sys2Proof.Machine

/-- The value types of R37, in the order of their codes but for the unsigned widths. -/
inductive EType where
  | bool | u8 | u16 | u32 | u64 | i16 | i32 | f32 | enum | vstr | domain
deriving DecidableEq, Repr

/-- The access rights of R38. -/
inductive Access where
  | ro | wo | rw | rwp | const
deriving DecidableEq, Repr

/-- Whose a record is (R45): the identity range, partition 0, the partition of the stream, pair, port, herd or slot of its
instance, the partition of its number, or the partition of its report slot. -/
inductive Owner where
  | identity | p0 | stream | pair | port | herd | slot | part | report
deriving DecidableEq, Repr

/-- An entry of a record's table: subindex, type, access, default, the intervals of its range (none: every value of the
type), the most bytes of a VSTR or DOMAIN, and whether its changes send an event. -/
structure Row where
  sub   : Nat
  ty    : EType
  acc   : Access
  dflt  : Value
  range : List (Int × Int)
  most  : Nat
  event : Bool
deriving DecidableEq, Repr

/-- A record: the index of its instance 0, the first instance, the number of instances on the HKZ8840 and on the HKZ8830 (R2),
its owner and its table. -/
structure Record where
  base    : Nat
  first   : Nat
  count   : Nat
  count30 : Nat
  owner   : Owner
  rows    : List Row
deriving DecidableEq, Repr

/-- Identity: record 0x1000 (R61). -/
def Catalog.id : Record :=
  ⟨0x1000, 0, 1, 1, .identity, [
    ⟨0x00, .u8, .const, .int 12, [], 0, false⟩,
    ⟨0x01, .vstr, .const, .bytes [], [], 7, false⟩,
    ⟨0x02, .u16, .const, .int 0, [(34880, 34880), (34864, 34864)], 0, false⟩,
    ⟨0x03, .vstr, .const, .bytes [0x42, 0x30], [], 2, false⟩,
    ⟨0x04, .enum, .const, .int 0, [(0, 1)], 0, false⟩,
    ⟨0x05, .u64, .const, .int 0, [], 0, false⟩,
    ⟨0x06, .u8, .const, .int 0, [(8, 8), (6, 6)], 0, false⟩,
    ⟨0x07, .u32, .const, .int 0, [], 0, false⟩,
    ⟨0x08, .u16, .const, .int 7802, [], 0, false⟩,
    ⟨0x09, .u16, .const, .int 0, [(34880, 34880), (34864, 34864)], 0, false⟩,
    ⟨0x0A, .u32, .ro, .int 0, [], 0, false⟩,
    ⟨0x0B, .u8, .const, .int 0, [(16, 16), (12, 12)], 0, false⟩,
    ⟨0x0C, .u16, .const, .int 0, [(64, 64), (48, 48)], 0, false⟩]⟩

/-- Dictionary: record 0x1100 (R63). -/
def Catalog.dict : Record :=
  ⟨0x1100, 0, 1, 1, .p0, [
    ⟨0x00, .u8, .const, .int 8, [], 0, false⟩,
    ⟨0x01, .u16, .const, .int 256, [], 0, false⟩,
    ⟨0x02, .enum, .ro, .int 0, [(0, 2)], 0, false⟩,
    ⟨0x03, .enum, .ro, .int 0, [(0, 3)], 0, false⟩,
    ⟨0x04, .u32, .ro, .int 0, [], 0, false⟩,
    ⟨0x05, .u32, .ro, .int 0, [], 0, false⟩,
    ⟨0x06, .bool, .wo, .int 0, [(0, 1)], 0, false⟩,
    ⟨0x07, .bool, .ro, .int 0, [(0, 1)], 0, false⟩,
    ⟨0x08, .bool, .wo, .int 0, [(0, 1)], 0, false⟩]⟩

/-- CAN FD transport: record 0x1101 (R63). -/
def Catalog.can : Record :=
  ⟨0x1101, 0, 1, 1, .p0, [
    ⟨0x00, .u8, .const, .int 13, [], 0, false⟩,
    ⟨0x01, .u8, .ro, .int 0, [(0, 126)], 0, false⟩,
    ⟨0x02, .u32, .ro, .int 0, [], 0, false⟩,
    ⟨0x03, .enum, .rwp, .int 0, [(0, 1)], 0, false⟩,
    ⟨0x04, .enum, .rwp, .int 0, [(0, 3)], 0, false⟩,
    ⟨0x05, .u8, .rwp, .int 75, [(60, 90)], 0, false⟩,
    ⟨0x06, .u8, .rwp, .int 80, [(60, 90)], 0, false⟩,
    ⟨0x07, .bool, .rwp, .int 1, [(0, 1)], 0, false⟩,
    ⟨0x08, .u32, .ro, .int 0, [], 0, false⟩,
    ⟨0x09, .u32, .ro, .int 0, [], 0, false⟩,
    ⟨0x0A, .u8, .ro, .int 0, [(0, 255)], 0, false⟩,
    ⟨0x0B, .u8, .ro, .int 0, [(0, 255)], 0, false⟩,
    ⟨0x0C, .u32, .ro, .int 0, [], 0, false⟩,
    ⟨0x0D, .u16, .rwp, .int 100, [(10, 1000)], 0, false⟩]⟩

/-- Mailbox transport: record 0x1102 (R63). -/
def Catalog.mbx : Record :=
  ⟨0x1102, 0, 1, 1, .p0, [
    ⟨0x00, .u8, .const, .int 3, [], 0, false⟩,
    ⟨0x01, .u32, .ro, .int 0, [], 0, false⟩,
    ⟨0x02, .u32, .ro, .int 0, [], 0, false⟩,
    ⟨0x03, .u32, .ro, .int 0, [], 0, false⟩]⟩

/-- Device state and pace: record 0x1800 (R35). -/
def Catalog.dev : Record :=
  ⟨0x1800, 0, 1, 1, .p0, [
    ⟨0x00, .u8, .const, .int 18, [], 0, false⟩,
    ⟨0x01, .enum, .ro, .int 0, [(0, 6)], 0, true⟩,
    ⟨0x02, .enum, .ro, .int 0, [(0, 8)], 0, false⟩,
    ⟨0x03, .u8, .rwp, .int 8, [(4, 30)], 0, false⟩,
    ⟨0x04, .u8, .rwp, .int 20, [(10, 60)], 0, false⟩,
    ⟨0x05, .u16, .ro, .int 750, [(620, 850)], 0, false⟩,
    ⟨0x06, .u16, .ro, .int 0, [(0, 1000)], 0, false⟩,
    ⟨0x07, .u32, .ro, .int 0, [(0, 2000)], 0, false⟩,
    ⟨0x08, .u8, .ro, .int 0, [(0, 100)], 0, false⟩,
    ⟨0x09, .u8, .ro, .int 0, [(0, 3)], 0, false⟩,
    ⟨0x0A, .u8, .rwp, .int 64, [(8, 119)], 0, false⟩,
    ⟨0x0B, .enum, .rwp, .int 0, [(0, 1)], 0, false⟩,
    ⟨0x0C, .i16, .ro, .int 0, [(-400, 1250)], 0, false⟩,
    ⟨0x0D, .u16, .ro, .int 0, [(0, 300)], 0, false⟩,
    ⟨0x0E, .u32, .ro, .int 0, [], 0, false⟩,
    ⟨0x0F, .bool, .wo, .int 0, [(0, 1)], 0, false⟩,
    ⟨0x10, .u32, .ro, .int 0, [], 0, false⟩,
    ⟨0x11, .u32, .ro, .int 0, [], 0, false⟩,
    ⟨0x12, .u32, .ro, .int 0, [], 0, false⟩]⟩

/-- Stream context: record 0x2000+s (R95). -/
def Catalog.stream : Record :=
  ⟨0x2000, 0, 512, 512, .stream, [
    ⟨0x00, .u8, .const, .int 33, [], 0, false⟩,
    ⟨0x01, .bool, .rw, .int 0, [(0, 1)], 0, false⟩,
    ⟨0x02, .enum, .ro, .int 0, [(0, 3)], 0, true⟩,
    ⟨0x03, .bool, .ro, .int 0, [(0, 1)], 0, true⟩,
    ⟨0x04, .u8, .ro, .int 0, [(0, 8)], 0, false⟩,
    ⟨0x05, .enum, .rw, .int 0, [(0, 7)], 0, false⟩,
    ⟨0x06, .domain, .rw, .bytes (zeros 16), [], 16, false⟩,
    ⟨0x07, .domain, .rw, .bytes (zeros 16), [], 16, false⟩,
    ⟨0x08, .u16, .rw, .int 0, [(0, 65535)], 0, false⟩,
    ⟨0x09, .u16, .rw, .int 5004, [(1, 65535)], 0, false⟩,
    ⟨0x0A, .u32, .rw, .int 0, [], 0, false⟩,
    ⟨0x0B, .enum, .rw, .int 1, [(0, 1)], 0, false⟩,
    ⟨0x0C, .u8, .rw, .int 96, [(96, 127)], 0, false⟩,
    ⟨0x0D, .u8, .rw, .int 0, [(0, 15)], 0, false⟩,
    ⟨0x0E, .enum, .rw, .int 30, [(30, 30), (31, 31), (36, 36), (43, 43), (44, 44)], 0, false⟩,
    ⟨0x0F, .enum, .rw, .int 0, [(0, 3)], 0, false⟩,
    ⟨0x10, .u16, .rw, .int 1920, [(640, 4096)], 0, false⟩,
    ⟨0x11, .u16, .rw, .int 1080, [(360, 2176)], 0, false⟩,
    ⟨0x12, .u8, .rw, .int 30, [(1, 60)], 0, false⟩,
    ⟨0x13, .u8, .rw, .int 3, [(1, 16)], 0, false⟩,
    ⟨0x14, .u32, .rw, .int 2097152, [(65536, 16777216)], 0, false⟩,
    ⟨0x15, .u8, .rw, .int 10, [(4, 16)], 0, false⟩,
    ⟨0x16, .u8, .rw, .int 128, [(0, 255)], 0, false⟩,
    ⟨0x17, .u16, .rw, .int 200, [(20, 10000)], 0, false⟩,
    ⟨0x18, .u32, .ro, .int 0, [], 0, true⟩,
    ⟨0x19, .enum, .ro, .int 0, [(0, 2)], 0, true⟩,
    ⟨0x1A, .u32, .ro, .int 0, [], 0, false⟩,
    ⟨0x1B, .u32, .ro, .int 0, [], 0, false⟩,
    ⟨0x1C, .u32, .ro, .int 0, [], 0, false⟩,
    ⟨0x1D, .u32, .ro, .int 0, [], 0, false⟩,
    ⟨0x1E, .u32, .ro, .int 0, [], 0, false⟩,
    ⟨0x1F, .enum, .ro, .int 0, [(0, 2)], 0, false⟩,
    ⟨0x20, .domain, .ro, .bytes [], [], 128, false⟩,
    ⟨0x21, .domain, .rw, .bytes [0xD3, 0x3C, 0x3A, 0x43, 0xF9, 0xA0, 0x1C, 0x44, 0x22, 0xFD, 0x7C, 0x42, 0x2E, 0x50, 0xCD, 0xC2, 0xF5, 0xAB, 0xAC, 0xC3, 0x00, 0x00, 0xE0, 0x43, 0x00, 0x00, 0xE0, 0x43, 0xE3, 0x75, 0xCB, 0xC3, 0xE5, 0x50, 0x24, 0xC2, 0x00, 0x00, 0x80, 0x42, 0x00, 0x00, 0x00, 0x44, 0x00, 0x00, 0x00, 0x44], [], 48, false⟩]⟩

/-- Ethernet port: record 0x2200+e (R97). -/
def Catalog.eth : Record :=
  ⟨0x2200, 0, 4, 4, .p0, [
    ⟨0x00, .u8, .const, .int 14, [], 0, false⟩,
    ⟨0x01, .bool, .rwp, .int 1, [(0, 1)], 0, false⟩,
    ⟨0x02, .enum, .rwp, .int 0, [(0, 1)], 0, false⟩,
    ⟨0x03, .enum, .ro, .int 0, [(0, 2)], 0, true⟩,
    ⟨0x04, .u64, .rwp, .int 0, [(0, 281474976710655)], 0, false⟩,
    ⟨0x05, .u32, .rwp, .int 0, [], 0, false⟩,
    ⟨0x06, .domain, .rwp, .bytes (zeros 16), [], 16, false⟩,
    ⟨0x07, .u16, .rwp, .int 9216, [(1518, 9216)], 0, false⟩,
    ⟨0x08, .bool, .rwp, .int 1, [(0, 1)], 0, false⟩,
    ⟨0x09, .u64, .ro, .int 0, [], 0, false⟩,
    ⟨0x0A, .u32, .ro, .int 0, [], 0, false⟩,
    ⟨0x0B, .u32, .ro, .int 0, [], 0, false⟩,
    ⟨0x0C, .u32, .ro, .int 0, [], 0, false⟩,
    ⟨0x0D, .u64, .ro, .int 0, [], 0, false⟩,
    ⟨0x0E, .enum, .rwp, .int 1, [(0, 2)], 0, false⟩]⟩

/-- MDIO: record 0x2208 (R97). -/
def Catalog.mdio : Record :=
  ⟨0x2208, 0, 1, 1, .p0, [
    ⟨0x00, .u8, .const, .int 3, [], 0, false⟩,
    ⟨0x01, .enum, .rw, .int 1, [(0, 1)], 0, false⟩,
    ⟨0x02, .u64, .wo, .int 0, [], 0, false⟩,
    ⟨0x03, .u32, .ro, .int 0, [], 0, false⟩]⟩

/-- CSI-2 port: record 0x2210+c (R97). -/
def Catalog.csi : Record :=
  ⟨0x2210, 0, 4, 4, .p0, [
    ⟨0x00, .u8, .const, .int 11, [], 0, false⟩,
    ⟨0x01, .bool, .rwp, .int 1, [(0, 1)], 0, false⟩,
    ⟨0x02, .enum, .rwp, .int 4, [(1, 1), (2, 2), (4, 4)], 0, false⟩,
    ⟨0x03, .u16, .rwp, .int 4500, [(80, 4500)], 0, false⟩,
    ⟨0x04, .enum, .rwp, .int 0, [(0, 1)], 0, false⟩,
    ⟨0x05, .enum, .ro, .int 0, [(0, 2)], 0, true⟩,
    ⟨0x06, .u32, .ro, .int 0, [], 0, false⟩,
    ⟨0x07, .u32, .ro, .int 0, [], 0, false⟩,
    ⟨0x08, .u32, .ro, .int 0, [], 0, false⟩,
    ⟨0x09, .u32, .ro, .int 0, [], 0, false⟩,
    ⟨0x0A, .u32, .ro, .int 0, [], 0, false⟩,
    ⟨0x0B, .u8, .ro, .int 0, [(0, 4)], 0, false⟩]⟩

/-- Decoder slice: record 0x2240+d (R97). -/
def Catalog.slice : Record :=
  ⟨0x2240, 0, 8, 8, .p0, [
    ⟨0x00, .u8, .const, .int 4, [], 0, false⟩,
    ⟨0x01, .enum, .ro, .int 0, [(0, 2)], 0, false⟩,
    ⟨0x02, .u32, .ro, .int 0, [], 0, false⟩,
    ⟨0x03, .u32, .ro, .int 0, [(0, 1500)], 0, false⟩,
    ⟨0x04, .u32, .ro, .int 0, [], 0, false⟩]⟩

/-- Decode totals: record 0x2250 (R97). -/
def Catalog.decode : Record :=
  ⟨0x2250, 0, 1, 1, .p0, [
    ⟨0x00, .u8, .const, .int 3, [], 0, false⟩,
    ⟨0x01, .u32, .ro, .int 0, [], 0, false⟩,
    ⟨0x02, .u32, .ro, .int 5816, [], 0, false⟩,
    ⟨0x03, .u16, .ro, .int 0, [(0, 512)], 0, true⟩]⟩

/-- Stereo pair: record 0x2400+p (R121). -/
def Catalog.pair : Record :=
  ⟨0x2400, 0, 64, 64, .pair, [
    ⟨0x00, .u8, .const, .int 24, [], 0, false⟩,
    ⟨0x01, .bool, .rw, .int 0, [(0, 1)], 0, false⟩,
    ⟨0x02, .enum, .ro, .int 0, [(0, 3)], 0, true⟩,
    ⟨0x03, .bool, .ro, .int 0, [(0, 1)], 0, true⟩,
    ⟨0x04, .u8, .ro, .int 0, [(0, 8)], 0, false⟩,
    ⟨0x05, .u16, .rw, .int 0, [(0, 511)], 0, false⟩,
    ⟨0x06, .u16, .rw, .int 1, [(0, 511)], 0, false⟩,
    ⟨0x07, .u16, .rw, .int 0, [(0, 1023)], 0, false⟩,
    ⟨0x08, .u16, .rw, .int 128, [(16, 256)], 0, false⟩,
    ⟨0x09, .u8, .rw, .int 1, [(0, 4)], 0, false⟩,
    ⟨0x0A, .u8, .rw, .int 4, [(0, 62)], 0, false⟩,
    ⟨0x0B, .u8, .rw, .int 8, [(1, 62)], 0, false⟩,
    ⟨0x0C, .u8, .rw, .int 32, [(1, 255)], 0, false⟩,
    ⟨0x0D, .u16, .rw, .int 2000, [(0, 33000)], 0, false⟩,
    ⟨0x0E, .enum, .rw, .int 4, [(0, 4)], 0, false⟩,
    ⟨0x0F, .u8, .rw, .int 128, [(0, 255)], 0, false⟩,
    ⟨0x10, .f32, .rw, .int 0, [(0, 1232348160)], 0, false⟩,
    ⟨0x11, .domain, .rw, .bytes [], [], 9100, false⟩,
    ⟨0x12, .domain, .rw, .bytes [], [], 9100, false⟩,
    ⟨0x13, .u8, .rw, .int 4, [(2, 8)], 0, false⟩,
    ⟨0x14, .enum, .ro, .int 0, [(0, 6)], 0, true⟩,
    ⟨0x15, .u32, .ro, .int 0, [], 0, true⟩,
    ⟨0x16, .u32, .ro, .int 0, [], 0, false⟩,
    ⟨0x17, .u32, .ro, .int 0, [], 0, false⟩,
    ⟨0x18, .u32, .ro, .int 0, [], 0, false⟩]⟩

/-- Stereo engine: record 0x2480+g (R123). -/
def Catalog.stereo : Record :=
  ⟨0x2480, 0, 4, 4, .p0, [
    ⟨0x00, .u8, .const, .int 5, [], 0, false⟩,
    ⟨0x01, .enum, .ro, .int 0, [(0, 2)], 0, true⟩,
    ⟨0x02, .enum, .ro, .int 0, [(0, 1)], 0, false⟩,
    ⟨0x03, .u32, .ro, .int 0, [], 0, false⟩,
    ⟨0x04, .u32, .ro, .int 0, [(0, 700)], 0, false⟩,
    ⟨0x05, .u32, .ro, .int 0, [(0, 363)], 0, false⟩]⟩

/-- Flow engine: record 0x2484+f (R123). -/
def Catalog.flow : Record :=
  ⟨0x2484, 0, 4, 4, .p0, [
    ⟨0x00, .u8, .const, .int 3, [], 0, false⟩,
    ⟨0x01, .enum, .ro, .int 0, [(0, 2)], 0, true⟩,
    ⟨0x02, .u32, .ro, .int 0, [], 0, false⟩,
    ⟨0x03, .u32, .ro, .int 0, [(0, 1400)], 0, false⟩]⟩

/-- Stereo and flow totals: record 0x2488 (R123). -/
def Catalog.vision : Record :=
  ⟨0x2488, 0, 1, 1, .p0, [
    ⟨0x00, .u8, .const, .int 10, [], 0, false⟩,
    ⟨0x01, .u32, .ro, .int 0, [], 0, false⟩,
    ⟨0x02, .u32, .ro, .int 1452, [(0, 1452)], 0, false⟩,
    ⟨0x03, .u8, .ro, .int 0, [(0, 64)], 0, true⟩,
    ⟨0x04, .u8, .rw, .int 4, [(1, 5)], 0, false⟩,
    ⟨0x05, .u8, .rw, .int 16, [(4, 32)], 0, false⟩,
    ⟨0x06, .bool, .rw, .int 1, [(0, 1)], 0, false⟩,
    ⟨0x07, .u32, .ro, .int 0, [], 0, false⟩,
    ⟨0x08, .u32, .ro, .int 2908, [(0, 2908)], 0, false⟩,
    ⟨0x09, .u32, .ro, .int 0, [], 0, false⟩,
    ⟨0x0A, .domain, .ro, .bytes (zeros 64), [], 64, false⟩]⟩

/-- Frame generation, global: record 0x2800 (R151). -/
def Catalog.gen : Record :=
  ⟨0x2800, 0, 1, 1, .p0, [
    ⟨0x00, .u8, .const, .int 10, [], 0, false⟩,
    ⟨0x01, .u16, .const, .int 256, [], 0, false⟩,
    ⟨0x02, .u32, .ro, .int 262144, [(0, 262144)], 0, false⟩,
    ⟨0x03, .u32, .ro, .int 0, [(0, 262144)], 0, false⟩,
    ⟨0x04, .enum, .ro, .int 0, [(0, 1)], 0, false⟩,
    ⟨0x05, .u32, .ro, .int 0, [], 0, false⟩,
    ⟨0x06, .u32, .ro, .int 0, [], 0, false⟩,
    ⟨0x07, .u8, .rw, .int 64, [(0, 255)], 0, false⟩,
    ⟨0x08, .u32, .rw, .int 0, [(0, 262143)], 0, false⟩,
    ⟨0x09, .domain, .ro, .bytes (zeros 64), [], 64, false⟩,
    ⟨0x0A, .u64, .ro, .int 0, [], 0, false⟩]⟩

/-- Frame generation per port: record 0x2810+n (R152). -/
def Catalog.portGen : Record :=
  ⟨0x2810, 0, 16, 12, .port, [
    ⟨0x00, .u8, .const, .int 13, [], 0, false⟩,
    ⟨0x01, .enum, .rw, .int 2, [(0, 2)], 0, false⟩,
    ⟨0x02, .enum, .rw, .int 1, [(0, 3)], 0, false⟩,
    ⟨0x03, .bool, .rw, .int 1, [(0, 1)], 0, false⟩,
    ⟨0x04, .u64, .rw, .int 0, [(0, 66571992064)], 0, false⟩,
    ⟨0x05, .u16, .rw, .int 256, [(16, 4096)], 0, false⟩,
    ⟨0x06, .u32, .ro, .int 0, [], 0, false⟩,
    ⟨0x07, .domain, .rw, .bytes [], [], 128, false⟩,
    ⟨0x08, .u32, .ro, .int 0, [], 0, false⟩,
    ⟨0x09, .u32, .ro, .int 0, [], 0, false⟩,
    ⟨0x0A, .u32, .ro, .int 0, [], 0, false⟩,
    ⟨0x0B, .u32, .ro, .int 0, [], 0, false⟩,
    ⟨0x0C, .u32, .ro, .int 0, [], 0, false⟩,
    ⟨0x0D, .u32, .ro, .int 0, [], 0, false⟩]⟩

/-- Frame generation per stream: record 0x2900+s (R153). -/
def Catalog.streamGen : Record :=
  ⟨0x2900, 0, 512, 512, .stream, [
    ⟨0x00, .u8, .const, .int 24, [], 0, false⟩,
    ⟨0x01, .enum, .rw, .int 0, [(0, 2)], 0, false⟩,
    ⟨0x02, .enum, .ro, .int 0, [(0, 4)], 0, true⟩,
    ⟨0x03, .u8, .rw, .int 4, [(1, 4)], 0, false⟩,
    ⟨0x04, .u8, .rw, .int 2, [(1, 4)], 0, false⟩,
    ⟨0x05, .bool, .rw, .int 1, [(0, 1)], 0, false⟩,
    ⟨0x06, .u8, .rw, .int 160, [(0, 255)], 0, false⟩,
    ⟨0x07, .u16, .ro, .int 0, [(0, 65535)], 0, false⟩,
    ⟨0x08, .u16, .rw, .int 256, [(16, 16368)], 0, false⟩,
    ⟨0x09, .u16, .rw, .int 150, [(30, 9000)], 0, false⟩,
    ⟨0x0A, .u32, .ro, .int 0, [], 0, false⟩,
    ⟨0x0B, .u16, .rw, .int 2000, [(0, 40000)], 0, false⟩,
    ⟨0x0C, .bool, .rw, .int 1, [(0, 1)], 0, false⟩,
    ⟨0x0D, .u16, .rw, .int 512, [(0, 16384)], 0, false⟩,
    ⟨0x0E, .u16, .ro, .int 0, [(0, 16384)], 0, false⟩,
    ⟨0x0F, .u32, .ro, .int 0, [], 0, false⟩,
    ⟨0x10, .u8, .rw, .int 4, [(2, 8)], 0, false⟩,
    ⟨0x11, .u32, .ro, .int 0, [], 0, false⟩,
    ⟨0x12, .u32, .ro, .int 0, [], 0, false⟩,
    ⟨0x13, .u64, .ro, .int 0, [], 0, false⟩,
    ⟨0x14, .u32, .ro, .int 0, [], 0, false⟩,
    ⟨0x15, .u32, .ro, .int 0, [], 0, false⟩,
    ⟨0x16, .u32, .ro, .int 0, [], 0, true⟩,
    ⟨0x17, .u8, .ro, .int 4, [(1, 4)], 0, false⟩,
    ⟨0x18, .u8, .ro, .int 2, [(0, 4)], 0, false⟩]⟩

/-- Up-scaling, global: record 0x2C00 (R194). -/
def Catalog.up : Record :=
  ⟨0x2C00, 0, 1, 1, .p0, [
    ⟨0x00, .u8, .const, .int 4, [], 0, false⟩,
    ⟨0x01, .u8, .const, .int 16, [], 0, false⟩,
    ⟨0x02, .u64, .ro, .int 0, [], 0, false⟩,
    ⟨0x03, .u32, .ro, .int 0, [], 0, false⟩,
    ⟨0x04, .u64, .ro, .int 0, [], 0, false⟩]⟩

/-- Up-scaling per port: record 0x2C10+n (R195). -/
def Catalog.portUp : Record :=
  ⟨0x2C10, 0, 16, 12, .port, [
    ⟨0x00, .u8, .const, .int 13, [], 0, false⟩,
    ⟨0x01, .u8, .rw, .int 2, [(0, 3)], 0, false⟩,
    ⟨0x02, .u8, .ro, .int 2, [(0, 3)], 0, true⟩,
    ⟨0x03, .u8, .rw, .int 8, [(0, 8)], 0, false⟩,
    ⟨0x04, .u8, .rw, .int 96, [(0, 255)], 0, false⟩,
    ⟨0x05, .u8, .rw, .int 3, [(2, 6)], 0, false⟩,
    ⟨0x06, .bool, .rw, .int 1, [(0, 1)], 0, false⟩,
    ⟨0x07, .u32, .ro, .int 0, [], 0, false⟩,
    ⟨0x08, .u32, .ro, .int 0, [], 0, false⟩,
    ⟨0x09, .u32, .ro, .int 0, [], 0, false⟩,
    ⟨0x0A, .u32, .ro, .int 0, [], 0, false⟩,
    ⟨0x0B, .u32, .ro, .int 0, [], 0, false⟩,
    ⟨0x0C, .bool, .wo, .int 0, [(0, 1)], 0, false⟩,
    ⟨0x0D, .u32, .ro, .int 0, [], 0, false⟩]⟩

/-- Raster pipeline, global: record 0x3000 (R227). -/
def Catalog.raster : Record :=
  ⟨0x3000, 0, 1, 1, .p0, [
    ⟨0x00, .u8, .const, .int 8, [], 0, false⟩,
    ⟨0x01, .u8, .ro, .int 16, [(0, 16)], 0, false⟩,
    ⟨0x02, .u8, .ro, .int 4, [(0, 4)], 0, false⟩,
    ⟨0x03, .u32, .ro, .int 16777216, [(0, 16777216)], 0, false⟩,
    ⟨0x04, .u32, .ro, .int 0, [(0, 16777216)], 0, false⟩,
    ⟨0x05, .u64, .ro, .int 0, [], 0, false⟩,
    ⟨0x06, .u32, .ro, .int 0, [], 0, false⟩,
    ⟨0x07, .u32, .ro, .int 0, [], 0, false⟩,
    ⟨0x08, .u64, .ro, .int 0, [], 0, false⟩]⟩

/-- Raster pipeline per partition: record 0x3000+p (R228). -/
def Catalog.partRaster : Record :=
  ⟨0x3000, 1, 8, 8, .part, [
    ⟨0x00, .u8, .const, .int 11, [], 0, false⟩,
    ⟨0x01, .u64, .rw, .int 0, [(0, 66571993024)], 0, false⟩,
    ⟨0x02, .u16, .rw, .int 0, [(0, 256)], 0, false⟩,
    ⟨0x03, .u64, .rw, .int 0, [(0, 66571927552)], 0, false⟩,
    ⟨0x04, .u32, .rw, .int 50331648, [(1048576, 268435456)], 0, false⟩,
    ⟨0x05, .u32, .rw, .int 16777216, [(0, 16777216)], 0, false⟩,
    ⟨0x06, .u16, .rw, .int 100, [(10, 1000)], 0, false⟩,
    ⟨0x07, .u32, .ro, .int 0, [], 0, false⟩,
    ⟨0x08, .u32, .ro, .int 0, [], 0, false⟩,
    ⟨0x09, .enum, .ro, .int 0, [(0, 3)], 0, false⟩,
    ⟨0x0A, .u32, .ro, .int 0, [], 0, false⟩,
    ⟨0x0B, .u32, .ro, .int 0, [], 0, false⟩]⟩

/-- Tile unit: record 0x3010+t (R229). -/
def Catalog.tile : Record :=
  ⟨0x3010, 0, 16, 16, .p0, [
    ⟨0x00, .u8, .const, .int 3, [], 0, false⟩,
    ⟨0x01, .enum, .ro, .int 0, [(0, 2)], 0, true⟩,
    ⟨0x02, .u64, .ro, .int 0, [], 0, false⟩,
    ⟨0x03, .u32, .ro, .int 0, [(0, 9000)], 0, false⟩]⟩

/-- Ray traversal unit: record 0x3020+u (R229). -/
def Catalog.ray : Record :=
  ⟨0x3020, 0, 4, 4, .p0, [
    ⟨0x00, .u8, .const, .int 3, [], 0, false⟩,
    ⟨0x01, .enum, .ro, .int 0, [(0, 2)], 0, true⟩,
    ⟨0x02, .u64, .ro, .int 0, [], 0, false⟩,
    ⟨0x03, .u32, .ro, .int 0, [(0, 4000)], 0, false⟩]⟩

/-- Raster port: record 0x3400+n (R257). -/
def Catalog.port : Record :=
  ⟨0x3400, 0, 16, 12, .port, [
    ⟨0x00, .u8, .const, .int 20, [], 0, false⟩,
    ⟨0x01, .bool, .rw, .int 0, [(0, 1)], 0, false⟩,
    ⟨0x02, .enum, .ro, .int 0, [(0, 0), (1, 1), (2, 2), (3, 3), (5, 5)], 0, true⟩,
    ⟨0x03, .bool, .ro, .int 0, [(0, 1)], 0, true⟩,
    ⟨0x04, .u8, .ro, .int 0, [(0, 8)], 0, false⟩,
    ⟨0x05, .u16, .rw, .int 150, [(20, 2000)], 0, false⟩,
    ⟨0x06, .enum, .rw, .int 0, [(0, 1)], 0, false⟩,
    ⟨0x07, .u16, .rw, .int 120, [(1, 12000)], 0, false⟩,
    ⟨0x08, .bool, .wo, .int 0, [(0, 1)], 0, false⟩,
    ⟨0x09, .enum, .ro, .int 0, [(0, 9)], 0, true⟩,
    ⟨0x0A, .enum, .ro, .int 0, [(0, 2)], 0, true⟩,
    ⟨0x0B, .domain, .rw, .bytes [], [], 1536, false⟩,
    ⟨0x0C, .enum, .ro, .int 0, [(0, 2)], 0, false⟩,
    ⟨0x0D, .u16, .ro, .int 0, [], 0, false⟩,
    ⟨0x0E, .enum, .ro, .int 0, [(0, 5)], 0, false⟩,
    ⟨0x0F, .u32, .ro, .int 0, [], 0, false⟩,
    ⟨0x10, .u32, .ro, .int 0, [], 0, false⟩,
    ⟨0x11, .u32, .ro, .int 0, [], 0, false⟩,
    ⟨0x12, .u32, .ro, .int 0, [], 0, false⟩,
    ⟨0x13, .u32, .ro, .int 0, [], 0, false⟩,
    ⟨0x14, .u32, .ro, .int 0, [], 0, false⟩]⟩

/-- Port timing: record 0x3410+n (R259). -/
def Catalog.timing : Record :=
  ⟨0x3410, 0, 16, 12, .p0, [
    ⟨0x00, .u8, .const, .int 19, [], 0, false⟩,
    ⟨0x01, .u16, .rwp, .int 3840, [(640, 5120)], 0, false⟩,
    ⟨0x02, .u16, .rwp, .int 8, [(8, 1024)], 0, false⟩,
    ⟨0x03, .u16, .rwp, .int 32, [(4, 512)], 0, false⟩,
    ⟨0x04, .u16, .rwp, .int 40, [(8, 1024)], 0, false⟩,
    ⟨0x05, .u16, .rwp, .int 2160, [(360, 2160)], 0, false⟩,
    ⟨0x06, .u16, .rwp, .int 20, [(1, 512)], 0, false⟩,
    ⟨0x07, .u8, .rwp, .int 5, [(1, 64)], 0, false⟩,
    ⟨0x08, .u16, .rwp, .int 37, [(1, 512)], 0, false⟩,
    ⟨0x09, .u32, .rwp, .int 1045228800, [(25000000, 1400000000)], 0, false⟩,
    ⟨0x0A, .u16, .rwp, .int 600, [(100, 2000)], 0, false⟩,
    ⟨0x0B, .enum, .rwp, .int 0, [(0, 1)], 0, false⟩,
    ⟨0x0C, .u16, .rwp, .int 0, [(0, 4095)], 0, false⟩,
    ⟨0x0D, .enum, .ro, .int 0, [(0, 3)], 0, true⟩,
    ⟨0x0E, .enum, .rwp, .int 4, [(2, 2), (4, 4)], 0, false⟩,
    ⟨0x0F, .u8, .ro, .int 0, [(0, 4)], 0, false⟩,
    ⟨0x10, .u16, .rwp, .int 9000, [(1000, 9000)], 0, false⟩,
    ⟨0x11, .bool, .rwp, .int 0, [(0, 1)], 0, false⟩,
    ⟨0x12, .u16, .rwp, .int 192, [(128, 240)], 0, false⟩,
    ⟨0x13, .enum, .rwp, .int 4, [(2, 2), (4, 4), (8, 8)], 0, false⟩]⟩

/-- CRC rectangles: record 0x3420+n (R260). -/
def Catalog.rect : Record :=
  ⟨0x3420, 0, 16, 12, .p0, [
    ⟨0x00, .u8, .const, .int 6, [], 0, false⟩,
    ⟨0x01, .domain, .rw, .bytes [], [], 1024, false⟩,
    ⟨0x02, .u64, .rw, .int 0, [], 0, false⟩,
    ⟨0x03, .u64, .rw, .int 0, [(0, 66571992832)], 0, false⟩,
    ⟨0x04, .u16, .rw, .int 64, [(16, 1024)], 0, false⟩,
    ⟨0x05, .u32, .ro, .int 0, [], 0, false⟩,
    ⟨0x06, .u8, .ro, .int 255, [(0, 31), (255, 255)], 0, false⟩]⟩

/-- Route tags and safe substitutes: record 0x3430+n (R261). -/
def Catalog.safe : Record :=
  ⟨0x3430, 0, 16, 12, .p0, [
    ⟨0x00, .u8, .const, .int 8, [], 0, false⟩,
    ⟨0x01, .bool, .rw, .int 1, [(0, 1)], 0, false⟩,
    ⟨0x02, .enum, .rw, .int 0, [(0, 1)], 0, false⟩,
    ⟨0x03, .u32, .rw, .int 10000, [(150, 600000)], 0, false⟩,
    ⟨0x04, .u32, .ro, .int 0, [], 0, false⟩,
    ⟨0x05, .u32, .ro, .int 0, [], 0, false⟩,
    ⟨0x06, .u32, .ro, .int 0, [], 0, false⟩,
    ⟨0x07, .u32, .ro, .int 0, [], 0, false⟩,
    ⟨0x08, .u32, .ro, .int 0, [], 0, false⟩]⟩

/-- Herd: record 0x4000+h (R288). -/
def Catalog.herd : Record :=
  ⟨0x4000, 0, 8, 6, .herd, [
    ⟨0x00, .u8, .const, .int 14, [], 0, false⟩,
    ⟨0x01, .enum, .ro, .int 0, [(0, 3)], 0, true⟩,
    ⟨0x02, .u8, .ro, .int 0, [(0, 8)], 0, false⟩,
    ⟨0x03, .u8, .ro, .int 255, [(0, 7), (255, 255)], 0, false⟩,
    ⟨0x04, .u8, .ro, .int 0, [(0, 64)], 0, false⟩,
    ⟨0x05, .u32, .ro, .int 0, [], 0, false⟩,
    ⟨0x06, .u32, .ro, .int 0, [(0, 2000)], 0, false⟩,
    ⟨0x07, .u64, .ro, .int 0, [], 0, false⟩,
    ⟨0x08, .u32, .ro, .int 0, [], 0, false⟩,
    ⟨0x09, .u32, .ro, .int 0, [], 0, false⟩,
    ⟨0x0A, .u32, .ro, .int 0, [(0, 25165824)], 0, false⟩,
    ⟨0x0B, .bool, .wo, .int 0, [(0, 1)], 0, false⟩,
    ⟨0x0C, .u32, .ro, .int 0, [], 0, false⟩,
    ⟨0x0D, .u32, .ro, .int 0, [], 0, false⟩,
    ⟨0x0E, .u64, .ro, .int 0, [], 0, false⟩]⟩

/-- Relay table slot: record 0x4100+k (R289). -/
def Catalog.slot : Record :=
  ⟨0x4100, 0, 128, 128, .slot, [
    ⟨0x00, .u8, .const, .int 19, [], 0, false⟩,
    ⟨0x01, .enum, .ro, .int 0, [(0, 1)], 0, true⟩,
    ⟨0x02, .u8, .ro, .int 0, [(0, 8)], 0, false⟩,
    ⟨0x03, .u64, .rw, .int 0, [(0, 66571993024)], 0, false⟩,
    ⟨0x04, .u32, .rw, .int 1088, [(1088, 8388608)], 0, false⟩,
    ⟨0x05, .bool, .wo, .int 0, [(0, 1)], 0, false⟩,
    ⟨0x06, .bool, .wo, .int 0, [(0, 1)], 0, false⟩,
    ⟨0x07, .enum, .ro, .int 0, [(0, 3)], 0, true⟩,
    ⟨0x08, .enum, .ro, .int 0, [(0, 8)], 0, false⟩,
    ⟨0x09, .u32, .ro, .int 0, [], 0, false⟩,
    ⟨0x0A, .domain, .ro, .bytes (zeros 64), [], 64, false⟩,
    ⟨0x0B, .u8, .ro, .int 0, [(0, 64)], 0, false⟩,
    ⟨0x0C, .enum, .ro, .int 0, [(0, 3)], 0, false⟩,
    ⟨0x0D, .bool, .ro, .int 0, [(0, 1)], 0, true⟩,
    ⟨0x0E, .u64, .ro, .int 0, [], 0, false⟩,
    ⟨0x0F, .u32, .ro, .int 0, [], 0, false⟩,
    ⟨0x10, .u32, .ro, .int 0, [], 0, false⟩,
    ⟨0x11, .u32, .ro, .int 0, [], 0, false⟩,
    ⟨0x12, .u32, .ro, .int 0, [], 0, true⟩,
    ⟨0x13, .enum, .ro, .int 0, [(0, 4)], 0, false⟩]⟩

/-- Model cache per herd: record 0x4180+h (R288). -/
def Catalog.cache : Record :=
  ⟨0x4180, 0, 8, 6, .p0, [
    ⟨0x00, .u8, .const, .int 6, [], 0, false⟩,
    ⟨0x01, .u32, .ro, .int 25165824, [(0, 25165824)], 0, false⟩,
    ⟨0x02, .u32, .ro, .int 0, [(0, 25165824)], 0, false⟩,
    ⟨0x03, .u32, .ro, .int 0, [(0, 25165824)], 0, false⟩,
    ⟨0x04, .u16, .ro, .int 0, [(0, 2048)], 0, false⟩,
    ⟨0x05, .u32, .ro, .int 0, [], 0, false⟩,
    ⟨0x06, .u32, .ro, .int 0, [], 0, false⟩]⟩

/-- Model cache per partition: record 0x4190+p (R288). -/
def Catalog.partCache : Record :=
  ⟨0x4190, 0, 9, 9, .part, [
    ⟨0x00, .u8, .const, .int 5, [], 0, false⟩,
    ⟨0x01, .u32, .ro, .int 0, [], 0, false⟩,
    ⟨0x02, .u64, .ro, .int 0, [], 0, false⟩,
    ⟨0x03, .u32, .ro, .int 0, [], 0, false⟩,
    ⟨0x04, .u32, .ro, .int 0, [], 0, false⟩,
    ⟨0x05, .domain, .rw, .bytes [], [], 256, false⟩]⟩

/-- Arithmetic, global: record 0x4800 (R313). -/
def Catalog.arith : Record :=
  ⟨0x4800, 0, 1, 1, .p0, [
    ⟨0x00, .u8, .const, .int 6, [], 0, false⟩,
    ⟨0x01, .u32, .const, .int 2047, [], 0, false⟩,
    ⟨0x02, .u16, .rw, .int 64, [(1, 1024)], 0, false⟩,
    ⟨0x03, .bool, .rw, .int 1, [(0, 1)], 0, false⟩,
    ⟨0x04, .u64, .ro, .int 0, [], 0, false⟩,
    ⟨0x05, .u64, .ro, .int 0, [], 0, false⟩,
    ⟨0x06, .u32, .ro, .int 0, [], 0, false⟩]⟩

/-- Arithmetic per herd: record 0x4808+h (R314). -/
def Catalog.herdArith : Record :=
  ⟨0x4808, 0, 8, 6, .herd, [
    ⟨0x00, .u8, .const, .int 4, [], 0, false⟩,
    ⟨0x01, .u32, .ro, .int 0, [], 0, false⟩,
    ⟨0x02, .u16, .ro, .int 0, [(0, 4096)], 0, false⟩,
    ⟨0x03, .u64, .ro, .int 0, [], 0, false⟩,
    ⟨0x04, .u32, .ro, .int 0, [], 0, false⟩]⟩

/-- Arithmetic per partition: record 0x4810+p (R315). -/
def Catalog.partArith : Record :=
  ⟨0x4810, 0, 9, 9, .part, [
    ⟨0x00, .u8, .const, .int 13, [], 0, false⟩,
    ⟨0x01, .u16, .rw, .int 0, [(0, 1024)], 0, false⟩,
    ⟨0x02, .u8, .rw, .int 0, [(0, 127)], 0, false⟩,
    ⟨0x03, .u8, .rw, .int 0, [(0, 63)], 0, false⟩,
    ⟨0x04, .u16, .ro, .int 0, [(0, 1024)], 0, false⟩,
    ⟨0x05, .f32, .ro, .int 0, [], 0, false⟩,
    ⟨0x06, .f32, .ro, .int 0, [], 0, false⟩,
    ⟨0x07, .domain, .ro, .bytes [], [], 16384, false⟩,
    ⟨0x08, .u64, .ro, .int 0, [], 0, true⟩,
    ⟨0x09, .u32, .ro, .int 0, [], 0, false⟩,
    ⟨0x0A, .u32, .ro, .int 0, [], 0, false⟩,
    ⟨0x0B, .u32, .ro, .int 0, [], 0, false⟩,
    ⟨0x0C, .u32, .ro, .int 0, [], 0, false⟩,
    ⟨0x0D, .u64, .ro, .int 0, [], 0, false⟩]⟩

/-- Adaptation, global: record 0x4C00 (R355). -/
def Catalog.adapt : Record :=
  ⟨0x4C00, 0, 1, 1, .p0, [
    ⟨0x00, .u8, .const, .int 8, [], 0, false⟩,
    ⟨0x01, .u8, .const, .int 100, [], 0, false⟩,
    ⟨0x02, .u8, .rwp, .int 10, [(0, 25)], 0, false⟩,
    ⟨0x03, .bool, .rw, .int 0, [(0, 1)], 0, false⟩,
    ⟨0x04, .u16, .const, .int 256, [], 0, false⟩,
    ⟨0x05, .u8, .rwp, .int 3, [(1, 50)], 0, false⟩,
    ⟨0x06, .u8, .const, .int 4, [], 0, false⟩,
    ⟨0x07, .u32, .ro, .int 0, [], 0, false⟩,
    ⟨0x08, .u32, .ro, .int 0, [], 0, false⟩]⟩

/-- Adaptation per partition: record 0x4C00+p (R356). -/
def Catalog.partAdapt : Record :=
  ⟨0x4C00, 1, 8, 8, .part, [
    ⟨0x00, .u8, .const, .int 16, [], 0, false⟩,
    ⟨0x01, .u8, .rw, .int 255, [(0, 119), (255, 255)], 0, false⟩,
    ⟨0x02, .domain, .rw, .bytes [], [], 64, false⟩,
    ⟨0x03, .u64, .rw, .int 0, [], 0, false⟩,
    ⟨0x04, .u8, .rw, .int 2, [(1, 2)], 0, false⟩,
    ⟨0x05, .u16, .rw, .int 512, [(16, 65535)], 0, false⟩,
    ⟨0x06, .u8, .rw, .int 32, [(4, 255)], 0, false⟩,
    ⟨0x07, .u64, .wo, .int 0, [], 0, false⟩,
    ⟨0x08, .enum, .ro, .int 0, [(0, 6)], 0, false⟩,
    ⟨0x09, .domain, .ro, .bytes (zeros 16384), [], 16384, false⟩,
    ⟨0x0A, .u8, .ro, .int 0, [(0, 25)], 0, false⟩,
    ⟨0x0B, .u64, .ro, .int 0, [], 0, false⟩,
    ⟨0x0C, .u32, .ro, .int 0, [], 0, false⟩,
    ⟨0x0D, .u32, .ro, .int 0, [], 0, false⟩,
    ⟨0x0E, .u32, .ro, .int 0, [], 0, false⟩,
    ⟨0x0F, .u32, .ro, .int 0, [], 0, false⟩,
    ⟨0x10, .u32, .ro, .int 0, [], 0, false⟩]⟩

/-- System partition: record 0x5000 (R375). -/
def Catalog.sys : Record :=
  ⟨0x5000, 0, 1, 1, .p0, [
    ⟨0x00, .u8, .const, .int 2, [], 0, false⟩,
    ⟨0x01, .bool, .const, .int 1, [], 0, false⟩,
    ⟨0x02, .enum, .ro, .int 0, [(0, 4)], 0, true⟩]⟩

/-- User partition: record 0x5000+p (R375). -/
def Catalog.part : Record :=
  ⟨0x5000, 1, 8, 8, .part, [
    ⟨0x00, .u8, .const, .int 23, [], 0, false⟩,
    ⟨0x01, .bool, .rw, .int 0, [(0, 1)], 0, false⟩,
    ⟨0x02, .enum, .ro, .int 0, [(0, 4)], 0, true⟩,
    ⟨0x03, .bool, .ro, .int 0, [(0, 1)], 0, true⟩,
    ⟨0x04, .enum, .ro, .int 0, [(0, 5)], 0, false⟩,
    ⟨0x05, .u8, .rw, .int 0, [], 0, false⟩,
    ⟨0x06, .u16, .rw, .int 8, [(8, 247)], 0, false⟩,
    ⟨0x07, .u16, .rw, .int 1, [(1, 240)], 0, false⟩,
    ⟨0x08, .u16, .rw, .int 0, [], 0, false⟩,
    ⟨0x09, .domain, .rw, .bytes (zeros 64), [], 64, false⟩,
    ⟨0x0A, .u64, .rw, .int 0, [], 0, false⟩,
    ⟨0x0B, .domain, .rw, .bytes (zeros 16), [], 16, false⟩,
    ⟨0x0C, .domain, .rw, .bytes (zeros 64), [], 64, false⟩,
    ⟨0x0D, .u8, .rw, .int 255, [(0, 15), (255, 255)], 0, false⟩,
    ⟨0x0E, .u8, .ro, .int 255, [(0, 15), (255, 255)], 0, false⟩,
    ⟨0x0F, .enum, .rw, .int 0, [(0, 2)], 0, false⟩,
    ⟨0x10, .u64, .rw, .int 0, [(0, 66571993072)], 0, false⟩,
    ⟨0x11, .u32, .rw, .int 65536, [(256, 16777216)], 0, false⟩,
    ⟨0x12, .u32, .ro, .int 0, [], 0, false⟩,
    ⟨0x13, .u32, .ro, .int 0, [], 0, false⟩,
    ⟨0x14, .u8, .ro, .int 0, [(0, 100)], 0, false⟩,
    ⟨0x15, .u32, .ro, .int 0, [], 0, false⟩,
    ⟨0x16, .u32, .ro, .int 0, [], 0, false⟩,
    ⟨0x17, .u32, .rw, .int 128, [(0, 61440)], 0, false⟩]⟩

/-- Ring blocks: record 0x5100 (R376). -/
def Catalog.ringBlocks : Record :=
  ⟨0x5100, 0, 1, 1, .p0, [
    ⟨0x00, .u8, .const, .int 1, [], 0, false⟩,
    ⟨0x01, .u16, .ro, .int 512, [(0, 512)], 0, false⟩]⟩

/-- Rings per partition: record 0x5100+p (R376). -/
def Catalog.partRing : Record :=
  ⟨0x5100, 1, 8, 8, .part, [
    ⟨0x00, .u8, .const, .int 10, [], 0, false⟩,
    ⟨0x01, .u64, .rw, .int 0, [(0, 66571993024)], 0, false⟩,
    ⟨0x02, .u16, .rw, .int 0, [(0, 32767)], 0, false⟩,
    ⟨0x03, .u32, .ro, .int 0, [], 0, false⟩,
    ⟨0x04, .u32, .ro, .int 0, [], 0, false⟩,
    ⟨0x05, .u32, .ro, .int 0, [], 0, false⟩,
    ⟨0x06, .u64, .ro, .int 0, [], 0, false⟩,
    ⟨0x07, .u64, .ro, .int 0, [], 0, false⟩,
    ⟨0x08, .u64, .ro, .int 0, [], 0, false⟩,
    ⟨0x09, .u32, .ro, .int 0, [], 0, false⟩,
    ⟨0x0A, .u8, .ro, .int 0, [(0, 9)], 0, false⟩]⟩

/-- Cyclic schedule: record 0x5200+p (R377). -/
def Catalog.sched : Record :=
  ⟨0x5200, 1, 8, 8, .part, [
    ⟨0x00, .u8, .const, .int 8, [], 0, false⟩,
    ⟨0x01, .domain, .rw, .bytes [], [], 2048, false⟩,
    ⟨0x02, .enum, .ro, .int 0, [(0, 3)], 0, true⟩,
    ⟨0x03, .u16, .ro, .int 0, [], 0, false⟩,
    ⟨0x04, .u16, .ro, .int 0, [], 0, false⟩,
    ⟨0x05, .u16, .ro, .int 0, [], 0, false⟩,
    ⟨0x06, .domain, .ro, .bytes (zeros 64), [], 64, false⟩,
    ⟨0x07, .u32, .ro, .int 0, [], 0, true⟩,
    ⟨0x08, .bool, .ro, .int 0, [(0, 1)], 0, false⟩]⟩

/-- Security: record 0x6000 (R402). -/
def Catalog.sec : Record :=
  ⟨0x6000, 0, 1, 1, .p0, [
    ⟨0x00, .u8, .const, .int 14, [], 0, false⟩,
    ⟨0x01, .enum, .ro, .int 0, [(0, 1)], 0, true⟩,
    ⟨0x02, .bool, .rwp, .int 0, [(0, 1)], 0, false⟩,
    ⟨0x03, .bool, .rw, .int 0, [(0, 1)], 0, false⟩,
    ⟨0x04, .enum, .ro, .int 0, [(0, 1)], 0, false⟩,
    ⟨0x05, .domain, .ro, .bytes [], [], 24576, false⟩,
    ⟨0x06, .domain, .ro, .bytes (zeros 64), [], 64, false⟩,
    ⟨0x07, .enum, .ro, .int 0, [(0, 1)], 0, true⟩,
    ⟨0x08, .u32, .ro, .int 0, [], 0, false⟩,
    ⟨0x09, .u32, .ro, .int 0, [], 0, false⟩,
    ⟨0x0A, .enum, .rwp, .int 0, [(0, 1)], 0, false⟩,
    ⟨0x0B, .u32, .ro, .int 0, [], 0, false⟩,
    ⟨0x0C, .u32, .ro, .int 0, [], 0, false⟩,
    ⟨0x0D, .enum, .ro, .int 0, [(0, 2)], 0, true⟩,
    ⟨0x0E, .u32, .ro, .int 0, [], 0, false⟩]⟩

/-- Peer sessions: record 0x6001 (R402). -/
def Catalog.peer : Record :=
  ⟨0x6001, 0, 1, 1, .p0, [
    ⟨0x00, .u8, .const, .int 3, [], 0, false⟩,
    ⟨0x01, .domain, .rwp, .bytes [], [], 512, false⟩,
    ⟨0x02, .u32, .ro, .int 0, [], 0, true⟩,
    ⟨0x03, .u32, .ro, .int 0, [], 0, false⟩]⟩

/-- IDE: record 0x6002 (R402). -/
def Catalog.ide : Record :=
  ⟨0x6002, 0, 1, 1, .p0, [
    ⟨0x00, .u8, .const, .int 2, [], 0, false⟩,
    ⟨0x01, .u8, .ro, .int 0, [(0, 9)], 0, false⟩,
    ⟨0x02, .u32, .ro, .int 0, [], 0, true⟩]⟩

/-- Report slot: record 0x6010+f (R403). -/
def Catalog.report : Record :=
  ⟨0x6010, 0, 10, 10, .report, [
    ⟨0x00, .u8, .const, .int 6, [], 0, false⟩,
    ⟨0x01, .domain, .rw, .bytes (zeros 64), [], 64, false⟩,
    ⟨0x02, .u16, .wo, .int 0, [(0, 511)], 0, false⟩,
    ⟨0x03, .enum, .ro, .int 0, [(0, 3)], 0, false⟩,
    ⟨0x04, .domain, .ro, .bytes [], [], 65536, false⟩,
    ⟨0x05, .domain, .ro, .bytes [], [], 24576, false⟩,
    ⟨0x06, .u32, .ro, .int 0, [], 0, false⟩]⟩

/-- Faults and safety: record 0x7000 (R435). -/
def Catalog.fault : Record :=
  ⟨0x7000, 0, 1, 1, .p0, [
    ⟨0x00, .u8, .const, .int 23, [], 0, false⟩,
    ⟨0x01, .enum, .ro, .int 0, [(0, 1)], 0, true⟩,
    ⟨0x02, .bool, .rwp, .int 0, [(0, 1)], 0, false⟩,
    ⟨0x03, .enum, .ro, .int 0, [(0, 1)], 0, false⟩,
    ⟨0x04, .u16, .ro, .int 0, [(0, 256)], 0, false⟩,
    ⟨0x05, .u32, .rwp, .int 500, [(50, 60000)], 0, false⟩,
    ⟨0x06, .u16, .const, .int 900, [], 0, false⟩,
    ⟨0x07, .u8, .const, .int 3, [], 0, false⟩,
    ⟨0x08, .u32, .ro, .int 0, [], 0, false⟩,
    ⟨0x09, .u32, .rw, .int 0, [], 0, false⟩,
    ⟨0x0A, .domain, .ro, .bytes (zeros 32), [], 32, false⟩,
    ⟨0x0B, .u64, .ro, .int 0, [], 0, false⟩,
    ⟨0x0C, .u64, .ro, .int 0, [], 0, false⟩,
    ⟨0x0D, .u32, .rw, .int 0, [], 0, false⟩,
    ⟨0x0E, .u32, .ro, .int 0, [], 0, false⟩,
    ⟨0x0F, .u32, .ro, .int 0, [], 0, false⟩,
    ⟨0x10, .u16, .ro, .int 0, [(0, 2048)], 0, false⟩,
    ⟨0x11, .u32, .ro, .int 0, [], 0, false⟩,
    ⟨0x12, .u16, .ro, .int 0, [(0, 512)], 0, false⟩,
    ⟨0x13, .enum, .ro, .int 0, [(0, 2)], 0, true⟩,
    ⟨0x14, .u32, .ro, .int 0, [], 0, false⟩,
    ⟨0x15, .u32, .ro, .int 0, [], 0, false⟩,
    ⟨0x16, .u32, .ro, .int 0, [], 0, false⟩,
    ⟨0x17, .u32, .ro, .int 0, [], 0, false⟩]⟩

/-- Bring-up: record 0x7800 (R452). -/
def Catalog.boot : Record :=
  ⟨0x7800, 0, 1, 1, .p0, [
    ⟨0x00, .u8, .const, .int 11, [], 0, false⟩,
    ⟨0x01, .enum, .ro, .int 0, [(0, 7)], 0, true⟩,
    ⟨0x02, .u32, .ro, .int 0, [], 0, false⟩,
    ⟨0x03, .bool, .rwp, .int 0, [(0, 1)], 0, false⟩,
    ⟨0x04, .enum, .ro, .int 0, [(0, 1)], 0, false⟩,
    ⟨0x05, .u8, .ro, .int 0, [(0, 100)], 0, false⟩,
    ⟨0x06, .u32, .ro, .int 0, [], 0, false⟩,
    ⟨0x07, .u16, .ro, .int 0, [(0, 65535)], 0, false⟩,
    ⟨0x08, .domain, .ro, .bytes (zeros 32), [], 32, false⟩,
    ⟨0x09, .u16, .ro, .int 0, [(0, 4096)], 0, false⟩,
    ⟨0x0A, .enum, .ro, .int 0, [(0, 1)], 0, false⟩,
    ⟨0x0B, .u16, .ro, .int 0, [(0, 2048)], 0, false⟩]⟩

/-- Lane proof: record 0x7801 (R452). -/
def Catalog.proof : Record :=
  ⟨0x7801, 0, 1, 1, .p0, [
    ⟨0x00, .u8, .const, .int 7, [], 0, false⟩,
    ⟨0x01, .enum, .ro, .int 0, [(0, 1)], 0, false⟩,
    ⟨0x02, .u16, .ro, .int 0, [], 0, false⟩,
    ⟨0x03, .domain, .ro, .bytes (zeros 6), [], 6, false⟩,
    ⟨0x04, .u8, .ro, .int 0, [(0, 15)], 0, false⟩,
    ⟨0x05, .domain, .ro, .bytes (zeros 4), [], 4, false⟩,
    ⟨0x06, .domain, .ro, .bytes (zeros 16), [], 16, false⟩,
    ⟨0x07, .u16, .ro, .int 0, [(0, 148)], 0, false⟩]⟩

/-- Firmware update: record 0x7802 (R452). -/
def Catalog.fw : Record :=
  ⟨0x7802, 0, 1, 1, .p0, [
    ⟨0x00, .u8, .const, .int 7, [], 0, false⟩,
    ⟨0x01, .u32, .rw, .int 0, [(0, 25100288)], 0, false⟩,
    ⟨0x02, .domain, .wo, .bytes [], [], 65536, false⟩,
    ⟨0x03, .enum, .wo, .int 0, [(0, 3)], 0, false⟩,
    ⟨0x04, .enum, .ro, .int 0, [(0, 4)], 0, true⟩,
    ⟨0x05, .enum, .ro, .int 0, [(0, 5)], 0, false⟩,
    ⟨0x06, .u32, .ro, .int 0, [], 0, false⟩,
    ⟨0x07, .u16, .ro, .int 0, [], 0, false⟩]⟩

/-- PCI Express: record 0x7C00 (R469). -/
def Catalog.pcie : Record :=
  ⟨0x7C00, 0, 1, 1, .p0, [
    ⟨0x00, .u8, .const, .int 8, [], 0, false⟩,
    ⟨0x01, .enum, .ro, .int 0, [(0, 2)], 0, true⟩,
    ⟨0x02, .u8, .ro, .int 0, [(0, 16)], 0, false⟩,
    ⟨0x03, .u8, .ro, .int 0, [(0, 6)], 0, false⟩,
    ⟨0x04, .u8, .ro, .int 0, [(0, 8)], 0, false⟩,
    ⟨0x05, .u32, .ro, .int 0, [], 0, false⟩,
    ⟨0x06, .u32, .ro, .int 0, [], 0, false⟩,
    ⟨0x07, .u32, .ro, .int 0, [], 0, false⟩,
    ⟨0x08, .u32, .ro, .int 0, [], 0, false⟩]⟩

/-- Zennik network: record 0x7C08 (R469). -/
def Catalog.fabric : Record :=
  ⟨0x7C08, 0, 1, 1, .p0, [
    ⟨0x00, .u8, .const, .int 6, [], 0, false⟩,
    ⟨0x01, .u16, .rwp, .int 0, [(0, 65535)], 0, false⟩,
    ⟨0x02, .domain, .ro, .bytes [], [], 288, false⟩,
    ⟨0x03, .u32, .ro, .int 0, [], 0, false⟩,
    ⟨0x04, .u32, .ro, .int 0, [], 0, false⟩,
    ⟨0x05, .u32, .ro, .int 0, [], 0, false⟩,
    ⟨0x06, .u16, .rwp, .int 47406, [(1024, 65535)], 0, false⟩]⟩

/-- Zennik link: record 0x7C10+z (R469). -/
def Catalog.zlink : Record :=
  ⟨0x7C10, 0, 6, 6, .p0, [
    ⟨0x00, .u8, .const, .int 10, [], 0, false⟩,
    ⟨0x01, .bool, .rwp, .int 1, [(0, 1)], 0, false⟩,
    ⟨0x02, .enum, .ro, .int 0, [(0, 4)], 0, true⟩,
    ⟨0x03, .u8, .ro, .int 0, [(0, 0), (4, 4), (8, 8)], 0, false⟩,
    ⟨0x04, .u8, .ro, .int 0, [], 0, false⟩,
    ⟨0x05, .u16, .ro, .int 0, [], 0, false⟩,
    ⟨0x06, .u64, .ro, .int 0, [], 0, false⟩,
    ⟨0x07, .u64, .ro, .int 0, [], 0, false⟩,
    ⟨0x08, .u64, .ro, .int 0, [], 0, false⟩,
    ⟨0x09, .u32, .ro, .int 0, [], 0, false⟩,
    ⟨0x0A, .domain, .ro, .bytes (zeros 32), [], 32, false⟩]⟩

/-- Zennik per partition: record 0x7C20+p (R469). -/
def Catalog.partFabric : Record :=
  ⟨0x7C20, 1, 8, 8, .part, [
    ⟨0x00, .u8, .const, .int 2, [], 0, false⟩,
    ⟨0x01, .domain, .rw, .bytes [], [], 28, false⟩,
    ⟨0x02, .u32, .ro, .int 0, [], 0, false⟩]⟩

/-- Zennik over UDP: record 0x7C30 (R469). -/
def Catalog.udp : Record :=
  ⟨0x7C30, 0, 1, 1, .p0, [
    ⟨0x00, .u8, .const, .int 3, [], 0, false⟩,
    ⟨0x01, .domain, .rwp, .bytes [], [], 1536, false⟩,
    ⟨0x02, .u8, .ro, .int 0, [(0, 64)], 0, false⟩,
    ⟨0x03, .u32, .ro, .int 0, [], 0, false⟩]⟩

/-- Discrete inputs: record 0x7E00 (R489). -/
def Catalog.pins : Record :=
  ⟨0x7E00, 0, 1, 1, .p0, [
    ⟨0x00, .u8, .const, .int 6, [], 0, false⟩,
    ⟨0x01, .bool, .ro, .int 0, [(0, 1)], 0, true⟩,
    ⟨0x02, .u32, .ro, .int 0, [], 0, false⟩,
    ⟨0x03, .u8, .ro, .int 0, [(0, 127)], 0, false⟩,
    ⟨0x04, .bool, .ro, .int 0, [(0, 1)], 0, false⟩,
    ⟨0x05, .u16, .ro, .int 0, [], 0, false⟩,
    ⟨0x06, .u32, .ro, .int 0, [], 0, false⟩]⟩

/-- PV pairs: record 0x7E01 (R489). -/
def Catalog.pv : Record :=
  ⟨0x7E01, 0, 1, 1, .p0, [
    ⟨0x00, .u8, .const, .int 1, [], 0, false⟩,
    ⟨0x01, .u32, .ro, .int 1431655765, [], 0, false⟩]⟩

/-- Supplies and temperatures: record 0x7E02 (R489). -/
def Catalog.supply : Record :=
  ⟨0x7E02, 0, 1, 1, .p0, [
    ⟨0x00, .u8, .const, .int 6, [], 0, false⟩,
    ⟨0x01, .domain, .ro, .bytes (zeros 16), [], 16, false⟩,
    ⟨0x02, .enum, .ro, .int 0, [(0, 8)], 0, true⟩,
    ⟨0x03, .enum, .ro, .int 0, [(0, 1)], 0, true⟩,
    ⟨0x04, .i16, .ro, .int 0, [(-400, 1250)], 0, false⟩,
    ⟨0x05, .domain, .ro, .bytes (zeros 48), [], 48, false⟩,
    ⟨0x06, .u32, .ro, .int 0, [], 0, true⟩]⟩

/-- The records of the index map (R60), part 1. -/
def Catalog.group1 : List Record :=
  [Catalog.id, Catalog.dict, Catalog.can, Catalog.mbx, Catalog.dev, Catalog.stream, Catalog.eth, Catalog.mdio, Catalog.csi, Catalog.slice, Catalog.decode, Catalog.pair, Catalog.stereo, Catalog.flow, Catalog.vision]

/-- The records of the index map (R60), part 2. -/
def Catalog.group2 : List Record :=
  [Catalog.gen, Catalog.portGen, Catalog.streamGen, Catalog.up, Catalog.portUp, Catalog.raster, Catalog.partRaster, Catalog.tile, Catalog.ray, Catalog.port, Catalog.timing, Catalog.rect, Catalog.safe, Catalog.herd, Catalog.slot]

/-- The records of the index map (R60), part 3. -/
def Catalog.group3 : List Record :=
  [Catalog.cache, Catalog.partCache, Catalog.arith, Catalog.herdArith, Catalog.partArith, Catalog.adapt, Catalog.partAdapt, Catalog.sys, Catalog.part, Catalog.ringBlocks, Catalog.partRing, Catalog.sched, Catalog.sec, Catalog.peer, Catalog.ide]

/-- The records of the index map (R60), part 4. -/
def Catalog.group4 : List Record :=
  [Catalog.report, Catalog.fault, Catalog.boot, Catalog.proof, Catalog.fw, Catalog.pcie, Catalog.fabric, Catalog.zlink, Catalog.partFabric, Catalog.udp, Catalog.pins, Catalog.pv, Catalog.supply]

/-- Every record of the index map (R60). -/
def Catalog.all : List Record :=
  Catalog.group1 ++ Catalog.group2 ++ Catalog.group3 ++ Catalog.group4

end Sys2Proof.Machine
end

