-- ==== Sys2Proof/Machine/Entry.lean ====
section
/-! DEFINITION. The keys of the parameter dictionary: `Entry.<record><Name>` is 256 · index + subindex of the entry that the
tables of spec/01 to spec/19 list under that name (R36), taken from those tables row by row. -/

namespace Sys2Proof.Machine

/-- The key of an entry: 256 · index + subindex (R36). -/
abbrev key (index sub : Nat) : Nat := index * 256 + sub

/-! identity (R61): record 0x1000. -/

abbrev Entry.idPartName : Nat := key 0x1000 0x01
abbrev Entry.idPartCode : Nat := key 0x1000 0x02
abbrev Entry.idRevision : Nat := key 0x1000 0x03
abbrev Entry.idGrade : Nat := key 0x1000 0x04
abbrev Entry.idSerialNumber : Nat := key 0x1000 0x05
abbrev Entry.idHerdsEnabled : Nat := key 0x1000 0x06
abbrev Entry.idFuseSummary : Nat := key 0x1000 0x07
abbrev Entry.idVendorId : Nat := key 0x1000 0x08
abbrev Entry.idDeviceId : Nat := key 0x1000 0x09
abbrev Entry.idFirmwareVersion : Nat := key 0x1000 0x0A
abbrev Entry.idRasterPorts : Nat := key 0x1000 0x0B
abbrev Entry.idMemoryGiB : Nat := key 0x1000 0x0C

/-! dictionary (R63): record 0x1100. -/

abbrev Entry.dictDictionaryVersion : Nat := key 0x1100 0x01
abbrev Entry.dictRestoreSource : Nat := key 0x1100 0x02
abbrev Entry.dictSaveStatus : Nat := key 0x1100 0x03
abbrev Entry.dictSaveCount : Nat := key 0x1100 0x04
abbrev Entry.dictSaveFailCount : Nat := key 0x1100 0x05
abbrev Entry.dictRestoreDefaults : Nat := key 0x1100 0x06
abbrev Entry.dictRestartPending : Nat := key 0x1100 0x07
abbrev Entry.dictSave : Nat := key 0x1100 0x08

/-! CAN FD transport (R63): record 0x1101. -/

abbrev Entry.canNodeId : Nat := key 0x1101 0x01
abbrev Entry.canClampCount : Nat := key 0x1101 0x02
abbrev Entry.canArbitrationRate : Nat := key 0x1101 0x03
abbrev Entry.canDataRate : Nat := key 0x1101 0x04
abbrev Entry.canDataSamplePoint : Nat := key 0x1101 0x05
abbrev Entry.canArbSamplePoint : Nat := key 0x1101 0x06
abbrev Entry.canEventEnable : Nat := key 0x1101 0x07
abbrev Entry.canEventsLost : Nat := key 0x1101 0x08
abbrev Entry.canBusOffCount : Nat := key 0x1101 0x09
abbrev Entry.canRxErrorCount : Nat := key 0x1101 0x0A
abbrev Entry.canTxErrorCount : Nat := key 0x1101 0x0B
abbrev Entry.canAbortCount : Nat := key 0x1101 0x0C
abbrev Entry.canSegmentTimeout : Nat := key 0x1101 0x0D

/-! mailbox transport (R63): record 0x1102. -/

abbrev Entry.mbxMailboxRequests : Nat := key 0x1102 0x01
abbrev Entry.mbxClampCount : Nat := key 0x1102 0x02
abbrev Entry.mbxAbortCount : Nat := key 0x1102 0x03

/-! device state and pace (R35): record 0x1800. -/

abbrev Entry.devDeviceState : Nat := key 0x1800 0x01
abbrev Entry.devStateCause : Nat := key 0x1800 0x02
abbrev Entry.devPaceMargin : Nat := key 0x1800 0x03
abbrev Entry.devPaceLowerSlack : Nat := key 0x1800 0x04
abbrev Entry.devVcoreSetpoint : Nat := key 0x1800 0x05
abbrev Entry.devVcoreMeasured : Nat := key 0x1800 0x06
abbrev Entry.devPaceMin : Nat := key 0x1800 0x07
abbrev Entry.devSlackMin : Nat := key 0x1800 0x08
abbrev Entry.devShedLevel : Nat := key 0x1800 0x09
abbrev Entry.devPmbusAddress : Nat := key 0x1800 0x0A
abbrev Entry.devPmbusRate : Nat := key 0x1800 0x0B
abbrev Entry.devJunctionMax : Nat := key 0x1800 0x0C
abbrev Entry.devPackagePower : Nat := key 0x1800 0x0D
abbrev Entry.devWatchdogCount : Nat := key 0x1800 0x0E
abbrev Entry.devRestart : Nat := key 0x1800 0x0F
abbrev Entry.devPaceFaultCount : Nat := key 0x1800 0x10
abbrev Entry.devSlackShortCount : Nat := key 0x1800 0x11
abbrev Entry.devFloorBreaches : Nat := key 0x1800 0x12

/-! stream context (R95): record 0x2000+s. -/

abbrev Entry.streamEnable (s : Nat) : Nat := key (0x2000 + s) 0x01
abbrev Entry.streamState (s : Nat) : Nat := key (0x2000 + s) 0x02
abbrev Entry.streamPendingStart (s : Nat) : Nat := key (0x2000 + s) 0x03
abbrev Entry.streamPartition (s : Nat) : Nat := key (0x2000 + s) 0x04
abbrev Entry.streamSource (s : Nat) : Nat := key (0x2000 + s) 0x05
abbrev Entry.streamSrcAddress (s : Nat) : Nat := key (0x2000 + s) 0x06
abbrev Entry.streamDstAddress (s : Nat) : Nat := key (0x2000 + s) 0x07
abbrev Entry.streamSrcPort (s : Nat) : Nat := key (0x2000 + s) 0x08
abbrev Entry.streamDstPort (s : Nat) : Nat := key (0x2000 + s) 0x09
abbrev Entry.streamSsrc (s : Nat) : Nat := key (0x2000 + s) 0x0A
abbrev Entry.streamSsrcMode (s : Nat) : Nat := key (0x2000 + s) 0x0B
abbrev Entry.streamPayloadType (s : Nat) : Nat := key (0x2000 + s) 0x0C
abbrev Entry.streamVirtualChannel (s : Nat) : Nat := key (0x2000 + s) 0x0D
abbrev Entry.streamDataType (s : Nat) : Nat := key (0x2000 + s) 0x0E
abbrev Entry.streamBayerOrder (s : Nat) : Nat := key (0x2000 + s) 0x0F
abbrev Entry.streamMaxWidth (s : Nat) : Nat := key (0x2000 + s) 0x10
abbrev Entry.streamMaxHeight (s : Nat) : Nat := key (0x2000 + s) 0x11
abbrev Entry.streamMaxFrameRate (s : Nat) : Nat := key (0x2000 + s) 0x12
abbrev Entry.streamJitterDepth (s : Nat) : Nat := key (0x2000 + s) 0x13
abbrev Entry.streamMaxAuBytes (s : Nat) : Nat := key (0x2000 + s) 0x14
abbrev Entry.streamDecodedFrames (s : Nat) : Nat := key (0x2000 + s) 0x15
abbrev Entry.streamDecodePriority (s : Nat) : Nat := key (0x2000 + s) 0x16
abbrev Entry.streamNoDataTimeout (s : Nat) : Nat := key (0x2000 + s) 0x17
abbrev Entry.streamFlags (s : Nat) : Nat := key (0x2000 + s) 0x18
abbrev Entry.streamStartError (s : Nat) : Nat := key (0x2000 + s) 0x19
abbrev Entry.streamPacketsReceived (s : Nat) : Nat := key (0x2000 + s) 0x1A
abbrev Entry.streamPacketsDropped (s : Nat) : Nat := key (0x2000 + s) 0x1B
abbrev Entry.streamFramesTrue (s : Nat) : Nat := key (0x2000 + s) 0x1C
abbrev Entry.streamFramesLossy (s : Nat) : Nat := key (0x2000 + s) 0x1D
abbrev Entry.streamPaceRatio (s : Nat) : Nat := key (0x2000 + s) 0x1E
abbrev Entry.streamRatioState (s : Nat) : Nat := key (0x2000 + s) 0x1F
abbrev Entry.streamPaceRatios (s : Nat) : Nat := key (0x2000 + s) 0x20
abbrev Entry.streamColourMatrix (s : Nat) : Nat := key (0x2000 + s) 0x21

/-! Ethernet port (R97): record 0x2200+e. -/

abbrev Entry.ethEnable (e : Nat) : Nat := key (0x2200 + e) 0x01
abbrev Entry.ethSpeed (e : Nat) : Nat := key (0x2200 + e) 0x02
abbrev Entry.ethLinkState (e : Nat) : Nat := key (0x2200 + e) 0x03
abbrev Entry.ethMacAddress (e : Nat) : Nat := key (0x2200 + e) 0x04
abbrev Entry.ethIpv4Address (e : Nat) : Nat := key (0x2200 + e) 0x05
abbrev Entry.ethIpv6Address (e : Nat) : Nat := key (0x2200 + e) 0x06
abbrev Entry.ethMaxFrame (e : Nat) : Nat := key (0x2200 + e) 0x07
abbrev Entry.ethIgmpEnable (e : Nat) : Nat := key (0x2200 + e) 0x08
abbrev Entry.ethFramesReceived (e : Nat) : Nat := key (0x2200 + e) 0x09
abbrev Entry.ethFcsErrors (e : Nat) : Nat := key (0x2200 + e) 0x0A
abbrev Entry.ethUnmatched (e : Nat) : Nat := key (0x2200 + e) 0x0B
abbrev Entry.ethDroppedOther (e : Nat) : Nat := key (0x2200 + e) 0x0C
abbrev Entry.ethBytesReceived (e : Nat) : Nat := key (0x2200 + e) 0x0D
abbrev Entry.ethFecMode (e : Nat) : Nat := key (0x2200 + e) 0x0E

/-! MDIO (R97): record 0x2208. -/

abbrev Entry.mdioMdioClause : Nat := key 0x2208 0x01
abbrev Entry.mdioMdioCommand : Nat := key 0x2208 0x02
abbrev Entry.mdioMdioResult : Nat := key 0x2208 0x03

/-! CSI-2 port (R97): record 0x2210+c. -/

abbrev Entry.csiEnable (c : Nat) : Nat := key (0x2210 + c) 0x01
abbrev Entry.csiLanes (c : Nat) : Nat := key (0x2210 + c) 0x02
abbrev Entry.csiLaneRate (c : Nat) : Nat := key (0x2210 + c) 0x03
abbrev Entry.csiClockMode (c : Nat) : Nat := key (0x2210 + c) 0x04
abbrev Entry.csiState (c : Nat) : Nat := key (0x2210 + c) 0x05
abbrev Entry.csiEccCorrected (c : Nat) : Nat := key (0x2210 + c) 0x06
abbrev Entry.csiPacketsDropped (c : Nat) : Nat := key (0x2210 + c) 0x07
abbrev Entry.csiCrcErrors (c : Nat) : Nat := key (0x2210 + c) 0x08
abbrev Entry.csiLineBufferOverflows (c : Nat) : Nat := key (0x2210 + c) 0x09
abbrev Entry.csiFramesReceived (c : Nat) : Nat := key (0x2210 + c) 0x0A
abbrev Entry.csiLanesActive (c : Nat) : Nat := key (0x2210 + c) 0x0B

/-! decoder slice (R97): record 0x2240+d. -/

abbrev Entry.sliceState (d : Nat) : Nat := key (0x2240 + d) 0x01
abbrev Entry.slicePicturesDecoded (d : Nat) : Nat := key (0x2240 + d) 0x02
abbrev Entry.sliceLumaRate (d : Nat) : Nat := key (0x2240 + d) 0x03
abbrev Entry.sliceBitstreamErrors (d : Nat) : Nat := key (0x2240 + d) 0x04

/-! decode totals (R97): record 0x2250. -/

abbrev Entry.decodeDeclaredLoad : Nat := key 0x2250 0x01
abbrev Entry.decodeCapacity : Nat := key 0x2250 0x02
abbrev Entry.decodeSuspendedStreams : Nat := key 0x2250 0x03

/-! stereo pair (R121): record 0x2400+p. -/

abbrev Entry.pairEnable (p : Nat) : Nat := key (0x2400 + p) 0x01
abbrev Entry.pairState (p : Nat) : Nat := key (0x2400 + p) 0x02
abbrev Entry.pairPendingStart (p : Nat) : Nat := key (0x2400 + p) 0x03
abbrev Entry.pairPartition (p : Nat) : Nat := key (0x2400 + p) 0x04
abbrev Entry.pairLeftStream (p : Nat) : Nat := key (0x2400 + p) 0x05
abbrev Entry.pairRightStream (p : Nat) : Nat := key (0x2400 + p) 0x06
abbrev Entry.pairMinDisparity (p : Nat) : Nat := key (0x2400 + p) 0x07
abbrev Entry.pairDisparityLevels (p : Nat) : Nat := key (0x2400 + p) 0x08
abbrev Entry.pairLrThreshold (p : Nat) : Nat := key (0x2400 + p) 0x09
abbrev Entry.pairTextureThreshold (p : Nat) : Nat := key (0x2400 + p) 0x0A
abbrev Entry.pairPenaltySmall (p : Nat) : Nat := key (0x2400 + p) 0x0B
abbrev Entry.pairPenaltyLarge (p : Nat) : Nat := key (0x2400 + p) 0x0C
abbrev Entry.pairPairTolerance (p : Nat) : Nat := key (0x2400 + p) 0x0D
abbrev Entry.pairEnginePin (p : Nat) : Nat := key (0x2400 + p) 0x0E
abbrev Entry.pairPriority (p : Nat) : Nat := key (0x2400 + p) 0x0F
abbrev Entry.pairFocalBaseline (p : Nat) : Nat := key (0x2400 + p) 0x10
abbrev Entry.pairRectifyLeft (p : Nat) : Nat := key (0x2400 + p) 0x11
abbrev Entry.pairRectifyRight (p : Nat) : Nat := key (0x2400 + p) 0x12
abbrev Entry.pairDisparityFrames (p : Nat) : Nat := key (0x2400 + p) 0x13
abbrev Entry.pairStartError (p : Nat) : Nat := key (0x2400 + p) 0x14
abbrev Entry.pairFlags (p : Nat) : Nat := key (0x2400 + p) 0x15
abbrev Entry.pairFramesOut (p : Nat) : Nat := key (0x2400 + p) 0x16
abbrev Entry.pairFramesUnpaired (p : Nat) : Nat := key (0x2400 + p) 0x17
abbrev Entry.pairFramesAbandoned (p : Nat) : Nat := key (0x2400 + p) 0x18

/-! stereo engine (R123): record 0x2480+g. -/

abbrev Entry.stereoState (g : Nat) : Nat := key (0x2480 + g) 0x01
abbrev Entry.stereoMode (g : Nat) : Nat := key (0x2480 + g) 0x02
abbrev Entry.stereoPairFrames (g : Nat) : Nat := key (0x2480 + g) 0x03
abbrev Entry.stereoPixelRate (g : Nat) : Nat := key (0x2480 + g) 0x04
abbrev Entry.stereoPinnedLoad (g : Nat) : Nat := key (0x2480 + g) 0x05

/-! flow engine (R123): record 0x2484+f. -/

abbrev Entry.flowState (f : Nat) : Nat := key (0x2484 + f) 0x01
abbrev Entry.flowFlowFrames (f : Nat) : Nat := key (0x2484 + f) 0x02
abbrev Entry.flowPixelRate (f : Nat) : Nat := key (0x2484 + f) 0x03

/-! stereo and flow totals (R123): record 0x2488. -/

abbrev Entry.visionStereoMemoryLoad : Nat := key 0x2488 0x01
abbrev Entry.visionStereoMemoryCapacity : Nat := key 0x2488 0x02
abbrev Entry.visionSuspendedPairs : Nat := key 0x2488 0x03
abbrev Entry.visionFlowLevels : Nat := key 0x2488 0x04
abbrev Entry.visionFlowSearch : Nat := key 0x2488 0x05
abbrev Entry.visionFlowSeeding : Nat := key 0x2488 0x06
abbrev Entry.visionFlowDemand : Nat := key 0x2488 0x07
abbrev Entry.visionFlowCapacity : Nat := key 0x2488 0x08
abbrev Entry.visionFlowServedLoad : Nat := key 0x2488 0x09
abbrev Entry.visionFlowServedMap : Nat := key 0x2488 0x0A

/-! frame generation, global (R151): record 0x2800. -/

abbrev Entry.genRatioWindow : Nat := key 0x2800 0x01
abbrev Entry.genAnchorsFree : Nat := key 0x2800 0x02
abbrev Entry.genAnchorsShadow : Nat := key 0x2800 0x03
abbrev Entry.genStoreState : Nat := key 0x2800 0x04
abbrev Entry.genStoreErrors : Nat := key 0x2800 0x05
abbrev Entry.genJobsLate : Nat := key 0x2800 0x06
abbrev Entry.genDepthConfMin : Nat := key 0x2800 0x07
abbrev Entry.genAnchorIndex : Nat := key 0x2800 0x08
abbrev Entry.genAnchorRecord : Nat := key 0x2800 0x09
abbrev Entry.genFramesGenerated : Nat := key 0x2800 0x0A

/-! frame generation per port (R152): record 0x2810+n. -/

abbrev Entry.portGenMarkerMode (n : Nat) : Nat := key (0x2810 + n) 0x01
abbrev Entry.portGenMarkerCorner (n : Nat) : Nat := key (0x2810 + n) 0x02
abbrev Entry.portGenRecordEnable (n : Nat) : Nat := key (0x2810 + n) 0x03
abbrev Entry.portGenRecordBase (n : Nat) : Nat := key (0x2810 + n) 0x04
abbrev Entry.portGenRecordSlots (n : Nat) : Nat := key (0x2810 + n) 0x05
abbrev Entry.portGenRecordsWritten (n : Nat) : Nat := key (0x2810 + n) 0x06
abbrev Entry.portGenNoSynthRects (n : Nat) : Nat := key (0x2810 + n) 0x07
abbrev Entry.portGenFramesTrue (n : Nat) : Nat := key (0x2810 + n) 0x08
abbrev Entry.portGenFramesFill (n : Nat) : Nat := key (0x2810 + n) 0x09
abbrev Entry.portGenFramesLead (n : Nat) : Nat := key (0x2810 + n) 0x0A
abbrev Entry.portGenFramesHold (n : Nat) : Nat := key (0x2810 + n) 0x0B
abbrev Entry.portGenFramesSafe (n : Nat) : Nat := key (0x2810 + n) 0x0C
abbrev Entry.portGenJobsLate (n : Nat) : Nat := key (0x2810 + n) 0x0D

/-! frame generation per stream (R153): record 0x2900+s. -/

abbrev Entry.streamGenMode (s : Nat) : Nat := key (0x2900 + s) 0x01
abbrev Entry.streamGenGenState (s : Nat) : Nat := key (0x2900 + s) 0x02
abbrev Entry.streamGenFillRatio (s : Nat) : Nat := key (0x2900 + s) 0x03
abbrev Entry.streamGenLeadHorizon (s : Nat) : Nat := key (0x2900 + s) 0x04
abbrev Entry.streamGenFillAllowed (s : Nat) : Nat := key (0x2900 + s) 0x05
abbrev Entry.streamGenGateThreshold (s : Nat) : Nat := key (0x2900 + s) 0x06
abbrev Entry.streamGenLeadError (s : Nat) : Nat := key (0x2900 + s) 0x07
abbrev Entry.streamGenLeadErrorLimit (s : Nat) : Nat := key (0x2900 + s) 0x08
abbrev Entry.streamGenLeadQuietFrames (s : Nat) : Nat := key (0x2900 + s) 0x09
abbrev Entry.streamGenLeadFallbacks (s : Nat) : Nat := key (0x2900 + s) 0x0A
abbrev Entry.streamGenFillSlack (s : Nat) : Nat := key (0x2900 + s) 0x0B
abbrev Entry.streamGenPendulumEnable (s : Nat) : Nat := key (0x2900 + s) 0x0C
abbrev Entry.streamGenAnchorQuota (s : Nat) : Nat := key (0x2900 + s) 0x0D
abbrev Entry.streamGenAnchorsInUse (s : Nat) : Nat := key (0x2900 + s) 0x0E
abbrev Entry.streamGenAnchorsRefused (s : Nat) : Nat := key (0x2900 + s) 0x0F
abbrev Entry.streamGenGenFrames (s : Nat) : Nat := key (0x2900 + s) 0x10
abbrev Entry.streamGenFlowSkipped (s : Nat) : Nat := key (0x2900 + s) 0x11
abbrev Entry.streamGenFramesGenerated (s : Nat) : Nat := key (0x2900 + s) 0x12
abbrev Entry.streamGenBlocksGated (s : Nat) : Nat := key (0x2900 + s) 0x13
abbrev Entry.streamGenSceneCuts (s : Nat) : Nat := key (0x2900 + s) 0x14
abbrev Entry.streamGenJobsLate (s : Nat) : Nat := key (0x2900 + s) 0x15
abbrev Entry.streamGenGenFlags (s : Nat) : Nat := key (0x2900 + s) 0x16
abbrev Entry.streamGenRatioInUse (s : Nat) : Nat := key (0x2900 + s) 0x17
abbrev Entry.streamGenHorizonInUse (s : Nat) : Nat := key (0x2900 + s) 0x18

/-! up-scaling, global (R194): record 0x2C00. -/

abbrev Entry.upJitterPhases : Nat := key 0x2C00 0x01
abbrev Entry.upJobsCompleted : Nat := key 0x2C00 0x02
abbrev Entry.upJobsLate : Nat := key 0x2C00 0x03
abbrev Entry.upFixedScalerViews : Nat := key 0x2C00 0x04

/-! up-scaling per port (R195): record 0x2C10+n. -/

abbrev Entry.portUpQualityStep (n : Nat) : Nat := key (0x2C10 + n) 0x01
abbrev Entry.portUpQualityInUse (n : Nat) : Nat := key (0x2C10 + n) 0x02
abbrev Entry.portUpHistoryDepth (n : Nat) : Nat := key (0x2C10 + n) 0x03
abbrev Entry.portUpHistoryThreshold (n : Nat) : Nat := key (0x2C10 + n) 0x04
abbrev Entry.portUpUpscaleBuffers (n : Nat) : Nat := key (0x2C10 + n) 0x05
abbrev Entry.portUpNeuralEnable (n : Nat) : Nat := key (0x2C10 + n) 0x06
abbrev Entry.portUpJobsCompleted (n : Nat) : Nat := key (0x2C10 + n) 0x07
abbrev Entry.portUpJobsLate (n : Nat) : Nat := key (0x2C10 + n) 0x08
abbrev Entry.portUpFixedScalerViews (n : Nat) : Nat := key (0x2C10 + n) 0x09
abbrev Entry.portUpHistoryResets (n : Nat) : Nat := key (0x2C10 + n) 0x0A
abbrev Entry.portUpCollapseCount (n : Nat) : Nat := key (0x2C10 + n) 0x0B
abbrev Entry.portUpRenderReset (n : Nat) : Nat := key (0x2C10 + n) 0x0C
abbrev Entry.portUpNoDepthJobs (n : Nat) : Nat := key (0x2C10 + n) 0x0D

/-! raster pipeline, global (R227): record 0x3000. -/

abbrev Entry.rasterTileUnitsActive : Nat := key 0x3000 0x01
abbrev Entry.rasterRayUnitsActive : Nat := key 0x3000 0x02
abbrev Entry.rasterReserveFree : Nat := key 0x3000 0x03
abbrev Entry.rasterReserveHighWater : Nat := key 0x3000 0x04
abbrev Entry.rasterPassesCompleted : Nat := key 0x3000 0x05
abbrev Entry.rasterPassesAbandoned : Nat := key 0x3000 0x06
abbrev Entry.rasterOverflows : Nat := key 0x3000 0x07
abbrev Entry.rasterRayQueries : Nat := key 0x3000 0x08

/-! raster pipeline per partition (R228): record 0x3000+p. -/

abbrev Entry.partRasterTargetTableBase (p : Nat) : Nat := key (0x3000 + p) 0x01
abbrev Entry.partRasterTargetCount (p : Nat) : Nat := key (0x3000 + p) 0x02
abbrev Entry.partRasterPoolBase (p : Nat) : Nat := key (0x3000 + p) 0x03
abbrev Entry.partRasterPoolSize (p : Nat) : Nat := key (0x3000 + p) 0x04
abbrev Entry.partRasterReserveLimit (p : Nat) : Nat := key (0x3000 + p) 0x05
abbrev Entry.partRasterPassTimeout (p : Nat) : Nat := key (0x3000 + p) 0x06
abbrev Entry.partRasterPartialRenders (p : Nat) : Nat := key (0x3000 + p) 0x07
abbrev Entry.partRasterPassesAbandoned (p : Nat) : Nat := key (0x3000 + p) 0x08
abbrev Entry.partRasterAbandonCause (p : Nat) : Nat := key (0x3000 + p) 0x09
abbrev Entry.partRasterBadCommands (p : Nat) : Nat := key (0x3000 + p) 0x0A
abbrev Entry.partRasterHeldComputeJobs (p : Nat) : Nat := key (0x3000 + p) 0x0B

/-! tile unit (R229): record 0x3010+t. -/

abbrev Entry.tileState (t : Nat) : Nat := key (0x3010 + t) 0x01
abbrev Entry.tileTilesRendered (t : Nat) : Nat := key (0x3010 + t) 0x02
abbrev Entry.tileSampleRate (t : Nat) : Nat := key (0x3010 + t) 0x03

/-! ray traversal unit (R229): record 0x3020+u. -/

abbrev Entry.rayState (u : Nat) : Nat := key (0x3020 + u) 0x01
abbrev Entry.rayQueries (u : Nat) : Nat := key (0x3020 + u) 0x02
abbrev Entry.raySlotRate (u : Nat) : Nat := key (0x3020 + u) 0x03

/-! raster port (R257): record 0x3400+n. -/

abbrev Entry.portEnable (n : Nat) : Nat := key (0x3400 + n) 0x01
abbrev Entry.portState (n : Nat) : Nat := key (0x3400 + n) 0x02
abbrev Entry.portPendingStart (n : Nat) : Nat := key (0x3400 + n) 0x03
abbrev Entry.portPartition (n : Nat) : Nat := key (0x3400 + n) 0x04
abbrev Entry.portFreshnessLimit (n : Nat) : Nat := key (0x3400 + n) 0x05
abbrev Entry.portSafeExit (n : Nat) : Nat := key (0x3400 + n) 0x06
abbrev Entry.portSafeExitFrames (n : Nat) : Nat := key (0x3400 + n) 0x07
abbrev Entry.portSafeAck (n : Nat) : Nat := key (0x3400 + n) 0x08
abbrev Entry.portSafeCause (n : Nat) : Nat := key (0x3400 + n) 0x09
abbrev Entry.portSafeKind (n : Nat) : Nat := key (0x3400 + n) 0x0A
abbrev Entry.portLayerTable (n : Nat) : Nat := key (0x3400 + n) 0x0B
abbrev Entry.portLayerState (n : Nat) : Nat := key (0x3400 + n) 0x0C
abbrev Entry.portLayerError (n : Nat) : Nat := key (0x3400 + n) 0x0D
abbrev Entry.portStartError (n : Nat) : Nat := key (0x3400 + n) 0x0E
abbrev Entry.portFlags (n : Nat) : Nat := key (0x3400 + n) 0x0F
abbrev Entry.portFrameCount (n : Nat) : Nat := key (0x3400 + n) 0x10
abbrev Entry.portSafeEntries (n : Nat) : Nat := key (0x3400 + n) 0x11
abbrev Entry.portComposeLate (n : Nat) : Nat := key (0x3400 + n) 0x12
abbrev Entry.portComposeCost (n : Nat) : Nat := key (0x3400 + n) 0x13
abbrev Entry.portComposeBudget (n : Nat) : Nat := key (0x3400 + n) 0x14

/-! port timing (R259): record 0x3410+n. -/

abbrev Entry.timingHActive (n : Nat) : Nat := key (0x3410 + n) 0x01
abbrev Entry.timingHFrontPorch (n : Nat) : Nat := key (0x3410 + n) 0x02
abbrev Entry.timingHSyncWidth (n : Nat) : Nat := key (0x3410 + n) 0x03
abbrev Entry.timingHBackPorch (n : Nat) : Nat := key (0x3410 + n) 0x04
abbrev Entry.timingVActive (n : Nat) : Nat := key (0x3410 + n) 0x05
abbrev Entry.timingVFrontPorch (n : Nat) : Nat := key (0x3410 + n) 0x06
abbrev Entry.timingVSyncWidth (n : Nat) : Nat := key (0x3410 + n) 0x07
abbrev Entry.timingVBackPorch (n : Nat) : Nat := key (0x3410 + n) 0x08
abbrev Entry.timingPixelClock (n : Nat) : Nat := key (0x3410 + n) 0x09
abbrev Entry.timingComposeLines (n : Nat) : Nat := key (0x3410 + n) 0x0A
abbrev Entry.timingFrameSyncMode (n : Nat) : Nat := key (0x3410 + n) 0x0B
abbrev Entry.timingFsyncOffset (n : Nat) : Nat := key (0x3410 + n) 0x0C
abbrev Entry.timingGenlockState (n : Nat) : Nat := key (0x3410 + n) 0x0D
abbrev Entry.timingLanes (n : Nat) : Nat := key (0x3410 + n) 0x0E
abbrev Entry.timingLanesActive (n : Nat) : Nat := key (0x3410 + n) 0x0F
abbrev Entry.timingLaneRate (n : Nat) : Nat := key (0x3410 + n) 0x10
abbrev Entry.timingDscEnable (n : Nat) : Nat := key (0x3410 + n) 0x11
abbrev Entry.timingDscBitsPerPixel (n : Nat) : Nat := key (0x3410 + n) 0x12
abbrev Entry.timingDscSlices (n : Nat) : Nat := key (0x3410 + n) 0x13

/-! CRC rectangles (R260): record 0x3420+n. -/

abbrev Entry.rectRectTable (n : Nat) : Nat := key (0x3420 + n) 0x01
abbrev Entry.rectSymbolSelect (n : Nat) : Nat := key (0x3420 + n) 0x02
abbrev Entry.rectPredictBase (n : Nat) : Nat := key (0x3420 + n) 0x03
abbrev Entry.rectPredictSlots (n : Nat) : Nat := key (0x3420 + n) 0x04
abbrev Entry.rectRectFailures (n : Nat) : Nat := key (0x3420 + n) 0x05
abbrev Entry.rectLastFailedRect (n : Nat) : Nat := key (0x3420 + n) 0x06

/-! route tags and safe substitutes (R261): record 0x3430+n. -/

abbrev Entry.safeTagEnable (n : Nat) : Nat := key (0x3430 + n) 0x01
abbrev Entry.safeSafePreferred (n : Nat) : Nat := key (0x3430 + n) 0x02
abbrev Entry.safeHoldAgeLimit (n : Nat) : Nat := key (0x3430 + n) 0x03
abbrev Entry.safeHoldFrameCount (n : Nat) : Nat := key (0x3430 + n) 0x04
abbrev Entry.safeHoldAge (n : Nat) : Nat := key (0x3430 + n) 0x05
abbrev Entry.safeTagFailures (n : Nat) : Nat := key (0x3430 + n) 0x06
abbrev Entry.safeFreshnessFailures (n : Nat) : Nat := key (0x3430 + n) 0x07
abbrev Entry.safeHoldIntegrityFailures (n : Nat) : Nat := key (0x3430 + n) 0x08

/-! herd (R288): record 0x4000+h. -/

abbrev Entry.herdState (h : Nat) : Nat := key (0x4000 + h) 0x01
abbrev Entry.herdPartition (h : Nat) : Nat := key (0x4000 + h) 0x02
abbrev Entry.herdPosition (h : Nat) : Nat := key (0x4000 + h) 0x03
abbrev Entry.herdSparesLeft (h : Nat) : Nat := key (0x4000 + h) 0x04
abbrev Entry.herdKidSwaps (h : Nat) : Nat := key (0x4000 + h) 0x05
abbrev Entry.herdPace (h : Nat) : Nat := key (0x4000 + h) 0x06
abbrev Entry.herdLaps (h : Nat) : Nat := key (0x4000 + h) 0x07
abbrev Entry.herdLapsAbandoned (h : Nat) : Nat := key (0x4000 + h) 0x08
abbrev Entry.herdBatonsAbandoned (h : Nat) : Nat := key (0x4000 + h) 0x09
abbrev Entry.herdWorkBytes (h : Nat) : Nat := key (0x4000 + h) 0x0A
abbrev Entry.herdReset (h : Nat) : Nat := key (0x4000 + h) 0x0B
abbrev Entry.herdResetCount (h : Nat) : Nat := key (0x4000 + h) 0x0C
abbrev Entry.herdPreemptions (h : Nat) : Nat := key (0x4000 + h) 0x0D
abbrev Entry.herdBatonsIssued (h : Nat) : Nat := key (0x4000 + h) 0x0E

/-! relay table slot (R289): record 0x4100+k. -/

abbrev Entry.slotState (k : Nat) : Nat := key (0x4100 + k) 0x01
abbrev Entry.slotPartition (k : Nat) : Nat := key (0x4100 + k) 0x02
abbrev Entry.slotImageBase (k : Nat) : Nat := key (0x4100 + k) 0x03
abbrev Entry.slotImageLength (k : Nat) : Nat := key (0x4100 + k) 0x04
abbrev Entry.slotStage (k : Nat) : Nat := key (0x4100 + k) 0x05
abbrev Entry.slotUnload (k : Nat) : Nat := key (0x4100 + k) 0x06
abbrev Entry.slotStageState (k : Nat) : Nat := key (0x4100 + k) 0x07
abbrev Entry.slotStageError (k : Nat) : Nat := key (0x4100 + k) 0x08
abbrev Entry.slotActiveVersion (k : Nat) : Nat := key (0x4100 + k) 0x09
abbrev Entry.slotTableDigest (k : Nat) : Nat := key (0x4100 + k) 0x0A
abbrev Entry.slotLanes (k : Nat) : Nat := key (0x4100 + k) 0x0B
abbrev Entry.slotTrigger (k : Nat) : Nat := key (0x4100 + k) 0x0C
abbrev Entry.slotFallback (k : Nat) : Nat := key (0x4100 + k) 0x0D
abbrev Entry.slotLaps (k : Nat) : Nat := key (0x4100 + k) 0x0E
abbrev Entry.slotLapsAbandoned (k : Nat) : Nat := key (0x4100 + k) 0x0F
abbrev Entry.slotLapMax (k : Nat) : Nat := key (0x4100 + k) 0x10
abbrev Entry.slotAnnexBound (k : Nat) : Nat := key (0x4100 + k) 0x11
abbrev Entry.slotLapOverruns (k : Nat) : Nat := key (0x4100 + k) 0x12
abbrev Entry.slotJobKind (k : Nat) : Nat := key (0x4100 + k) 0x13

/-! model cache per herd (R288): record 0x4180+h. -/

abbrev Entry.cacheCacheBytes (h : Nat) : Nat := key (0x4180 + h) 0x01
abbrev Entry.cachePinnedBytes (h : Nat) : Nat := key (0x4180 + h) 0x02
abbrev Entry.cacheResidentBytes (h : Nat) : Nat := key (0x4180 + h) 0x03
abbrev Entry.cacheResidentModels (h : Nat) : Nat := key (0x4180 + h) 0x04
abbrev Entry.cacheMisses (h : Nat) : Nat := key (0x4180 + h) 0x05
abbrev Entry.cacheEvictions (h : Nat) : Nat := key (0x4180 + h) 0x06

/-! model cache per partition (R288): record 0x4190+p. -/

abbrev Entry.partCacheMisses (p : Nat) : Nat := key (0x4190 + p) 0x01
abbrev Entry.partCacheMissBytes (p : Nat) : Nat := key (0x4190 + p) 0x02
abbrev Entry.partCacheMissTime (p : Nat) : Nat := key (0x4190 + p) 0x03
abbrev Entry.partCachePinRefused (p : Nat) : Nat := key (0x4190 + p) 0x04
abbrev Entry.partCachePinOverrides (p : Nat) : Nat := key (0x4190 + p) 0x05

/-! arithmetic, global (R313): record 0x4800. -/

abbrev Entry.arithFormatsSupported : Nat := key 0x4800 0x01
abbrev Entry.arithStatsWindowDefault : Nat := key 0x4800 0x02
abbrev Entry.arithWidenEnable : Nat := key 0x4800 0x03
abbrev Entry.arithWidenedJobsTotal : Nat := key 0x4800 0x04
abbrev Entry.arithSaturationsTotal : Nat := key 0x4800 0x05
abbrev Entry.arithNanConversionsTotal : Nat := key 0x4800 0x06

/-! arithmetic per herd (R314): record 0x4808+h. -/

abbrev Entry.herdArithScaleReloads (h : Nat) : Nat := key (0x4808 + h) 0x01
abbrev Entry.herdArithStatsChannelsUsed (h : Nat) : Nat := key (0x4808 + h) 0x02
abbrev Entry.herdArithSaturations (h : Nat) : Nat := key (0x4808 + h) 0x03
abbrev Entry.herdArithWidenedLaps (h : Nat) : Nat := key (0x4808 + h) 0x04

/-! arithmetic per partition (R315): record 0x4810+p. -/

abbrev Entry.partArithStatsWindow (p : Nat) : Nat := key (0x4810 + p) 0x01
abbrev Entry.partArithStatsSlot (p : Nat) : Nat := key (0x4810 + p) 0x02
abbrev Entry.partArithStatsLayer (p : Nat) : Nat := key (0x4810 + p) 0x03
abbrev Entry.partArithWindowLaps (p : Nat) : Nat := key (0x4810 + p) 0x04
abbrev Entry.partArithLayerMse (p : Nat) : Nat := key (0x4810 + p) 0x05
abbrev Entry.partArithLayerRatio (p : Nat) : Nat := key (0x4810 + p) 0x06
abbrev Entry.partArithChannelMse (p : Nat) : Nat := key (0x4810 + p) 0x07
abbrev Entry.partArithWidenedLayers (p : Nat) : Nat := key (0x4810 + p) 0x08
abbrev Entry.partArithWidenedJobs (p : Nat) : Nat := key (0x4810 + p) 0x09
abbrev Entry.partArithWidenDeferred (p : Nat) : Nat := key (0x4810 + p) 0x0A
abbrev Entry.partArithExceedUnwidened (p : Nat) : Nat := key (0x4810 + p) 0x0B
abbrev Entry.partArithNanConversions (p : Nat) : Nat := key (0x4810 + p) 0x0C
abbrev Entry.partArithSaturations (p : Nat) : Nat := key (0x4810 + p) 0x0D

/-! adaptation, global (R355): record 0x4C00. -/

abbrev Entry.adaptPeriodLength : Nat := key 0x4C00 0x01
abbrev Entry.adaptAdaptBudget : Nat := key 0x4C00 0x02
abbrev Entry.adaptSafetyAllow : Nat := key 0x4C00 0x03
abbrev Entry.adaptWindowFrames : Nat := key 0x4C00 0x04
abbrev Entry.adaptPromoteMargin : Nat := key 0x4C00 0x05
abbrev Entry.adaptVersionsPerStream : Nat := key 0x4C00 0x06
abbrev Entry.adaptPromotionsTotal : Nat := key 0x4C00 0x07
abbrev Entry.adaptRollbacksTotal : Nat := key 0x4C00 0x08

/-! adaptation per partition (R356): record 0x4C00+p. -/

abbrev Entry.partAdaptAdaptSlot (p : Nat) : Nat := key (0x4C00 + p) 0x01
abbrev Entry.partAdaptAdaptStreams (p : Nat) : Nat := key (0x4C00 + p) 0x02
abbrev Entry.partAdaptSeed (p : Nat) : Nat := key (0x4C00 + p) 0x03
abbrev Entry.partAdaptReduction (p : Nat) : Nat := key (0x4C00 + p) 0x04
abbrev Entry.partAdaptCandidateSteps (p : Nat) : Nat := key (0x4C00 + p) 0x05
abbrev Entry.partAdaptSampleQueue (p : Nat) : Nat := key (0x4C00 + p) 0x06
abbrev Entry.partAdaptCommand (p : Nat) : Nat := key (0x4C00 + p) 0x07
abbrev Entry.partAdaptCommandResult (p : Nat) : Nat := key (0x4C00 + p) 0x08
abbrev Entry.partAdaptStreamTable (p : Nat) : Nat := key (0x4C00 + p) 0x09
abbrev Entry.partAdaptBudgetUsed (p : Nat) : Nat := key (0x4C00 + p) 0x0A
abbrev Entry.partAdaptSamples (p : Nat) : Nat := key (0x4C00 + p) 0x0B
abbrev Entry.partAdaptSamplesDropped (p : Nat) : Nat := key (0x4C00 + p) 0x0C
abbrev Entry.partAdaptPromotions (p : Nat) : Nat := key (0x4C00 + p) 0x0D
abbrev Entry.partAdaptRejections (p : Nat) : Nat := key (0x4C00 + p) 0x0E
abbrev Entry.partAdaptRollbacks (p : Nat) : Nat := key (0x4C00 + p) 0x0F
abbrev Entry.partAdaptCorruptVersions (p : Nat) : Nat := key (0x4C00 + p) 0x10

/-! system partition (R375): record 0x5000. -/

abbrev Entry.sysEnable : Nat := key 0x5000 0x01
abbrev Entry.sysState : Nat := key 0x5000 0x02

/-! user partition (R375): record 0x5000+p. -/

abbrev Entry.partEnable (p : Nat) : Nat := key (0x5000 + p) 0x01
abbrev Entry.partState (p : Nat) : Nat := key (0x5000 + p) 0x02
abbrev Entry.partPendingStart (p : Nat) : Nat := key (0x5000 + p) 0x03
abbrev Entry.partStartError (p : Nat) : Nat := key (0x5000 + p) 0x04
abbrev Entry.partHerdMask (p : Nat) : Nat := key (0x5000 + p) 0x05
abbrev Entry.partMemoryBase (p : Nat) : Nat := key (0x5000 + p) 0x06
abbrev Entry.partMemorySize (p : Nat) : Nat := key (0x5000 + p) 0x07
abbrev Entry.partPortMask (p : Nat) : Nat := key (0x5000 + p) 0x08
abbrev Entry.partStreamMap (p : Nat) : Nat := key (0x5000 + p) 0x09
abbrev Entry.partPairMask (p : Nat) : Nat := key (0x5000 + p) 0x0A
abbrev Entry.partSlotMask (p : Nat) : Nat := key (0x5000 + p) 0x0B
abbrev Entry.partRingBlocks (p : Nat) : Nat := key (0x5000 + p) 0x0C
abbrev Entry.partMasterPort (p : Nat) : Nat := key (0x5000 + p) 0x0D
abbrev Entry.partAnchorPort (p : Nat) : Nat := key (0x5000 + p) 0x0E
abbrev Entry.partArrivalMode (p : Nat) : Nat := key (0x5000 + p) 0x0F
abbrev Entry.partArrivalBase (p : Nat) : Nat := key (0x5000 + p) 0x10
abbrev Entry.partArrivalSlots (p : Nat) : Nat := key (0x5000 + p) 0x11
abbrev Entry.partArrivalCount (p : Nat) : Nat := key (0x5000 + p) 0x12
abbrev Entry.partReplayDivergences (p : Nat) : Nat := key (0x5000 + p) 0x13
abbrev Entry.partScrubProgress (p : Nat) : Nat := key (0x5000 + p) 0x14
abbrev Entry.partScrubErrors (p : Nat) : Nat := key (0x5000 + p) 0x15
abbrev Entry.partRefusedEnables (p : Nat) : Nat := key (0x5000 + p) 0x16
abbrev Entry.partHostRegion (p : Nat) : Nat := key (0x5000 + p) 0x17

/-! ring blocks (R376): record 0x5100. -/

abbrev Entry.ringBlocksBlocksFree : Nat := key 0x5100 0x01

/-! rings per partition (R376): record 0x5100+p. -/

abbrev Entry.partRingRingTableBase (p : Nat) : Nat := key (0x5100 + p) 0x01
abbrev Entry.partRingRingSelect (p : Nat) : Nat := key (0x5100 + p) 0x02
abbrev Entry.partRingRingSubmitted (p : Nat) : Nat := key (0x5100 + p) 0x03
abbrev Entry.partRingRingCompleted (p : Nat) : Nat := key (0x5100 + p) 0x04
abbrev Entry.partRingRingAbandoned (p : Nat) : Nat := key (0x5100 + p) 0x05
abbrev Entry.partRingSubmitted (p : Nat) : Nat := key (0x5100 + p) 0x06
abbrev Entry.partRingCompleted (p : Nat) : Nat := key (0x5100 + p) 0x07
abbrev Entry.partRingAbandoned (p : Nat) : Nat := key (0x5100 + p) 0x08
abbrev Entry.partRingBadDoorbells (p : Nat) : Nat := key (0x5100 + p) 0x09
abbrev Entry.partRingLastCause (p : Nat) : Nat := key (0x5100 + p) 0x0A

/-! cyclic schedule (R377): record 0x5200+p. -/

abbrev Entry.schedSchedule (p : Nat) : Nat := key (0x5200 + p) 0x01
abbrev Entry.schedScheduleState (p : Nat) : Nat := key (0x5200 + p) 0x02
abbrev Entry.schedAdmitError (p : Nat) : Nat := key (0x5200 + p) 0x03
abbrev Entry.schedLoadLines (p : Nat) : Nat := key (0x5200 + p) 0x04
abbrev Entry.schedLimitLines (p : Nat) : Nat := key (0x5200 + p) 0x05
abbrev Entry.schedWindowSlack (p : Nat) : Nat := key (0x5200 + p) 0x06
abbrev Entry.schedWindowOverruns (p : Nat) : Nat := key (0x5200 + p) 0x07
abbrev Entry.schedFallbackFits (p : Nat) : Nat := key (0x5200 + p) 0x08

/-! security (R402): record 0x6000. -/

abbrev Entry.secSecurityMode : Nat := key 0x6000 0x01
abbrev Entry.secConfidentialAtBoot : Nat := key 0x6000 0x02
abbrev Entry.secDebugEnable : Nat := key 0x6000 0x03
abbrev Entry.secDebugState : Nat := key 0x6000 0x04
abbrev Entry.secCertChain : Nat := key 0x6000 0x05
abbrev Entry.secIdentityKeyDigest : Nat := key 0x6000 0x06
abbrev Entry.secTrngState : Nat := key 0x6000 0x07
abbrev Entry.secKeysGenerated : Nat := key 0x6000 0x08
abbrev Entry.secIntegrityErrors : Nat := key 0x6000 0x09
abbrev Entry.secScrubMethod : Nat := key 0x6000 0x0A
abbrev Entry.secScrubsCompleted : Nat := key 0x6000 0x0B
abbrev Entry.secDeviceEpoch : Nat := key 0x6000 0x0C
abbrev Entry.secFirmwareState : Nat := key 0x6000 0x0D
abbrev Entry.secReportsSigned : Nat := key 0x6000 0x0E

/-! peer sessions (R402): record 0x6001. -/

abbrev Entry.peerPeerAllow : Nat := key 0x6001 0x01
abbrev Entry.peerSessionsRefused : Nat := key 0x6001 0x02
abbrev Entry.peerTagFailures : Nat := key 0x6001 0x03

/-! IDE (R402): record 0x6002. -/

abbrev Entry.ideIdeStreams : Nat := key 0x6002 0x01
abbrev Entry.ideIdeErrors : Nat := key 0x6002 0x02

/-! report slot (R403): record 0x6010+f. -/

abbrev Entry.reportReportNonce (f : Nat) : Nat := key (0x6010 + f) 0x01
abbrev Entry.reportReportRequest (f : Nat) : Nat := key (0x6010 + f) 0x02
abbrev Entry.reportReportState (f : Nat) : Nat := key (0x6010 + f) 0x03
abbrev Entry.reportReport (f : Nat) : Nat := key (0x6010 + f) 0x04
abbrev Entry.reportCertChain (f : Nat) : Nat := key (0x6010 + f) 0x05
abbrev Entry.reportReportsRequested (f : Nat) : Nat := key (0x6010 + f) 0x06

/-! faults and safety (R435): record 0x7000. -/

abbrev Entry.faultSafetyMode : Nat := key 0x7000 0x01
abbrev Entry.faultSafetyAtBoot : Nat := key 0x7000 0x02
abbrev Entry.faultFaultPair : Nat := key 0x7000 0x03
abbrev Entry.faultOpenEvents : Nat := key 0x7000 0x04
abbrev Entry.faultQuietPeriod : Nat := key 0x7000 0x05
abbrev Entry.faultRecoveryWindow : Nat := key 0x7000 0x06
abbrev Entry.faultRecoveryLimit : Nat := key 0x7000 0x07
abbrev Entry.faultEventsTotal : Nat := key 0x7000 0x08
abbrev Entry.faultEventIndex : Nat := key 0x7000 0x09
abbrev Entry.faultEventRecord : Nat := key 0x7000 0x0A
abbrev Entry.faultReportsMerged : Nat := key 0x7000 0x0B
abbrev Entry.faultCorrectableCount : Nat := key 0x7000 0x0C
abbrev Entry.faultUnitQuery : Nat := key 0x7000 0x0D
abbrev Entry.faultUnitStatus : Nat := key 0x7000 0x0E
abbrev Entry.faultFieldDefects : Nat := key 0x7000 0x0F
abbrev Entry.faultFencedUntilRestart : Nat := key 0x7000 0x10
abbrev Entry.faultKidSwapsTotal : Nat := key 0x7000 0x11
abbrev Entry.faultSpareKidsLeft : Nat := key 0x7000 0x12
abbrev Entry.faultSafeReqState : Nat := key 0x7000 0x13
abbrev Entry.faultInputGlitches : Nat := key 0x7000 0x14
abbrev Entry.faultMemoryUncorrectable : Nat := key 0x7000 0x15
abbrev Entry.faultLastEventUnit : Nat := key 0x7000 0x16
abbrev Entry.faultEventsOverflowed : Nat := key 0x7000 0x17

/-! bring-up (R452): record 0x7800. -/

abbrev Entry.bootBringUpPhase : Nat := key 0x7800 0x01
abbrev Entry.bootBringUpTime : Nat := key 0x7800 0x02
abbrev Entry.bootQuickStart : Nat := key 0x7800 0x03
abbrev Entry.bootScreeningMode : Nat := key 0x7800 0x04
abbrev Entry.bootScreenProgress : Nat := key 0x7800 0x05
abbrev Entry.bootRowsRepaired : Nat := key 0x7800 0x06
abbrev Entry.bootRowsUnrepairable : Nat := key 0x7800 0x07
abbrev Entry.bootGranulesWithheld : Nat := key 0x7800 0x08
abbrev Entry.bootRepairListEntries : Nat := key 0x7800 0x09
abbrev Entry.bootBootImage : Nat := key 0x7800 0x0A
abbrev Entry.bootSelfTestFailures : Nat := key 0x7800 0x0B

/-! lane proof (R452): record 0x7801. -/

abbrev Entry.proofProofLevel : Nat := key 0x7801 0x01
abbrev Entry.proofPcieResult : Nat := key 0x7801 0x02
abbrev Entry.proofZennikLanes : Nat := key 0x7801 0x03
abbrev Entry.proofEthernetProven : Nat := key 0x7801 0x04
abbrev Entry.proofCsiLanes : Nat := key 0x7801 0x05
abbrev Entry.proofDsiLanes : Nat := key 0x7801 0x06
abbrev Entry.proofLanesFailed : Nat := key 0x7801 0x07

/-! firmware update (R452): record 0x7802. -/

abbrev Entry.fwFirmwareOffset : Nat := key 0x7802 0x01
abbrev Entry.fwFirmwareData : Nat := key 0x7802 0x02
abbrev Entry.fwFirmwareCommand : Nat := key 0x7802 0x03
abbrev Entry.fwUpdateState : Nat := key 0x7802 0x04
abbrev Entry.fwUpdateError : Nat := key 0x7802 0x05
abbrev Entry.fwStagedVersion : Nat := key 0x7802 0x06
abbrev Entry.fwSecurityVersionMin : Nat := key 0x7802 0x07

/-! PCI Express (R469): record 0x7C00. -/

abbrev Entry.pcieLinkState : Nat := key 0x7C00 0x01
abbrev Entry.pcieLinkWidth : Nat := key 0x7C00 0x02
abbrev Entry.pcieLinkGeneration : Nat := key 0x7C00 0x03
abbrev Entry.pcieVfsEnabled : Nat := key 0x7C00 0x04
abbrev Entry.pcieCorrectableErrors : Nat := key 0x7C00 0x05
abbrev Entry.pcieUncorrectableErrors : Nat := key 0x7C00 0x06
abbrev Entry.pcieHostTransferFailures : Nat := key 0x7C00 0x07
abbrev Entry.pcieLinkDowns : Nat := key 0x7C00 0x08

/-! Zennik network (R469): record 0x7C08. -/

abbrev Entry.fabricDeviceNumber : Nat := key 0x7C08 0x01
abbrev Entry.fabricReachable : Nat := key 0x7C08 0x02
abbrev Entry.fabricRouteChanges : Nat := key 0x7C08 0x03
abbrev Entry.fabricBatonsUnreachable : Nat := key 0x7C08 0x04
abbrev Entry.fabricBatonsRefusedTotal : Nat := key 0x7C08 0x05
abbrev Entry.fabricUdpPort : Nat := key 0x7C08 0x06

/-! Zennik link (R469): record 0x7C10+z. -/

abbrev Entry.zlinkEnable (z : Nat) : Nat := key (0x7C10 + z) 0x01
abbrev Entry.zlinkLinkState (z : Nat) : Nat := key (0x7C10 + z) 0x02
abbrev Entry.zlinkLanesActive (z : Nat) : Nat := key (0x7C10 + z) 0x03
abbrev Entry.zlinkLaneMask (z : Nat) : Nat := key (0x7C10 + z) 0x04
abbrev Entry.zlinkPeerDevice (z : Nat) : Nat := key (0x7C10 + z) 0x05
abbrev Entry.zlinkPeerSerial (z : Nat) : Nat := key (0x7C10 + z) 0x06
abbrev Entry.zlinkFramesSent (z : Nat) : Nat := key (0x7C10 + z) 0x07
abbrev Entry.zlinkFramesReceived (z : Nat) : Nat := key (0x7C10 + z) 0x08
abbrev Entry.zlinkResends (z : Nat) : Nat := key (0x7C10 + z) 0x09
abbrev Entry.zlinkLaneErrors (z : Nat) : Nat := key (0x7C10 + z) 0x0A

/-! Zennik per partition (R469): record 0x7C20+p. -/

abbrev Entry.partFabricDeviceMap (p : Nat) : Nat := key (0x7C20 + p) 0x01
abbrev Entry.partFabricBatonsRefused (p : Nat) : Nat := key (0x7C20 + p) 0x02

/-! Zennik over UDP (R469): record 0x7C30. -/

abbrev Entry.udpUdpPeers : Nat := key 0x7C30 0x01
abbrev Entry.udpUdpSessions : Nat := key 0x7C30 0x02
abbrev Entry.udpUdpTimeouts : Nat := key 0x7C30 0x03

/-! discrete inputs (R489): record 0x7E00. -/

abbrev Entry.pinsSafeReqLevel : Nat := key 0x7E00 0x01
abbrev Entry.pinsSafeReqEdges : Nat := key 0x7E00 0x02
abbrev Entry.pinsNodeStrap : Nat := key 0x7E00 0x03
abbrev Entry.pinsSafetyStrap : Nat := key 0x7E00 0x04
abbrev Entry.pinsFsyncLevels : Nat := key 0x7E00 0x05
abbrev Entry.pinsFsyncLost : Nat := key 0x7E00 0x06

/-! PV pairs (R489): record 0x7E01. -/

abbrev Entry.pvPvPairs : Nat := key 0x7E01 0x01

/-! supplies and temperatures (R489): record 0x7E02. -/

abbrev Entry.supplySupplyVoltages : Nat := key 0x7E02 0x01
abbrev Entry.supplySupplyFault : Nat := key 0x7E02 0x02
abbrev Entry.supplySysclkState : Nat := key 0x7E02 0x03
abbrev Entry.supplyJunctionMin : Nat := key 0x7E02 0x04
abbrev Entry.supplyJunctionSensors : Nat := key 0x7E02 0x05
abbrev Entry.supplyThermalWarnings : Nat := key 0x7E02 0x06

end Sys2Proof.Machine
end

