-- ==== Sys2Proof/Machine/Ops.lean ====
section
/-! DEFINITION. The shared operations over the dictionary, external memory, the outputs and the units' records. -/

namespace Sys2Proof.Machine

open Sys2Proof

/-! The part (R1, R2). -/

/-- Herds of the part. -/
def State.herdCount (s : State) : Nat := match s.part with | .hkz8840 => 8 | .hkz8830 => 6

/-- Raster ports of the part. -/
def State.portCount (s : State) : Nat := match s.part with | .hkz8840 => 16 | .hkz8830 => 12

/-- Granules of 256 MiB: 62 GiB or 46.5 GiB usable (R16, R359). -/
def State.granuleCount (s : State) : Nat := match s.part with | .hkz8840 => 248 | .hkz8830 => 186

/-- LPDDR6 channels of the part. -/
def State.channelCount (s : State) : Nat := match s.part with | .hkz8840 => 16 | .hkz8830 => 12

/-- The least herd count (R6). -/
def State.herdMinimum (s : State) : Nat := match s.part with | .hkz8840 => 7 | .hkz8830 => 5

/-! The catalog. -/

/-- The record that holds an index, on the part, with its instance (R36, R60). -/
def State.record (s : State) (index : Nat) : Option (Record × Nat) :=
  let count := fun (r : Record) => match s.part with | .hkz8840 => r.count | .hkz8830 => r.count30
  (Catalog.all.find? fun r => r.base + r.first ≤ index && index < r.base + r.first + count r).map
    fun r => (r, index - r.base)

/-- A table row on the part: MemoryBase and MemorySize have narrower ranges on the HKZ8830 (R375). -/
def State.narrowed (s : State) (k : Nat) (e : Row) : Row :=
  match s.part with
  | .hkz8840 => e
  | .hkz8830 =>
    if 0x5001 ≤ k / 256 && k / 256 ≤ 0x5008 && k % 256 = 0x06 then { e with range := [(8, 185)] }
    else if 0x5001 ≤ k / 256 && k / 256 ≤ 0x5008 && k % 256 = 0x07 then { e with range := [(1, 178)] }
    else e

/-- The table row of a key. -/
def State.row (s : State) (k : Nat) : Option Row :=
  match s.record (k / 256) with
  | none => none
  | some (r, _) => (r.rows.find? fun e => e.sub == k % 256).map (s.narrowed k)

/-- The bytes of a value of an integer type (R37). -/
def EType.bytes (t : EType) : Nat :=
  match t with
  | .bool | .u8 | .enum => 1
  | .u16 | .i16 => 2
  | .u32 | .i32 | .f32 => 4
  | .u64 => 8
  | .vstr | .domain => 0

/-- The type code of R37. -/
def EType.code (t : EType) : Nat :=
  match t with
  | .bool => 1 | .u8 => 2 | .u16 => 3 | .u32 => 4 | .u64 => 5 | .i16 => 6 | .i32 => 7 | .f32 => 8 | .enum => 9
  | .vstr => 10 | .domain => 11

/-- Whether the type is signed. -/
def EType.isSigned (t : EType) : Bool := t == .i16 || t == .i32

/-! Reading and writing entries. -/

/-- The default of a key: its row's; 0 where no table lists it. -/
def State.default (s : State) (k : Nat) : Value := ((s.row k).map Row.dflt).getD (.int 0)

/-- The value an entry holds. -/
def State.raw (s : State) (k : Nat) : Value :=
  match Assoc.find s.dict k with
  | some v => v
  | none => s.default k

/-- The integer a value holds. -/
def Value.toInt (v : Value) : Int := match v with | .int z => z | .bytes b => leNat b

/-- The bytes a value holds. -/
def Value.toBytes (v : Value) : Bytes := match v with | .int z => leBytes 8 (unsigned 64 z) | .bytes b => b

/-- An entry as an integer. -/
def State.z (s : State) (k : Nat) : Int := (s.raw k).toInt

/-- The instance of a key of a record of `n` instances from `lo` on. -/
def instanceOf (f : Nat → Nat) (lo n k : Nat) : Option Nat :=
  if k % 256 = f lo % 256 && f lo / 256 ≤ k / 256 && k / 256 < f lo / 256 + n then some (lo + k / 256 - f lo / 256) else none

/-- An entry as a natural number. -/
def State.n (s : State) (k : Nat) : Nat := (s.raw k).toInt.toNat

/-- An entry as bytes. -/
def State.b (s : State) (k : Nat) : Bytes := (s.raw k).toBytes

/-- Whether an entry is not 0. -/
def State.on (s : State) (k : Nat) : Bool := s.n k ≠ 0

/-- An entry given a value, with no event. -/
def State.put (s : State) (k : Nat) (v : Value) : State := { s with dict := Assoc.put s.dict k v }

/-- A value as it travels (R37): the bytes of its type. -/
def Row.encode (r : Row) (v : Value) : Bytes :=
  match v with
  | .int z => leBytes r.ty.bytes (unsigned (8 * r.ty.bytes) z)
  | .bytes b => b

/-- Whether the device is in confidential mode (R388). -/
def State.confidential (s : State) : Bool := s.on Entry.secSecurityMode

/-- The partition that owns the record of an index (R45): the started owner that the unit's Partition entry names, the
partition of the record's number, or partition 0. -/
def State.ownerOf (s : State) (k : Nat) : Nat :=
  match s.record (k / 256) with
  | none => 0
  | some (r, i) =>
    match r.owner with
    | .identity | .p0 => 0
    | .stream => s.n (Entry.streamPartition i)
    | .pair => s.n (Entry.pairPartition i)
    | .port => if r.base = 0x3400 && 0x05 ≤ k % 256 && k % 256 ≤ 0x08 then 0 else s.n (Entry.portPartition i)
    | .herd => s.n (Entry.herdPartition i)
    | .slot => s.n (Entry.slotPartition i)
    | .part => i
    | .report => i - 1

/-- The state and enable entries of a user partition's record (R45). -/
def stateOrEnable (k : Nat) : Bool := 0x5001 ≤ k / 256 && k / 256 ≤ 0x5008 && 1 ≤ k % 256 && k % 256 ≤ 3

/-- Whether function `fn` (0 physical, p virtual) reaches an entry (R45). -/
def State.reaches (s : State) (fn k : Nat) : Bool :=
  if fn = 0 then !(s.confidential && s.ownerOf k ≠ 0 && !stateOrEnable k)
  else k / 256 = 0x1000 || s.ownerOf k = fn

/-! Interrupts and events. -/

/-- Mailbox `fn` of BAR2. -/
def State.box (s : State) (fn : Nat) : Mailbox := Assoc.get s.boxes fn {}

/-- The state with a mailbox replaced. -/
def State.setBox (s : State) (fn : Nat) (m : Mailbox) : State := { s with boxes := Assoc.put s.boxes fn m }

/-- Something driven on a pin or a link. -/
def State.emit (s : State) (o : Output) : State := { s with out := s.out ++ [o] }

/-- Whether the host has masked a vector: bit 0 of the control word of its entry in the MSI-X table (R454, R456). -/
def Mailbox.vectorMasked (m : Mailbox) (v : Nat) : Bool := ((Assoc.find m.table v).getD 0).testBit 96

/-- Units of work counted towards a rate entry (R95, R122, R229). -/
def State.meter (s : State) (k n : Nat) : State :=
  let l := Assoc.get s.meters k []
  { s with meters := Assoc.put s.meters k ((l.headD 0 + n) :: l.drop 1) }

/-- A vector fired, or its pending bit set where it is masked (R456). -/
def State.fire (s : State) (fn vector : Nat) : State :=
  let m := s.box fn
  if m.vectorMasked vector then
    if m.pendingBits.contains vector then s else s.setBox fn { m with pendingBits := vector :: m.pendingBits }
  else s.emit (.msix fn vector)

/-- A vector signalled (R456): fired unless it fired within the last 10 µs, else fired once more at the end of that time. -/
def State.signal (s : State) (fn vector : Nat) : State :=
  let m := s.box fn
  if m.vectors.contains vector then
    if m.again.contains vector then s else s.setBox fn { m with again := vector :: m.again }
  else (s.setBox fn { m with vectors := vector :: m.vectors }).fire fn vector

/-- Vector 1 of every function that reaches the entry (R456). -/
def State.signalChange (s : State) (k : Nat) : State :=
  (List.range 9).foldl (fun t fn => if s.reaches fn k then t.signal fn 1 else t) s

/-- Whether events about an entry are sent (R54): in confidential mode, of the entries owned by user partitions only the
state entries of those partitions' records. -/
def State.eventAllowed (s : State) (k : Nat) : Bool :=
  !(s.confidential && s.ownerOf k ≠ 0 && !(0x5001 ≤ k / 256 && k / 256 ≤ 0x5008 && k % 256 = 2))

/-- Whether events are sent at all: EventEnable is in force, the node has a number, and SYSCLK runs (R49, R54, R479)
(DEDUCED, log entry 52). -/
def State.eventsOn (s : State) : Bool := s.can.events && s.on Entry.canNodeId && !s.on Entry.supplySysclkState

/-- An event queued, or dropped and counted where the queue is full (R54). -/
def State.queueEvent (s : State) (e : JEvent) : State :=
  if !s.eventsOn then s
  else if s.can.queue.length < 64 then { s with can := { s.can with queue := s.can.queue ++ [e] } }
  else
    { s.put Entry.canEventsLost (.int ((s.n Entry.canEventsLost + 1) % 2 ^ 32)) with
      can := { s.can with droppedSince := s.can.droppedSince + 1 } }

/-- An entry-change event of a key with the bytes that the frame carries, and its interrupts (R54, R456). -/
def State.postValue (s : State) (k type : Nat) (value : Bytes) : State :=
  let t := if s.eventAllowed k then
      s.queueEvent { key := k, type := type, value := if value.length ≤ 56 then value else [] }
    else s
  t.signalChange k

/-- The event of an entry's present value. -/
def State.post (s : State) (k : Nat) : State :=
  match s.row k with
  | none => s
  | some r => s.postValue k r.ty.code (r.encode (s.raw k))

/-- An entry given a value; where its changes send events and the value is new, the event (R54). -/
def State.set (s : State) (k : Nat) (v : Value) : State :=
  if s.raw k = v then s
  else
    match s.row k with
    | some r => if r.event then (s.put k v).post k else s.put k v
    | none => s.put k v

/-- An entry given an integer. -/
def State.setZ (s : State) (k : Nat) (z : Int) : State := s.set k (.int z)

/-- An entry given a natural number. -/
def State.setN (s : State) (k n : Nat) : State := s.set k (.int n)

/-- An entry given bytes. -/
def State.setB (s : State) (k : Nat) (b : Bytes) : State := s.set k (.bytes b)

/-- A counter advanced by `d`; a counter wraps at the width of its type (R41, R63). -/
def State.add (s : State) (k d : Nat) : State :=
  let w := match s.row k with | some r => 8 * r.ty.bytes | none => 32
  s.setN k ((s.n k + d) % 2 ^ w)

/-- A counter advanced by 1. -/
def State.bump (s : State) (k : Nat) : State := s.add k 1

/-- A flag of a flags entry set or cleared. -/
def State.setFlag (s : State) (k i : Nat) (on : Bool) : State := s.setN k (withBit (s.n k) i on)

/-- Entries back at their defaults. -/
def State.clear (s : State) (keys : List Nat) : State := keys.foldl (fun t k => t.set k (t.default k)) s

/-! The device state (R31). -/

/-- The operating state. -/
def State.device (s : State) : Nat := s.n Entry.devDeviceState

/-- OFF. -/
def State.isOff (s : State) : Bool := s.device = 0

/-- READY, RUN or DEGRADED: the states in which the units work. -/
def State.running (s : State) : Bool := s.device = 3 || s.device = 4 || s.device = 5

/-- FAULT_HOLD. -/
def State.held (s : State) : Bool := s.device = 6

/-- What happens unless the device is OFF. -/
def State.ifOn (s : State) (t : State) : State := if s.isOff then s else t

/-- What happens while the units work. -/
def State.ifRunning (s : State) (t : State) : State := if s.running then t else s

/-! External memory (R17, R360, R381). -/

/-- What an unlisted address reads as: the clear tag's 0 (R381). -/
def Memory.blank : Byte := 0

/-- The byte at an address. -/
def Memory.read (m : List Host.Cell) (a : Nat) : Byte :=
  match m with
  | [] => Memory.blank
  | (a', v) :: r => if a' = a then v else Memory.read r a

/-- The memory with one byte written: addresses rising, no byte equal to the blank one. -/
def Memory.write (m : List Host.Cell) (a : Nat) (v : Byte) : List Host.Cell :=
  match m with
  | [] => if v = Memory.blank then [] else [(a, v)]
  | (a', v') :: r =>
    if a < a' then (if v = Memory.blank then (a', v') :: r else (a, v) :: (a', v') :: r)
    else if a = a' then (if v = Memory.blank then r else (a, v) :: r)
    else (a', v') :: Memory.write r a v

/-- The canonical form: addresses strictly rising, no byte equal to the blank one. -/
def Memory.wf (m : List Host.Cell) : Bool :=
  match m with
  | [] => true
  | [(_, v)] => v ≠ Memory.blank
  | (a, v) :: (a', v') :: r => v ≠ Memory.blank && a < a' && Memory.wf ((a', v') :: r)

/-- Bytes written from an address up. -/
def Memory.writes (m : List Host.Cell) (a : Nat) (b : Bytes) : List Host.Cell :=
  match b with
  | [] => m
  | x :: r => Memory.writes (Memory.write m a x) (a + 1) r

/-- `n` bytes from an address up. -/
def Memory.reads (m : List Host.Cell) (a n : Nat) : Bytes := (List.range n).map fun i => Memory.read m (a + i)

/-- The memory without the addresses from `lo` up to `hi`. -/
def Memory.blankRange (m : List Host.Cell) (lo hi : Nat) : List Host.Cell :=
  m.filter fun c => c.1 < lo || hi ≤ c.1

/-- A granule of 256 MiB (R359). -/
def granuleBytes : Nat := 2 ^ 28

/-- A block of 256 bytes, the unit of the integrity tags (R381). -/
def blockBytes : Nat := 256

/-- Partition `p`'s record beyond its entries. -/
def State.partRt (s : State) (p : Nat) : PartRt := Assoc.get s.parts p {}

/-- The state with a partition's record replaced. -/
def State.setPartRt (s : State) (p : Nat) (r : PartRt) : State := { s with parts := Assoc.put s.parts p r }

/-- The address of the first byte of a partition's range: partition 0 has granules 0 to 7 (R359, R360). -/
def State.memBase (s : State) (p : Nat) : Nat :=
  if p = 0 then 0 else (((s.partRt p).owned.map Owned.memBase).getD 0) * granuleBytes

/-- The bytes of a partition's range. -/
def State.memSize (s : State) (p : Nat) : Nat :=
  if p = 0 then 8 * granuleBytes else (((s.partRt p).owned.map Owned.memSize).getD 0) * granuleBytes

/-- Whether `n` bytes at offset `o` lie in the range of partition `p` (R17). -/
def State.inRange (s : State) (p o n : Nat) : Bool := o + n ≤ s.memSize p

/-- `n` bytes at an offset of a partition's range. -/
def State.readMem (s : State) (p o n : Nat) : Bytes := Memory.reads s.mem (s.memBase p + o) n

/-- Whether a write of `n` bytes from an address leaves one of them as it is: its block is unreadable and only partly written, so that the read
before the merge fails (R380, R382). -/
def State.mergeFails (s : State) (a n i : Nat) : Bool :=
  let k := i / blockBytes
  s.security.badBlocks.contains k && !(a ≤ k * blockBytes && (k + 1) * blockBytes ≤ a + n)

/-- The bytes that stand after a write from an address (R380, R382). -/
def State.merged (s : State) (a : Nat) (b : Bytes) : Bytes :=
  if s.security.badBlocks.isEmpty then b
  else (b.zip (List.range b.length)).map fun e =>
    if s.mergeFails a b.length (a + e.2) then Memory.read s.mem (a + e.2) else e.1

/-- Bytes written at an offset of a partition's range; a block that is written whole is readable again, and a partial write of an unreadable block
is not performed (R380 to R382). -/
def State.writeMem (s : State) (p o : Nat) (b : Bytes) : State :=
  if s.inRange p o b.length then
    let a := s.memBase p + o
    { s with
      mem := Memory.writes s.mem a (s.merged a b)
      security := { s.security with
        badBlocks := s.security.badBlocks.filter fun k => !(a ≤ k * blockBytes && (k + 1) * blockBytes ≤ a + b.length) } }
  else s

/-- Whether some block of a read is unreadable (R381, R382). -/
def State.readFails (s : State) (p o n : Nat) : Bool :=
  let a := s.memBase p + o
  s.security.badBlocks.any fun k => k * blockBytes < a + n && a < (k + 1) * blockBytes

/-! Identity. -/

/-- The certificate chain, of the firmware verified at BOOT (R393). -/
def State.certChain (s : State) : Bytes := Config.certChain s.security.bootFw s.fuses.serial

/-! The units' records. -/

/-- Context `i`'s record. -/
def State.ctx (s : State) (i : Nat) : Ctx := Assoc.get s.streams i {}

/-- The state with a context's record replaced. -/
def State.setCtx (s : State) (i : Nat) (c : Ctx) : State := { s with streams := Assoc.put s.streams i c }

/-- Port `n`'s record. -/
def State.portRt (s : State) (n : Nat) : PortRt := Assoc.get s.ports n {}

/-- The state with a port's record replaced. -/
def State.setPortRt (s : State) (n : Nat) (r : PortRt) : State := { s with ports := Assoc.put s.ports n r }

/-- Herd `h`'s record. -/
def State.herdRt (s : State) (h : Nat) : HerdRt := Assoc.get s.herds.herds h {}

/-- The state with a herd's record replaced. -/
def State.setHerdRt (s : State) (h : Nat) (r : HerdRt) : State :=
  { s with herds := { s.herds with herds := Assoc.put s.herds.herds h r } }

/-- Slot `k`'s record. -/
def State.slotRt (s : State) (k : Nat) : SlotRt := Assoc.get s.herds.slots k {}

/-- The state with a slot's record replaced. -/
def State.setSlotRt (s : State) (k : Nat) (r : SlotRt) : State :=
  { s with herds := { s.herds with slots := Assoc.put s.herds.slots k r } }

/-- Stream `i`'s frame generation record. -/
def State.genStream (s : State) (i : Nat) : GenStream := Assoc.get s.gen.streams i {}

/-- The state with a stream's frame generation record replaced. -/
def State.setGenStream (s : State) (i : Nat) (g : GenStream) : State :=
  { s with gen := { s.gen with streams := Assoc.put s.gen.streams i g } }

/-- Pair `p`'s record. -/
def State.pairSt (s : State) (p : Nat) : PairSt := Assoc.get s.vision.pairs p {}

/-- The state with a pair's record replaced. -/
def State.setPairSt (s : State) (p : Nat) (r : PairSt) : State :=
  { s with vision := { s.vision with pairs := Assoc.put s.vision.pairs p r } }

/-- Partition `p`'s adaptation record. -/
def State.adaptPart (s : State) (p : Nat) : AdaptPart := Assoc.get s.adapt p {}

/-- The state with a partition's adaptation record replaced. -/
def State.setAdaptPart (s : State) (p : Nat) (a : AdaptPart) : State := { s with adapt := Assoc.put s.adapt p a }

/-- Link `z`'s record. -/
def State.zlink (s : State) (z : Nat) : ZLink := Assoc.get s.peers.links z {}

/-- The state with a link's record replaced. -/
def State.setZlink (s : State) (z : Nat) (l : ZLink) : State :=
  { s with peers := { s.peers with links := Assoc.put s.peers.links z l } }

/-- Ring `r`'s record. -/
def State.ring (s : State) (r : Nat) : Ring := Assoc.get s.rings r {}

/-- The state with a ring's record replaced. -/
def State.setRing (s : State) (r : Nat) (g : Ring) : State := { s with rings := Assoc.put s.rings r g }

/-- A value that the manual leaves open, by the number of such values used before; the count advances (log entry 5). -/
def State.drawFree (s : State) : Nat × State := (s.free, { s with free := s.free + 1 })

/-- A `foldl` over the state. -/
def State.each {α : Type} (s : State) (l : List α) (f : State → α → State) : State := l.foldl f s

/-- What an optional value leads to. -/
def State.withSome {α : Type} (s : State) (o : Option α) (f : α → State) : State :=
  match o with
  | none => s
  | some a => f a

end Sys2Proof.Machine
end

