-- ==== Sys2Proof/Machine/Units.lean ====
section
/-! DEFINITION. The unit types of the fault collector (R410): codes and instances. -/

namespace Sys2Proof.Machine

open Sys2Proof

/-- The type code of R410. -/
def unitTypeCode (k : UnitKind) : Nat :=
  match k with
  | .kid => 0x01 | .herd => 0x02 | .slice => 0x03 | .stereo => 0x04 | .flow => 0x05 | .anchorStore => 0x06
  | .geometry => 0x07 | .tile => 0x08 | .ray => 0x09 | .compositor => 0x0A | .port => 0x0B | .piu => 0x0C
  | .eth => 0x0D | .csi => 0x0E | .zennikLane => 0x0F | .router => 0x10 | .lpddr => 0x11 | .coreSupply => 0x12
  | .mgmt => 0x13 | .rtu => 0x14 | .fc => 0x15 | .discreteInput => 0x16 | .pcie => 0x17

/-- Every unit type, in the order of the codes. -/
def unitKinds : List UnitKind :=
  [.kid, .herd, .slice, .stereo, .flow, .anchorStore, .geometry, .tile, .ray, .compositor, .port, .piu, .eth, .csi,
   .zennikLane, .router, .lpddr, .coreSupply, .mgmt, .rtu, .fc, .discreteInput, .pcie]

/-- Whether R410 lists an instance of a type. -/
def unitListed (u : UnitCode) : Bool :=
  match u.kind with
  | .kid => u.inst / 2048 < 8 && u.inst % 2048 < 1088
  | .herd | .slice => u.inst < 8
  | .stereo | .flow | .ray | .eth | .csi | .mgmt => u.inst < 4
  | .anchorStore | .geometry | .piu | .coreSupply | .rtu | .fc | .pcie => u.inst = 0
  | .tile | .compositor | .port | .lpddr => u.inst < 16
  | .zennikLane => u.inst < 48
  | .router => u.inst < 64
  | .discreteInput => u.inst < 2 || 16 ≤ u.inst && u.inst < 32

/-- The code of a unit: type in bits 31:24, instance in bits 15:0 (R407). -/
def unitCode (u : UnitCode) : Nat := unitTypeCode u.kind * 2 ^ 24 + u.inst % 2 ^ 16

/-- The unit that a code names, if R410 lists it (R407); the reserved bits 23:16 are ignored (R10). -/
def unitOfCode (c : Nat) : Option UnitCode :=
  match unitKinds.find? fun k => unitTypeCode k == c / 2 ^ 24 with
  | none => none
  | some k => if unitListed ⟨k, c % 2 ^ 16⟩ then some ⟨k, c % 2 ^ 16⟩ else none

/-- Whether fencing of the type ends by R419 and R420 (R410, column Recovery). -/
def unitRecovers (k : UnitKind) : Bool :=
  match k with
  | .herd | .slice | .stereo | .flow | .geometry | .tile | .ray | .compositor | .piu | .eth | .csi | .zennikLane
  | .router | .mgmt | .pcie => true
  | .kid | .anchorStore | .port | .lpddr | .coreSupply | .rtu | .fc | .discreteInput => false

end Sys2Proof.Machine
end

