-- ==== Sys2Proof/Machine/Events.lean ====
section
/-! DEFINITION. The event log of the fault collector (R414 to R417) and which units are in service. -/

namespace Sys2Proof.Machine

open Sys2Proof

/-! Units in and out of service. -/

/-- Whether the part has the unit: R410's instances less those of the HKZ8830 (R1). -/
def State.hasUnit (s : State) (u : UnitCode) : Bool :=
  unitListed u &&
    match u.kind with
    | .kid => u.inst / 2048 < s.herdCount
    | .herd => u.inst < s.herdCount
    | .compositor | .port => u.inst < s.portCount
    | .lpddr => u.inst < s.channelCount
    | .discreteInput => u.inst < 16 + s.portCount
    | _ => true

/-- Whether the unit is fenced (R410). -/
def State.fenced (s : State) (u : UnitCode) : Bool := s.fc.fenced.contains u

/-- Whether the unit stays fenced until restart. -/
def State.isPermanent (s : State) (u : UnitCode) : Bool := s.fc.permanent.contains u

/-- The fault collector's record with a unit fenced. -/
def State.markFenced (s : State) (u : UnitCode) : State :=
  if s.fenced u then s else { s with fc := { s.fc with fenced := u :: s.fc.fenced } }

/-- A unit fenced until restart; FencedUntilRestart counts it (R420, R421, R435). -/
def State.markPermanent (s : State) (u : UnitCode) : State :=
  let t := s.markFenced u
  if t.isPermanent u then t
  else
    ({ t with fc := { t.fc with permanent := u :: t.fc.permanent } }).add Entry.faultFencedUntilRestart 1

/-- A unit back in service. -/
def State.markServed (s : State) (u : UnitCode) : State :=
  { s with fc := { s.fc with fenced := s.fc.fenced.filter fun v => v ≠ u } }

/-- The paces measured of herds that are not fenced (DEDUCED, log entry 80). -/
def State.livePaces (s : State) : List Nat :=
  (List.range s.herdCount).filterMap fun h =>
    if s.fenced ⟨.herd, h⟩ then none else Assoc.find s.pace.paces h

/-- PaceMin shown: the lowest pace of the herds that are not fenced (R18). -/
def State.showPaceMin (s : State) : State :=
  match minBy (fun n : Nat => (n : Int)) s.livePaces with
  | none => s
  | some m => s.setN Entry.devPaceMin m

/-- PaceMin after a herd has left or returned to service; in confidential mode it holds its value until the next 250 ms boundary (R18, R389). -/
def State.herdsMoved (s : State) : State := if s.confidential then s else s.showPaceMin

/-- Whether herd `h` is in service. -/
def State.herdWorks (s : State) (h : Nat) : Bool := h < s.herdCount && !s.fenced ⟨.herd, h⟩

/-- Herds in service. -/
def State.workingHerds (s : State) : List Nat := (List.range s.herdCount).filter s.herdWorks

/-- Whether an outer unit is or contains a unit: a herd its kids, a raster port its compositor context (R414). -/
def unitContains (outer inner : UnitCode) : Bool :=
  outer == inner ||
    match outer.kind, inner.kind with
    | .herd, .kid => inner.inst / 2048 == outer.inst
    | .port, .compositor => inner.inst == outer.inst
    | _, _ => false

/-! The log. -/

/-- Class codes of R408. -/
def classCode (c : FaultClass) : Nat :=
  match c with
  | .correctable => 0 | .uncorrectable => 1 | .presentation => 2 | .wiring => 3

/-- The 32-byte record of an event (R417). -/
def eventBytes (e : FaultEvent) : Bytes :=
  leBytes 32 <| packFields
    [(16, 0), (16, maskOf e.ports), (32, e.detail), (32, e.duration), (32, e.openedAt), (32, e.merged), (8, 0),
     (16, e.reporter.inst), (8, unitTypeCode e.reporter.kind), (4, e.reaction), (2, e.status), (2, classCode e.cls),
     (16, e.unit.inst), (8, unitTypeCode e.unit.kind), (32, e.number)]

/-- The events open, oldest first. -/
def State.openEvents (s : State) : List FaultEvent := s.fc.log.filter fun e => e.status = 0

/-- The open event that a report naming a unit merges into: one naming the unit or a unit that contains it (R414). -/
def State.eventFor (s : State) (u : UnitCode) : Option FaultEvent := s.openEvents.find? fun e => unitContains e.unit u

/-- The log with the event of a number changed. -/
def State.amend (s : State) (number : Nat) (f : FaultEvent → FaultEvent) : State :=
  { s with fc := { s.fc with log := s.fc.log.map fun e => if e.number = number then f e else e } }

/-- OpenEvents after a change of the log. -/
def State.countOpen (s : State) : State := s.setN Entry.faultOpenEvents s.openEvents.length

/-- A record added to the log, which keeps the last 1,024 (R416); its number follows the last one (R417). -/
def State.record_ (s : State) (e : FaultEvent) : State :=
  let t := s.bump Entry.faultEventsTotal
  let e' := { e with number := t.n Entry.faultEventsTotal, openedAt := s.fc.ms }
  let l := t.fc.log ++ [e']
  { t with fc := { t.fc with log := l.drop (l.length - 1024) } }

/-- The event of an opening or closing, with the record as it stands (R54, R435). -/
def State.postEvent (s : State) (number : Nat) : State :=
  match s.fc.log.find? fun e => e.number = number with
  | none => s
  | some e => s.postValue Entry.faultEventRecord 11 (eventBytes e)

/-- A new event opened on a unit. -/
def State.openEvent (s : State) (e : FaultEvent) : State :=
  let t := ((s.record_ e).countOpen).setN Entry.faultLastEventUnit (unitCode e.unit)
  t.postEvent (t.n Entry.faultEventsTotal)

/-- A notice: a record with Status 3 that opens no event (R416). -/
def State.notice (s : State) (u : UnitCode) (reaction : Nat) : State :=
  s.record_ { unit := u, reporter := u, status := 3, reaction := reaction, cls := .uncorrectable }

/-- An event closed with a status (R419). -/
def State.closeEvent (s : State) (number status : Nat) : State :=
  let t := s.amend number fun e =>
    { e with status := status, duration := s.fc.ms - e.openedAt, recovering := false }
  (t.countOpen).postEvent number

/-- A report merged into an open event (R414): counts, the higher class, the ports, and a recovery that it fails (R415). -/
def State.mergeInto (s : State) (number : Nat) (cls : FaultClass) (ports : List Nat) : State :=
  (s.amend number fun e =>
    { e with
      merged := e.merged + 1
      cls := if classCode e.cls < classCode cls then cls else e.cls
      ports := e.ports ++ ports.filter fun n => !e.ports.contains n
      failed := e.failed || e.recovering }).bump Entry.faultReportsMerged

/-- What becomes of a report of class 1, 2 or 3 in the log (R414, R416): discarded, merged, a new event, or acted on but merged into the newest event because 256 are open. -/
inductive Taken where
  | discarded | merged | opened | overflowed
deriving DecidableEq, Repr

/-- The open event that takes a report from a unit that is fenced, reset or tested (R415): one on the reporter or on what contains it;
a herd's own report on its kids' events opens a herd event all the same (R414). -/
def State.eventOfReporter (s : State) (reporter suspect : UnitCode) : Option FaultEvent :=
  s.openEvents.find? fun e => unitContains e.unit reporter && s.fenced e.unit && !unitContains suspect e.unit

/-- The log after a report (R414 to R416), and what became of it.  A report on a herd with open events on its kids opens a herd event
into which the kid events close, their counts added: all of their reports count as merged after the herd's own (DEDUCED, log entry
111). -/
def State.takeReport (s : State) (reporter suspect : UnitCode) (cls : FaultClass) (detail : Nat) (ports : List Nat)
    (reaction : Nat) : State × Taken :=
  if s.isPermanent suspect then (s.bump Entry.faultReportsMerged, .discarded)
  else
    match (s.eventFor suspect).or (s.eventOfReporter reporter suspect) with
    | some e => (s.mergeInto e.number cls ports, .merged)
    | none =>
      if s.openEvents.length ≥ 256 then
        match s.openEvents.getLast? with
        | none => (s, .opened)
        | some e => ((s.mergeInto e.number cls ports).bump Entry.faultEventsOverflowed, .overflowed)
      else
        let inner := s.openEvents.filter fun e => suspect.kind == .herd && unitContains suspect e.unit
        let t := s.each inner fun t e => t.closeEvent e.number 2
        let merged := inner.foldl (fun a e => a + e.merged + 1) 0
        (t.openEvent
          { unit := suspect, cls := cls, reaction := reaction, reporter := reporter, detail := detail, ports := ports,
            merged := merged }, .opened)

/-! The device state (R31, R32). -/

/-- Whether a unit other than a kid is fenced or named by an open event. -/
def State.degraded (s : State) : Bool :=
  s.fc.fenced.any (fun u => u.kind ≠ .kid) || s.openEvents.any fun e => e.unit.kind ≠ .kid

/-- Whether some user partition is not OFF. -/
def State.anyPartition (s : State) : Bool :=
  (List.range 9).any fun p => p ≠ 0 && s.n (Entry.partState p) ≠ 0

/-- The StateCause that fencing or an event on a unit gives (R35). -/
def causeOf (u : UnitCode) : Nat :=
  match u.kind with
  | .coreSupply => 5
  | .lpddr => 6
  | _ => 1

/-- READY, RUN or DEGRADED by what is fenced, open and running (R32 steps 7 to 10), with the cause of an entry to DEGRADED. -/
def State.settle (s : State) (cause : Nat) : State :=
  if s.running then
    if s.degraded then
      if s.device = 5 then s else (s.setN Entry.devStateCause cause).setN Entry.devDeviceState 5
    else s.setN Entry.devDeviceState (if s.anyPartition then 4 else 3)
  else s

end Sys2Proof.Machine
end

