-- ==== Sys2Proof/Machine/PortBase.lean ====
section
/-! DEFINITION. Time on a raster port (R28, R29, R233) and the entry to the safe state (R242, R243, R250, R251). -/

namespace Sys2Proof.Machine

open Sys2Proof

/-! Time. -/

/-- The timing fields as the port's record holds them (R233, R259). -/
def State.timingEntries (s : State) (n : Nat) : Timing :=
  { hActive := s.n (Entry.timingHActive n), hFront := s.n (Entry.timingHFrontPorch n)
    hSync := s.n (Entry.timingHSyncWidth n), hBack := s.n (Entry.timingHBackPorch n)
    vActive := s.n (Entry.timingVActive n), vFront := s.n (Entry.timingVFrontPorch n)
    vSync := s.n (Entry.timingVSyncWidth n), vBack := s.n (Entry.timingVBackPorch n)
    pixelClock := s.n (Entry.timingPixelClock n), composeLines := s.n (Entry.timingComposeLines n)
    sync := s.on (Entry.timingFrameSyncMode n), dsc := s.on (Entry.timingDscEnable n)
    lanes := s.n (Entry.timingLanes n) }

/-- The timing in use: the fields taken at the port's start, or those of the record while it is OFF (R233). -/
def State.timing (s : State) (n : Nat) : Timing := ((s.portRt n).timing).getD (s.timingEntries n)

/-- The lanes of a port that bring-up left good: all four, lanes 0 and 1, or none (R445). -/
def State.dsiGood (s : State) (n : Nat) : Nat :=
  let mask := ((s.b Entry.proofDsiLanes).getD n 0).toNat
  if mask % 16 = 15 then 4 else if mask % 4 = 3 then 2 else 0

/-- LanesActive: the lanes configured of those that are good (R259, R445). -/
def State.lanesActive (s : State) (n : Nat) : Nat := min (s.timing n).lanes (s.dsiGood n)

/-- Pixels of a line. -/
def Timing.hTotal (t : Timing) : Nat := t.hActive + t.hFront + t.hSync + t.hBack

/-- Lines of a frame. -/
def Timing.vTotal (t : Timing) : Nat := t.vActive + t.vFront + t.vSync + t.vBack

/-- The first active line of a frame. -/
def Timing.firstActive (t : Timing) : Nat := t.vSync + t.vBack

/-- A time in units of 1/`perSecond` s in lines of the port, to the nearest line, ties upward (R28). -/
def Timing.lines (t : Timing) (time perSecond : Nat) : Nat := divRoundUp (time * t.pixelClock) (perSecond * t.hTotal)

/-- Lines as whole milliseconds, rounded down (DESIGN CHOICE, log entry 7). -/
def Timing.millis (t : Timing) (lines : Nat) : Nat :=
  if t.pixelClock = 0 then 0 else lines * t.hTotal * 1000 / t.pixelClock

/-- The compose point's distance before the frame start in lines (R236). -/
def Timing.composeUsed (t : Timing) : Nat := min t.composeLines (t.vTotal / 2)

/-- The line count of a port at a line of its frame in progress (R29). -/
def State.lineCount (s : State) (n line : Nat) : Nat := (s.portRt n).frames * (s.timing n).vTotal + line

/-- The port that gives a partition its time: its anchor port (R370), 255 for none. -/
def State.anchorPort (s : State) (p : Nat) : Option Nat :=
  if p = 0 || 8 < p then none
  else let a := s.n (Entry.partAnchorPort p); if a < 16 then some a else none

/-! The PV pair. -/

/-- A port's PV pair driven asserted (PV_H 1, PV_L 0) or deasserted (0, 1), as PvPairs shows it (R242, R489). -/
def State.setPv (s : State) (n : Nat) (on : Bool) : State :=
  let v := s.n Entry.pvPvPairs
  s.setN Entry.pvPvPairs (withBit (withBit v (2 * n + 1) on) (2 * n) (!on))

/-- Whether a port's PV pair is asserted. -/
def State.vouched (s : State) (n : Nat) : Bool :=
  (s.n Entry.pvPvPairs).testBit (2 * n + 1) && !(s.n Entry.pvPvPairs).testBit (2 * n)

/-- The state of a port: 0 OFF, 1 STARTING, 2 LIVE, 3 STOPPING, 5 SAFE (R257). -/
def State.portState (s : State) (n : Nat) : Nat := s.n (Entry.portState n)

/-- A port's state changed; its PV pair is asserted exactly while it is LIVE (R243). -/
def State.setPortState (s : State) (n st : Nat) : State := (s.setN (Entry.portState n) st).setPv n (st = 2)

/-! The safe state. -/

/-- The hold frame as a substitute would take it now: the frame in scan-out where it has passed so far and qualifies, else the
kept one (R237; the frame in progress as the example of R253 has it). -/
def State.holdCandidate (s : State) (n : Nat) : Option HoldFrame :=
  let r := s.portRt n
  match r.scan with
  | some c =>
    if c.frame = r.frames && c.plain && !r.carrying && !r.failed then
      some { frame := c.frame, crc := c.crc, age := c.age, content := c.content }
    else r.hold
  | none => r.hold

/-- The age of a port's hold frame in lines: that at its scan-out plus the time since (R252). -/
def State.holdAge (s : State) (n : Nat) : Option Nat :=
  (s.holdCandidate n).map fun h => h.age + ((s.portRt n).frames - h.frame) * (s.timing n).vTotal

/-- Whether an open event implicates LPDDR6 (R251). -/
def State.memoryImplicated (s : State) : Bool := s.openEvents.any fun e => e.unit.kind == .lpddr

/-- Whether R251 asks for SAFE_BLANK whatever the cause. -/
def State.mustBlank (s : State) (n : Nat) : Bool :=
  s.on (Entry.safeSafePreferred n) || s.memoryImplicated ||
    match s.holdAge n with
    | none => true
    | some a => (s.timing n).lines (s.n (Entry.safeHoldAgeLimit n)) 1000 < a

/-- The substitute kind chosen at an entry to SAFE: 1 SAFE_HOLD, 2 SAFE_BLANK (R251). -/
def State.safeKind (s : State) (n : Nat) (blank : Bool) : Nat := if blank || s.mustBlank n then 2 else 1

/-- A cause of R250 at a port: LIVE enters SAFE with the cause and the substitute kind; in SAFE the exit count is reset and
the kind may become SAFE_BLANK; in STARTING and STOPPING nothing changes (R253, R254 step 3, R256). -/
def State.enterSafe (s : State) (n cause : Nat) (blank : Bool) : State :=
  if s.portState n = 2 then
    let t := s.setPortState n 5
    let t := (t.setN (Entry.portSafeCause n) cause).setN (Entry.portSafeKind n) (s.safeKind n blank)
    let t := t.bump (Entry.portSafeEntries n)
    t.setPortRt n { t.portRt n with exitCount := 0, acked := false, blankNext := false }
  else if s.portState n = 5 then
    let r := s.portRt n
    s.setPortRt n { r with exitCount := 0, acked := false, blankNext := r.blankNext || s.safeKind n blank = 2 }
  else s

/-- The same for a PIU that is out of service, which takes a STARTING port too, with SAFE_BLANK (R410). -/
def State.enterSafeOpen (s : State) (n cause : Nat) : State :=
  if s.portState n = 1 then
    let t := s.setPortState n 5
    let t := (t.setN (Entry.portSafeCause n) cause).setN (Entry.portSafeKind n) 2
    let t := t.bump (Entry.portSafeEntries n)
    t.setPortRt n { t.portRt n with exitCount := 0, acked := false, blankNext := false }
  else s.enterSafe n cause true

/-- The PIU as a unit. -/
def piuUnit : UnitCode := ⟨.piu, 0⟩

/-- A failed check at a port (R250 steps 1 and 2): the event naming the port, the safe state, DEGRADED. -/
def State.portFails (s : State) (n cause : Nat) (blank : Bool) : State :=
  let (t, _) := s.takeReport piuUnit ⟨.port, n⟩ .presentation (2 ^ n) (if s.portState n = 2 then [n] else []) 6
  (t.enterSafe n cause blank).settle 1

/-! FAULT_HOLD (R33). -/

/-- A port's part of the entry to FAULT_HOLD: a running port becomes SAFE with SAFE_BLANK (R33, R255). -/
def State.holdPort (s : State) (n : Nat) : State :=
  let st := s.portState n
  if st = 0 then s.setPv n false
  else
    let t := s.setPortState n 5
    let t := (t.setN (Entry.portSafeCause n) 8).setN (Entry.portSafeKind n) 2
    if st = 5 then t else t.bump (Entry.portSafeEntries n)

/-- A slot's running lap abandoned: its boundary follows once its batons are taken or abandoned (R276). -/
def State.abandonLap (s : State) (k : Nat) : State :=
  let r := s.slotRt k
  match r.lap with
  | none => s
  | some l => s.setSlotRt k { r with lap := some { l with abandoned := true } }

/-- The entry to FAULT_HOLD with a cause (R32, R33): every PV pair deasserted, running ports SAFE_BLANK, no lap runs.
A later, higher-numbered step names its own cause (R34). -/
def State.enterHold (s : State) (cause : Nat) : State :=
  if s.isOff then s
  else if s.held then (if cause = 4 then s.setN Entry.devStateCause 4 else s)
  else
    let t := s.setN Entry.devStateCause cause
    let t := t.each (List.range s.portCount) State.holdPort
    let t := t.each (List.range 128) State.abandonLap
    t.setN Entry.devDeviceState 6

/-- FAULT_HOLD where fewer herds work than the minimum, else the state that fencing and partitions give (R32 steps 7 to 11). -/
def State.settleAll (s : State) (cause : Nat) : State :=
  if s.running && s.workingHerds.length < s.herdMinimum then s.enterHold 2 else s.settle cause

end Sys2Proof.Machine
end

