-- ==== Sys2Proof/Machine/Owners.lean ====
section
/-! DEFINITION. What partitions own and the device region of their memory (R358, R425, R490), and entries in force since the
last restart. -/

namespace Sys2Proof.Machine

open Sys2Proof

/-! Partitions. -/

/-- The partitions 1 to 8. -/
def userPartitions : List Nat := [1, 2, 3, 4, 5, 6, 7, 8]

/-- The state of a user partition: 0 OFF, 1 STARTING, 2 LIVE, 3 STOPPING, 4 SCRUBBING (R375). -/
def State.partState (s : State) (p : Nat) : Nat := s.n (Entry.partState p)

/-- Whether a user partition is STARTING or LIVE. -/
def State.partOpen (s : State) (p : Nat) : Bool := p ≠ 0 && (s.partState p = 1 || s.partState p = 2)

/-- Whether a bit of a DOMAIN map is set: bit i of byte i / 8 (R375). -/
def mapBit (b : Bytes) (i : Nat) : Bool := ((b.getD (i / 8) 0).toNat).testBit (i % 8)

/-- The members below `n` of a DOMAIN map. -/
def mapMembers (b : Bytes) (n : Nat) : List Nat := (List.range n).filter (mapBit b)

/-- The partition that a unit's Partition entry names, or the lowest one whose stored assignment names the unit (R358, R362;
DEDUCED, log entry 9). -/
def assignee (owner : Nat) (named : Nat → Bool) : Nat :=
  if owner ≠ 0 then owner else ((List.range 9).find? fun p => p ≠ 0 && named p).getD 0

/-- An Enable refused because the function's partition is not STARTING or LIVE: Enable returns to 0 and RefusedEnables
increments (R362). -/
def State.refuseEnable (s : State) (enable p : Nat) : State :=
  let t := s.setN enable 0
  if p = 0 then t else t.bump (Entry.partRefusedEnables p)

/-! The device region (R490). -/

/-- The bytes of a partition's device region; for partition 0 its whole range (log entry 10). -/
def State.deviceSize (s : State) (p : Nat) : Nat :=
  if p = 0 then s.memSize 0
  else s.memSize p - ((((s.partRt p).owned.map Owned.hostMiB).getD 0) * 2 ^ 20)

/-- The bytes of it that device buffers take. -/
def State.deviceUsed (s : State) (p : Nat) : Nat := (s.partRt p).deviceUse.foldl (fun a e => a + e.2) 0

/-- Whether the device region can hold `n` more bytes. -/
def State.deviceFits (s : State) (p n : Nat) : Bool := s.deviceUsed p + n ≤ s.deviceSize p

/-- Buffers taken from the device region under a tag. -/
def State.allocate (s : State) (p tag n : Nat) : State :=
  let r := s.partRt p
  s.setPartRt p { r with deviceUse := Assoc.put r.deviceUse tag n }

/-- The buffers of a tag given back. -/
def State.release (s : State) (p tag : Nat) : State :=
  let r := s.partRt p
  s.setPartRt p { r with deviceUse := Assoc.drop r.deviceUse tag }

/-- The tags of device buffers: streams, pairs, flow of a stream, generation of a stream on a port, up-scaling and compose
buffers of a port, adaptation of a stream. -/
def tagStream (i : Nat) : Nat := 0x1000 + i
def tagPair (i : Nat) : Nat := 0x2000 + i
def tagFlow (i : Nat) : Nat := 0x3000 + i
def tagUpscale (n : Nat) : Nat := 0x4000 + n
def tagCompose (n : Nat) : Nat := 0x4100 + n
def tagAdaptRing (i : Nat) : Nat := 0x5000 + i
def tagVersions (i : Nat) : Nat := 0x6000 + i
def tagTraining (p : Nat) : Nat := 0x7000 + p
def tagGen (i n : Nat) : Nat := 0x10000 + 16 * i + n

/-- A length rounded up to a multiple of 256 bytes. -/
def to256 (n : Nat) : Nat := divCeil n 256 * 256

/-- Bytes of a stored picture of R83. -/
def frameBytes (w h : Nat) : Nat :=
  to256 (2 * w) * h + 2 * (to256 (2 * divCeil w 2) * divCeil h 2)

/-- Bytes of the motion records of a picture: 8 for each 8×8 block (R84). -/
def motionBytes (w h : Nat) : Nat := divCeil w 8 * divCeil h 8 * 8

/-! Entries that take effect at a restart. -/

/-- The value that an RWP entry had when the device last started (R55, R97, R469). -/
def State.inForce (s : State) (k : Nat) : Value := (Assoc.find s.boot.inForce k).getD (s.default k)

/-- The same as a number. -/
def State.inForceN (s : State) (k : Nat) : Nat := (s.inForce k).toInt.toNat

/-- The line counts of the raster ports that count, at given lines of their frames in progress (R29, R244). -/
def State.stamp (s : State) (lines : List Nat) : List (Nat × Nat) :=
  (List.range s.portCount).filterMap fun n =>
    if (s.portRt n).counting then some (n, s.lineCount n (lines.getD n 0)) else none

/-! Counters and windows shared by starts. -/

/-- Counters of a record back at 0. -/
def State.zero (s : State) (keys : List Nat) : State := keys.foldl (fun t k => t.setN k 0) s

end Sys2Proof.Machine
end

