-- ==== Sys2Proof/Machine/Intake.lean ====
section
/-! DEFINITION. Stream contexts: classification, reassembly, the jitter buffer, admission, pace ratios, and how a context
starts and stops (spec/03_stream_intake.md). -/

namespace Sys2Proof.Machine

open Sys2Proof

/-! Configuration and flags. -/

/-- The state of a context: 0 OFF, 1 STARTING, 2 LIVE, 3 STOPPING. -/
def State.streamState (s : State) (i : Nat) : Nat := s.n (Entry.streamState i)

/-- Whether a context is STARTING or LIVE. -/
def State.streamOpen (s : State) (i : Nat) : Bool := s.streamState i = 1 || s.streamState i = 2

/-- A configuration entry as the running context took it at its start; of an OFF context, as it stands (R94). -/
def State.cfg (s : State) (i k : Nat) : Value := (Assoc.find (s.ctx i).config k).getD (s.raw k)

/-- The same as a number. -/
def State.cfgN (s : State) (i k : Nat) : Nat := (s.cfg i k).toInt.toNat

/-- The same as bytes. -/
def State.cfgB (s : State) (i k : Nat) : Bytes := (s.cfg i k).toBytes

/-- The configuration entries that a context takes at its start. -/
def streamConfigKeys (i : Nat) : List Nat :=
  [Entry.streamSource i, Entry.streamSrcAddress i, Entry.streamDstAddress i, Entry.streamSrcPort i,
   Entry.streamDstPort i, Entry.streamSsrc i, Entry.streamSsrcMode i, Entry.streamPayloadType i,
   Entry.streamVirtualChannel i, Entry.streamDataType i, Entry.streamBayerOrder i, Entry.streamMaxWidth i,
   Entry.streamMaxHeight i, Entry.streamMaxFrameRate i, Entry.streamJitterDepth i, Entry.streamMaxAuBytes i,
   Entry.streamDecodedFrames i, Entry.streamNoDataTimeout i, Entry.streamColourMatrix i]

/-- A flag of R96. -/
def State.streamFlag (s : State) (i bit : Nat) (on : Bool) : State := s.setFlag (Entry.streamFlags i) bit on

/-- Whether a flag of R96 is set. -/
def State.hasFlag (s : State) (i bit : Nat) : Bool := (s.n (Entry.streamFlags i)).testBit bit

/-- Flag bits of R96. -/
def flagLossy : Nat := 0
def flagOverrun : Nat := 1
def flagFormat : Nat := 2
def flagTainted : Nat := 3
def flagNoData : Nat := 4
def flagClock : Nat := 5
def flagSsrc : Nat := 6
def flagSuspended : Nat := 7

/-! Admission (R87, R88). -/

/-- The declared load of a context in samples/s (R87). -/
def State.declaredLoad (s : State) (i : Nat) : Nat :=
  s.cfgN i (Entry.streamMaxWidth i) * s.cfgN i (Entry.streamMaxHeight i) * s.cfgN i (Entry.streamMaxFrameRate i)

/-- Whether a context takes RTP packets from an Ethernet port. -/
def State.isEthernet (s : State) (i : Nat) : Bool := s.cfgN i (Entry.streamSource i) < 4

/-- The Ethernet contexts that are not OFF. -/
def State.loadedStreams (s : State) : List Nat :=
  (List.range 512).filter fun i => s.streamState i ≠ 0 && s.isEthernet i

/-- Decode capacity: unfenced slices times 727 Msample/s (R81, R87). -/
def State.decodeCapacity (s : State) : Nat :=
  ((List.range 8).filter fun d => !s.fenced ⟨.slice, d⟩).length * 727000000

/-- DeclaredLoad, Capacity and SuspendedStreams (R97); the load in Msample/s is rounded down (log entry 7). -/
def State.decodeTotals (s : State) : State :=
  let load := s.loadedStreams.foldl (fun a i => a + s.declaredLoad i) 0
  let t := s.setN Entry.decodeDeclaredLoad (load / 1000000)
  let t := t.setN Entry.decodeCapacity (s.decodeCapacity / 1000000)
  t.setN Entry.decodeSuspendedStreams (((List.range 512).filter fun i => s.hasFlag i flagSuspended).length)

/-- The load of the contexts that are not suspended. -/
def State.activeLoad (s : State) : Nat :=
  (s.loadedStreams.filter fun i => !s.hasFlag i flagSuspended).foldl (fun a i => a + s.declaredLoad i) 0

/-- Suspension until the load fits: lowest DecodePriority first, then the highest number (R88). -/
def State.suspendDecode (s : State) : State :=
  let order := sortBy (fun i => (s.n (Entry.streamDecodePriority i) : Int) * 512 + (511 - (i : Int)))
    (s.loadedStreams.filter fun i => s.streamOpen i && !s.hasFlag i flagSuspended)
  let t := s.each order fun t i =>
    if t.activeLoad ≤ t.decodeCapacity then t else t.streamFlag i flagSuspended true
  -- released access units are discarded, those on a slice once it ends
  let t := { t with
    released := t.released.filter fun j => !t.hasFlag j.stream flagSuspended
    slices := t.slices.map fun (e : Nat × SliceJob) => (e.1, { e.2 with discard := e.2.discard || t.hasFlag e.2.stream flagSuspended }) }
  t.decodeTotals

/-- Resumption: highest priority first, then the lowest number, each that still fits; tainted until an IRAP picture (R88). -/
def State.resumeDecode (s : State) : State :=
  let order := sortBy (fun i => (255 - (s.n (Entry.streamDecodePriority i) : Int)) * 512 + (i : Int))
    ((List.range 512).filter fun i => s.hasFlag i flagSuspended)
  let t := s.each order fun t i =>
    if t.activeLoad + t.declaredLoad i ≤ t.decodeCapacity then
      (t.streamFlag i flagSuspended false).streamFlag i flagTainted true
    else t
  t.decodeTotals

/-- The buffers of a context (R85). -/
def State.streamBytes (s : State) (i : Nat) : Nat :=
  let w := s.n (Entry.streamMaxWidth i)
  let h := s.n (Entry.streamMaxHeight i)
  s.n (Entry.streamDecodedFrames i) * (frameBytes w h + motionBytes w h) +
    s.n (Entry.streamJitterDepth i) * s.n (Entry.streamMaxAuBytes i)

/-! Membership reports (R66). -/

/-- Whether an address in the form of R70 is a multicast address: ff00::/8, or 224.0.0.0/4 mapped. -/
def isMulticast (a : Bytes) : Bool :=
  a.getD 0 0 = 0xFF ||
    (a.take 12 == List.replicate 10 0 ++ [0xFF, 0xFF] && (a.getD 12 0).toNat / 16 = 14)

/-- The multicast destinations of the contexts of a port that are STARTING or LIVE. -/
def State.membership (s : State) (e : Nat) : List Bytes :=
  (((List.range 512).filter fun i => s.streamOpen i && s.cfgN i (Entry.streamSource i) = e).map
    fun i => s.cfgB i (Entry.streamDstAddress i)).filter isMulticast |>.eraseDups

/-- A membership report of a port, where IgmpEnable allows it and the port runs: output kind 3. -/
def State.reportMembership (s : State) (e : Nat) : State :=
  if s.inForceN (Entry.ethIgmpEnable e) = 1 && s.n (Entry.ethLinkState e) = 1 then
    s.emit (.ethernet e 3 (joinBytes (s.membership e)))
  else s

/-- Reports on the ports whose set differs from that of an earlier state. -/
def State.membershipChanged (s old : State) : State :=
  s.each (List.range 4) fun t e => if s.membership e = old.membership e then t else t.reportMembership e

/-! Start and stop (R87, R94, R425). -/

/-- The partition of a context, or the one whose StreamMap names it. -/
def State.streamPartition (s : State) (i : Nat) : Nat :=
  assignee (s.n (Entry.streamPartition i)) fun p => mapBit (s.b (Entry.partStreamMap p)) i

/-- The start checks of R87 in order: 1 decode capacity, 2 memory; 0 none fails. -/
def State.streamStartError (s : State) (i : Nat) : Nat :=
  let p := s.streamPartition i
  let fresh := s.setCtx i {}
  let load := (s.loadedStreams.filter fun j => j ≠ i).foldl (fun a j => a + s.declaredLoad j) 0
  if fresh.isEthernet i && load + fresh.declaredLoad i > s.decodeCapacity then 1
  else if !s.deviceFits p (s.streamBytes i) then 2
  else 0

/-- A context that enters STARTING: its configuration taken, its buffers allocated, its counters and flags at 0. -/
def State.streamBegin (s : State) (i : Nat) : State :=
  let t := s.setCtx i { config := (streamConfigKeys i).map fun k => (k, s.raw k) }
  let t := t.allocate (s.streamPartition i) (tagStream i) (s.streamBytes i)
  let t := t.zero [Entry.streamPacketsReceived i, Entry.streamPacketsDropped i, Entry.streamFramesTrue i,
    Entry.streamFramesLossy i, Entry.streamFlags i, Entry.streamStartError i, Entry.streamPaceRatio i,
    Entry.streamRatioState i, Entry.streamPendingStart i]
  let t := t.setN (Entry.streamEnable i) 1
  (t.setN (Entry.streamState i) 1).decodeTotals

/-- A start after its checks: STARTING, or OFF with Enable 0 and StartError (R87, R425). -/
def State.streamStart (s : State) (i : Nat) : State :=
  let e := s.streamStartError i
  let t := if e = 0 then s.streamBegin i
    else
      ((s.zero [Entry.streamEnable i, Entry.streamPendingStart i]).setN (Entry.streamStartError i) e).setN
        (Entry.streamState i) 0
  t.membershipChanged s

/-- Enable 1 (R94, R362, R425): refused where the partition is not STARTING or LIVE; a start from OFF; a pending start in
STOPPING; nothing while it runs. -/
def State.streamEnableOn (s : State) (i : Nat) : State :=
  let p := s.streamPartition i
  if s.streamOpen i then s.setN (Entry.streamEnable i) 1
  else if !s.partOpen p then s.refuseEnable (Entry.streamEnable i) p
  else if s.streamState i = 3 then (s.setN (Entry.streamEnable i) 1).setN (Entry.streamPendingStart i) 1
  else s.streamStart i

/-- The intake's part of a stop: STOPPING, pictures in decoding ended, pace ratios cleared (R94). -/
def State.streamStopIntake (s : State) (i : Nat) : State :=
  if s.streamOpen i then
    let c := s.ctx i
    let t := s.setCtx i { c with units := [], ratios := [], releasedTs := none }
    let t := { t with
      released := t.released.filter fun j => j.stream ≠ i
      slices := t.slices.filter fun e => e.2.stream ≠ i
      csi := t.csi.map fun (e : Nat × CsiPort) => (e.1, { e.2 with frames := e.2.frames.filter fun f => f.stream ≠ i }) }
    let t := t.each (List.range 8) fun t d =>
      if ((Assoc.find s.slices d).map SliceJob.stream) == some i then
        (if t.n (Entry.sliceState d) = 1 then t.setN (Entry.sliceState d) 0 else t) else t
    let t := t.zero [Entry.streamEnable i, Entry.streamPaceRatio i, Entry.streamRatioState i]
    let t := t.streamFlag i flagSuspended false
    ((t.setN (Entry.streamState i) 3).decodeTotals).membershipChanged s
  else if s.streamState i = 3 then s.zero [Entry.streamEnable i, Entry.streamPendingStart i]
  else s.setN (Entry.streamEnable i) 0

/-- The end of a stop: buffers freed, OFF, contexts resumed that now fit (R88; DEDUCED, log entry 91), or the pending start after its
checks (R94, R425) (DEDUCED, log entry 70). -/
def State.streamStopped (s : State) (i : Nat) : State :=
  if s.streamState i = 3 then
    let t := (s.release (s.streamPartition i) (tagStream i)).setCtx i {}
    let t := (t.setN (Entry.streamState i) 0).resumeDecode
    if s.on (Entry.streamPendingStart i) then
      if t.partOpen (t.streamPartition i) then t.streamStart i
      else (t.setN (Entry.streamPendingStart i) 0).refuseEnable (Entry.streamEnable i) (t.streamPartition i)
    else t
  else s

/-! Packets (R70 to R75). -/

/-- A wrapping counter extended beyond its `w` bits: the value nearest to the last one (R74). -/
def extend (w : Nat) (last : Option Nat) (v : Nat) : Nat :=
  match last with
  | none => 2 ^ w + v
  | some l =>
    let base := l / 2 ^ w * 2 ^ w
    let c := base + v
    if c + 2 ^ (w - 1) < l then c + 2 ^ w
    else if l + 2 ^ (w - 1) ≤ c && 2 ^ w ≤ c then c - 2 ^ w
    else c

/-- The conditions of R70 on addresses, ports and the RTP header. -/
def State.addressed (s : State) (i e : Nat) (u : UdpPacket) (r : RtpPacket) : Bool :=
  s.cfgN i (Entry.streamSource i) = e && s.cfgN i (Entry.streamDstPort i) = u.dstPort.toNat &&
    s.cfgB i (Entry.streamDstAddress i) == u.dstAddr &&
    (s.cfgB i (Entry.streamSrcAddress i) == u.srcAddr || (s.cfgB i (Entry.streamSrcAddress i)).all (· = 0)) &&
    (s.cfgN i (Entry.streamSrcPort i) = u.srcPort.toNat || s.cfgN i (Entry.streamSrcPort i) = 0) &&
    r.version = 2 && s.cfgN i (Entry.streamPayloadType i) = r.payloadType.toNat

/-- The SSRC condition (R71): equal in mode 0; in mode 1 the taken one, none taken yet, or 500 ms without it. -/
def State.ssrcFits (s : State) (i ssrc ms : Nat) : Bool :=
  if s.cfgN i (Entry.streamSsrcMode i) = 0 then s.cfgN i (Entry.streamSsrc i) = ssrc
  else
    match (s.ctx i).ssrc with
    | none => true
    | some x => x = ssrc || (s.ctx i).lastMs + 500 ≤ ms

/-- The piece codes of a payload: 0 a whole NAL unit or several, 1 the first piece of one, 2 a middle one, 3 the last; none
for a payload that is dropped (R73). -/
def pieceOf (n : NalPacket) : Option (Nat × List Nat) :=
  match n with
  | .single t => if 48 ≤ t then none else some (0, [t])
  | .aggregation ts => if ts.any (48 ≤ ·) then none else some (0, ts)
  | .fragment t start stop => if 48 ≤ t then none else some (if start then 1 else if stop then 3 else 2, [t])
  | .paci => none
  | .reserved _ => none

/-- Whether pieces in sequence order form whole NAL units (R74). -/
def piecesClosed (codes : List Nat) (inside : Bool) : Bool :=
  match codes with
  | [] => !inside
  | 0 :: r => !inside && piecesClosed r false
  | 1 :: r => !inside && piecesClosed r true
  | 2 :: r => inside && piecesClosed r true
  | _ :: r => inside && piecesClosed r false

/-- Whether an access unit is complete: every sequence number after the previous marker up to its own, and every fragmented
NAL unit whole (R74). -/
def AccessUnit.spans (u : AccessUnit) (prev : Option Nat) : Bool :=
  match prev, u.markerSeq with
  | some p, some m =>
    p < m && u.pkts.length = m - p && u.pkts.all (fun e => p < e.1 && e.1 ≤ m) &&
      piecesClosed ((sortBy (fun e => (e.1 : Int)) u.pkts).map Prod.snd) false
  | _, _ => false

/-- The units of a jitter buffer with those that have become complete marked and stamped (R76, R86 step 1). -/
def markComplete (prev : Option Nat) (stamp : List (Nat × Nat)) (l : List AccessUnit) : List AccessUnit :=
  match l with
  | [] => []
  | u :: r =>
    (if !u.complete && !u.lossy && u.spans prev then { u with complete := true, arrival := stamp } else u) ::
      markComplete u.markerSeq stamp r

/-- The units with a packet added to that of its timestamp, in timestamp order, and whether it was; a packet that is a duplicate or late or
would exceed the largest size is not, but a marker among them still tells where the next unit begins (R74, R75). -/
def addPacket (l : List AccessUnit) (ts seq piece bytes limit : Nat) (types : List Nat) (marker : Bool) :
    Bool × List AccessUnit :=
  match l.find? fun u => u.timestamp = ts with
  | none =>
    let u : AccessUnit :=
      { timestamp := ts, pkts := [(seq, piece)], bytes := bytes, nalTypes := types
        markerSeq := if marker then some seq else none }
    if limit < bytes then (false, insertBy (fun u => (u.timestamp : Int)) { u with pkts := [], bytes := 0, nalTypes := [], lossy := true } l)
    else (true, insertBy (fun u => (u.timestamp : Int)) u l)
  | some u =>
    let replace := fun v => l.map fun x => if x.timestamp = ts then v else x
    let ended : AccessUnit := { u with markerSeq := if marker && !u.complete then some seq else u.markerSeq }
    if u.lossy || u.complete || u.pkts.any (fun e => e.1 = seq) then (false, replace ended)
    else if limit < u.bytes + bytes then (false, replace { ended with lossy := true })
    else
      (true, replace
        { u with
          pkts := (seq, piece) :: u.pkts, bytes := u.bytes + bytes, nalTypes := u.nalTypes ++ types
          markerSeq := if marker then some seq else u.markerSeq })

/-! Release (R75, R86 step 2). -/

/-- Whether the access unit carries an IRAP picture: a slice NAL unit of an IDR, CRA or BLA picture (R78). -/
def AccessUnit.irap (u : AccessUnit) : Bool := u.nalTypes.any fun t => 16 ≤ t && t ≤ 21

/-- The oldest access unit released to the slice queue, complete or lossy (R75).  A suspended context discards it (R88); so
does a context before its first complete IRAP picture, unless the unit is one (R94). -/
def State.releaseOldest (s : State) (i : Nat) : State :=
  let c := s.ctx i
  match c.units with
  | [] => s
  | u :: rest =>
    let c' := { c with units := rest, marker := u.markerSeq, releasedTs := some u.timestamp, unitCount := c.unitCount + 1 }
    let u' := { u with lossy := !u.complete }
    if s.hasFlag i flagSuspended then s.setCtx i c'
    else if !c.sawIrap && !(u.complete && u.irap) then s.setCtx i c'
    else
      let t := s.setCtx i { c' with sawIrap := true }
      { t with released := t.released ++ [{ stream := i, order := c.unitCount, unit := u' }] }

/-- Whether the oldest access unit of a context is to be released as lossy: its next packet exceeded the largest size, or packets of
JitterDepth later units have arrived (R75). -/
def State.releaseIsDue (s : State) (i : Nat) : Bool :=
  match (s.ctx i).units with
  | [] => false
  | u :: rest => !u.complete && (u.lossy || s.cfgN i (Entry.streamJitterDepth i) ≤ rest.length)

/-- Such units released, oldest first; `fuel` bounds their number. -/
def State.releaseDue (s : State) (i fuel : Nat) : State :=
  match fuel with
  | 0 => s
  | fuel + 1 => if s.releaseIsDue i then (s.releaseOldest i).releaseDue i fuel else s

/-- A released access unit and those that it held back (R75). -/
def State.releases (s : State) (i : Nat) : State :=
  let t := s.releaseOldest i
  t.releaseDue i (t.ctx i).units.length

/-! Pace ratios (R93). -/

/-- The tick rate of a stream: 90 kHz, or MaxFrameRate for a CSI-2 source (R93). -/
def State.tickRate (s : State) (i : Nat) : Nat :=
  if s.isEthernet i then 90000 else s.cfgN i (Entry.streamMaxFrameRate i)

/-- The nominal ratio against a port as 16.16, to the nearest, ties upward (R93; the rounding is a DESIGN CHOICE, log entry
7). -/
def State.nominalRatio (s : State) (i n : Nat) : Nat :=
  let t := s.timing n
  divRoundUp (s.tickRate i * t.hTotal * t.vTotal * 2 ^ 16) t.pixelClock

/-- The line position of a timestamp by a ratio, before the phase, in 1/65,536 line, rounded down (DESIGN CHOICE, log entry 7). -/
def ratioPosition (ratio vTotal ts : Nat) : Int := if ratio = 0 then 0 else ((ts * vTotal * 2 ^ 32 / ratio : Nat) : Int)

/-- The least of arrival less position over a history, in 1/65,536 line (R93). -/
def ratioPhase (ratio vTotal : Nat) (h : List (Nat × Nat)) : Int :=
  match h.map fun e => (e.2 : Int) * 2 ^ 16 - ratioPosition ratio vTotal e.1 with
  | [] => 0
  | x :: r => r.foldl (fun a b => if b < a then b else a) x

/-- One true frame's update of a ratio: timestamp, arrival in the port's lines (R93).  The ratio is rounded to nearest, ties upward, and a
measurement over no lines is ignored (DESIGN CHOICE, log entry 7). -/
def Ratio.update (r : Ratio) (nominal vTotal ts arrival : Nat) : Ratio :=
  let k := r.count
  let w := min k 256
  let h := (ts, arrival) :: r.history.take 256
  let fresh : Ratio := { r with ratio := if k = 0 then nominal else r.ratio, count := k + 1, history := h }
  let next : Ratio :=
    if k < 16 then { fresh with state := if k < 15 then 0 else 1, run := 0, ignored := false }
    else
      match h[w]? with
      | none => fresh
      | some (t0, a0) =>
        -- r_meas = (ts − t0) · vTotal / (arrival − a0), kept as a fraction
        let num : Int := ((ts : Int) - t0) * vTotal * 2 ^ 16
        let den : Int := (arrival : Int) - a0
        if den ≤ 0 then { fresh with state := 1, run := 0, ignored := true }
        else if (num - nominal * den).natAbs * 1000 > nominal * den.natAbs then
          { fresh with state := 1, run := 0, ignored := true }
        else
          let old : Int := fresh.ratio
          let close := (num - old * den).natAbs * 1000000 < 20 * fresh.ratio * den.natAbs
          let run := if close then min (fresh.run + 1) 64 else 0
          -- r + (r_meas − r) / 16, to the nearest 1/65,536, ties upward
          let new := (2 * (15 * old * den + num) + 16 * den) / (32 * den)
          { fresh with ratio := new.toNat, run := run, state := if 64 ≤ run then 2 else 1, ignored := false }
  { next with phase := ratioPhase next.ratio vTotal (h.take (w + 1)) }

/-- The line count of a port that a ratio predicts for a timestamp, in 1/65,536 line (R93). -/
def Ratio.predict (r : Ratio) (vTotal ts : Nat) : Int := ratioPosition r.ratio vTotal ts + r.phase

/-- The streams of the camera layers of a port's applied table (R238). -/
def layerStreams (table : Bytes) : List Nat :=
  ((List.range (table.length / 32)).filterMap fun i =>
    let d := field table (32 * i) 32
    if bits d 254 2 = 1 then some (bits d 245 9) else none).eraseDups

/-- The display ports of a stream: those of its partition that count and show it (R30, R93). -/
def State.displayPorts (s : State) (i : Nat) : List Nat :=
  let p := s.streamPartition i
  (List.range s.portCount).filter fun n =>
    (s.portRt n).counting && s.n (Entry.portPartition n) = p && (layerStreams (s.portRt n).applied).contains i

/-- The ports against which a stream has a pace ratio: the anchor port of its partition and those that show it (R30). -/
def State.ratioPorts (s : State) (i : Nat) : List Nat :=
  (List.range s.portCount).filter fun n =>
    ((s.portRt n).counting && s.anchorPort (s.streamPartition i) = some n) || (s.displayPorts i).contains n

/-- A stream's ratio against a port; at its nominal value before the first true frame. -/
def State.ratioOf (s : State) (i n : Nat) : Ratio :=
  (Assoc.find (s.ctx i).ratios n).getD { ratio := s.nominalRatio i n }

/-- PaceRatios: the ratio against each display port, none while the context is not open (R93, R95). -/
def State.paceRatios (s : State) (i : Nat) : Bytes :=
  if s.streamOpen i then joinBytes ((s.displayPorts i).map fun n => leBytes 4 n ++ leBytes 4 (s.ratioOf i n).ratio) else []

/-- PaceRatio and RatioState against the master port, and ClockOutOfRange (R93, R95, R96). -/
def State.showRatios (s : State) (i : Nat) : State :=
  match s.anchorPort (s.streamPartition i) with
  | none => s
  | some a =>
    let r := s.ratioOf i a
    ((s.setN (Entry.streamPaceRatio i) r.ratio).setN (Entry.streamRatioState i) r.state).streamFlag i flagClock r.ignored

/-- The update of every pace ratio of a stream at a true frame with arrival stamps (R93). -/
def State.updateRatios (s : State) (i ts : Nat) (arrival : List (Nat × Nat)) : State :=
  let c := s.ctx i
  let ratios := (s.ratioPorts i).filterMap fun n =>
    match Assoc.find arrival n with
    | none => (Assoc.find c.ratios n).map fun r => (n, r)
    | some a => some (n, (s.ratioOf i n).update (s.nominalRatio i n) (s.timing n).vTotal ts a)
  (s.setCtx i { c with ratios := ratios }).showRatios i

/-- The ratios against a port that no longer counts: they start at nominal when it counts again (R30, R77, R93). -/
def State.dropRatios (s : State) (n : Nat) : State :=
  s.each ((List.range 512).filter fun i => (Assoc.find (s.ctx i).ratios n).isSome) fun t i =>
    let c := t.ctx i
    let t := t.setCtx i { c with ratios := Assoc.drop c.ratios n }
    if t.anchorPort (t.streamPartition i) = some n then t.showRatios i else t

/-! Acceptance (R70 to R73). -/

/-- A re-latch (R71): the access units of the old stream leave the jitter buffer at once, the incomplete ones as lossy (DEDUCED, log entry
47), SsrcChanged, waiting for an IRAP picture, the pace ratio at its nominal value. -/
def State.relatch (s : State) (i : Nat) : State :=
  let t := s.each (s.ctx i).units fun t _ => t.releaseOldest i
  let t := t.setCtx i
    { t.ctx i with units := [], aligned := false, marker := none, lastSeq := none, lastTs := none, releasedTs := none, trueTs := none, ratios := [] }
  let t := (t.streamFlag i flagSsrc true).streamFlag i flagTainted true
  (t.setN (Entry.streamRatioState i) 0).showRatios i

/-- The port line counts at which what completes now arrives: none while the partition has no anchor port (R76, R77). -/
def State.arrivalNow (s : State) (i : Nat) (lines : List Nat) : List (Nat × Nat) :=
  match s.anchorPort (s.streamPartition i) with
  | none => []
  | some a => if (s.portRt a).counting then s.stamp lines else []

/-- A packet accepted by a context (R71, R73 to R76, R80): counted, added to its access unit or dropped, completions stamped; the marker
packet of the unit last released still tells where the next one begins. -/
def State.acceptPacket (s : State) (i : Nat) (r : RtpPacket) (piece : Nat) (types : List Nat) (ms : Nat) (lines : List Nat) : State :=
  let ssrc := r.ssrc.toNat
  let changed := s.cfgN i (Entry.streamSsrcMode i) = 1 && (match (s.ctx i).ssrc with | none => false | some x => x ≠ ssrc)
  let t := if changed then s.relatch i else s
  let t := if s.cfgN i (Entry.streamSsrcMode i) = 1 then t.setN (Entry.streamSsrc i) ssrc else t
  let c := t.ctx i
  let seq := extend 16 c.lastSeq r.seq.toNat
  let ts := extend 32 c.lastTs r.timestamp.toNat
  let c := { c with ssrc := some ssrc, lastMs := ms, lastSeq := some seq, lastTs := some ts }
  let t := (t.setCtx i c).bump (Entry.streamPacketsReceived i)
  let t := t.streamFlag i flagNoData false
  let stamp := t.arrivalNow i lines
  let late := match c.releasedTs with | none => false | some x => ts ≤ x
  if !c.aligned then
    if r.marker then t.setCtx i { c with aligned := true, marker := some seq, releasedTs := some ts } else t
  else if late then
    let ends := r.marker && c.releasedTs = some ts && c.marker.isNone
    let t := if ends then t.setCtx i { c with marker := some seq, units := markComplete (some seq) stamp c.units } else t
    t.bump (Entry.streamPacketsDropped i)
  else
    let (kept, units) := addPacket c.units ts seq piece r.bytes (t.cfgN i (Entry.streamMaxAuBytes i)) types r.marker
    let t := t.setCtx i { c with units := markComplete c.marker stamp units }
    let t := if kept then t else t.bump (Entry.streamPacketsDropped i)
    t.releaseDue i units.length

/-- A packet of a context: one of a payload format that is not supported is dropped and counted, and is not accepted (R73; DEDUCED,
log entry 46). -/
def State.takePacket (s : State) (i : Nat) (r : RtpPacket) (ms : Nat) (lines : List Nat) : State :=
  match pieceOf r.payload with
  | none => s.bump (Entry.streamPacketsDropped i)
  | some (piece, types) => s.acceptPacket i r piece types ms lines

/-- The RTP packet of a datagram offered to the contexts: the lowest-numbered one that fits takes it; a context that is not running, or that
holds another SSRC in mode 1, counts it as dropped, the lowest-numbered of several (DESIGN CHOICE, log entry 90); else it is Unmatched (R70
to R72). -/
def State.classify (s : State) (e : Nat) (u : UdpPacket) (r : RtpPacket) (ms : Nat) (lines : List Nat) : State :=
  let named := (List.range 512).filter fun i => s.addressed i e u r
  match named.find? fun i => s.streamOpen i && s.ssrcFits i r.ssrc.toNat ms with
  | some i => s.takePacket i r ms lines
  | none =>
    match named.find? fun i => s.ssrcFits i r.ssrc.toNat ms || s.cfgN i (Entry.streamSsrcMode i) = 1 with
    | some i => s.bump (Entry.streamPacketsDropped i)
    | none => s.bump (Entry.ethUnmatched e)

/-! Loss (R78). -/

/-- A lossy frame or dropped picture of a context: counted, tainted where it breaks the references, the up-scaling history
reset (R78, R82). -/
def State.loseFrame (s : State) (i : Nat) (lossyFrame taint : Bool) : State :=
  let t := s.bump (Entry.streamFramesLossy i)
  let t := if lossyFrame then t.streamFlag i flagLossy true else t
  let t := if taint then t.streamFlag i flagTainted true else t
  let c := t.ctx i
  t.setCtx i { c with resetOrdinal := c.trueCount, lastTrue := false }

/-- The pictures of a context on slices. -/
def State.decodingOf (s : State) (i : Nat) : Nat := (s.slices.filter fun e => e.2.stream = i).length

end Sys2Proof.Machine
end

