-- ==== Sys2Proof/Machine/Csi.lean ====
section
/-! DEFINITION. The CSI-2 converter: lines of RAW, YUV422 and RGB888 samples to planar 10-bit YCbCr 4:2:0 (R83, R92). -/

namespace Sys2Proof.Machine

open Sys2Proof

/-- The element of a row, the nearest one inside where the index lies outside (repeat-edge). -/
def edgeAt (row : List Nat) (x : Int) : Nat := row.getD (clampInt 0 (row.length - 1) x).toNat 0

/-- The element of a plane with repeat-edge. -/
def planeAt (p : List (List Nat)) (x y : Int) : Nat := edgeAt (p.getD (clampInt 0 (p.length - 1) y).toNat []) x

/-- The mean of two samples, ties to even (R92). -/
def mean2 (a b : Nat) : Nat := rneShift (a + b) 1

/-- The rows of a plane averaged in vertical pairs (R92); a last odd row stands alone (DESIGN CHOICE, log entry 89). -/
def pairRows (rows : List (List Nat)) : List (List Nat) :=
  match rows with
  | a :: b :: r => (a.zip b).map (fun e => mean2 e.1 e.2) :: pairRows r
  | [a] => [a]
  | [] => []

/-- Every fourth component of a line, from one offset: Cb, Y, Cr, Y in the order of transmission. -/
def everyNth (n o : Nat) (l : List Nat) : List Nat :=
  (List.range (l.length / n)).map fun i => l.getD (n * i + o) 0

/-- The luma of a YUV422 line: the second and fourth of each four components. -/
def yuvLuma (l : List Nat) : List Nat := (List.range (l.length / 2)).map fun i => l.getD (2 * i + 1) 0

/-- A YUV422 frame; 8-bit samples shifted left by 2 bits (R92) (PRESUMED, log entry 69). -/
def convertYuv (lines : List (List Nat)) (shift : Nat) : Picture :=
  let sc := fun (l : List Nat) => l.map (· * 2 ^ shift)
  let luma := lines.map fun l => sc (yuvLuma l)
  { width := (luma.headD []).length, height := lines.length, luma := luma
    cb := pairRows (lines.map fun l => sc (everyNth 4 0 l)), cr := pairRows (lines.map fun l => sc (everyNth 4 2 l)) }

/-- A row of ColourMatrix applied to (R, G, B): products and sums in FP32 in the order written, then the 10-bit level (R92). -/
def matrixRow (m : Bytes) (row : Nat) (r g b : Nat) : Nat :=
  let c := fun i => field m (4 * i) 4
  let v := f32Add (f32Add (f32Add (f32Mul (c (3 * row)) r) (f32Mul (c (3 * row + 1)) g)) (f32Mul (c (3 * row + 2)) b))
    (c (9 + row))
  ((f32 v).toIntSat 0 1023).toNat

/-- A frame of (R, G, B) triples, each component an FP32 code scaled to 0 to 1, through ColourMatrix (R92). -/
def convertRgb (m : Bytes) (rows : List (List (Nat × Nat × Nat))) : Picture :=
  let plane := fun k => rows.map fun (row : List (Nat × Nat × Nat)) => row.map fun e => matrixRow m k e.1 e.2.1 e.2.2
  -- halved across, which R92 does not state, then averaged in vertical pairs
  let half := fun (p : List (List Nat)) =>
    pairRows (p.map fun (row : List Nat) => (List.range (divCeil row.length 2)).map fun x =>
      (Config.chroma422 (edgeAt row ((2 * x : Nat) : Int)) (edgeAt row ((2 * x + 1 : Nat) : Int))).toNat)
  { width := (rows.headD []).length, height := rows.length, luma := plane 0, cb := half (plane 1), cr := half (plane 2) }

/-- The colour at a pixel of a Bayer order: 0 red, 1 green, 2 blue (BayerOrder 0 RGGB, 1 GRBG, 2 GBRG, 3 BGGR; R95). -/
def bayerColour (order x y : Nat) : Nat :=
  let i := x % 2 + 2 * (y % 2)
  match order with
  | 0 => [0, 1, 1, 2].getD i 0
  | 1 => [1, 0, 2, 1].getD i 0
  | 2 => [1, 2, 0, 1].getD i 0
  | _ => [2, 1, 1, 0].getD i 0

/-- The neighbours from which bilinear demosaicing takes a colour: for green the four in the row and the column, else the eight around. -/
def bayerRing (colour : Nat) : List (Int × Int) :=
  if colour = 1 then [(0, -1), (-1, 0), (1, 0), (0, 1)]
  else [(-1, -1), (0, -1), (1, -1), (-1, 0), (1, 0), (-1, 1), (0, 1), (1, 1)]

/-- A colour at a pixel of a RAW frame by bilinear demosaicing: the sample itself, or the mean of the nearest samples of
that colour; where one of them lies outside the picture the mean is not stated (R92). -/
def demosaic (rows : List (List Nat)) (order colour x y : Nat) : Nat :=
  let w := (rows.headD []).length
  let h := rows.length
  let here := fun (x y : Nat) => (rows.getD y []).getD x 0
  if bayerColour order x y = colour then f32OfInt (here x y)
  else
    -- two more in each coordinate keep the colour and the index above 0
    let wanted := (bayerRing colour).filter fun d =>
      bayerColour order ((x : Int) + 2 + d.1).toNat ((y : Int) + 2 + d.2).toNat = colour
    let near := wanted.filterMap fun d =>
      let x' := (x : Int) + d.1
      let y' := (y : Int) + d.2
      if 0 ≤ x' && x' < w && 0 ≤ y' && y' < h then some (here x'.toNat y'.toNat) else none
    if near.length < wanted.length then (Config.demosaicEdge near).toNat
    else f32Ratio (near.foldl (· + ·) 0 : Nat) near.length

/-- A received frame converted by the data type of its context (R92). -/
def convertCsi (dataType order : Nat) (m : Bytes) (lines : List (List Nat)) : Picture :=
  let raw := fun (scale : Int) =>
    convertRgb m <| (List.range lines.length).map fun y =>
      (List.range (lines.headD []).length).map fun x =>
        let c := fun k => f32Div (demosaic lines order k x y) (f32OfInt scale)
        (c 0, c 1, c 2)
  match dataType with
  | 0x1E => convertYuv lines 2
  | 0x1F => convertYuv lines 0
  | 0x24 => convertRgb m <| lines.map fun l =>
      -- RGB888 components travel blue, green, red
      (List.range (l.length / 3)).map fun x =>
        let c := fun k => f32Div (f32OfInt (l.getD (3 * x + k) 0 : Nat)) (f32OfInt 255)
        (c 2, c 1, c 0)
  | 0x2B => raw 1023
  | _ => raw 4095

/-- Pixels of a line by its data type: YUV422 has two components a pixel, RGB888 three, RAW one (R89). -/
def linePixels (l : CsiLine) : Nat :=
  match l.dataType with
  | 0x1E | 0x1F => l.codes.length / 2
  | 0x24 => l.codes.length / 3
  | _ => l.codes.length

end Sys2Proof.Machine
end

