-- ==== Sys2Proof/Machine/Stereo.lean ====
section
/-! DEFINITION. Stereo pairs and engines (R98 to R114, R120 to R122): matching to the bit, pairing, admission. -/

namespace Sys2Proof.Machine

open Sys2Proof

/-! Matching (R102 to R108). -/

/-- The parameters of a pair that its engine reads. -/
structure StereoConfig where
  minDisparity : Nat
  levels       : Nat
  lr           : Nat
  texture      : Nat
  p1           : Nat
  p2           : Nat
deriving DecidableEq, Repr

/-- The luma of a view rectified by its grid of `cols` nodes per row (R102): displacements in 1/16 pixel, interpolated bilinearly between nodes 64
pixels apart, the luma sampled bilinearly with repeat-edge, rounded once to nearest, ties to even. -/
def rectified (p : Picture) (cols : Nat) (grid : Bytes) (x y : Nat) : Nat :=
  if grid = [] then planeAt p.luma (x : Int) (y : Int)
  else
    let node := fun (i j k : Nat) => signed 16 (field grid (4 * (j * cols + i) + 2 * k) 2)
    let i := x / 64
    let j := y / 64
    let u : Int := ((x % 64 : Nat) : Int)
    let v : Int := ((y % 64 : Nat) : Int)
    -- displacement times 4,096, so positions are in units of 1/65,536 pixel
    let d := fun k => (node i j k * (64 - u) + node (i + 1) j k * u) * (64 - v) +
      (node i (j + 1) k * (64 - u) + node (i + 1) (j + 1) k * u) * v
    let px := (x : Int) * 65536 + d 0
    let py := (y : Int) * 65536 + d 1
    let x0 := px / 65536
    let y0 := py / 65536
    let fx := px % 65536
    let fy := py % 65536
    let s := fun (dx dy : Int) => ((planeAt p.luma (x0 + dx) (y0 + dy) : Nat) : Int)
    let sum := (s 0 0 * (65536 - fx) + s 1 0 * fx) * (65536 - fy) + (s 0 1 * (65536 - fx) + s 1 1 * fx) * fy
    rneShift sum.toNat 32

/-- The neighbours of the 9×7 census window, the centre left out (R103). -/
def censusOffsets : List (Int × Int) :=
  ((List.range 7).flatMap fun (j : Nat) => (List.range 9).map fun (i : Nat) => ((i : Int) - 4, (j : Int) - 3)).filter
    fun e => e ≠ (0, 0)

/-- Whether the census window of a pixel lies inside the image. -/
def windowInside (w h : Nat) (x y : Int) : Bool := 4 ≤ x && x + 4 < w && 3 ≤ y && y + 3 < h

/-- The census transform at a pixel: a bit is set where the neighbour is lower than the centre (R103). -/
def census (luma : Nat → Nat → Nat) (x y : Int) : List Bool :=
  censusOffsets.map fun e => luma (x + e.1).toNat (y + e.2).toNat < luma x.toNat y.toNat

/-- Differing positions of two lists. -/
def hamming (a b : List Bool) : Nat := ((a.zip b).filter fun e => e.1 ≠ e.2).length

/-- The matching cost of a left pixel at a disparity: 62 where the right window leaves the image (R103).  A left window that
leaves the image costs 62 too (DEDUCED from R107, log entry 11). -/
def matchCost (l r : Nat → Nat → Nat) (w h : Nat) (x y d : Nat) : Nat :=
  let xr := (x : Int) - d
  if windowInside w h (x : Int) (y : Int) && windowInside w h xr (y : Int) then
    hamming (census l (x : Int) (y : Int)) (census r xr (y : Int))
  else 62

/-- The least element of a list of costs. -/
def minCost (l : List Nat) : Nat := match l with | [] => 0 | x :: r => r.foldl min x

/-- One path's costs at a pixel, every candidate, from the pixel before it on the path (R104); `fuel` bounds the path. -/
def pathCosts (cost : Nat → Nat → List Nat) (w h p1 p2 : Nat) (rx ry : Int) (fuel : Nat) (x y : Nat) : List Nat :=
  match fuel with
  | 0 => cost x y
  | fuel + 1 =>
    let qx := (x : Int) - rx
    let qy := (y : Int) - ry
    if 0 ≤ qx && qx < w && 0 ≤ qy && qy < h then
      let prev := pathCosts cost w h p1 p2 rx ry fuel qx.toNat qy.toNat
      let m := minCost prev
      (List.range prev.length).map fun d =>
        let near := [prev.getD d 0, m + p2] ++ (if d = 0 then [] else [prev.getD (d - 1) 0 + p1]) ++
          (if d + 1 < prev.length then [prev.getD (d + 1) 0 + p1] else [])
        (cost x y).getD d 0 + minCost near - m
    else cost x y

/-- The eight path directions (R104). -/
def pathDirections : List (Int × Int) := [(1, 0), (-1, 0), (0, 1), (0, -1), (1, 1), (-1, -1), (1, -1), (-1, 1)]

/-- The aggregated costs S at a pixel (R104). -/
def aggregated (c : StereoConfig) (l r : Nat → Nat → Nat) (w h x y : Nat) : List Nat :=
  let cost := fun x y => (List.range c.levels).map fun k => matchCost l r w h x y (c.minDisparity + k)
  let p2 := max c.p1 c.p2
  let paths := pathDirections.map fun d => pathCosts cost w h c.p1 p2 d.1 d.2 (w + h) x y
  (List.range c.levels).map fun k => min 0xFFFF (paths.foldl (fun a p => a + p.getD k 0) 0)

/-- The position of the least element of a list, the lowest of equals. -/
def argMin (l : List Nat) : Nat :=
  let m := minCost l
  (l.findIdx? (· = m)).getD 0

/-- Division of integers to nearest, ties to even, for a positive divisor. -/
def rneDiv (a b : Int) : Int :=
  let q := a / b
  let r := a % b
  if 2 * r < b then q else if 2 * r = b && q % 2 = 0 then q else q + 1

/-- The sub-pixel offset in sixteenths at a level (R105). -/
def subPixel (sums : List Nat) (k : Nat) : Int :=
  if k = 0 || sums.length ≤ k + 1 then 0
  else
    let a : Int := sums.getD (k - 1) 0
    let b : Int := sums.getD k 0
    let c : Int := sums.getD (k + 1) 0
    let den := 2 * (a - 2 * b + c)
    if den = 0 then 0
    else
      let num := 16 * (a - c)
      clampInt (-8) 8 (if 0 < den then rneDiv num den else rneDiv (-num) (-den))

/-- The disparity code at a level (R105). -/
def disparityCode (c : StereoConfig) (sums : List Nat) (k : Nat) : Int :=
  16 * ((c.minDisparity + k : Nat) : Int) + subPixel sums k

/-- The right view's code at a right pixel: the disparity whose S at the left pixel is least, among those whose left pixel lies inside (R106);
none where none does. -/
def rightCode (c : StereoConfig) (sums : Nat → Nat → List Nat) (w x' y : Nat) : Option Int :=
  let vals := (List.range (min c.levels (w - (x' + c.minDisparity)))).map fun k =>
    (sums (x' + c.minDisparity + k) y).getD k 0xFFFF
  if vals.isEmpty then none else some (disparityCode c vals (argMin vals))

/-- The disparity word and the confidence of a pixel (R107, R108). -/
def stereoPixel (c : StereoConfig) (l r : Nat → Nat → Nat) (w h x y : Nat) : Nat × Nat :=
  let raw := (List.range c.levels).map fun k => matchCost l r w h x y (c.minDisparity + k)
  let sums := aggregated c l r w h x y
  let best := argMin sums
  let inside := ((List.range c.levels).filter fun k =>
    windowInside w h ((x : Int) - ((c.minDisparity + k : Nat) : Int)) (y : Int)).map fun k => raw.getD k 0
  let spread := (inside.foldl max 0) - minCost inside
  let code := disparityCode c sums best
  let xr := (x : Int) - ((c.minDisparity + best : Nat) : Int)
  let consistent :=
    if xr < 0 then false
    else
      match rightCode c (aggregated c l r w h) w xr.toNat y with
      | none => false
      | some rc => (code - rc).natAbs ≤ 16 * c.lr
  if !windowInside w h (x : Int) (y : Int) || raw.all (· = 62) then (0xFFF3, 0)
  else if best + 1 = c.levels || (best = 0 && 0 < c.minDisparity) then (0xFFF2, 0)
  else if spread < c.texture then (0xFFF0, 0)
  else if !consistent then (0xFFF1, 0)
  else
    let far := ((List.range c.levels).filter fun k => k + 2 ≤ best || best + 2 ≤ k).map fun k => sums.getD k 0
    let c1 := sums.getD best 0
    let c2 := minCost far
    (code.toNat, if c2 = 0 || far.length < 3 then 0 else 255 * (c2 - c1) / c2)

/-- The disparity and confidence planes of a pair frame (R105 to R108, R113). -/
def stereoMatch (c : StereoConfig) (cols : Nat) (left right : Picture) (gridL gridR : Bytes) : DepthMap :=
  let px := fun x y => stereoPixel c (rectified left cols gridL) (rectified right cols gridR) left.width left.height x y
  let plane := fun (f : Nat × Nat → Nat) =>
    (List.range left.height).map fun y => (List.range left.width).map fun x => f (px x y)
  { disparity := plane Prod.fst, confidence := plane Prod.snd }

/-! Pairs. -/

/-- The state of a pair: 0 OFF, 1 STARTING, 2 LIVE, 3 STOPPING. -/
def State.pairState (s : State) (p : Nat) : Nat := s.n (Entry.pairState p)

/-- Whether a pair is STARTING or LIVE. -/
def State.pairOpen (s : State) (p : Nat) : Bool := s.pairState p = 1 || s.pairState p = 2

/-- A configuration entry of a pair as taken at its start (R99). -/
def State.pairCfg (s : State) (p k : Nat) : Value := (Assoc.find (s.pairSt p).config k).getD (s.raw k)

/-- The same as a number. -/
def State.pairCfgN (s : State) (p k : Nat) : Nat := (s.pairCfg p k).toInt.toNat

/-- A flag of R122. -/
def State.pairFlag (s : State) (p bit : Nat) (on : Bool) : State := s.setFlag (Entry.pairFlags p) bit on

/-- Whether a pair is suspended (R101). -/
def State.pairSuspended (s : State) (p : Nat) : Bool := (s.n (Entry.pairFlags p)).testBit 4

/-- The left and right streams of a pair. -/
def State.pairLeft (s : State) (p : Nat) : Nat := s.pairCfgN p (Entry.pairLeftStream p)
def State.pairRight (s : State) (p : Nat) : Nat := s.pairCfgN p (Entry.pairRightStream p)

/-- Whether both streams of a pair are CSI-2 sources (R98). -/
def State.streamed (s : State) (p : Nat) : Bool := !s.isEthernet (s.pairLeft p) && !s.isEthernet (s.pairRight p)

/-- The load of a pair: that of its left stream (R100). -/
def State.pairLoad (s : State) (p : Nat) : Nat := s.declaredLoad (s.pairLeft p)

/-- The pairs that are not OFF. -/
def State.activePairs (s : State) : List Nat := (List.range 64).filter fun p => s.pairState p ≠ 0

/-- The streamed pairs pinned to an engine. -/
def State.pinned (s : State) (g : Nat) : List Nat :=
  s.activePairs.filter fun p => s.streamed p && s.pairCfgN p (Entry.pairEnginePin p) = g

/-- The rate of one stereo engine at the slow corner in pixels/s (R100). -/
def stereoRate : Nat := 363000000

/-- The capacity for memory pairs: unfenced engines without pinned pairs (R100). -/
def State.stereoCapacity (s : State) : Nat :=
  ((List.range 4).filter fun g => !s.fenced ⟨.stereo, g⟩ && (s.pinned g).isEmpty).length * stereoRate

/-- The load of the memory pairs that are not suspended. -/
def State.memoryPairLoad (s : State) : Nat :=
  (s.activePairs.filter fun p => !s.streamed p && !s.pairSuspended p).foldl (fun a p => a + s.pairLoad p) 0

/-- The totals of R123: engine modes and pinned loads, memory load and capacity, suspended pairs. -/
def State.stereoTotals (s : State) : State :=
  let t := s.each (List.range 4) fun t g =>
    let l := (s.pinned g).foldl (fun a p => a + s.pairLoad p) 0
    (t.setN (Entry.stereoMode g) (if (s.pinned g).isEmpty then 0 else 1)).setN (Entry.stereoPinnedLoad g) (l / 1000000)
  let mem := (s.activePairs.filter fun p => !s.streamed p).foldl (fun a p => a + s.pairLoad p) 0
  let t := t.setN Entry.visionStereoMemoryLoad (mem / 1000000)
  let t := t.setN Entry.visionStereoMemoryCapacity (s.stereoCapacity / 1000000)
  t.setN Entry.visionSuspendedPairs ((s.activePairs.filter s.pairSuspended).length)

/-! Streamed pairs (R91, R110, R111). -/

/-- The frame in progress of a context, at any CSI-2 port. -/
def State.csiFrame? (s : State) (i : Nat) : Option CsiFrame :=
  (s.csi.flatMap fun e => e.2.frames).find? fun f => f.stream = i

/-- The streamed pairs that read a context and their other stream. -/
def State.csiPartners (s : State) (i : Nat) : List (Nat × Nat) :=
  (s.activePairs.filter fun p => s.pairOpen p && s.streamed p && !s.pairSuspended p).filterMap fun p =>
    if s.pairLeft p = i then some (p, s.pairRight p) else if s.pairRight p = i then some (p, s.pairLeft p) else none

/-- The lines above and below its own that a row of a view can need: the largest vertical displacements of the grid (R102, R110; DEDUCED,
log entry 38). -/
def gridReach (g : Bytes) : Nat × Nat :=
  (List.range (g.length / 4)).foldl (fun (acc : Nat × Nat) i =>
    let v := signed 16 (field g (4 * i + 2) 2)
    (max acc.1 (divCeil (-v).toNat 16), max acc.2 (divCeil v.toNat 16))) (0, 0)

/-- The reach of the view that a stream is to a pair. -/
def State.viewReach (s : State) (p i : Nat) : Nat × Nat :=
  gridReach (s.pairCfg p (if s.pairLeft p = i then Entry.pairRectifyLeft p else Entry.pairRectifyRight p)).toBytes

/-- Rows of a view's frame whose lines have all come: all of a frame that has ended and waits for its partner, none of a frame that is not
there or whose pair frame was abandoned. -/
def State.viewRows (s : State) (p i : Nat) : Option Nat :=
  match s.csiFrame? i with
  | some f => if f.alone.contains p then some 0 else some (f.lines.length - (s.viewReach p i).2)
  | none =>
    let r := s.pairSt p
    if (if s.pairLeft p = i then r.waitLeft else r.waitRight).isSome then none else some 0

/-- Rows of a streamed pair whose lines are present in both views: its forward pass runs them as they come (R110, R111 step S1). -/
def State.streamRows (s : State) (p : Nat) : Nat :=
  match s.viewRows p (s.pairLeft p), s.viewRows p (s.pairRight p) with
  | some a, some b => min a b
  | some a, none => a
  | none, some b => b
  | none, none => 0

/-- Of `n` lines of a view, those that a row still to come needs. -/
def State.linesNeeded (s : State) (p i n : Nat) : Nat := n - (s.streamRows p - (s.viewReach p i).1)

/-- Lines of a frame in progress that the stereo engines still wait to take; the converter and the flow engines take a line as it comes
(R91, R110; DEDUCED, log entry 38). -/
def State.csiWaiting (s : State) (f : CsiFrame) : Nat :=
  ((s.csiPartners f.stream).map fun e =>
    if f.alone.contains e.1 then 0 else s.linesNeeded e.1 f.stream f.lines.length).foldl max 0

/-- The same of frames that have ended at a port and wait for a partner that is in progress. -/
def State.csiEndedWaiting (s : State) (c : Nat) : Nat :=
  let side := fun (p i j : Nat) (w : Option WaitFrame) =>
    match w with
    | some w => if s.cfgN i (Entry.streamSource i) = 4 + c && (s.csiFrame? j).isSome then s.linesNeeded p i w.picture.height else 0
    | none => 0
  (s.activePairs.filter s.streamed).foldl (fun a p =>
    let r := s.pairSt p
    a + side p (s.pairLeft p) (s.pairRight p) r.waitLeft + side p (s.pairRight p) (s.pairLeft p) r.waitRight) 0

/-- Whether an engine runs the forward pass of a streamed pair. -/
def State.forward (s : State) (g : Nat) : Bool :=
  (s.pinned g).any fun p => s.pairOpen p && !s.pairSuspended p && 0 < s.streamRows p

/-- The state of an engine: 0 idle, 1 busy, 2 fenced (R123). -/
def State.showEngine (s : State) (g : Nat) : State :=
  s.setN (Entry.stereoState g)
    (if s.fenced ⟨.stereo, g⟩ then 2 else ofBool ((Assoc.find s.vision.stereo g).isSome || s.forward g))

/-- The states of the four engines. -/
def State.showEngines (s : State) : State := s.each (List.range 4) State.showEngine

/-! Pair frames. -/

/-- Whether a frame's depth is resolved. -/
def DepthState.resolved (d : DepthState) : Bool :=
  match d with
  | .waits _ => false
  | _ => true

/-- The depth of a left frame of a pair resolved, where it waits for that pair (R128). -/
def State.resolveDepth (s : State) (p ordinal : Nat) (d : DepthState) : State :=
  let i := s.pairLeft p
  let c := s.ctx i
  s.setCtx i { c with
    frames := c.frames.map fun (f : Frame) =>
      if f.ordinal = ordinal && f.depth == .waits p then { f with depth := d } else f }

/-- A waiting frame of a pair discarded and counted (R109); a left frame's depth is resolved without a pair frame. -/
def State.discardWait (s : State) (p : Nat) (left : Bool) : State :=
  let r := s.pairSt p
  match if left then r.waitLeft else r.waitRight with
  | none => s
  | some w =>
    let t := s.setPairSt p (if left then { r with waitLeft := none } else { r with waitRight := none })
    let t := t.bump (Entry.pairFramesUnpaired p)
    if left then t.resolveDepth p w.ordinal .without else t

/-- Both waiting frames of a pair discarded. -/
def State.discardWaits (s : State) (p : Nat) : State := (s.discardWait p true).discardWait p false

/-- A pair frame abandoned: counted, its left frame's depth resolved without it (R120). -/
def State.abandonPairFrame (s : State) (f : PairFrame) : State :=
  (s.bump (Entry.pairFramesAbandoned f.pair)).resolveDepth f.pair f.left.ordinal .without

/-- Every pair frame of a pair abandoned, queued or on an engine. -/
def State.dropPairFrames (s : State) (p : Nat) : State :=
  let mine := (s.vision.queued.filter fun f => f.pair = p) ++
    ((s.vision.stereo.filter fun e => e.2.pair = p).map Prod.snd)
  let t := s.each mine State.abandonPairFrame
  { t with vision := { t.vision with
      queued := t.vision.queued.filter fun f => f.pair ≠ p
      stereo := t.vision.stereo.filter fun e => e.2.pair ≠ p } }.showEngines

/-- A pair suspended: it discards its waiting frames and writes nothing (R101). -/
def State.suspendPair (s : State) (p : Nat) : State := ((s.pairFlag p 4 true).discardWaits p).dropPairFrames p

/-- Whether a stream of a pair is not LIVE. -/
def State.missesStream (s : State) (p : Nat) : Bool := s.streamState (s.pairLeft p) ≠ 2 || s.streamState (s.pairRight p) ≠ 2

/-- Streamed, and StreamMissing of a pair that is STARTING or LIVE, follow their conditions (R122). -/
def State.showPair (s : State) (p : Nat) : State :=
  (s.pairFlag p 0 (s.streamed p)).pairFlag p 1 (s.pairOpen p && s.missesStream p)

/-- The suspensions that a fenced engine brings (R101). -/
def State.suspendStereo (s : State) : State :=
  let t := s.each (List.range 64) fun t p =>
    if t.pairOpen p && t.streamed p && t.fenced ⟨.stereo, t.pairCfgN p (Entry.pairEnginePin p)⟩ && !t.pairSuspended p
    then t.suspendPair p else t
  let order := sortBy (fun p => (t.n (Entry.pairPriority p) : Int) * 64 + (63 - (p : Int)))
    (t.activePairs.filter fun p => t.pairOpen p && !t.streamed p && !t.pairSuspended p)
  (t.each order fun t p => if t.memoryPairLoad ≤ t.stereoCapacity then t else t.suspendPair p).stereoTotals

/-- The resumptions when capacity returns (R101). -/
def State.resumeStereo (s : State) : State :=
  let order := sortBy (fun p => (255 - (s.n (Entry.pairPriority p) : Int)) * 64 + (p : Int))
    (s.activePairs.filter s.pairSuspended)
  (s.each order fun t p =>
    if t.streamed p then
      if t.fenced ⟨.stereo, t.pairCfgN p (Entry.pairEnginePin p)⟩ then t else t.pairFlag p 4 false
    else if t.memoryPairLoad + t.pairLoad p ≤ t.stereoCapacity then t.pairFlag p 4 false else t).stereoTotals

/-! Start and stop (R99, R100, R102, R112, R425). -/

/-- The partition of a pair, or the one whose PairMask names it. -/
def State.pairPartition (s : State) (p : Nat) : Nat :=
  assignee (s.n (Entry.pairPartition p)) fun q => (s.n (Entry.partPairMask q)).testBit p

/-- Whether a rectification grid is empty, or has the length and the limits of R102. -/
def gridOk (g : Bytes) (w h : Nat) : Bool :=
  g.isEmpty ||
    let nodes := (divCeil w 64 + 1) * (divCeil h 64 + 1)
    g.length = 4 * nodes &&
      (List.range nodes).all fun i =>
        (signed 16 (field g (4 * i) 2)).natAbs ≤ 1024 && (signed 16 (field g (4 * i + 2) 2)).natAbs ≤ 384

/-- The buffers of a pair (R112). -/
def State.pairBytes (s : State) (p : Nat) : Nat :=
  let l := s.n (Entry.pairLeftStream p)
  let w := s.n (Entry.streamMaxWidth l)
  let h := s.n (Entry.streamMaxHeight l)
  32 * w * h + s.n (Entry.pairDisparityFrames p) * (to256 (2 * w) * h + to256 w * h)

/-- The start checks of R99 in its order; 0 none fails. -/
def State.pairStartError (s : State) (p : Nat) : Nat :=
  let l := s.n (Entry.pairLeftStream p)
  let r := s.n (Entry.pairRightStream p)
  let q := s.pairPartition p
  let w := s.n (Entry.streamMaxWidth l)
  let h := s.n (Entry.streamMaxHeight l)
  let strm := !s.isEthernet l && !s.isEthernet r
  let pin := s.n (Entry.pairEnginePin p)
  let load := s.declaredLoad l
  let others := s.activePairs.filter fun x => x ≠ p
  let memLoad := (others.filter fun x => !s.streamed x).foldl (fun a x => a + s.pairLoad x) 0
  let pinLoad := ((s.pinned pin).filter fun x => x ≠ p).foldl (fun a x => a + s.pairLoad x) 0
  -- the engines that stay for memory pairs beside this one
  let free := (List.range 4).filter fun g =>
    !s.fenced ⟨.stereo, g⟩ && ((s.pinned g).filter fun x => x ≠ p).isEmpty && !(strm && g = pin)
  if l = r || q = 0 || s.streamPartition l ≠ q || s.streamPartition r ≠ q then 3
  else if w ≠ s.n (Entry.streamMaxWidth r) || h ≠ s.n (Entry.streamMaxHeight r) then 4
  else if strm && (4 ≤ pin || s.fenced ⟨.stereo, pin⟩) then 5
  else if !gridOk (s.b (Entry.pairRectifyLeft p)) w h || !gridOk (s.b (Entry.pairRectifyRight p)) w h then 6
  else if (strm && stereoRate < pinLoad + load) ||
      free.length * stereoRate < memLoad + (if strm then 0 else load) then 1
  else if !s.deviceFits q (s.pairBytes p) then 2
  else 0

/-- The configuration entries that a pair takes at its start. -/
def pairConfigKeys (p : Nat) : List Nat :=
  [Entry.pairLeftStream p, Entry.pairRightStream p, Entry.pairMinDisparity p, Entry.pairDisparityLevels p,
   Entry.pairLrThreshold p, Entry.pairTextureThreshold p, Entry.pairPenaltySmall p, Entry.pairPenaltyLarge p,
   Entry.pairPairTolerance p, Entry.pairEnginePin p, Entry.pairFocalBaseline p, Entry.pairRectifyLeft p,
   Entry.pairRectifyRight p, Entry.pairDisparityFrames p]

/-- A start after its checks (R99, R425). -/
def State.pairStart (s : State) (p : Nat) : State :=
  let e := s.pairStartError p
  if e = 0 then
    let t := s.setPairSt p { config := (pairConfigKeys p).map fun k => (k, s.raw k) }
    let t := t.allocate (s.pairPartition p) (tagPair p) (s.pairBytes p)
    let t := t.zero [Entry.pairFramesOut p, Entry.pairFramesUnpaired p, Entry.pairFramesAbandoned p, Entry.pairFlags p,
      Entry.pairStartError p, Entry.pairPendingStart p]
    let t := (t.setN (Entry.pairEnable p) 1).setN (Entry.pairState p) 1
    (t.showPair p).stereoTotals
  else
    ((s.zero [Entry.pairEnable p, Entry.pairPendingStart p]).setN (Entry.pairStartError p) e).setN (Entry.pairState p) 0

/-- Enable 1 (R99, R362, R425). -/
def State.pairEnableOn (s : State) (p : Nat) : State :=
  let q := s.pairPartition p
  if s.pairOpen p then s.setN (Entry.pairEnable p) 1
  else if !s.partOpen q then s.refuseEnable (Entry.pairEnable p) q
  else if s.pairState p = 3 then (s.setN (Entry.pairEnable p) 1).setN (Entry.pairPendingStart p) 1
  else s.pairStart p

/-- Enable 0 (R99): pair frames abandoned, STOPPING; in STOPPING a pending start is cleared. -/
def State.pairEnableOff (s : State) (p : Nat) : State :=
  if s.pairOpen p then
    let t := (s.discardWaits p).dropPairFrames p
    let t := (t.pairFlag p 4 false).setN (Entry.pairEnable p) 0
    ((t.setN (Entry.pairState p) 3).showPair p).stereoTotals
  else if s.pairState p = 3 then s.zero [Entry.pairEnable p, Entry.pairPendingStart p]
  else s.setN (Entry.pairEnable p) 0

/-- The end of a stop: the capacity that it frees resumes suspended pairs (R99, R101, R425). -/
def State.pairStopped (s : State) (p : Nat) : State :=
  if s.pairState p = 3 then
    let t := (s.release (s.pairPartition p) (tagPair p)).setPairSt p {}
    let t := ((t.setN (Entry.pairState p) 0).showPair p).resumeStereo
    if s.on (Entry.pairPendingStart p) then
      if t.partOpen (t.pairPartition p) then t.pairStart p
      else (t.setN (Entry.pairPendingStart p) 0).refuseEnable (Entry.pairEnable p) (t.pairPartition p)
    else t
  else s

/-! Pairing (R109, R120). -/

/-- The flags of the pairs after a change of their streams; a LIVE pair that misses one discards its waiting frames (R120, R122). -/
def State.checkPairStreams (s : State) : State :=
  (s.each s.activePairs fun t p =>
    let t := t.showPair p
    if t.pairState p = 2 && t.missesStream p then t.discardWaits p else t).showEngines

/-- A formed pair frame: queued for the memory pairs' engines, or for its pinned engine unless that is fenced (R110, R111). -/
def State.queuePairFrame (s : State) (f : PairFrame) : State :=
  if s.streamed f.pair && s.fenced ⟨.stereo, s.pairCfgN f.pair (Entry.pairEnginePin f.pair)⟩ then s.abandonPairFrame f
  else { s with vision := { s.vision with queued := s.vision.queued ++ [f] } }

/-- A true frame offered to one pair as its left or right view (R109). -/
def State.offerToPair (s : State) (p : Nat) (left : Bool) (w : WaitFrame) : State :=
  let t := s.discardWait p left
  let r := t.pairSt p
  let other := if left then r.waitRight else r.waitLeft
  let wait := fun (t : State) =>
    let r := t.pairSt p
    t.setPairSt p (if left then { r with waitLeft := some w } else { r with waitRight := some w })
  match other, t.anchorPort (t.pairPartition p) with
  | some o, some a =>
    let tol : Int := (((t.timing a).lines (t.pairCfgN p (Entry.pairPairTolerance p)) 1000000 : Nat) : Int) * 2 ^ 16
    if (o.mapped - w.mapped).natAbs ≤ tol.natAbs then
      if o.picture.width ≠ w.picture.width || o.picture.height ≠ w.picture.height then
        let t := ((t.pairFlag p 2 true).discardWait p (!left)).bump (Entry.pairFramesUnpaired p)
        if left then t.resolveDepth p w.ordinal .without else t
      else
        let t := t.setPairSt p { r with waitLeft := none, waitRight := none }
        t.queuePairFrame (if left then ⟨p, w, o⟩ else ⟨p, o, w⟩)
    else wait t
  | _, _ => wait t

/-- The pairs to which a stream's frames are offered: not suspended, a LIVE one with both its streams LIVE (R101, R109, R120). -/
def State.pairsOf (s : State) (i : Nat) (left : Bool) : List Nat :=
  s.activePairs.filter fun p =>
    s.pairOpen p && !s.pairSuspended p && (if left then s.pairLeft p else s.pairRight p) = i &&
      !(s.pairState p = 2 && s.missesStream p)

/-- A completed true frame offered to every pair of its stream; a frame whose pair frame a streamed pair abandoned pairs with no other in
it (R109, R110). -/
def State.offerToPairs (s : State) (i : Nat) (f : Frame) (alone : List Nat) : State :=
  let mapped : Nat → Int := fun p =>
    match s.anchorPort (s.pairPartition p) with
    | none => 0
    | some a =>
      if s.streamed p then (((Assoc.find f.arrival a).getD 0 : Nat) : Int) * 2 ^ 16
      else (s.ratioOf i a).predict (s.timing a).vTotal f.timestamp
  let offer := fun (left : Bool) (t : State) (p : Nat) =>
    if alone.contains p then (if left then t.resolveDepth p f.ordinal .without else t)
    else t.offerToPair p left ⟨f.ordinal, mapped p, f.picture⟩
  (s.each (s.pairsOf i true) (offer true)).each (s.pairsOf i false) (offer false)

/-! The engines (R111, R112). -/

/-- The configuration of a pair for its engine. -/
def State.stereoConfig (s : State) (p : Nat) : StereoConfig :=
  { minDisparity := s.pairCfgN p (Entry.pairMinDisparity p), levels := s.pairCfgN p (Entry.pairDisparityLevels p)
    lr := s.pairCfgN p (Entry.pairLrThreshold p), texture := s.pairCfgN p (Entry.pairTextureThreshold p)
    p1 := s.pairCfgN p (Entry.pairPenaltySmall p), p2 := s.pairCfgN p (Entry.pairPenaltyLarge p) }

/-- A pair frame's last row written: its planes in an output frame, offered to the anchor store as depth where FocalBaseline is not 0, the
pair LIVE (R99, R111 step 5, R112, R114). -/
def State.stereoComplete (s : State) (g : Nat) : State :=
  match Assoc.find s.vision.stereo g with
  | none => s
  | some f =>
    let p := f.pair
    let t := { s with vision := { s.vision with stereo := Assoc.drop s.vision.stereo g } }
    let t := t.showEngine g
    let t := ((t.bump (Entry.stereoPairFrames g)).bump (Entry.pairFramesOut p)).meter (Entry.stereoPixelRate g)
      (f.left.picture.width * f.left.picture.height)
    let t := if t.pairState p = 1 then (t.setN (Entry.pairState p) 2).checkPairStreams else t
    let cols := divCeil (s.cfgN (s.pairLeft p) (Entry.streamMaxWidth (s.pairLeft p))) 64 + 1
    let d := stereoMatch (s.stereoConfig p) cols f.left.picture f.right.picture
      (s.pairCfg p (Entry.pairRectifyLeft p)).toBytes (s.pairCfg p (Entry.pairRectifyRight p)).toBytes
    let r := t.pairSt p
    let t := t.setPairSt p { r with outputs := r.outputs ++ [(f.left.ordinal, d)] }
    t.resolveDepth p f.left.ordinal
      (if s.pairCfgN p (Entry.pairFocalBaseline p) % 2 ^ 31 = 0 then .without else .have_ d)

end Sys2Proof.Machine
end

