-- ==== Sys2Proof/Machine/Flow.lean ====
section
/-! DEFINITION. Motion flow (R115 to R120): the served set, the pyramid search to the bit, and how flow frames run. -/

namespace Sys2Proof.Machine

open Sys2Proof

/-! The search (R116 to R118). -/

/-- A luma plane reduced by 2×2 averaging, ties to even; an odd last row or column repeats (R116; the edge is a DESIGN
CHOICE, log entry 11). -/
def reduce2 (p : List (List Nat)) : List (List Nat) :=
  (List.range (divCeil p.length 2)).map fun y =>
    (List.range (divCeil (p.headD []).length 2)).map fun x =>
      let a := fun (dx dy : Nat) => planeAt p ((2 * x + dx : Nat) : Int) ((2 * y + dy : Nat) : Int)
      rneShift (a 0 0 + a 1 0 + a 0 1 + a 1 1) 2

/-- The levels of a pyramid, level 0 first. -/
def pyramid (p : List (List Nat)) (levels : Nat) : List (List (List Nat)) :=
  match levels with
  | 0 => []
  | 1 => [p]
  | n + 1 => p :: pyramid (reduce2 p) n

/-- A bilinear sample at a position in quarter pixels, to the nearest, ties to even, with repeat-edge (R116). -/
def sampleQuarter (p : List (List Nat)) (x y : Int) : Nat :=
  let x0 := x / 4
  let y0 := y / 4
  let fx := (x % 4).toNat
  let fy := (y % 4).toNat
  let s := fun (dx dy : Int) => planeAt p (x0 + dx) (y0 + dy)
  rneShift ((s 0 0 * (4 - fx) + s 1 0 * fx) * (4 - fy) + (s 0 1 * (4 - fx) + s 1 1 * fx) * fy) 4

/-- The difference of two naturals. -/
def absDiff (a b : Nat) : Nat := if a ≤ b then b - a else a - b

/-- The SAD of the 8×8 block `(bx, by)` against the previous frame at a vector in quarter pixels (R116). -/
def blockCost (cur prev : List (List Nat)) (bx bY : Nat) (v : Int × Int) : Nat :=
  ((List.range 8).flatMap fun j => (List.range 8).map fun i =>
    let x := ((8 * bx + i : Nat) : Int)
    let y := ((8 * bY + j : Nat) : Int)
    absDiff (planeAt cur x y) (sampleQuarter prev (4 * x + v.1) (4 * y + v.2))).foldl (· + ·) 0

/-- A choice among vectors: cost, order of origin, |vx| + |vy|, position; the least wins (R116). -/
structure FlowChoice where
  cost   : Nat
  order  : Nat
  vec    : Int × Int
  pos    : Nat
  source : Nat
deriving DecidableEq, Repr

/-- Whether one choice comes before another (R116). -/
def FlowChoice.before (a b : FlowChoice) : Bool :=
  let len := fun (v : Int × Int) => v.1.natAbs + v.2.natAbs
  if a.cost ≠ b.cost then a.cost < b.cost
  else if a.order ≠ b.order then a.order < b.order
  else if len a.vec ≠ len b.vec then len a.vec < len b.vec
  else a.pos < b.pos

/-- The best of a list of choices, the first of equals. -/
def bestChoice (d : FlowChoice) (l : List FlowChoice) : FlowChoice :=
  l.foldl (fun best c => if c.before best then c else best) d

/-- The search of a block around its best candidate: ±`radius` steps of `step` quarter pixels, in raster order.  The centre
is the candidate itself; any other position has origin 3, and all rank with the candidate (R116, R118). -/
def searchAround (cost : Int × Int → Nat) (c : FlowChoice) (radius step : Nat) : FlowChoice :=
  let offs := (List.range (2 * radius + 1)).flatMap fun (j : Nat) => (List.range (2 * radius + 1)).map fun (i : Nat) =>
    (((i : Int) - (radius : Int)) * (step : Int), ((j : Int) - (radius : Int)) * (step : Int))
  let centre := { c with pos := 2 * radius * (radius + 1) }
  bestChoice centre <| ((List.range offs.length).zip offs).filterMap fun e =>
    if e.2 = (0, 0) then none
    else
      let v := (c.vec.1 + e.2.1, c.vec.2 + e.2.2)
      some { cost := cost v, order := c.order, vec := v, pos := e.1, source := 3 }

/-- A seed scaled to a level, to the nearest quarter pixel, ties to even (R116, R117). -/
def scaleSeed (v : Int × Int) (level : Nat) : Int × Int := (rneDiv v.1 (2 ^ level), rneDiv v.2 (2 ^ level))

/-- One block at one level: the candidates in order, the full-pixel search, and at level 0 the half- and quarter-pixel
refinements (R116). -/
def flowBlock (cur prev : List (List Nat)) (level top search bx bY : Nat) (parent left up : Option (Int × Int))
    (seed : Option (Int × Int)) : FlowChoice :=
  let cost := blockCost cur prev bx bY
  let cand := fun (order source : Nat) (v : Option (Int × Int)) =>
    v.map fun v => ({ cost := cost v, order := order, vec := v, pos := 0, source := source } : FlowChoice)
  let zero : FlowChoice := { cost := cost (0, 0), order := 0, vec := (0, 0), pos := 0, source := 0 }
  let cands := [cand 1 2 (parent.map fun v => (2 * v.1, 2 * v.2)), cand 2 2 left, cand 3 2 up,
    cand 4 1 (seed.map fun v => scaleSeed v level)].filterMap id
  let best := bestChoice zero cands
  let full := searchAround cost best (if level + 1 = top then search else 2) 4
  if level = 0 then searchAround cost (searchAround cost full 1 2) 1 1 else full

/-- The vectors of a level, in raster order (R116): left and upper neighbours are those found before. -/
def flowLevel (cur prev : List (List Nat)) (level top search : Nat) (parents : Option (Nat × List FlowChoice))
    (seeds : Nat → Nat → Option (Int × Int)) : Nat × List FlowChoice :=
  let cols := divCeil (cur.headD []).length 8
  let rows := divCeil cur.length 8
  let found := (List.range (cols * rows)).foldl (fun (acc : List FlowChoice) i =>
    let bx := i % cols
    let bY := i / cols
    let at_ := fun (j : Nat) => (acc[j]?).map FlowChoice.vec
    let parent := match parents with
      | none => none
      | some (pc, l) => (l[(bY / 2) * pc + bx / 2]?).map FlowChoice.vec
    let scale := 2 ^ level
    acc ++ [flowBlock cur prev level top search bx bY parent (if bx = 0 then none else at_ (i - 1))
      (if bY = 0 then none else at_ (i - cols)) (seeds (bx * scale) (bY * scale))]) []
  (cols, found)

/-- The levels from the coarsest down to level 0. -/
def flowLevels (cur prev : List (List (List Nat))) (top search : Nat) (seeds : Nat → Nat → Option (Int × Int))
    (level : Nat) (parents : Option (Nat × List FlowChoice)) : Nat × List FlowChoice :=
  let here := flowLevel (cur.getD level []) (prev.getD level []) level top search parents seeds
  match level with
  | 0 => here
  | l + 1 => flowLevels cur prev top search seeds l (some here)

/-- The seed of a level-0 block: the decoder's vector by PocDelta, to the nearest quarter pixel, ties to even (R117). -/
def flowSeed (motion : List MotionRecord) (cols bx bY : Nat) : Option (Int × Int) :=
  match motion[bY * cols + bx]? with
  | none => none
  | some m =>
    if m.intra || m.pocDelta = 0 then none
    else if 0 < m.pocDelta then some (rneDiv m.mvX m.pocDelta, rneDiv m.mvY m.pocDelta)
    else some (rneDiv (-m.mvX) (-m.pocDelta), rneDiv (-m.mvY) (-m.pocDelta))

/-- Whether block j of a picture extends beyond it (R118). -/
def blockBeyond (cur : Picture) (j : Nat) : Bool :=
  let cols := divCeil cur.width 8
  cur.width < 8 * (j % cols) + 8 || cur.height < 8 * (j / cols) + 8

/-- The 64-bit word of a flow record (R118). -/
def FlowRecord.word (r : FlowRecord) : Nat :=
  packFields [(12, 0), (1, ofBool r.valid), (1, ofBool r.border), (2, r.source), (16, r.cost), (16, unsigned 16 r.vecY),
    (16, unsigned 16 r.vecX)]

/-- The flow records of a frame against its predecessor (R116 to R118). -/
def flowRecords (cur prev : Picture) (motion : List MotionRecord) (levels search : Nat) (seeding : Bool) :
    List FlowRecord :=
  let cols := divCeil cur.width 8
  let seeds := fun bx bY => if seeding then flowSeed motion cols bx bY else none
  let (_, found) := flowLevels (pyramid cur.luma levels) (pyramid prev.luma levels) levels search seeds (levels - 1) none
  ((List.range found.length).zip found).map fun e =>
    { vecX := e.2.vec.1, vecY := e.2.vec.2, cost := e.2.cost, source := e.2.source, valid := true
      border := blockBeyond cur e.1 }

/-- The records of a frame whose predecessor is not the frame before it: Valid 0 in every block (R116). -/
def flowInvalid (cur : Picture) : List FlowRecord :=
  (List.range (divCeil cur.width 8 * divCeil cur.height 8)).map fun j => { border := blockBeyond cur j }

/-! The served set (R115, R119). -/

/-- Whether a stream is the source of a view on a port that is STARTING, LIVE or SAFE (R115). -/
def State.viewed (s : State) (i : Nat) : Bool :=
  (List.range s.portCount).any fun n =>
    (s.portState n = 1 || s.portState n = 2 || s.portState n = 5) && (layerStreams (s.portRt n).applied).contains i

/-- The rate of one flow engine at the slow corner in pixels/s (R115). -/
def flowRate : Nat := 727000000

/-- The flow capacity. -/
def State.flowCapacity (s : State) : Nat :=
  ((List.range 4).filter fun f => !s.fenced ⟨.flow, f⟩).length * flowRate

/-- The eligible streams in order: highest DecodePriority, then lowest number (R115). -/
def State.flowEligible (s : State) : List Nat :=
  sortBy (fun i => (255 - (s.n (Entry.streamDecodePriority i) : Int)) * 512 + (i : Int))
    ((List.range 512).filter fun i => s.streamState i = 2 && s.viewed i)

/-- The served streams: each eligible one that still fits (R115). -/
def State.flowServed (s : State) : List Nat :=
  (s.flowEligible.foldl (fun (acc : List Nat × Nat) i =>
    let l := s.declaredLoad i
    if acc.2 + l ≤ s.flowCapacity then (acc.1 ++ [i], acc.2 + l) else acc) ([], 0)).1

/-- The two flow buffers of a stream, where it holds them or the memory has room for them (R119). -/
def State.allocFlow (s : State) (i : Nat) : State :=
  let p := s.streamPartition i
  let n := 2 * motionBytes (s.cfgN i (Entry.streamMaxWidth i)) (s.cfgN i (Entry.streamMaxHeight i))
  if s.vision.flowBufs.contains i || !s.deviceFits p n then s
  else
    let t := s.allocate p (tagFlow i) n
    { t with vision := { t.vision with flowBufs := i :: t.vision.flowBufs } }

/-- The recomputation of the served set and the totals of R123; a stream that is first served takes its buffers (R119). -/
def State.recomputeServed (s : State) : State :=
  let served := s.flowServed
  let load := fun (l : List Nat) => (l.foldl (fun a i => a + s.declaredLoad i) 0) / 1000000
  let map := (List.range 64).map fun (b : Nat) =>
    BitVec.ofNat 8 (maskOf ((served.filter fun i => i / 8 = b).map (· % 8)))
  let t := s.setN Entry.visionFlowDemand (load s.flowEligible)
  let t := t.setN Entry.visionFlowCapacity (s.flowCapacity / 1000000)
  ((t.setN Entry.visionFlowServedLoad (load served)).setB Entry.visionFlowServedMap map).each served State.allocFlow

/-- Whether the recomputed set serves a stream. -/
def State.isServed (s : State) (i : Nat) : Bool := mapBit (s.b Entry.visionFlowServedMap) i

/-! Flow frames (R116, R119, R120). -/

/-- A frame's flow settled. -/
def State.setFlow (s : State) (i ordinal : Nat) (f : FlowState) : State :=
  let c := s.ctx i
  s.setCtx i { c with frames := c.frames.map fun x => if x.ordinal = ordinal then { x with flow := f } else x }

/-- A true frame offered to the flow engines: queued where the stream is served and its buffers can be had, else without
flow (R115, R119).  FlowSkipped counts it when it becomes ready (R128). -/
def State.offerToFlow (s : State) (i ordinal : Nat) : State :=
  if !s.isServed i then s.setFlow i ordinal .without
  else
    let t := s.allocFlow i
    if t.vision.flowBufs.contains i then { t with vision := { t.vision with flowQueue := t.vision.flowQueue ++ [(i, ordinal)] } }
    else t.setFlow i ordinal .without

/-- A free flow engine takes the waiting frame that arrived first, then the lower context (R119). -/
def State.flowStart (s : State) (f : Nat) : State :=
  if s.fenced ⟨.flow, f⟩ || s.n (Entry.flowState f) ≠ 0 then s
  else
    let arrival := fun (e : Nat × Nat) =>
      match (s.ctx e.1).frames.find? fun x => x.ordinal = e.2, s.anchorPort (s.streamPartition e.1) with
      | some x, some a => (((Assoc.find x.arrival a).getD 0 : Nat) : Int)
      | _, _ => 0
    match minBy (fun e => arrival e * 512 + (e.1 : Int)) s.vision.flowQueue with
    | none => s
    | some e =>
      ({ s with vision := { s.vision with
          flowQueue := s.vision.flowQueue.filter (· ≠ e)
          flow := Assoc.put s.vision.flow f
            { stream := e.1, ordinal := e.2, levels := s.n Entry.visionFlowLevels, search := s.n Entry.visionFlowSearch
              seeding := s.on Entry.visionFlowSeeding } } }).setN
        (Entry.flowState f) 1

/-- A flow frame's end: its records, or Valid 0 where the frame before it was not a true frame of the stream (R116, R119). -/
def State.flowComplete (s : State) (f : Nat) : State :=
  match Assoc.find s.vision.flow f with
  | none => s
  | some j =>
    let i := j.stream
    let ordinal := j.ordinal
    let t := { s with vision := { s.vision with flow := Assoc.drop s.vision.flow f } }
    let t := (t.setN (Entry.flowState f) 0).bump (Entry.flowFlowFrames f)
    let frames := (s.ctx i).frames
    match frames.find? fun x => x.ordinal = ordinal with
    | none => t
    | some x =>
      let t := t.meter (Entry.flowPixelRate f) (x.picture.width * x.picture.height)
      let recs :=
        match if x.follows then frames.find? fun y => y.ordinal + 1 = ordinal else none with
        | none => flowInvalid x.picture
        | some y => flowRecords x.picture y.picture x.motion j.levels j.search j.seeding
      t.setFlow i ordinal (.have_ recs)

/-- A flow frame abandoned by a fence: its true frame is without flow (R120). -/
def State.flowAbandon (s : State) (f : Nat) : State :=
  match Assoc.find s.vision.flow f with
  | none => s
  | some j =>
    ({ s with vision := { s.vision with flow := Assoc.drop s.vision.flow f } }).setFlow j.stream j.ordinal .without

/-- The flow frames of a stream that stops: none runs, none waits, its buffers are freed (R119, R120). -/
def State.flowStopStream (s : State) (i : Nat) : State :=
  let t := s.each ((s.vision.flow.filter fun e => e.2.stream = i).map Prod.fst) fun t f =>
    if t.n (Entry.flowState f) = 1 then t.setN (Entry.flowState f) 0 else t
  ({ t with vision := { t.vision with
      flowQueue := t.vision.flowQueue.filter fun e => e.1 ≠ i
      flow := t.vision.flow.filter fun e => e.2.stream ≠ i
      flowBufs := t.vision.flowBufs.filter (· ≠ i) } }).release (s.streamPartition i) (tagFlow i)

end Sys2Proof.Machine
end

