-- ==== Sys2Proof/Machine/Anchors.lean ====
section
/-! DEFINITION. The motion anchor store: records, prediction, matching, depth, classes, the pendulum, creation, and the shadow
copies of Lead (spec/05_frame_generation.md R124 to R133, spec/06_run_ahead_and_rollback.md R161 to R164). -/

namespace Sys2Proof.Machine

open Sys2Proof

/-! Units (R127). -/

/-- Ticks of one anchor unit (R127). -/
def State.anchorUnit (s : State) (i : Nat) : Nat :=
  if s.isEthernet i then max 1 (roundEven (mkRat 90000 (max 1 (s.cfgN i (Entry.streamMaxFrameRate i))))).toNat else 1

/-- The source interval in ticks: the median of the last 16 differences, or one unit until 16 exist (R127). -/
def State.sourceInterval (s : State) (i : Nat) : Rat :=
  let d := (s.genStream i).diffs
  if d.length < 16 then (s.anchorUnit i : Rat) else mkRat (median2 d) 2

/-! The record (R126). -/

/-- The class code of R126. -/
def AnchorClass.code (c : AnchorClass) : Nat :=
  match c with | .still => 1 | .velocity => 2 | .acceleration => 3 | .pendulum => 4

/-- The 64 bytes of a record (R126). -/
def Anchor.bytes (a : Anchor) : Bytes :=
  leBytes 64 <| packFields
    [(64, 0), (16, unsigned 16 a.eqVelY), (16, unsigned 16 a.eqVelX), (16, a.lastPeak), (16, a.halfPeriod),
     (32, a.lastCross), (6, a.crossings), (4, a.accelRun), (4, a.stillRun), (18, a.link), (16, a.residual),
     (32, a.refTime), (16, unsigned 16 a.ampY), (16, unsigned 16 a.ampX), (16, a.phase), (16, a.damping), (16, a.period),
     (16, unsigned 16 a.depthRate), (16, unsigned 16 a.accY), (16, unsigned 16 a.accX), (16, unsigned 16 a.velY),
     (16, unsigned 16 a.velX), (16, a.depth), (16, a.height), (16, a.width), (16, a.cy), (16, a.cx), (8, a.age),
     (8, a.conf), (3, a.miss), (1, ofBool a.shadow), (3, a.cls.code), (9, a.stream)]

/-- The record at an index: free records read 0. -/
def State.anchorBytes (s : State) (index : Nat) : Bytes :=
  match Assoc.find s.anchors.records index with
  | none => zeros 64
  | some a => a.bytes

/-- Records of the store (R124). -/
def anchorCount : Nat := 262144

/-- The records of a stream, masters or shadows, in ascending index. -/
def State.anchorsOf (s : State) (i : Nat) (shadow : Bool) : List (Nat × Anchor) :=
  sortBy (fun e => (e.1 : Int)) (s.anchors.records.filter fun e => e.2.stream = i && e.2.shadow = shadow)

/-- The counts of R151 and R153 after a change of a stream's records. -/
def State.countAnchors (s : State) (i : Nat) : State :=
  let l := s.anchors.records
  let t := s.setN Entry.genAnchorsFree (anchorCount - l.length)
  let t := t.setN Entry.genAnchorsShadow (l.filter fun e => e.2.shadow).length
  t.setN (Entry.streamGenAnchorsInUse i) (l.filter fun e => e.2.stream = i).length

/-- A record replaced. -/
def State.putAnchor (s : State) (index : Nat) (a : Anchor) : State :=
  { s with anchors := { s.anchors with records := Assoc.put s.anchors.records index a } }

/-- A record freed. -/
def State.dropAnchor (s : State) (index : Nat) : State :=
  { s with anchors := { s.anchors with records := Assoc.drop s.anchors.records index } }

/-- A generation flag of R154. -/
def State.genFlag (s : State) (i bit : Nat) (on : Bool) : State := s.setFlag (Entry.streamGenGenFlags i) bit on

/-- Flag bits of R154. -/
def genNoFlow : Nat := 0
def genNoDepth : Nat := 1
def genQuotaFull : Nat := 2
def genLeadFallback : Nat := 3
def genNoMemory : Nat := 4
def genStoreFenced : Nat := 5

/-- Whether a stream has fallen back from Lead (R169). -/
def State.leadFallback (s : State) (i : Nat) : Bool := (s.n (Entry.streamGenGenFlags i)).testBit genLeadFallback

/-- A record of a stream allocated at the lowest free index, or refused (R124). -/
def State.allocAnchor (s : State) (a : Anchor) : Option Nat × State :=
  let i := a.stream
  let held := (s.anchors.records.filter fun e => e.2.stream = i).length
  let refused := (none, (s.bump (Entry.streamGenAnchorsRefused i)).genFlag i genQuotaFull true)
  if s.n (Entry.streamGenAnchorQuota i) ≤ held then refused
  else
    match (List.range (s.anchors.records.length + 1)).find? fun k => (Assoc.find s.anchors.records k).isNone with
    | none => refused
    | some k =>
      if anchorCount ≤ k then refused
      else (some k, ((s.putAnchor k a).genFlag i genQuotaFull false).countAnchors i)

/-- Every record of a stream freed, on IDLE and Mode 0; or the masters, at a scene cut (R125, R166). -/
def State.freeAnchors (s : State) (i : Nat) (mastersOnly : Bool) : State :=
  ({ s with anchors := { s.anchors with
      records := s.anchors.records.filter fun e => e.2.stream ≠ i || (mastersOnly && e.2.shadow) } }).countAnchors i

/-- A time difference from the low 32 bits of extended timestamps, as a signed number. -/
def tickDiff (a b : Nat) : Int := signed 32 (unsigned 32 ((a : Int) - (b : Int)))

/-! Prediction (R128). -/

/-- The amplitude kept per unit: 65,535 stands for 1. -/
def Anchor.decay (a : Anchor) : Rat := if a.damping = 65535 then 1 else mkRat a.damping 65536

/-- The period in units. -/
def Anchor.periodUnits (a : Anchor) : Rat := mkRat a.period 16

/-- One axis of the prediction of a pendulum anchor. -/
def Anchor.swing (a : Anchor) (centre eqVel amp : Rat) (u : Rat) : Rat :=
  let phase := mkRat a.phase 65536
  if a.period = 0 then centre + eqVel * u
  else
    centre - amp * cosTurns phase + eqVel * u +
      amp * powRat a.decay u * cosTurns (u / a.periodUnits + phase)

/-- The predicted centre in pixels `u` units after RefTime (R128). -/
def Anchor.predict (a : Anchor) (u : Rat) : Rat × Rat :=
  let c := (mkRat a.cx 4, mkRat a.cy 4)
  let v := (mkRat a.velX 64, mkRat a.velY 64)
  let g := (mkRat a.accX 256, mkRat a.accY 256)
  match a.cls with
  | .still => c
  | .velocity => (c.1 + v.1 * u, c.2 + v.2 * u)
  | .acceleration => (c.1 + v.1 * u + g.1 * u * u / 2, c.2 + v.2 * u + g.2 * u * u / 2)
  | .pendulum =>
    (a.swing c.1 (mkRat a.eqVelX 64) (mkRat a.ampX 16) u, a.swing c.2 (mkRat a.eqVelY 64) (mkRat a.ampY 16) u)

/-- Whether a point lies in the region of a width and height centred at a point (log entry 14). -/
def inRegion (centre : Rat × Rat) (w h : Nat) (x y : Nat) : Bool :=
  let dx := (x : Rat) - centre.1 + mkRat w 2
  let dy := (y : Rat) - centre.2 + mkRat h 2
  0 ≤ dx && dx < (w : Rat) && 0 ≤ dy && dy < (h : Rat)

/-- The centre of 8×8 block `j` of a picture with `cols` blocks per row. -/
def blockCentre (cols j : Nat) : Nat × Nat := (8 * (j % cols) + 4, 8 * (j / cols) + 4)

/-! Classes and the pendulum (R131, R132). -/

/-- What a matched update measures: velocity in pixels per unit, units since the last frame, residual². -/
structure Measure where
  v    : Rat × Rat
  du   : Rat
  res2 : Rat
deriving DecidableEq, Repr

/-- A crossing of the swing axis (R132): the new half-period, period, peak and damping. -/
def Anchor.cross (a : Anchor) (unit : Nat) (now : Nat) (du w0 w1 : Rat) (peak : Nat) : Anchor :=
  let share := ratAbs w0 / (ratAbs w0 + ratAbs w1)
  -- the crossing lies `share` of the last interval before now
  let tick : Int := (now : Int) - roundEven (du * (unit : Rat) * share)
  let half := toField (mkRat (tickDiff (unsigned 32 tick) a.lastCross) (max 1 unit)) 16 0 65535
  let first := a.crossings = 0
  let period := if first then clampInt 0 65535 (2 * half)
    else clampInt 0 65535 (roundEven ((a.period : Rat) + (((2 * half : Int) : Rat) - (a.period : Rat)) / 4))
  let damping : Nat :=
    if first || a.lastPeak = 0 || half ≤ 0 then a.damping
    else
      let d := powRat (mkRat peak a.lastPeak) (1 / mkRat half 16)
      let d := if d < mkRat 1 2 then mkRat 1 2 else if 1 < d then 1 else d
      (toField d 65536 0 65535).toNat
  { a with
    halfPeriod := half.toNat, period := period.toNat, damping := damping, lastPeak := peak
    lastCross := unsigned 32 tick, crossings := min 63 (a.crossings + 1), peakX := 0, peakY := 0 }

/-- Whether HalfPeriod lies within a percentage of half the Period (R132). -/
def Anchor.halfWithin (a : Anchor) (percent : Nat) : Bool :=
  a.period ≠ 0 && (2 * a.halfPeriod - a.period : Int).natAbs * 100 ≤ percent * a.period

/-- The fit of amplitude and phase at a matched update of a pendulum anchor (R132). -/
def Anchor.fit (a : Anchor) (yAxis : Bool) (w0 w1 du : Rat) : Anchor :=
  let p := a.periodUnits
  if p = 0 then a
  else
    let turns := du / p
    let omega := 2 * fixRat fixPi / p
    let sn := sinTurns turns
    let keep := powRat a.decay du
    let axis := fun (b : Anchor) (z : Int) => if yAxis then { b with ampX := 0, ampY := z } else { b with ampX := z, ampY := 0 }
    let old := mkRat (if yAxis then a.ampY else a.ampX) 16
    if ratAbs sn < mkRat 1 5 then
      let phase := roundEven ((mkRat a.phase 65536 + turns) * 65536) % 65536
      { axis a (toField (old * keep) 16 (-32768) 32767) with phase := phase.toNat }
    else
      let c := -w0 / omega
      let b := (c * cosTurns turns + w1 * keep / omega) / sn
      let phase := roundEven (atanTurns c b * 65536) % 65536
      { axis a (toField (sqrtRat (b * b + c * c)) 16 (-32768) 32767) with phase := phase.toNat }

/-- The classification of a matched anchor by R131 and R132. -/
def Anchor.classify (a : Anchor) (m : Measure) (unit now : Nat) (pendulumOn : Bool) : Anchor :=
  let w : Rat × Rat := (m.v.1 - mkRat a.eqVelX 64, m.v.2 - mkRat a.eqVelY 64)
  let last := (a.lastWX, a.lastWY)
  -- the swing axis: the larger peak since the last crossing, this half-swing's updates before now
  let yAxis := a.peakX < a.peakY
  let pick := fun (z : Rat × Rat) => if yAxis then z.2 else z.1
  let peak := if yAxis then a.peakY else a.peakX
  let crossed := (pick w) * (pick last) < 0 && 1 ≤ 4 * ratAbs (pick w) && 1 ≤ 4 * ratAbs (pick last)
  let a := if crossed then a.cross unit now m.du (pick w) (pick last) (toField peak 64 0 65535).toNat else a
  let a := { a with
    peakX := max a.peakX (ratAbs w.1), peakY := max a.peakY (ratAbs w.2), lastWX := w.1, lastWY := w.2 }
  let slow := m.v.1 * m.v.1 + m.v.2 * m.v.2 < mkRat 1 16
  let still := if slow then min 15 (a.stillRun + 1) else 0
  let hard := 128 * 128 ≤ a.accX * a.accX + a.accY * a.accY
  let flip := a.accX * a.accSign.1 < 0 || a.accY * a.accSign.2 < 0
  let accel := if hard && !flip then min 15 (a.accelRun + 1) else 0
  let bad := if 4 < m.res2 then a.badRun + 1 else 0
  let a := { a with stillRun := still, accelRun := accel, badRun := bad, accSign := (a.accX, a.accY) }
  let leaves := a.cls = .pendulum && (3 ≤ bad || !a.halfWithin 30)
  let a := if leaves then { a with crossings := 0 } else a
  let swings := (a.cls = .pendulum && !leaves) || (!leaves && pendulumOn && 3 ≤ a.crossings && a.halfWithin 15)
  if swings then
    ({ a with cls := .pendulum }).fit yAxis (pick w) (pick last) m.du
  else if 4 ≤ still then { a with cls := .still }
  else if 4 ≤ accel then { a with cls := .acceleration }
  else { a with cls := .velocity }

/-! Depth (R129). -/

/-- The disparity codes of a region that count: not reserved, confidence at least the least one. -/
def depthCodes (m : DepthMap) (confMin : Nat) (centre : Rat × Rat) (w h : Nat) : List Nat :=
  ((List.range m.disparity.length).flatMap fun y =>
    (List.range (m.disparity.getD y []).length).map fun x =>
      let d := (m.disparity.getD y []).getD x 0
      let c := (m.confidence.getD y []).getD x 0
      if inRegion centre w h x y && d < 0xFFF0 && confMin ≤ c then some d else none).filterMap id

/-- The depth of an anchor after a matched update (R129); `fb` is FocalBaseline.  A median code of 0 saturates. -/
def Anchor.updateDepth (a : Anchor) (m : Option DepthMap) (fb : Rat) (confMin : Nat) (centre : Rat × Rat) (du : Rat) :
    Anchor :=
  let advance := { a with depth := if a.depth = 0 then 0 else
    (toField (mkRat a.depth 64 + mkRat a.depthRate 1024 * du) 64 0 65535).toNat }
  match m with
  | none => advance
  | some m =>
    let codes := depthCodes m confMin centre a.width a.height
    let med := mkRat (median2 codes) 32
    if 4 * codes.length < a.width * a.height then advance
    else
      let d := if med = 0 then 65535 else (toField (fb / med) 64 0 65535).toNat
      let rate := mkRat a.depthRate 1024
      let change := (mkRat d 64 - mkRat a.depth 64) / du
      { a with
        depth := d
        depthRate := toField (rate + (change - rate) / 4) 1024 (-32768) 32767 }

/-! The update (R128). -/

/-- What the update of a stream's anchors reads from a true frame: its timestamp and that before it, the unit, the flow records
with their blocks per row, the depth. -/
structure TrueFrame where
  now      : Nat
  before   : Nat
  unit     : Nat
  cols     : Nat
  records  : List FlowRecord
  depth    : Option DepthMap
  fb       : Rat
  confMin  : Nat
  pendulum : Bool
deriving DecidableEq, Repr

/-- The smallest integer at least `conf · √q / 16`, for `q` at least 0. -/
def confLoss (conf : Nat) (q : Rat) : Nat :=
  let q := if 64 < q then 64 else q
  let x := (conf * conf : Nat) * q / 256
  let r := x.floor.toNat.sqrt
  if ((r * r : Nat) : Rat) = x then r else r + 1

/-- One anchor's update by a true frame: none where it is freed (R128). -/
def Anchor.update (a : Anchor) (f : TrueFrame) : Option Anchor :=
  let p := a.predict (mkRat (tickDiff f.now a.refTime) f.unit)
  let blks := ((List.range f.records.length).zip f.records).filter fun e =>
    let c := blockCentre f.cols e.1
    e.2.valid && !e.2.border && e.2.cost ≤ 4096 && inRegion p a.width a.height c.1 c.2
  if 256 * blks.length < a.width * a.height then
    let b := { a with conf := a.conf - divCeil a.conf 4, age := min 255 (a.age + 1), miss := a.miss + 1 }
    if b.miss = 8 || b.conf = 0 then none else some b
  else
    let du := mkRat ((f.now : Int) - f.before) f.unit
    let d := (-(meanRat (blks.map fun e => (e.2.vecX : Rat))) / 4, -(meanRat (blks.map fun e => (e.2.vecY : Rat))) / 4)
    let b0 := a.predict (mkRat (tickDiff f.before a.refTime) f.unit)
    let q := (b0.1 + d.1, b0.2 + d.2)
    let res2 := (q.1 - p.1) * (q.1 - p.1) + (q.2 - p.2) * (q.2 - p.2)
    let v := (d.1 / du, d.2 / du)
    let vel := (mkRat a.velX 64, mkRat a.velY 64)
    let acc := (mkRat a.accX 256, mkRat a.accY 256)
    let eq := (mkRat a.eqVelX 64, mkRat a.eqVelY 64)
    let i16 := fun (x : Rat) (scale : Nat) => toField x scale (-32768) 32767
    let b := { a with
      accX := i16 (acc.1 + ((v.1 - vel.1) / du - acc.1) / 4) 256
      accY := i16 (acc.2 + ((v.2 - vel.2) / du - acc.2) / 4) 256
      velX := i16 (vel.1 + (v.1 - vel.1) / 4) 64
      velY := i16 (vel.2 + (v.2 - vel.2) / 4) 64
      eqVelX := i16 (eq.1 + (v.1 - eq.1) / 16) 64
      eqVelY := i16 (eq.2 + (v.2 - eq.2) / 16) 64
      cx := (toField q.1 4 0 65535).toNat
      cy := (toField q.2 4 0 65535).toNat
      refTime := f.now % 2 ^ 32
      miss := 0
      residual := (toField (sqrtRat res2) 16 0 65535).toNat
      age := min 255 (a.age + 1)
      conf := if res2 ≤ 1 then a.conf + divCeil (255 - a.conf) 8 else a.conf - confLoss a.conf res2 }
    some ((b.updateDepth f.depth f.fb f.confMin q du).classify ⟨v, du, res2⟩ f.unit f.now f.pendulum)

/-- The update of a stream's masters, in ascending index (R128). -/
def State.updateAnchors (s : State) (i : Nat) (f : TrueFrame) : State :=
  (s.each (s.anchorsOf i false) fun t e =>
    match e.2.update f with
    | none => t.dropAnchor e.1
    | some a => t.putAnchor e.1 a).countAnchors i

/-! Creation (R130). -/

/-- Whether two blocks join a group: 8-connected, vectors within 4 quarter pixels in each component (log entry 15). -/
def joins (cols : Nat) (a b : Nat × FlowRecord) : Bool :=
  absDiff (a.1 % cols) (b.1 % cols) ≤ 1 && absDiff (a.1 / cols) (b.1 / cols) ≤ 1 &&
    (a.2.vecX - b.2.vecX).natAbs ≤ 4 && (a.2.vecY - b.2.vecY).natAbs ≤ 4

/-- The group that grows from a list of blocks: the members, and the blocks left over. -/
def growGroup (cols : Nat) (fuel : Nat) (members frontier rest : List (Nat × FlowRecord)) :
    List (Nat × FlowRecord) × List (Nat × FlowRecord) :=
  match fuel with
  | 0 => (members, rest)
  | n + 1 =>
    match frontier with
    | [] => (members, rest)
    | b :: more =>
      let near := rest.filter (joins cols b)
      growGroup cols n (members ++ near) (more ++ near) (rest.filter fun x => !joins cols b x)

/-- The groups of a list of blocks in raster order, by raster order of their first blocks. -/
def groupBlocks (cols : Nat) (fuel : Nat) (l : List (Nat × FlowRecord)) : List (List (Nat × FlowRecord)) :=
  match fuel, l with
  | 0, _ => []
  | _, [] => []
  | n + 1, b :: rest =>
    let g := growGroup cols (l.length + 1) [b] [b] rest
    sortBy (fun e => (e.1 : Int)) g.1 :: groupBlocks cols n g.2

/-- A group larger than 32×32 blocks split along the 32-block grid (R130). -/
def splitGroup (cols : Nat) (g : List (Nat × FlowRecord)) : List (List (Nat × FlowRecord)) :=
  let span := fun (f : Nat → Nat) =>
    let l := g.map fun e => f e.1
    l.foldl max 0 - minCost l + 1
  if span (· % cols) ≤ 32 && span (· / cols) ≤ 32 then [g]
  else
    let cell := fun (e : Nat × FlowRecord) => (e.1 / cols / 32, e.1 % cols / 32)
    ((g.map cell).eraseDups).map fun k => g.filter fun e => cell e = k

/-- The anchor of a group (R130). -/
def groupAnchor (i : Nat) (f : TrueFrame) (g : List (Nat × FlowRecord)) : Anchor :=
  let xs := g.map fun e => e.1 % f.cols
  let ys := g.map fun e => e.1 / f.cols
  let x0 := minCost xs
  let y0 := minCost ys
  let x1 := xs.foldl max 0
  let y1 := ys.foldl max 0
  let du := mkRat ((f.now : Int) - f.before) f.unit
  let vx := toField (-(meanRat (g.map fun e => (e.2.vecX : Rat))) / 4 / du) 64 (-32768) 32767
  let vy := toField (-(meanRat (g.map fun e => (e.2.vecY : Rat))) / 4 / du) 64 (-32768) 32767
  { stream := i, cls := .velocity, conf := 128
    cx := min 65535 (16 * (x0 + x1 + 1)), cy := min 65535 (16 * (y0 + y1 + 1))
    width := min 4096 (8 * (x1 - x0 + 1)), height := min 2176 (8 * (y1 - y0 + 1))
    velX := vx, velY := vy, eqVelX := vx, eqVelY := vy
    refTime := f.now % 2 ^ 32, lastCross := f.now % 2 ^ 32, damping := 65535 }

/-- New anchors from a true frame, in raster order of the groups' first blocks; in LEAD none beyond a third of the quota (R130,
R163). -/
def State.createAnchors (s : State) (i : Nat) (f : TrueFrame) : State :=
  let regions := s.anchorsOf i false
  let free := fun (j : Nat) =>
    let c := blockCentre f.cols j
    regions.all fun e => !inRegion (mkRat e.2.cx 4, mkRat e.2.cy 4) e.2.width e.2.height c.1 c.2
  let blks := ((List.range f.records.length).zip f.records).filter fun e =>
    e.2.valid && !e.2.border && e.2.cost / 16 ≤ 127 &&
      16 ≤ e.2.vecX * e.2.vecX + e.2.vecY * e.2.vecY && free e.1
  let groups := (groupBlocks f.cols (blks.length + 1) blks).flatMap (splitGroup f.cols)
  s.each (groups.filter fun g => 4 ≤ g.length) fun t g =>
    let masters := (t.anchorsOf i false).length
    if t.n (Entry.streamGenGenState i) = 4 && t.n (Entry.streamGenAnchorQuota i) / 3 ≤ masters then t
    else (t.allocAnchor (groupAnchor i f g)).2

/-! Shadow copies (R161 to R164). -/

/-- The shadow set of a true frame: one copy of each master (R161). -/
def State.makeShadows (s : State) (i ordinal : Nat) : State :=
  let t := s.each (s.anchorsOf i false) fun t e =>
    match t.allocAnchor { e.2 with shadow := true, link := e.1, setOf := ordinal } with
    | (none, u) => u
    | (some k, u) => u.putAnchor e.1 { e.2 with link := k }
  (t.setGenStream i { t.genStream i with currentSet := some ordinal }).countAnchors i

/-- The shadow set of a true frame's Lead jobs. -/
def State.shadowSet (s : State) (i ordinal : Nat) : List (Nat × Anchor) :=
  (s.anchorsOf i true).filter fun e => e.2.setOf = ordinal

/-- Retired shadows freed unless a committed job that has not ended reads them (R164). -/
def State.freeRetired (s : State) (i : Nat) : State :=
  let reads := fun (ordinal : Nat) => s.gen.jobs.any fun j =>
    j.kind = 1 && j.stream = i && j.committed && !j.done && !j.dropped &&
      (match j.pic with | .lead _ src _ _ => src = ordinal | _ => false)
  let keep := (s.genStream i).currentSet
  ({ s with anchors := { s.anchors with
      records := s.anchors.records.filter fun e =>
        e.2.stream ≠ i || !e.2.shadow || keep = some e.2.setOf || reads e.2.setOf } }).countAnchors i

/-- The current shadow set retired (R164, R165 step 1). -/
def State.retireShadows (s : State) (i : Nat) : State :=
  (s.setGenStream i { s.genStream i with currentSet := none }).freeRetired i

end Sys2Proof.Machine
end

