-- ==== Sys2Proof/Machine/Layers.lean ====
section
/-! DEFINITION. Layer descriptors (R238), the views of a port, up-scaling ratios (R177, R178) and the map from the blocks of a
port to source blocks (R144). -/

namespace Sys2Proof.Machine

open Sys2Proof

/-- A layer descriptor (R238). -/
structure LayerDesc where
  index     : Nat
  kind      : Nat
  source    : Nat
  noTag     : Bool
  alphaMode : Nat
  alpha     : Nat
  cropLeft  : Nat
  cropTop   : Nat
  cropW     : Nat
  cropH     : Nat
  dstLeft   : Nat
  dstTop    : Nat
  dstW      : Nat
  dstH      : Nat
  tagX      : Nat
  tagY      : Nat
  fill      : Nat × Nat × Nat
deriving DecidableEq, Repr

/-- Descriptor `i` of a table (R238). -/
def layerDesc (table : Bytes) (i : Nat) : LayerDesc :=
  let d := field table (32 * i) 32
  { index := i, kind := bits d 254 2, source := bits d 245 9, noTag := d.testBit 244, alphaMode := bits d 242 2
    alpha := bits d 234 8, cropLeft := bits d 208 16, cropTop := bits d 192 16, cropW := bits d 176 16
    cropH := bits d 160 16, dstLeft := bits d 144 16, dstTop := bits d 128 16, dstW := bits d 112 16
    dstH := bits d 96 16, tagX := bits d 80 16, tagY := bits d 64 16
    fill := (bits d 54 10, bits d 44 10, bits d 34 10) }

/-- The enabled layers of a table, in ascending order; bytes short of a descriptor are ignored (R238). -/
def enabledLayers (table : Bytes) : List LayerDesc :=
  ((List.range (min 48 (table.length / 32))).map (layerDesc table)).filter fun l => l.kind ≠ 0

/-- The enabled layers of a port's applied table. -/
def State.layers (s : State) (n : Nat) : List LayerDesc := enabledLayers (s.portRt n).applied

/-- The camera layers of a port. -/
def State.cameraLayers (s : State) (n : Nat) : List LayerDesc := (s.layers n).filter fun l => l.kind = 1

/-- Whether a port shows views: STARTING, LIVE or SAFE. -/
def State.shows (s : State) (n : Nat) : Bool := s.portState n = 1 || s.portState n = 2 || s.portState n = 5

/-- The ports on which a stream is the source of a view and which are STARTING, LIVE or SAFE (R136). -/
def State.showingPorts (s : State) (i : Nat) : List Nat :=
  (List.range s.portCount).filter fun n => s.shows n && (layerStreams (s.portRt n).applied).contains i

/-! Up-scaling ratios (R177, R178), in halves: 3, 4, 6 and 8 for 1.5, 2, 3 and 4. -/

/-- The largest ratio that does not exceed the scale of an axis; 2 for none. -/
def ratioFor (crop dst : Nat) : Nat := ((([8, 6, 4, 3] : List Nat).find? fun r => r * crop ≤ 2 * dst)).getD 2

/-- The next lower ratio. -/
def ratioBelow (r : Nat) : Nat := match r with | 8 => 6 | 6 => 4 | 4 => 3 | _ => 2

/-- A ratio lowered until the up-scaled axis fits. -/
def ratioFit (crop limit : Nat) (fuel r : Nat) : Nat :=
  match fuel with
  | 0 => r
  | n + 1 => if crop * r / 2 ≤ limit then r else ratioFit crop limit n (ratioBelow r)

/-- The ratios of a view by R177 and the third condition of R178. -/
def LayerDesc.ratios (l : LayerDesc) : Nat × Nat :=
  (ratioFit l.cropW 3840 4 (ratioFor l.cropW l.dstW), ratioFit l.cropH 2160 4 (ratioFor l.cropH l.dstH))

/-- The up-scaled size of a view (R177). -/
def LayerDesc.upSize (l : LayerDesc) : Nat × Nat := (l.cropW * l.ratios.1 / 2, l.cropH * l.ratios.2 / 2)

/-- The table images of a partition's ACTIVE slots: its program image, as the device holds it. -/
def State.images (s : State) (p : Nat) : List TableImage :=
  (List.range 128).filterMap fun k => if s.n (Entry.slotPartition k) = p then (s.slotRt k).active else none

/-- The JobKind of the tables that run a network (R147). -/
def networkTable (k : NetworkKind) : Nat :=
  match k with
  | .fill | .lead => 1
  | .camera _ _ _ | .rendered _ _ _ => 2

/-- Whether a partition's program image carries a network: whether a table that takes its jobs lists it (R147, R178, R191; log entry 18). -/
def State.hasNetwork (s : State) (p : Nat) (k : NetworkKind) : Bool :=
  (s.images p).any fun t => t.jobKind = networkTable k && Config.carries t.digest k

/-- The up-scaler of a view at a quality step (R178, R191). -/
def LayerDesc.network (l : LayerDesc) (step : Nat) : NetworkKind :=
  if l.kind = 2 then .rendered l.ratios.1 l.ratios.2 step else .camera l.ratios.1 l.ratios.2 step

/-- Whether a view's geometry allows a network: the first three conditions of R178. -/
def LayerDesc.mayScale (l : LayerDesc) : Bool :=
  (l.kind = 1 || l.kind = 2) && 3 ≤ l.ratios.1 && 3 ≤ l.ratios.2 && 640 ≤ l.cropW && 360 ≤ l.cropH && l.upSize.1 ≤ 3840 &&
    l.upSize.2 ≤ 2160

/-- Whether a view is up-scaled by a network (R178). -/
def State.neural (s : State) (n : Nat) (l : LayerDesc) : Bool :=
  l.mayScale && s.on (Entry.portUpNeuralEnable n) && ((s.portRt n).upViews.any fun v => v.layer = l.index) &&
    (List.range 4).any fun q => s.hasNetwork (s.n (Entry.portPartition n)) (l.network q)

/-- Crop and scale as one number: views that agree in it share a job (R188). -/
def LayerDesc.geometry (l : LayerDesc) : Nat :=
  packFields [(16, l.dstH), (16, l.dstW), (16, l.cropH), (16, l.cropW), (16, l.cropTop), (16, l.cropLeft)]

/-! Blocks. -/

/-- Whether two rectangles, given by left, top, right and bottom exclusive, meet. -/
def meets (a b : Nat × Nat × Nat × Nat) : Bool :=
  a.1 < b.2.2.1 && b.1 < a.2.2.1 && a.2.1 < b.2.2.2 && b.2.1 < a.2.2.2

/-- The rectangles of NoSynthRects (R152). -/
def noSynthRects (b : Bytes) : List (Nat × Nat × Nat × Nat) :=
  (List.range (min 16 (b.length / 8))).map fun i =>
    (field b (8 * i) 2, field b (8 * i + 2) 2, field b (8 * i + 4) 2, field b (8 * i + 6) 2)

/-- A CRC rectangle (R248). -/
structure RectDesc where
  rect   : Nat × Nat × Nat × Nat
  mode   : Nat
  static : List Nat
deriving DecidableEq, Repr

/-- Rectangle `i` of a table. -/
def rectDesc (table : Bytes) (i : Nat) : RectDesc :=
  let d := field table (32 * i) 32
  { rect := (bits d 240 16, bits d 224 16, bits d 208 16, bits d 192 16), mode := bits d 190 2
    static := [bits d 96 32, bits d 64 32, bits d 32 32, bits d 0 32] }

/-- The rectangles in use: those whose Mode is not 0, with their numbers. -/
def activeRects (table : Bytes) : List (Nat × RectDesc) :=
  ((List.range (min 32 (table.length / 32))).map fun i => (i, rectDesc table i)).filter fun e => e.2.mode ≠ 0

/-- Whether the device is in safety mode (R426). -/
def State.safetyMode (s : State) : Bool := s.on Entry.faultSafetyMode

/-- Whether a port shows the marker (R140). -/
def State.markerOn (s : State) (n : Nat) : Bool :=
  s.n (Entry.portGenMarkerMode n) = 1 || (s.n (Entry.portGenMarkerMode n) = 2 && s.safetyMode)

/-- The marker's rectangle: 64×16, inset 8 pixels from its corner (R140). -/
def State.markerRect (s : State) (n : Nat) : Nat × Nat × Nat × Nat :=
  let t := s.timing n
  let c := s.n (Entry.portGenMarkerCorner n)
  let x := if c % 2 = 0 then 8 else t.hActive - 72
  let y := if c / 2 = 0 then 8 else t.vActive - 24
  (x, y, x + 64, y + 16)

/-- Whether a layer draws a route tag (R238, R245, R261). -/
def State.tagDrawn (s : State) (n : Nat) (l : LayerDesc) : Bool :=
  (l.kind = 1 || l.kind = 2) && (s.safetyMode || (s.on (Entry.safeTagEnable n) && !l.noTag))

/-- The rectangle of a layer's tag (R245). -/
def LayerDesc.tagRect (l : LayerDesc) : Nat × Nat × Nat × Nat :=
  (l.dstLeft + l.tagX, l.dstTop + l.tagY, l.dstLeft + l.tagX + 32, l.dstTop + l.tagY + 8)

/-- The regions of a port whose blocks show no synthesis: NoSynthRects, CRC rectangles, the marker, tags (R146, R240). -/
def State.plainRegions (s : State) (n : Nat) : List (Nat × Nat × Nat × Nat) :=
  noSynthRects (s.b (Entry.portGenNoSynthRects n)) ++ (activeRects (s.portRt n).rects).map (fun e => e.2.rect) ++
    (if s.markerOn n then [s.markerRect n] else []) ++
    ((s.layers n).filter (s.tagDrawn n)).map LayerDesc.tagRect

/-- Blocks of a row of a port's grid. -/
def State.gridCols (s : State) (n : Nat) : Nat := divCeil (s.timing n).hActive 8

/-- The 8×8 blocks of the port's grid that a view covers (R144). -/
def State.coveredBlocks (s : State) (n : Nat) (l : LayerDesc) : List Nat :=
  let cols := s.gridCols n
  let x0 := l.dstLeft / 8
  let y0 := l.dstTop / 8
  (List.range (divCeil (l.dstTop + l.dstH) 8 - y0)).flatMap fun j =>
    (List.range (divCeil (l.dstLeft + l.dstW) 8 - x0)).map fun i => (y0 + j) * cols + x0 + i

/-- Whether a block of the port's grid meets a rectangle of a list (R146). -/
def blockMeets (cols : Nat) (l : List (Nat × Nat × Nat × Nat)) (b : Nat) : Bool :=
  let x := 8 * (b % cols)
  let y := 8 * (b / cols)
  l.any (meets (x, y, x + 8, y + 8))

/-- The source block that holds the centre of a block of the port's grid, mapped back through crop and scale (R144); none where the centre lies
outside the crop as clipped to the picture's size, where the view draws FillColour (R240). -/
def LayerDesc.sourceBlock (l : LayerDesc) (gridCols width height b : Nat) : Option Nat :=
  let px := min (8 * (b % gridCols) + 4 - l.dstLeft) (l.dstW - 1)
  let py := min (8 * (b / gridCols) + 4 - l.dstTop) (l.dstH - 1)
  let sx := l.cropLeft + px * l.cropW / max 1 l.dstW
  let sy := l.cropTop + py * l.cropH / max 1 l.dstH
  if width ≤ sx || height ≤ sy then none else some (sy / 8 * divCeil width 8 + sx / 8)

/-- The blocks of a view outside the plain regions with their source blocks (R144, R146). -/
def State.viewBlocks (s : State) (n : Nat) (l : LayerDesc) (width height : Nat) : List (Nat × Nat) :=
  let plain := s.plainRegions n
  let cols := s.gridCols n
  (s.coveredBlocks n l).filterMap fun b =>
    if blockMeets cols plain b then none else (l.sourceBlock cols width height b).map fun j => (b, j)

/-- Whether a block of a view meets a plain region (R146). -/
def State.showsPlain (s : State) (n : Nat) (l : LayerDesc) : Bool :=
  (s.coveredBlocks n l).any (blockMeets (s.gridCols n) (s.plainRegions n))

/-- The source blocks masked out of a stream's jobs on a port (R146): those of which every block of its views there meets a plain region. -/
def State.jobMask (s : State) (n i width height : Nat) : List Nat :=
  let views := (s.cameraLayers n).filter fun l => l.source = i
  let cols := s.gridCols n
  let plain := s.plainRegions n
  let used := views.flatMap fun l => (s.viewBlocks n l width height).map Prod.snd
  let met := views.flatMap fun l =>
    (s.coveredBlocks n l).filterMap fun b => if blockMeets cols plain b then l.sourceBlock cols width height b else none
  met.eraseDups.filter fun j => !used.contains j

end Sys2Proof.Machine
end

