-- ==== Sys2Proof/Machine/Surfaces.lean ====
section
/-! DEFINITION. Render targets and their surfaces, as the raster pipeline and the layers of ports read them (spec/08_raster_pipeline.md R197, R198). -/

namespace Sys2Proof.Machine

open Sys2Proof

/-- The partition of a port, or the one whose PortMask names it. -/
def State.portOwner (s : State) (n : Nat) : Nat :=
  assignee (s.n (Entry.portPartition n)) fun p => (s.n (Entry.partPortMask p)).testBit n

/-- The 64-byte descriptor of a target of a partition, read from its table; none for a number at or above TargetCount (R197). -/
def State.targetDesc (s : State) (p target : Nat) : Option Nat :=
  if p = 0 || s.n (Entry.partRasterTargetCount p) ≤ target then none
  else
    let base := s.n (Entry.partRasterTargetTableBase p) / 64 * 64 + 64 * target
    if s.inRange p base 64 then some (leNat (s.readMem p base 64)) else none

/-- Width and height of a descriptor (R197). -/
def descSize (d : Nat) : Nat × Nat := (bits d 496 16, bits d 480 16)

/-- Bytes per pixel of a ColourFormat (R198). -/
def colourBytes (format : Nat) : Nat := if format = 2 then 8 else 4

/-- Samples of a pixel. -/
def descSamples (d : Nat) : Nat := 2 ^ bits d 478 2

/-- Bytes of a pixel. -/
def descBytes (d : Nat) : Nat := colourBytes (bits d 472 4)

/-- The metadata bytes of a sample plane: one for each 8×8 block. -/
def descBlocks (d : Nat) : Nat := divCeil (descSize d).1 8 * divCeil (descSize d).2 8

/-- Pixels of a target. -/
def descPixels (d : Nat) : Nat := (descSize d).1 * (descSize d).2

/-- Bytes of a frame buffer. -/
def descFrame (d : Nat) : Nat := to256 (descPixels d * descBytes d + descBlocks d)

/-- Bytes of a motion plane. -/
def descMotion (d : Nat) : Nat := to256 (descPixels d * 4)

/-- Bytes of one sample plane of the sample store. -/
def descSamplePlane (d : Nat) : Nat := descPixels d * descBytes d + descBlocks d

/-- Bytes of one sample plane of the depth surface. -/
def descDepthPlane (d : Nat) : Nat := descPixels d * 4 + descBlocks d

/-- Frame buffers of a target. -/
def descBuffers (d : Nat) : Nat := bits d 470 2 + 2

/-- Whether depth is external, and whether the target is up-scaled. -/
def descExternal (d : Nat) : Bool := d.testBit 477
def descUpscale (d : Nat) : Bool := d.testBit 476

/-- The surfaces of a target as (offset, bytes). -/
def descSurfaces (d : Nat) : List (Nat × Nat) :=
  [(bits d 384 64, descBuffers d * descFrame d)] ++
    (if descUpscale d then [(bits d 192 64, descBuffers d * descMotion d)] else []) ++
    (if descSamples d = 1 then [] else [(bits d 256 64, descSamples d * descSamplePlane d)]) ++
    (if descExternal d then [(bits d 320 64, descSamples d * descDepthPlane d)] else [])

/-- Whether a descriptor holds codes and sizes that R197 allows. -/
def descLegal (d : Nat) : Bool :=
  let (w, h) := descSize d
  16 ≤ w && w ≤ 4096 && 16 ≤ h && h ≤ 2176 && bits d 478 2 ≠ 3 && bits d 472 4 < 3 && bits d 470 2 ≠ 3

/-- The offset of a target's descriptor. -/
def State.targetAt (s : State) (p target : Nat) : Nat :=
  s.n (Entry.partRasterTargetTableBase p) / 64 * 64 + 64 * target

/-- A target's record. -/
def State.target (s : State) (p target : Nat) : TargetRt := Assoc.get s.raster.targets (p * 256 + target) {}

/-- The record replaced. -/
def State.setTarget (s : State) (p target : Nat) (g : TargetRt) : State :=
  { s with raster := { s.raster with targets := Assoc.put s.raster.targets (p * 256 + target) g } }

/-! Colour formats (R198). -/

/-- The channels of a texel as integers, R first: RGBA8 or RGB10A2. -/
def unpackColour (format v : Nat) : List Nat :=
  if format = 0 then [bits v 0 8, bits v 8 8, bits v 16 8, bits v 24 8]
  else [bits v 0 10, bits v 10 10, bits v 20 10, bits v 30 2]

/-- The largest value of each channel. -/
def channelMax (format : Nat) : List Nat := if format = 0 then [255, 255, 255, 255] else [1023, 1023, 1023, 3]

/-- A pixel of a target's format as four FP32 codes. -/
def decodeColour (format v : Nat) : List Nat :=
  if format = 2 then
    (List.range 4).map fun k => fmtFP32.encode (fmtFP16.decode (bits v (16 * k) 16))
  else ((unpackColour format v).zip (channelMax format)).map fun e => f32Ratio e.1 e.2

end Sys2Proof.Machine
end

