-- ==== Sys2Proof/Machine/Arrival.lean ====
section
/-! DEFINITION. The arrival record (R173), the versions of a stream's weights (R347, R348, R357) and history resets (R182). -/

namespace Sys2Proof.Machine

open Sys2Proof

/-- The kinds of an arrival entry (R173). -/
def arrReady : Nat := 0
def arrChoice : Nat := 1
def arrLate : Nat := 2
def arrShed : Nat := 3
def arrWeights : Nat := 4
def arrFault : Nat := 5

/-- The offset of an arrival slot in the partition's memory; bits 3:0 of the base are ignored (R173, R375). -/
def State.arrivalSlot (s : State) (p seq : Nat) : Nat :=
  s.n (Entry.partArrivalBase p) / 16 * 16 + 16 * (seq % max 1 (s.n (Entry.partArrivalSlots p)))

/-- The frame counter of a partition's anchor port. -/
def State.anchorFrame (s : State) (p : Nat) : Nat :=
  match s.anchorPort p with
  | none => 0
  | some a => (s.portRt a).frames % 2 ^ 32

/-- An arrival entry written while the mode is log (R173). -/
def State.logArrival (s : State) (p kind port stream frame value : Nat) : State :=
  if p = 0 || (s.partRt p).arrivalMode ≠ 1 then s
  else
    let seq := s.n (Entry.partArrivalCount p)
    let e := packFields [(32, seq), (32, value), (32, frame), (15, 0), (9, stream), (4, port), (4, kind)]
    (s.writeMem p (s.arrivalSlot p seq) (leBytes 16 e)).setN (Entry.partArrivalCount p) ((seq + 1) % 2 ^ 32)

/-- The shedding level as a partition's frame records show it: the replayed one, or ShedLevel (R142, R174). -/
def State.shedLevel (s : State) (p : Nat) : Nat := ((s.partRt p).replayLevel).getD (s.n Entry.devShedLevel)

/-- The shedding level that acts on a partition: the replayed one, or the one that the last lap boundary took (R22, R171, R174). -/
def State.shedActing (s : State) (p : Nat) : Nat := ((s.partRt p).replayLevel).getD (s.partRt p).shed

/-- ShedLevel takes effect on a partition at a lap boundary (R22, R171). -/
def State.takeShed (s : State) (p : Nat) : State := s.setPartRt p { s.partRt p with shed := s.n Entry.devShedLevel }

/-! Weights. -/

/-- A stream's adaptation record in its partition. -/
def State.adaptOf (s : State) (i : Nat) : AdaptStream :=
  Assoc.get (s.adaptPart (s.streamPartition i)).streams i {}

/-- The record replaced. -/
def State.setAdaptOf (s : State) (i : Nat) (a : AdaptStream) : State :=
  let p := s.streamPartition i
  let r := s.adaptPart p
  s.setAdaptPart p { r with streams := Assoc.put r.streams i a }

/-- The number of a stream's active version: 0 its base weights (R347, R357). -/
def AdaptStream.version (a : AdaptStream) : Nat := if a.activeSlot = 0 then 0 else a.slots.getD (a.activeSlot - 1) 0

/-- The active version of a stream. -/
def State.weightsOf (s : State) (i : Nat) : Nat := (s.adaptOf i).version

/-- The slot that holds a version: 0 for version 0, none where the stream does not hold it (R348). -/
def AdaptStream.slotOf (a : AdaptStream) (version : Nat) : Option Nat :=
  if version = 0 then some 0 else (a.slots.findIdx? (· = version)).map (· + 1)

/-- A version made active, with its WEIGHTS entry where it changes (R173, R347, R349). -/
def State.activate (s : State) (i slot : Nat) : State :=
  let a := s.adaptOf i
  let b := { a with activeSlot := slot }
  let t := s.setAdaptOf i b
  let p := s.streamPartition i
  if a.version = b.version then t else t.logArrival p arrWeights 0 i (t.anchorFrame p) b.version

/-- The ring of reduced copies and the queued samples of a stream dropped (R339, R354). -/
def State.clearAdaptRing (s : State) (i : Nat) : State :=
  let p := s.streamPartition i
  let r := s.adaptPart p
  let dropped := (r.queue.filter fun e => e.1 = i).length
  let t := s.setAdaptPart p { r with queue := r.queue.filter fun e => e.1 ≠ i }
  let t := t.setAdaptOf i { t.adaptOf i with copies := [] }
  if p = 0 || dropped = 0 then t else t.add (Entry.partAdaptSamplesDropped p) dropped

/-! History (R181, R182). -/

/-- A history reset of a stream: only frames after the ordinal qualify; counted on every port that shows it; the adaptation ring
is cleared except at a confidence collapse (R182, R339). -/
def State.resetHistory (s : State) (i ordinal : Nat) (collapse : Bool) : State :=
  let t := s.setGenStream i { s.genStream i with historyFrom := ordinal }
  let t := t.each (t.showingPorts i) fun t n => t.bump (Entry.portUpHistoryResets n)
  if collapse then t else t.clearAdaptRing i

/-- The history of a camera picture whose later source frame is `m`, newest first (R181): the most recent true frames held after the last
reset, and the picture's own source frames, which belong to it. -/
def State.history (s : State) (n i : Nat) (own : List Nat) (m : Nat) : List Nat :=
  let d := min (s.n (Entry.portUpHistoryDepth n)) (s.cfgN i (Entry.streamDecodedFrames i) - 2)
  let from_ := (s.genStream i).historyFrom
  let all := ((s.ctx i).frames.map Frame.ordinal).reverse
  let recent := (all.filter fun o => o ≤ m && from_ < o).take d
  all.filter fun o => recent.contains o || own.contains o

end Sys2Proof.Machine
end

