-- ==== Sys2Proof/Machine/Jobs.lean ====
section
/-! DEFINITION. Generation and up-scaling jobs, their buffers, and the frames that readers hold (R85, R147, R148, R187, R188). -/

namespace Sys2Proof.Machine

open Sys2Proof

/-- The jobs replaced. -/
def State.setJobs (s : State) (l : List GenJob) : State := { s with gen := { s.gen with jobs := l } }

/-- A job by its number. -/
def State.job? (s : State) (id : Nat) : Option GenJob := s.gen.jobs.find? fun j => j.id = id

/-- A job changed. -/
def State.amendJob (s : State) (id : Nat) (f : GenJob → GenJob) : State :=
  s.setJobs (s.gen.jobs.map fun j => if j.id = id then f j else j)

/-- The generation jobs of a stream on a port: each stands for a buffer asked for or held. -/
def State.genJobs (s : State) (i n : Nat) : List GenJob :=
  s.gen.jobs.filter fun j => j.kind = 1 && j.stream = i && j.port = n

/-- The buffers that a stream holds for a port: 0 where none could be allocated (R148). -/
def State.genBuffers (s : State) (i n : Nat) : Nat :=
  ((s.gen.buffers.find? fun b => b.1 = i && b.2.1 = n).map fun b => b.2.2).getD 0

/-- Whether a buffer is free for a further job of a stream on a port. -/
def State.freeBuffer (s : State) (i n : Nat) : Bool := (s.genJobs i n).length < s.genBuffers i n

/-- The place of a job among those that take buffers of one set. -/
def jobPlace (l : List GenJob) (j : GenJob) : Nat := l.findIdx fun k => k.id = j.id

/-- Whether a job holds its buffers: a generation buffer for a generation job, an up-scaling buffer of each of its views; buffers go to the
jobs of a set in their order (R148, R187). -/
def State.holdsBuffer (s : State) (j : GenJob) : Bool :=
  (j.kind ≠ 1 || jobPlace (s.genJobs j.stream j.port) j < s.genBuffers j.stream j.port) &&
    j.layers.all fun l =>
      jobPlace (s.gen.jobs.filter fun k => k.port = j.port && k.layers.contains l) j < (s.portRt j.port).upBuffers

/-- A job queued; its number is the next one. -/
def State.startJob (s : State) (j : GenJob) : Nat × State :=
  let id := s.gen.nextJob
  (id, { s with gen := { s.gen with
    jobs := s.gen.jobs ++ [{ j with id := id }]
    nextJob := id + 1 } })

/-- The shadows that no committed job reads any more freed, as a job of Lead ends (R164, R165 step 7). -/
def State.jobEnded (s : State) (j : GenJob) : State :=
  match j.pic with
  | .lead i .. => s.freeRetired i
  | _ => s

/-- A job abandoned: it leaves the queue, or the lap at its boundary (R138, R147, R150, R165). -/
def State.dropJob (s : State) (id : Nat) : State :=
  match s.job? id with
  | none => s
  | some j =>
    (if j.inLap.isSome && !j.done then s.amendJob id fun k => { k with dropped := true }
    else s.setJobs (s.gen.jobs.filter fun k => k.id ≠ id)).jobEnded j

/-- A job complete: its picture is in its buffer, its output that of its networks over its inputs (R148, R151, R153, R193, R195). -/
def State.finishJob (s : State) (id : Nat) : State :=
  match s.job? id with
  | none => s
  | some j =>
    let out := Config.network j.inputs
    let t := s.amendJob id fun k => { k with done := true, inLap := none, output := out }
    let t := if j.render then
        let r := t.portRt j.port
        t.setPortRt j.port { r with lastOutputs := Assoc.put r.lastOutputs j.layer out }
      else t
    if j.kind = 1 then ((t.bump Entry.genFramesGenerated).bump (Entry.streamGenFramesGenerated j.stream)).jobEnded j
    else (t.bump Entry.upJobsCompleted).bump (Entry.portUpJobsCompleted j.port)

/-- The true frames of a picture, by ordinal. -/
def Pic.frames (p : Pic) : List Nat :=
  match p with
  | .trueFrame _ o _ => [o]
  | .fill _ n m .. => [n, m]
  | .lead _ src .. => [src]
  | .render .. => []

/-- The stream of a camera picture. -/
def Pic.stream? (p : Pic) : Option Nat :=
  match p with
  | .trueFrame i .. | .fill i .. | .lead i .. => some i
  | .render .. => none

/-- The later source true frame of a picture (R181). -/
def Pic.later (p : Pic) : Nat :=
  match p with
  | .trueFrame _ o _ => o
  | .fill _ _ m .. => m
  | .lead _ src .. => src
  | .render .. => 0

/-- The choices of a port whose compositions have not ended: the last one, and the one being composed. -/
def State.openChoices (s : State) (n : Nat) : List FrameChoice :=
  let r := s.portRt n
  match r.chosen with
  | [] => []
  | c :: rest => c :: rest.filter fun d => (r.composing.map Composed.frame) = some d.frame

/-- Whether a choice shows the output of a job (R148, R187). -/
def FrameChoice.reads (c : FrameChoice) (j : GenJob) : Bool :=
  if j.render then c.renders.any fun v => j.layers.contains v.layer && .render v.target (v.count.getD 0) = j.pic && v.count.isSome
  else c.views.any fun v => v.pic = some j.pic

/-- The pictures held for a Lead measurement (R167). -/
def State.heldPics (s : State) : List Pic := s.gen.streams.filterMap fun e => e.2.held

/-- Finished jobs of a port that no composition reads any more give their buffers back, and so does a stream that has left the
port (R136 step 5, R148, R150, R187); a speculative picture waits for its choice point (R158). -/
def State.reapJobs (s : State) (n : Nat) : State :=
  let t := s.setJobs (s.gen.jobs.filter fun j =>
    j.port ≠ n || !(j.done || j.dropped) || (j.dropped && j.inLap.isSome) || (j.done && !j.committed) ||
      (j.done && (((s.openChoices n).any fun c => c.reads j) || (j.kind = 1 && s.heldPics.contains j.pic))))
  let gone := t.gen.buffers.filter fun b =>
    b.2.1 = n && (t.genJobs b.1 n).isEmpty &&
      (t.n (Entry.streamGenGenState b.1) = 0 || !(t.showingPorts b.1).contains n)
  t.each gone fun t b =>
    ({ t with gen := { t.gen with buffers := t.gen.buffers.filter (· ≠ b) } }).release (t.streamPartition b.1)
      (tagGen b.1 n)

/-- Whether some reader holds a true frame of a stream (R85). -/
def State.frameHeld (s : State) (i : Nat) (f : Frame) : Bool :=
  let frames := (s.ctx i).frames
  let newest := ((frames.filter Frame.ready).getLast?).map Frame.ordinal
  let waits := s.vision.pairs.any fun e =>
    (s.pairLeft e.1 = i && (e.2.waitLeft.map WaitFrame.ordinal) = some f.ordinal) ||
      (s.pairRight e.1 = i && (e.2.waitRight.map WaitFrame.ordinal) = some f.ordinal)
  let paired := (s.vision.queued ++ s.vision.stereo.map Prod.snd).any fun q =>
    (s.pairLeft q.pair = i && q.left.ordinal = f.ordinal) || (s.pairRight q.pair = i && q.right.ordinal = f.ordinal)
  let flowNext := frames.any fun g => g.ordinal = f.ordinal + 1 && g.flow == .pending
  let jobs := s.gen.jobs.any fun j =>
    j.pic.stream? = some i && !j.done && !j.dropped &&
      (j.pic.frames.contains f.ordinal || j.history.contains f.ordinal)
  let shown := (List.range s.portCount).any fun n => (s.openChoices n).any fun c => c.views.any fun v =>
    v.stream = i && (v.newest = some f.ordinal || (v.pic.map fun p => p.frames.contains f.ordinal) = some true)
  let measured := ((s.genStream i).held.map Pic.frames).any fun l => l.contains f.ordinal
  !f.ready || waits || paired || flowNext || jobs || shown || measured ||
    (newest = some f.ordinal && !(s.showingPorts i).isEmpty)

/-- A list without up to `k` of those that are not kept, the oldest first. -/
def dropSome {α : Type} (keep : α → Bool) : List α → Nat → List α
  | [], _ => []
  | f :: r, 0 => f :: r
  | f :: r, k + 1 => if keep f then f :: dropSome keep r (k + 1) else dropSome keep r k

/-- Frame buffers that no reader holds are free, and a picture takes a free one (R85): where the buffers are all in use, the oldest free
frame goes (DESIGN CHOICE, log entry 48).  The newest frame is kept as the next frame's predecessor for flow. -/
def State.pruneFrames (s : State) (i : Nat) : State :=
  let c := s.ctx i
  let last := (c.frames.getLast?).map Frame.ordinal
  let excess := c.frames.length + s.decodingOf i + ofBool (s.csiFrame? i).isSome - s.cfgN i (Entry.streamDecodedFrames i)
  s.setCtx i { c with frames := dropSome (fun f => s.frameHeld i f || last = some f.ordinal) c.frames excess }

/-! Output frames of pairs (R112). -/

/-- The left frame of an output frame of a pair, where its depth is read (R114, R128). -/
def State.depthFrame (s : State) (p : Nat) (o : Nat × DepthMap) : Option Frame :=
  (s.ctx (s.pairLeft p)).frames.find? fun f => f.ordinal = o.1 && f.depth = .have_ o.2

/-- Whether a reader holds an output frame: its left frame has its depth and is held. -/
def State.outputRead (s : State) (p : Nat) (o : Nat × DepthMap) : Bool :=
  match s.depthFrame p o with
  | some f => s.frameHeld (s.pairLeft p) f
  | none => false

/-- The pair frames of a pair on engines, each of which writes an output frame. -/
def State.pairsRunning (s : State) (p : Nat) : Nat := (s.vision.stereo.filter fun e => e.2.pair = p).length

/-- Whether an output frame of a pair is free (R112). -/
def State.outputFree (s : State) (p : Nat) : Bool :=
  ((s.pairSt p).outputs.filter (s.outputRead p)).length + s.pairsRunning p < s.pairCfgN p (Entry.pairDisparityFrames p)

/-- An output frame of a pair taken for its next pair frame: where they are all in use, the oldest that no reader holds (R112; DESIGN CHOICE,
log entry 48). -/
def State.reuseOutput (s : State) (p : Nat) : State :=
  let i := s.pairLeft p
  let r := s.pairSt p
  let excess := r.outputs.length + s.pairsRunning p + 1 - s.pairCfgN p (Entry.pairDisparityFrames p)
  let kept := dropSome (s.outputRead p) r.outputs excess
  let gone := (r.outputs.filter fun o => !kept.contains o).filterMap (s.depthFrame p) |>.map Frame.ordinal
  let t := s.setPairSt p { r with outputs := kept }
  let c := t.ctx i
  t.setCtx i { c with frames := c.frames.map fun (f : Frame) => if gone.contains f.ordinal then { f with depth := .without } else f }

/-- A free engine takes the oldest queued pair frame by mapped time, then by pair number: of the memory pairs, or of the pairs
pinned to it where it has any (R100, R111 steps 2 and S2).  A pair frame without a free output frame is dropped (R112). -/
def State.stereoStart (s : State) (g : Nat) : State :=
  if s.fenced ⟨.stereo, g⟩ || (Assoc.find s.vision.stereo g).isSome then s
  else
    let mine := s.vision.queued.filter fun f =>
      if (s.pinned g).isEmpty then !s.streamed f.pair else (s.pinned g).contains f.pair
    match minBy (fun f => max f.left.mapped f.right.mapped * 64 + (f.pair : Int)) mine with
    | none => s
    | some f =>
      let t := { s with vision := { s.vision with queued := s.vision.queued.filter (· ≠ f) } }
      if !t.outputFree f.pair then ((t.pairFlag f.pair 3 true).abandonPairFrame f).showEngine g
      else
        let t := t.reuseOutput f.pair
        ({ t with vision := { t.vision with stereo := Assoc.put t.vision.stereo g f } }).showEngine g

/-- The backward passes of streamed pairs that a frame end brings to free engines (R111 step S2). -/
def State.startPinned (s : State) : State :=
  s.each ((List.range 4).filter fun g => !(s.pinned g).isEmpty) State.stereoStart

/-- The pending and running jobs, and the speculative pictures, that a set of conditions names, abandoned. -/
def State.dropJobs (s : State) (f : GenJob → Bool) : State :=
  s.each (s.gen.jobs.filter fun j => f j && !(j.done && j.committed)) fun t j => t.dropJob j.id

/-- The jobs that a lap of a table could take, from the head of the partition's queue: of the slot's kind, pending, each with its buffers; one
whose networks the slot's image does not list is passed over (R147). -/
def State.batch (s : State) (p kind : Nat) (image : Bytes) : List GenJob :=
  s.gen.jobs.filter fun j =>
    j.partition = p && j.kind = kind && j.inLap.isNone && !j.done && !j.dropped && s.holdsBuffer j &&
      j.networks.all fun k => Config.carries image k

/-- Jobs taken into a lap of a slot whose table image has a digest. -/
def State.takeJobs (s : State) (k : Nat) (image : Bytes) (l : List GenJob) : State :=
  s.each l fun t j => t.amendJob j.id fun x =>
    let previous := if x.render && x.inputs.previous.isSome then Assoc.find (t.portRt x.port).lastOutputs x.layer else x.inputs.previous
    { x with inLap := some k, inputs := { x.inputs with image := image, previous := previous } }

/-- The jobs of a lap that was abandoned: reissued at the next lap, but for retracted ones and those of speculative Lead
pictures, which leave (R147, R150, R166). -/
def State.reissue (s : State) (k : Nat) : State :=
  s.setJobs ((s.gen.jobs.filter fun j =>
      !(j.inLap = some k && (j.dropped || (!j.committed && match j.pic with | .lead .. => true | _ => false)))).map
    fun j => if j.inLap = some k then { j with inLap := none } else j)

end Sys2Proof.Machine
end

