-- ==== Sys2Proof/Machine/Inputs.lean ====
section
/-! DEFINITION. What the jobs of frame generation and up-scaling read: prediction at a picture's time, the alignment of history
frames, and the inputs of networks (spec/05_frame_generation.md R146, spec/06_run_ahead_and_rollback.md R161, spec/07_upscaling.md R181 to R186,
R193). -/

namespace Sys2Proof.Machine

open Sys2Proof

/-- The time of a picture in ticks. -/
def Pic.time (p : Pic) : Rat :=
  match p with
  | .trueFrame _ _ t => (t : Rat)
  | .fill _ _ _ k r tn tm => (tn : Rat) + mkRat k r * ((tm : Rat) - (tn : Rat))
  | .lead _ _ _ target => target
  | .render .. => 0

/-- The place of a generated picture: between its two true frames, or ticks after its source. -/
def Pic.place (p : Pic) : Rat :=
  match p with
  | .fill _ _ _ k r _ _ => mkRat k r
  | .lead _ _ ts target => target - (ts : Rat)
  | _ => 0

/-- The flow records of a frame. -/
def Frame.flowRecords (f : Frame) : List FlowRecord := match f.flow with | .have_ r => r | _ => []

/-- The flow term of a source block (R144). -/
def flowTerm (r : FlowRecord) : Nat := if r.valid then 255 - min 255 (r.cost / 16) else 0

/-! Prediction at a time (R128, R161). -/

/-- An anchor's predicted centre at a time in ticks, `ts` being a timestamp near it whose low bits RefTime can be told from. -/
def Anchor.centreAt (a : Anchor) (unit ts : Nat) (time : Rat) : Rat × Rat :=
  a.predict ((time - (ts : Rat) + (tickDiff ts a.refTime : Rat)) / (unit : Rat))

/-- The anchor that covers a point at a time: of the highest confidence, then the lowest index (R144, R145, R183). -/
def coverAt (l : List (Nat × Anchor)) (unit ts : Nat) (time : Rat) (x y : Nat) : Option Anchor :=
  (minBy (fun e => -((e.2.conf : Nat) : Int)) (l.filter fun e =>
    inRegion (e.2.centreAt unit ts time) e.2.width e.2.height x y)).map Prod.snd

/-- How far an anchor moves from one time to another, in pixels. -/
def Anchor.move (a : Anchor) (unit ts : Nat) (from_ until_ : Rat) : Rat × Rat :=
  let p := a.centreAt unit ts from_
  let q := a.centreAt unit ts until_
  (q.1 - p.1, q.2 - p.2)

/-! Alignment (R183). -/

/-- The chain of flow records from a source frame back to a history frame: where a point of the source frame lies in the history frame;
none where a record of the chain is missing or its flow term lies below the threshold. -/
def flowChain (threshold : Nat) (frames : List Frame) (pos : Rat × Rat) : Option (Rat × Rat) :=
  match frames with
  | [] => some pos
  | f :: rest =>
    let cols := divCeil f.picture.width 8
    let x := pos.1.floor
    let y := pos.2.floor
    if x < 0 || y < 0 || (f.picture.width : Int) ≤ x || (f.picture.height : Int) ≤ y then none
    else
      match f.flowRecords[y.toNat / 8 * cols + x.toNat / 8]? with
      | none => none
      | some r =>
        if flowTerm r < threshold then none
        else flowChain threshold rest (pos.1 + mkRat r.vecX 4, pos.2 + mkRat r.vecY 4)

/-- The alignment of one history frame to a picture, block by block (R183): by the covering anchor, by the chain of flow records, or masked.
`frames` are the true frames held, oldest first. -/
def alignFrame (anchors : List (Nat × Anchor)) (unit threshold : Nat) (frames : List Frame) (source h : Frame) (time : Rat) :
    List BlockAlign :=
  let cols := divCeil source.picture.width 8
  let chain := (frames.filter fun g => h.ordinal < g.ordinal && g.ordinal ≤ source.ordinal).reverse
  (List.range (cols * divCeil source.picture.height 8)).map fun j =>
    let c := blockCentre cols j
    match (coverAt anchors unit source.timestamp time c.1 c.2).filter fun a => threshold ≤ a.conf with
    | some a =>
      let d := a.move unit source.timestamp time (h.timestamp : Rat)
      .moved d.1 d.2
    | none =>
      if chain.length ≠ source.ordinal - h.ordinal then .masked
      else
        match flowChain threshold chain ((c.1 : Rat), (c.2 : Rat)) with
        | none => .masked
        | some q => .moved (q.1 - (c.1 : Rat)) (q.2 - (c.2 : Rat))

/-! Camera jobs. -/

/-- The gate threshold in use (R145). -/
def State.gateThreshold (s : State) (i : Nat) : Nat :=
  let t := s.n (Entry.streamGenGateThreshold i)
  if s.safetyMode then max t 128 else t

/-- The views of a stream on a port that networks up-scale, one of each geometry, the lowest layer of it (R188). -/
def State.scaledViews (s : State) (n i : Nat) : List LayerDesc :=
  let l := (s.cameraLayers n).filter fun l => l.source = i && s.neural n l
  l.filter fun x => (l.find? fun y => y.geometry = x.geometry) = some x

/-- The anchor records that a picture's job reads: the shadow set of a Lead picture's source, else the masters (R161, R183). -/
def State.jobAnchors (s : State) (i : Nat) (p : Pic) : List (Nat × Anchor) :=
  match p with
  | .lead _ src .. => s.shadowSet i src
  | _ => s.anchorsOf i false

/-- A job of a camera picture for a port frame (R146, R147, R161, R181 to R183, R188, R193): its inputs are those of the choice point. -/
def State.cameraJob (s : State) (kind n i F : Nat) (p : Pic) (views : List LayerDesc) (committed : Bool) : GenJob :=
  let frames := (s.ctx i).frames
  let anchors := s.jobAnchors i p
  let step := s.n (Entry.portUpQualityInUse n)
  let hist := s.history n i p.frames p.later
  let source := (frames.find? fun f => f.ordinal = p.later).getD {}
  let histFrames := hist.filterMap fun o => frames.find? fun f => f.ordinal = o
  let w := source.picture.width
  let h := source.picture.height
  let isLead := match p with | .lead .. => true | _ => false
  { kind := kind, partition := s.streamPartition i, port := n, stream := i, pic := p, due := F, committed := committed
    layer := (views.head?.map LayerDesc.index).getD 0, layers := views.map LayerDesc.index
    geometry := if kind = 2 then (views.head?.map LayerDesc.geometry).getD 0 else 0
    version := if kind = 1 then s.weightsOf i else 0
    history := hist
    anchors := anchors
    bare := if isLead then (s.anchorsOf i false).filter fun e => !(anchors.any fun x => x.2.link = e.1) else []
    threshold := s.gateThreshold i
    networks := (if kind = 2 then [] else if isLead then [.lead] else [.fill]) ++ views.map fun l => l.network step
    inputs :=
      { pictures := p.frames.filterMap fun o => (frames.find? fun f => f.ordinal = o).map Frame.picture
        flow := source.flowRecords.map FlowRecord.word
        anchors := anchors.map fun e => e.2.bytes
        place := p.place
        mask := s.jobMask n i w h
        history := histFrames.map Frame.picture
        alignment := histFrames.map fun f => alignFrame anchors (s.anchorUnit i) (s.n (Entry.portUpHistoryThreshold n)) frames source f p.time
        weights := if kind = 1 then s.weightsOf i else 0
        step := step
        geometries := views.map LayerDesc.geometry } }

/-! Rendered jobs (R184 to R186). -/

/-- Whether a rendered layer's history restarts with a job of a FrameCount (R186). -/
def PortRt.resets (r : PortRt) (layer count : Nat) : Bool :=
  r.renderReset.any fun e => e.1 = layer && (match e.2 with | none => true | some o => decide ((count + 2 ^ 32 - o) % 2 ^ 32 < 2 ^ 31))

/-- The up-scaling job of a rendered view for a frame of its target (R184 to R188). -/
def State.renderJob (s : State) (n F : Nat) (l : LayerDesc) (count : Nat) : GenJob :=
  let p := s.portOwner n
  let d := (s.targetDesc p l.source).getD 0
  let b := (s.target p l.source).newest
  let r := s.portRt n
  let step := s.n (Entry.portUpQualityInUse n)
  { kind := 2, partition := p, port := n, layer := l.index, layers := [l.index], render := true, geometry := l.geometry
    pic := .render l.source count, due := F, committed := true, networks := [l.network step]
    inputs :=
      { colour := s.readMem p (bits d 384 64 + b * descFrame d) (descPixels d * descBytes d)
        motion := if descUpscale d then s.readMem p (bits d 192 64 + b * descMotion d) (4 * descPixels d) else []
        depth := if descExternal d then s.readMem p (bits d 320 64) (4 * descPixels d) else []
        jitter := count % 16
        previous := if r.resets l.index count then none else Assoc.find r.lastOutputs l.index
        step := step
        geometries := [l.geometry] } }

end Sys2Proof.Machine
end

