-- ==== Sys2Proof/Machine/Scaler.lean ====
section
/-! DEFINITION. The fixed scaler of a compositor context (spec/07_upscaling.md R177, R179). -/

namespace Sys2Proof.Machine

open Sys2Proof

/-- The weight of the four-tap cubic filter with a = −0.5 at a distance in samples (R179). -/
def cubicWeight (d : Rat) : Rat :=
  let x := ratAbs d
  if x ≤ 1 then (mkRat 3 2 * x - mkRat 5 2) * x * x + 1
  else if x < 2 then ((mkRat (-1) 2 * x + mkRat 5 2) * x - 4) * x + 2
  else 0

/-- A plane of samples: its size and its samples, with the edge repeated outside (R179). -/
structure Plane where
  width  : Nat
  height : Nat
  sample : Nat → Nat → Rat

/-- A sample of a plane with repeat-edge. -/
def Plane.edge (p : Plane) (x y : Int) : Rat :=
  p.sample (clampInt 0 ((p.width : Int) - 1) x).toNat (clampInt 0 ((p.height : Int) - 1) y).toNat

/-- The cubic filter on both axes at a position in samples, where sample `i` has its centre at `i + 1/2` (R179). -/
def Plane.cubic (p : Plane) (x y : Rat) : Rat :=
  let u := x - mkRat 1 2
  let v := y - mkRat 1 2
  let taps := ([-1, 0, 1, 2] : List Int)
  taps.foldl (fun (a : Rat) j => a + cubicWeight (v - ((v.floor + j : Int) : Rat)) *
    taps.foldl (fun (b : Rat) i => b + cubicWeight (u - ((u.floor + i : Int) : Rat)) * p.edge (u.floor + i) (v.floor + j)) 0) 0

/-- The result of the fixed scaler: rounded to nearest, ties to even, saturated to 0 to 1,023 (R179). -/
def Plane.scaled (p : Plane) (x y : Rat) : Nat := (toField (p.cubic x y) 1 0 1023).toNat

/-- A warp's offset rounded to 1/16 source pixel (R179). -/
def warpOffset (d : Rat) : Rat := mkRat (roundEven (d * 16)) 16

/-- The centre of an output pixel of a view mapped back through crop and scale, in pixels of the source (R177, R179). -/
def LayerDesc.sourceX (l : LayerDesc) (x : Nat) : Rat :=
  (l.cropLeft : Rat) + (((x : Int) - l.dstLeft : Int) + mkRat 1 2) * mkRat l.cropW (max 1 l.dstW)
def LayerDesc.sourceY (l : LayerDesc) (y : Nat) : Rat :=
  (l.cropTop : Rat) + (((y : Int) - l.dstTop : Int) + mkRat 1 2) * mkRat l.cropH (max 1 l.dstH)

/-- A plane of rows of samples. -/
def rowsPlane (rows : List (List Nat)) (width height : Nat) : Plane :=
  { width := width, height := height, sample := fun x y => (((rows.getD y []).getD x 0 : Nat) : Rat) }

/-- The planes of a stored picture: luma, and chroma at its own resolution (R83). -/
def picturePlanes (p : Picture) : List Plane :=
  [rowsPlane p.luma p.width p.height, rowsPlane p.cb (divCeil p.width 2) (divCeil p.height 2),
    rowsPlane p.cr (divCeil p.width 2) (divCeil p.height 2)]

/-- The luma and chroma of the fixed scaler at a position of the source in luma pixels; chroma is filtered at its own resolution (R179). -/
def scaledYuv (l : List Plane) (x y : Rat) : List Nat :=
  ((List.range 3).zip l).map fun e => if e.1 = 0 then e.2.scaled x y else e.2.scaled (x / 2) (y / 2)

end Sys2Proof.Machine
end

