-- ==== Sys2Proof/Machine/Generation.lean ====
section
/-! DEFINITION. Frame generation: modes, GenState, true frames, the choice of pictures in Pass, Fill and Lead, gating, the
measurement of Lead and replay (spec/05_frame_generation.md, spec/06_run_ahead_and_rollback.md). -/

namespace Sys2Proof.Machine

open Sys2Proof

/-! Modes (R134, R169 to R171). -/

/-- GenState codes (R153). -/
def genIdle : Nat := 0
def genPriming : Nat := 1
def genPass : Nat := 2
def genFill : Nat := 3
def genLead : Nat := 4

/-- The GenState of a stream. -/
def State.genState (s : State) (i : Nat) : Nat := s.n (Entry.streamGenGenState i)

/-- The mode in effect as a GenState: PASS, FILL or LEAD (R134). -/
def State.modeInEffect (s : State) (i : Nat) : Nat :=
  let mode := s.n (Entry.streamGenMode i)
  let fill := if s.on (Entry.streamGenFillAllowed i) then genFill else genPass
  if mode = 0 then genPass else if mode = 1 || s.leadFallback i then fill else genLead

/-- The shedding level that acts on a stream. -/
def State.streamShed (s : State) (i : Nat) : Nat := s.shedActing (s.streamPartition i)

/-- RatioInUse by the shedding level (R171) (DEDUCED, log entry 57). -/
def State.ratioInUse (s : State) (i : Nat) : Nat :=
  let r := s.n (Entry.streamGenFillRatio i)
  match s.streamShed i with
  | 0 | 1 => r
  | 2 => min r 2
  | _ => 1

/-- The tick rate of a stream's timestamps per second. -/
def State.ticksPerSecond (s : State) (i : Nat) : Rat := (s.tickRate i : Rat)

/-- The horizon of a stream in ticks (R156, R171). -/
def State.horizon (s : State) (i : Nat) : Rat :=
  let k := s.n (Entry.streamGenLeadHorizon i)
  let k := if s.streamShed i = 0 then k else min k 1
  min (s.sourceInterval i * (k : Rat)) (s.ticksPerSecond i / 10)

/-- HorizonInUse as its entry reads (R153, R156). -/
def State.horizonInUse (s : State) (i : Nat) : Nat := (s.horizon i / s.sourceInterval i).floor.toNat

/-! Ticks and lines (R135, R155). -/

/-- The tick of a stream at a line count of a port (R135). -/
def State.tickAt (s : State) (i n : Nat) (line : Int) : Rat :=
  let r := s.ratioOf i n
  ((line : Rat) - mkRat r.phase (2 ^ 16)) * mkRat r.ratio (2 ^ 16) / ((s.timing n).vTotal : Rat)

/-- The line count of the choice point of frame F: the frame start of F − 1 (R135). -/
def State.choiceLine (s : State) (n F : Nat) : Int := ((F : Int) - 1) * ((s.timing n).vTotal : Int)

/-- The horizon of a stream on a port in ticks: its cap of 100 ms is converted to the port's lines, to the nearest line, and these to ticks by
the pace ratio (R28, R156) (DEDUCED, log entry 102). -/
def State.horizonOn (s : State) (i n : Nat) : Rat :=
  let k := s.n (Entry.streamGenLeadHorizon i)
  let k := if s.streamShed i = 0 then k else min k 1
  let t := s.timing n
  min (s.sourceInterval i * (k : Rat)) ((t.lines 1 10 : Rat) * mkRat (s.ratioOf i n).ratio (2 ^ 16) / (t.vTotal : Rat))

/-- The target time τ(F) (R155). -/
def State.targetTime (s : State) (i n F : Nat) : Rat :=
  let t := s.timing n
  s.tickAt i n ((F * t.vTotal + t.firstActive + t.vActive / 2 : Nat) : Int)

/-- The pace ratio in ticks per port frame. -/
def State.paceTicks (s : State) (i n : Nat) : Rat := mkRat (s.ratioOf i n).ratio (2 ^ 16)

/-- FillSlack in ticks (R135). -/
def State.fillSlack (s : State) (i : Nat) : Rat :=
  (s.n (Entry.streamGenFillSlack i) : Rat) * s.ticksPerSecond i / 1000000

/-- The ready true frames of a stream, oldest first. -/
def State.readyFrames (s : State) (i : Nat) : List Frame := (s.ctx i).frames.filter Frame.ready

/-- The newest ready true frame. -/
def State.newestReady (s : State) (i : Nat) : Option Frame := (s.readyFrames i).getLast?

/-- A frame as a picture. -/
def Frame.pic (f : Frame) (i : Nat) : Pic := .trueFrame i f.ordinal f.timestamp

/-! GenState (R136). -/

/-- Whether a frame counts as without flow: none, or its predecessor was not the frame before it (R116, R128). -/
def Frame.noFlow (f : Frame) : Bool := !f.follows || (match f.flow with | .have_ _ => false | _ => true)

/-- Whether a frame is a scene cut (R136). -/
def Frame.sceneCut (f : Frame) : Bool :=
  let v := f.flowRecords.filter FlowRecord.valid
  v.length < 2 * (v.filter fun r => 8192 ≤ r.cost).length

/-- The lap of retraction: a Lead chain's speculative pictures leave (R165 step 5, R166). -/
def State.retractSpeculative (s : State) (i : Nat) : State :=
  s.each (s.gen.jobs.filter fun j => j.kind = 1 && j.stream = i && !j.committed) fun t j => t.dropJob j.id

/-- A GenState entered; leaving LEAD retracts its speculative pictures (R136, R166). -/
def State.setGenState (s : State) (i g : Nat) : State :=
  let t := if s.genState i = genLead && g ≠ genLead then s.retractSpeculative i else s
  t.setN (Entry.streamGenGenState i) g

/-- Whether a generation flag is set (R154). -/
def State.hasFlagGen (s : State) (i bit : Nat) : Bool := (s.n (Entry.streamGenGenFlags i)).testBit bit

/-- The buffers of a stream for every port that shows it, at its newest picture's size; NoMemory where some cannot be had
(R148; the size before the first picture is a DESIGN CHOICE, log entry 19). -/
def State.allocGen (s : State) (i : Nat) : State :=
  let (w, h) := match (s.ctx i).frames.getLast? with
    | some f => (f.picture.width, f.picture.height)
    | none => (s.cfgN i (Entry.streamMaxWidth i), s.cfgN i (Entry.streamMaxHeight i))
  let k := s.n (Entry.streamGenGenFrames i)
  let p := s.streamPartition i
  let bytes := k * frameBytes w h
  let t := s.each (s.showingPorts i) fun t n =>
    if t.genBuffers i n ≠ 0 || !t.deviceFits p bytes then t
    else
      let u := t.allocate p (tagGen i n) bytes
      { u with gen := { u.gen with buffers := u.gen.buffers ++ [(i, n, k)] } }
  t.genFlag i genNoMemory ((t.showingPorts i).any fun n => t.genBuffers i n = 0)

/-- IDLE (R125, R136 step 5): jobs abandoned, anchors freed; the buffers go as the last compositions end. -/
def State.goIdle (s : State) (i : Nat) : State :=
  let t := s.dropJobs fun j => j.kind = 1 && j.stream = i
  let t := (t.setGenState i genIdle).freeAnchors i false
  let g := t.genStream i
  let t := t.setGenStream i { g with
    held := none, heldBlocks := [], unmeasured := none, currentSet := none, shownTrue := [], pendingCuts := 0, pendingPrime := false
    pendingRetract := false }
  let t := t.genFlag i genNoMemory false
  t.each (List.range t.portCount) fun t n => t.reapJobs n

/-- Whether PRIMING ends (R136 step 2): two successive true frames ready, the later after the event that led to PRIMING and with a
flow block of Valid 1. -/
def State.primed (s : State) (i : Nat) : Bool :=
  match (s.readyFrames i).reverse with
  | b :: a :: _ =>
    b.ordinal = a.ordinal + 1 && (s.genStream i).primeAfter < b.ordinal && !b.noFlow && b.flowRecords.any FlowRecord.valid
  | _ => false

/-- The flags of a stream that starts or leaves LIVE as their conditions stand: it has no ready frame, no depth and no refused allocation
(R154). -/
def State.genFlagsAt (s : State) (i : Nat) (opened : Bool) : State :=
  ((s.genFlag i genNoFlow false).genFlag i genNoDepth opened).genFlag i genQuotaFull false

/-- The store fenced: no anchor exists, streams in FILL or LEAD enter PRIMING, committed Lead pictures are abandoned (R133, R136 step 6,
R166). -/
def State.fenceStore (s : State) : State :=
  let owners := (s.anchors.records.map fun e => e.2.stream).eraseDups
  let t := { s with anchors := { s.anchors with records := [] } }
  let t := t.each owners fun t i => t.countAnchors i
  let t := t.setN Entry.genStoreState 1
  let t := t.each (List.range 512) fun t i =>
    let u := t.genFlag i genStoreFenced true
    if u.genState i = genFill || u.genState i = genLead then u.setGenState i genPriming else u
  t.dropJobs fun j => j.kind = 1 && match j.pic with | .lead .. => true | _ => false

/-- The GenState of a stream at a choice point (R136, R150). -/
def State.advanceGen (s : State) (i : Nat) : State :=
  let viewed := !(s.showingPorts i).isEmpty
  if s.streamState i ≠ 2 || !viewed then (if s.genState i = genIdle then s else s.goIdle i)
  else
    let mode := s.modeInEffect i
    if s.genState i = genIdle then
      let t := s.allocGen i
      let short := t.hasFlagGen i genNoMemory
      t.setGenState i (if mode = genPass && !short then genPass else genPriming)
    else
      -- a port that has begun to show the stream; a failed allocation is retried at the next true frame (R148)
      let t := if ((s.showingPorts i).all fun n => s.genBuffers i n ≠ 0) || s.hasFlagGen i genNoMemory then s else s.allocGen i
      let t := if (t.genStream i).pendingRetract then t.retractSpeculative i else t
      let g := t.genStream i
      let now := t.genState i
      let fenced := t.on Entry.genStoreState
      -- step 3 and step 6
      let hit := g.pendingPrime || t.hasFlag i flagTainted || fenced
      let inGen := now = genFill || now = genLead
      let u := if inGen && hit then t.setGenState i genPriming else t
      let u := if g.pendingCuts ≠ 0 then
          let v := (u.freeAnchors i true).retireShadows i
          if inGen then v.add (Entry.streamGenSceneCuts i) g.pendingCuts else v
        else u
      let u := u.setGenStream i { u.genStream i with pendingCuts := 0, pendingPrime := false, pendingRetract := false }
      -- step 4
      let now := u.genState i
      let u := if mode = genPass then (if now = genPriming && u.hasFlagGen i genNoMemory then u
            else u.setGenState i genPass)
        else if now = genPass then u.setGenState i genPriming
        else if now = genFill || now = genLead then u.setGenState i mode
        else u
      -- step 2, for a stream that was PRIMING when the choice point came
      if t.genState i = genPriming && u.genState i = genPriming && mode ≠ genPass && !fenced && !g.pendingPrime &&
          !u.hasFlagGen i genNoMemory && u.primed i then u.setGenState i mode
      else u

/-! Gating (R144, R145). -/

/-- The stereo term of a source block: the median confidence of its pixels where at least half carry codes that are not reserved
(R144; the median of an even count is rounded down, log entry 13). -/
def stereoTerm (m : DepthMap) (cols j : Nat) : Option Nat :=
  let x0 := 8 * (j % cols)
  let y0 := 8 * (j / cols)
  let px := (List.range 8).flatMap fun dy => (List.range 8).filterMap fun dx =>
    match m.disparity[y0 + dy]? with
    | none => none
    | some row => (row[x0 + dx]?).map fun d => (d, ((m.confidence.getD (y0 + dy) []).getD (x0 + dx) 0))
  let good := px.filter fun e => e.1 < 0xFFF0
  if px.isEmpty || 2 * good.length < px.length then none else some (median2 (good.map Prod.snd) / 2)

/-- The confidence of a source block: the smallest term that applies (R144). -/
def blockConfidence (anchor : Option Nat) (flow : Nat) (stereo : Option Nat) (disocclusion network : Nat) : Nat :=
  min (min (anchor.getD 255) flow) (min (stereo.getD 255) (min disocclusion network))

/-- The disocclusion term (R144): of a Fill picture by how many true frames cover the block, of a Lead picture by whether its
source does. -/
def disocclusionTerm (lead : Bool) (covered : Nat) : Nat :=
  if lead then (if covered % 2 = 1 then 255 else 0)
  else match min covered 2 with | 0 => 0 | 1 => 96 | _ => 255

/-- The confidence of a source block of a job's picture (R144); none where masters without a shadow alone cover it: such a block is gated
(R163). -/
def State.jobConfidence (s : State) (f : Frame) (j : GenJob) (b : Nat) : Option Nat :=
  let cols := divCeil f.picture.width 8
  let c := blockCentre cols b
  let isLead := match j.pic with | .lead .. => true | _ => false
  let at_ := fun l => coverAt l (s.anchorUnit j.stream) f.timestamp j.pic.time c.1 c.2
  let stereo := match f.depth with | .have_ m => stereoTerm m cols b | _ => none
  if (at_ j.anchors).isNone && (at_ j.bare).isSome then none
  else
    some (blockConfidence ((at_ j.anchors).map Anchor.conf) (flowTerm (f.flowRecords.getD b {})) stereo
      (disocclusionTerm isLead (Config.covered j.output b).toNat) (Config.networkTerm j.output b).toNat)

/-- How the newest true frame's pixels of a gated block are moved to a picture's time: by the covering anchor of highest confidence, if
its confidence is at least 224 (R145, R161). -/
def State.gateWarp (s : State) (f newest : Frame) (j : GenJob) (b : Nat) : Rat × Rat :=
  let c := blockCentre (divCeil f.picture.width 8) b
  let unit := s.anchorUnit j.stream
  match (coverAt j.anchors unit f.timestamp j.pic.time c.1 c.2).filter fun a => 224 ≤ a.conf with
  | none => (0, 0)
  | some a => a.move unit f.timestamp j.pic.time (newest.timestamp : Rat)

/-- The judgement of a view's blocks, once its picture is complete (R144 to R146): blocks whose confidence is at least the threshold show
generated pixels; others are gated; blocks that the job masked take the newest true frame. -/
def State.judge (s : State) (n : Nat) (l : LayerDesc) (j : GenJob) (v : ViewChoice) : ViewChoice :=
  let frames := (s.ctx v.stream).frames
  match frames.find? fun f => f.ordinal = j.pic.later with
  | none => v
  | some f =>
    let newest := ((v.newest.bind fun o => frames.find? fun g => g.ordinal = o)).getD f
    let blocks := s.viewBlocks n l f.picture.width f.picture.height
    let live := blocks.filter fun e => !j.inputs.mask.contains e.2
    let shows := fun (e : Nat × Nat) => match s.jobConfidence f j e.2 with | none => false | some c => decide (j.threshold ≤ c)
    let gated := live.filter fun e => !shows e
    { v with
      shown := (live.filter shows).map Prod.snd
      gated := gated.length
      gates := gated.map fun e => let d := s.gateWarp f newest j e.2; { block := e.1, dx := d.1, dy := d.2 }
      plain := v.plain || live.length < blocks.length }

/-! Choices (R137, R158). -/

/-- The choice of a stream on a port in its last port frame. -/
def State.prevChoice (s : State) (n i : Nat) : Option ViewChoice :=
  match (s.portRt n).chosen with
  | [] => none
  | c :: _ => c.views.find? fun v => v.stream = i

/-- The picture that a stream's views showed in the last port frame. -/
def State.prevPic (s : State) (n i : Nat) : Option Pic :=
  match s.prevChoice n i with | none => none | some v => v.pic

/-- A choice of a picture with its code. -/
def chooses (i : Nat) (pic : Option Pic) (code : Nat) (prev : Option Pic) : ViewChoice :=
  { stream := i, pic := pic, code := code, repeat_ := pic.isSome && pic = prev }

/-- Provenance codes (R139). -/
def provTrue : Nat := 0
def provFill : Nat := 1
def provLead : Nat := 2
def provHold : Nat := 3
def provSafe : Nat := 4

/-- The code of a view whose stream has no ready true frame (log entry 17). -/
def noFrameCode : Nat := if Config.noFrameHold then provHold else provTrue

/-- The Fill choice (R137).  With no ready true frame at or before T the view keeps what it shows (DEDUCED, log entry 20). -/
def State.chooseFill (s : State) (n i F : Nat) : ViewChoice :=
  let prev := s.prevPic n i
  let frames := s.readyFrames i
  let T := s.tickAt i n (s.choiceLine n F) - s.sourceInterval i - s.fillSlack i
  match (frames.filter fun f => (f.timestamp : Rat) ≤ T).getLast? with
  | none =>
    match prev, s.newestReady i with
    | some p, _ => { chooses i (some p) provHold prev with repeat_ := true }
    | none, some f => chooses i (some (f.pic i)) provHold prev
    | none, none => chooses i none noFrameCode prev
  | some a =>
    match frames.find? fun f => f.ordinal = a.ordinal + 1 with
    | none => chooses i (some (a.pic i)) provHold prev
    | some b =>
      if 2 * s.sourceInterval i < (b.timestamp : Rat) - (a.timestamp : Rat) then chooses i (some (a.pic i)) provHold prev
      else
        let r := s.ratioInUse i
        let shown := Assoc.find (s.genStream i).shownTrue n = some a.ordinal
        let c :=
          if !shown || r = 1 then chooses i (some (a.pic i)) provTrue prev
          else
            let x := (r : Rat) * (T - (a.timestamp : Rat)) / ((b.timestamp : Rat) - (a.timestamp : Rat))
            let k := min (r - 1) (max 1 (roundEven x).toNat)
            let d := Nat.gcd k r
            chooses i (some (.fill i a.ordinal b.ordinal (k / d) (r / d) a.timestamp b.timestamp)) provFill prev
        match c.pic, prev with
        | some p, some q => if p.time < q.time then { chooses i (some q) provHold prev with repeat_ := true } else c
        | _, _ => c

/-- A Lead job started (R158).  A held Lead picture gives its buffer up to a job that is due; then no measurement is made for its source
(R167). -/
def State.startLead (s : State) (n i F : Nat) (f : Frame) (target : Rat) (committed : Bool) : State :=
  let g := s.genStream i
  let s := if committed && !s.freeBuffer i n &&
        (match g.held with | some h => (s.genJobs i n).any fun j => j.pic = h | none => false) then
      (s.setGenStream i { g with held := none, heldBlocks := [], unmeasured := g.held.map Pic.later }).reapJobs n
    else s
  (s.startJob (s.cameraJob 1 n i F (.lead i f.ordinal f.timestamp target) (s.scaledViews n i) committed)).2

/-- Whether run-ahead is allowed (R158). -/
def State.runAhead (s : State) (i n : Nat) : Bool := s.streamShed i = 0 && 3 ≤ s.genBuffers i n

/-- The Lead choice with the jobs it starts (R158). -/
def State.chooseLead (s : State) (n i F : Nat) : ViewChoice × State :=
  let prev := s.prevPic n i
  match s.newestReady i with
  | none => (chooses i none noFrameCode prev, s)
  | some f =>
    let tau := s.targetTime i n F
    let h := s.horizonOn i n
    let t0 := (f.timestamp : Rat)
    let spec := s.gen.jobs.find? fun j =>
      j.kind = 1 && j.stream = i && j.port = n && j.due = F && !j.committed && !j.dropped
    let drop := fun (t : State) => match spec with | some j => t.dropJob j.id | none => t
    if tau ≤ t0 then (chooses i (some (f.pic i)) provTrue prev, drop s)
    else if h < tau - t0 then (chooses i (some (f.pic i)) provHold prev, drop s)
    else
      let usable := match spec with
        | some j => if j.pic.later = f.ordinal then some j else none
        | none => none
      let (pic, t) : Pic × State :=
        match usable with
        | some j => (j.pic, s.amendJob j.id fun x => { x with committed := true })
        | none => (.lead i f.ordinal f.timestamp tau, (drop s).startLead n i F f tau true)
      let next := tau + s.paceTicks i n
      let t := if t.runAhead i n && next - t0 ≤ h && t.freeBuffer i n then t.startLead n i (F + 1) f next false else t
      ({ chooses i (some pic) provLead prev with repeat_ := false }, t)

/-- The choice of a stream on a port for frame F, with the job that a new Fill picture makes (R137, R147). -/
def State.chooseStream (s : State) (n i F : Nat) : ViewChoice × State :=
  let prev := s.prevPic n i
  let g := s.genState i
  if g = genLead then s.chooseLead n i F
  else if g = genFill then
    let c := s.chooseFill n i F
    match c.pic with
    | some (.fill a b d e f h x) =>
      let p : Pic := .fill a b d e f h x
      if c.repeat_ || (s.genJobs i n).any (fun j => j.pic = p && !j.dropped) then (c, s)
      else
        (c, (s.startJob (s.cameraJob 1 n i F p (s.scaledViews n i) true)).2)
    | _ => (c, s)
  else
    match (if g = genIdle then none else s.newestReady i) with
    | none => (chooses i none noFrameCode prev, s)
    | some f =>
      let pic := f.pic i
      (chooses i (some pic) (if g = genPriming && prev = some pic then provHold else provTrue) prev, s)

/-- The output of the up-scaling network that a view of a true frame holds (R188, R189). -/
def State.heldOutput (s : State) (n : Nat) (l : LayerDesc) (p : Pic) : Option Nat :=
  (s.gen.jobs.find? fun j => j.kind = 2 && j.port = n && j.pic = p && j.geometry = l.geometry && j.done).map GenJob.output

/-- The choice made of a stream placed on one of its layers; a true frame that the view neither repeats nor holds makes an up-scaling job,
which views of one geometry share (R178, R180, R188; DEDUCED for HOLD, log entry 93). -/
def State.placeView (s : State) (n F : Nat) (l : LayerDesc) (c : ViewChoice) : ViewChoice × State :=
  let i := c.stream
  let c := { c with layer := l.index, fixed := !s.neural n l, newest := (s.newestReady i).map Frame.ordinal }
  match c.pic with
  | some (.trueFrame a o t) =>
    let p : Pic := .trueFrame a o t
    if c.fixed || c.repeat_ || (s.gen.jobs.any fun j => j.kind = 2 && j.port = n && !j.render && j.pic = p && j.geometry = l.geometry && !j.dropped)
    then (c, s)
    else (c, (s.startJob (s.cameraJob 2 n i F p [l] true)).2)
  | _ => (c, s)

/-- A rendered view: an up-scaling job for a new frame of its target (R184 to R188). -/
def State.placeRender (s : State) (n F : Nat) (l : LayerDesc) : RenderChoice × State :=
  let shown := (s.target (s.portOwner n) l.source).shown
  let c : RenderChoice := { layer := l.index, target := l.source, count := shown.map Prod.fst, fixed := !s.neural n l }
  match shown with
  | none => (c, s)
  | some (count, external) =>
    let r := s.portRt n
    if c.fixed || Assoc.find r.shownRender l.index = some count then (c, s)
    else
      let j := s.renderJob n F l count
      let t := s.setPortRt n { r with
        shownRender := Assoc.put r.shownRender l.index count
        renderReset := if r.resets l.index count then r.renderReset.filter fun e => e.1 ≠ l.index else r.renderReset }
      let t := if external then t else t.bump (Entry.portUpNoDepthJobs n)
      (c, (t.startJob j).2)

/-- QualityInUse: QualityStep, one lower at ShedLevel 3; where the program image does not carry that step, the next lower one that it
carries (R191). -/
def State.showQuality (s : State) (n : Nat) : State :=
  let q := s.n (Entry.portUpQualityStep n)
  let p := s.n (Entry.portPartition n)
  let q := if s.shedActing p = 3 then q - 1 else q
  let pairs := ([3, 4, 6, 8] : List Nat).flatMap fun x => ([3, 4, 6, 8] : List Nat).map fun y => (x, y)
  let carried := fun (k : Nat) => pairs.any fun e => s.hasNetwork p (.camera e.1 e.2 k) || s.hasNetwork p (.rendered e.1 e.2 k)
  s.setN (Entry.portUpQualityInUse n) (((List.range (q + 1)).reverse.find? carried).getD q)

/-- The streams that no port shows any more: IDLE (R136 step 5). -/
def State.idleSweep (s : State) : State :=
  s.each ((List.range 512).filter fun i => s.genState i ≠ genIdle && (s.showingPorts i).isEmpty) State.goIdle

/-- The choices of a port for its next frame: GenState of every stream, one choice per stream, one view per layer (R135 to
R137); HistoryThreshold is taken (R192). -/
def State.chooseAll (s : State) (n : Nat) : State :=
  let F := (s.portRt n).frames + 1
  let s := s.reapJobs n
  let s := s.setPortRt n { s.portRt n with histThreshold := s.n (Entry.portUpHistoryThreshold n) }
  let mine := layerStreams (s.portRt n).applied
  let idle := (List.range 512).filter fun i => s.genState i ≠ genIdle && !mine.contains i && (s.showingPorts i).isEmpty
  let t := s.each (mine ++ idle) State.advanceGen
  let t := t.showQuality n
  let layers := t.layers n
  let (picks, t) := mine.foldl (fun (acc : List ViewChoice × State) i =>
    let (c, u) := acc.2.chooseStream n i F
    (acc.1 ++ [c], u)) (([] : List ViewChoice), t)
  let (views, t) := layers.foldl (fun (acc : List ViewChoice × State) l =>
    match if l.kind = 1 then picks.find? fun c => c.stream = l.source else none with
    | none => acc
    | some c =>
      let (v, u) := acc.2.placeView n F l c
      (acc.1 ++ [v], u)) (([] : List ViewChoice), t)
  let (renders, t) := (layers.filter fun l => l.kind = 2).foldl (fun (acc : List RenderChoice × State) l =>
    let (v, u) := acc.2.placeRender n F l
    (acc.1 ++ [v], u)) (([] : List RenderChoice), t)
  let t := t.each picks fun t c =>
    match c.pic with
    | some (.trueFrame _ o _) =>
      if c.code = provTrue then
        let g := t.genStream c.stream
        t.setGenStream c.stream { g with shownTrue := Assoc.put g.shownTrue n o }
      else t
    | _ => t
  let r := t.portRt n
  let choice : FrameChoice := { frame := F, shed := t.shedLevel (t.n (Entry.portPartition n)), views := views, renders := renders }
  let t := t.setPortRt n { r with chosen := (choice :: r.chosen).take 2 }
  let t := t.logArrival (t.n (Entry.portPartition n)) arrChoice n 0 (F % 2 ^ 32) 0
  let t := t.reapJobs n
  t.each mine State.pruneFrames

/-! The measurement of Lead (R167 to R170). -/

/-- The measurement port of a stream (R167). -/
def State.measurementPort (s : State) (i : Nat) : Option Nat :=
  (List.range s.portCount).find? fun n => s.portState n = 2 && (layerStreams (s.portRt n).applied).contains i

/-- A shown Lead picture held for the measurement where its target is nearer to one source interval ahead; of several views of it the blocks
together (R167, R168). -/
def State.holdLead (s : State) (n : Nat) (v : ViewChoice) : State :=
  match v.pic with
  | some (.lead i src ts target) =>
    let g := s.genStream i
    let p : Pic := .lead i src ts target
    if s.measurementPort i ≠ some n || s.genState i ≠ genLead || g.unmeasured = some src then s
    else if g.held = some p then s.setGenStream i { g with heldBlocks := (g.heldBlocks ++ v.shown).eraseDups }
    else
      let far := fun (x : Rat) => ratAbs (x - ((ts : Rat) + s.sourceInterval i))
      let nearer := match g.held with
        | some (.lead _ src' _ target') => src ≠ src' || far target < far target'
        | _ => true
      let output := ((s.gen.jobs.find? fun j => j.kind = 1 && j.port = n && j.pic = p && j.done).map GenJob.output).getD 0
      if nearer then s.setGenStream i { g with held := some p, heldOutput := output, heldBlocks := v.shown.eraseDups } else s
  | _ => s

/-- The fallback of Lead (R169). -/
def State.checkFallback (s : State) (i : Nat) : State :=
  if s.n (Entry.streamGenLeadErrorLimit i) < s.n (Entry.streamGenLeadError i) && !s.leadFallback i then
    let t := (s.genFlag i genLeadFallback true).bump (Entry.streamGenLeadFallbacks i)
    t.setGenStream i { t.genStream i with quiet := 0, pendingRetract := true }
  else s

/-- The mean absolute difference of a block's luma between a held Lead picture and a true frame warped to its time (R168); the warp
samples as the fixed scaler does (DEDUCED, log entry 94). -/
def blockError (f : Frame) (output block : Nat) (d : Rat × Rat) : Rat :=
  let cols := divCeil f.picture.width 8
  let plane := rowsPlane f.picture.luma f.picture.width f.picture.height
  let px := (List.range 64).map fun k => (8 * (block % cols) + k % 8, 8 * (block / cols) + k / 8)
  meanRat ((px.filter fun e => e.1 < f.picture.width && e.2 < f.picture.height).map fun e =>
    let warped := plane.scaled ((e.1 : Rat) + mkRat 1 2 + warpOffset d.1) ((e.2 : Rat) + mkRat 1 2 + warpOffset d.2)
    ratAbs ((warped : Rat) - ((Config.generatedSample output 0 e.2 e.1).toNat : Rat)))

/-- The measurement of the held Lead picture by the ready true frame that follows its source (R168, R169): the mean over at least 16 blocks
that showed generated pixels and that a master covers, in 1/16 of a level. -/
def State.measureLead (s : State) (i : Nat) (f : Frame) : State :=
  let g := s.genStream i
  match g.held with
  | some (.lead _ src _ target) =>
    let s' := s.setGenStream i { g with held := none, heldBlocks := [] }
    if src + 1 ≠ f.ordinal || s.genState i ≠ genLead || s.leadFallback i then s'
    else
      let cols := divCeil f.picture.width 8
      let unit := s.anchorUnit i
      let masters := s.anchorsOf i false
      let moved := g.heldBlocks.filterMap fun b =>
        let c := blockCentre cols b
        (coverAt masters unit f.timestamp target c.1 c.2).map fun a => (b, a.move unit f.timestamp target (f.timestamp : Rat))
      if moved.length < 16 then s'
      else
        let e := clampInt 0 16368 (roundEven (16 * meanRat (moved.map fun x => blockError f g.heldOutput x.1 x.2)))
        let old : Int := (s'.n (Entry.streamGenLeadError i) : Int)
        (s'.setZ (Entry.streamGenLeadError i) (clampInt 0 65535 (old + rneDiv (e - old) 8))).checkFallback i
  | _ => s

/-- The quiet count of a stream that has fallen back (R170): a frame ready with flow, neither tainted nor a scene cut, with matched
masters whose mean Residual is at most 2 pixels (DEDUCED, log entry 21). -/
def State.quietFrame (s : State) (i : Nat) (f : Frame) : State :=
  if !s.leadFallback i then s
  else
    let g := s.genStream i
    let matched := (s.anchorsOf i false).filter fun e => e.2.miss = 0 && e.2.refTime = f.timestamp % 2 ^ 32
    let sum := matched.foldl (fun a e => a + e.2.residual) 0
    let good := !f.noFlow && !s.hasFlag i flagTainted && !f.sceneCut && !matched.isEmpty && sum ≤ 32 * matched.length
    if !good then s.setGenStream i { g with quiet := 0 }
    else if s.n (Entry.streamGenLeadQuietFrames i) ≤ g.quiet + 1 then
      let t := s.setGenStream i { g with quiet := 0, pendingRetract := true }
      (t.genFlag i genLeadFallback false).setN (Entry.streamGenLeadError i) (s.n (Entry.streamGenLeadErrorLimit i) / 2)
    else s.setGenStream i { g with quiet := g.quiet + 1 }

/-! True frames (R128 to R130, R165). -/

/-- A frame of a context changed. -/
def State.amendFrame (s : State) (i ordinal : Nat) (f : Frame → Frame) : State :=
  let c := s.ctx i
  s.setCtx i { c with frames := c.frames.map fun x => if x.ordinal = ordinal then f x else x }

/-- FocalBaseline of the pair that gives a stream its depth: the lowest-numbered LIVE pair of which it is the left stream and
whose FocalBaseline is above 0 (R128). -/
def State.focalBaseline (s : State) (i : Nat) : Rat :=
  match (List.range 64).find? fun p =>
      s.pairState p = 2 && s.pairLeft p = i && s.pairCfgN p (Entry.pairFocalBaseline p) % 2 ^ 31 ≠ 0 with
  | none => 0
  | some p =>
    (f32 (s.pairCfgN p (Entry.pairFocalBaseline p))).value

/-- Whether a collapse of confidence is judged on a true frame: at least half of its source blocks have a flow term below the
threshold, or it is without flow (R182). -/
def Frame.collapse (f : Frame) (threshold : Nat) : Bool :=
  f.noFlow || f.flowRecords.length ≤ 2 * (f.flowRecords.filter fun r => flowTerm r < threshold).length

/-- A history reset by a scene cut or a collapse at a ready true frame, judged by the HistoryThreshold of the lowest-numbered port that shows
the stream; a frame without flow is a collapse (R182). -/
def State.judgeHistory (s : State) (i : Nat) (f : Frame) : State :=
  let ports := s.showingPorts i
  let t := if f.sceneCut && !f.noFlow then s.resetHistory i f.ordinal false else s
  let collapse := match ports with | [] => f.noFlow | n :: _ => f.collapse (s.portRt n).histThreshold
  if collapse then (t.resetHistory i f.ordinal true).each ports fun t n => t.bump (Entry.portUpCollapseCount n) else t

/-- What the anchors of a stream learn from a true frame (R128). -/
def State.trueFrameOf (s : State) (i : Nat) (f : Frame) : TrueFrame :=
  { now := f.timestamp, before := f.before.getD f.timestamp, unit := s.anchorUnit i
    cols := divCeil f.picture.width 8, records := f.flowRecords
    depth := match f.depth with | .have_ m => some m | _ => none
    fb := s.focalBaseline i, confMin := s.n Entry.genDepthConfMin, pendulum := s.on (Entry.streamGenPendulumEnable i) }

/-- Whether a true frame updates the anchors of a stream (R125, R128, R133). -/
def State.learns (s : State) (i : Nat) (f : Frame) : Bool :=
  !f.noFlow && (s.n (Entry.streamGenMode i) = 1 || s.n (Entry.streamGenMode i) = 2) && s.genState i ≠ genIdle &&
    !s.on Entry.genStoreState

/-- A true frame becomes ready: intervals, flags, anchors, Lead's shadows and measurement, history (R127 to R130, R136, R165,
R168, R170, R182). -/
def State.makeReady (s : State) (i ordinal : Nat) : State :=
  match (s.ctx i).frames.find? fun f => f.ordinal = ordinal with
  | none => s
  | some f =>
    let g := s.genStream i
    let diffs := match f.before with
      | none => g.diffs
      | some b => ((f.timestamp - b) :: g.diffs).take 16
    let cut := f.sceneCut && !f.noFlow
    let lead := s.genState i = genLead
    let s := s.amendFrame i ordinal fun x => { x with ready := true }
    let s := s.setGenStream i { g with
      diffs := diffs, pendingCuts := g.pendingCuts + ofBool cut
      pendingPrime := g.pendingPrime || cut || f.noFlow
      primeAfter := if cut || f.noFlow then ordinal else g.primeAfter }
    let s := (s.genFlag i genNoFlow f.noFlow).genFlag i genNoDepth (match f.depth with | .have_ _ => false | _ => true)
    let s := if f.noFlow then s.bump (Entry.streamGenFlowSkipped i) else s
    let s := if lead then s.retireShadows i else s
    let learns := s.learns i f
    -- the masters that the frame matches are those before creation (R170)
    let s := if learns then s.updateAnchors i (s.trueFrameOf i f) else s
    let s := s.quietFrame i f
    let s := if learns then s.createAnchors i (s.trueFrameOf i f) else s
    let s := s.measureLead i f
    let s := if lead then (s.makeShadows i ordinal).retractSpeculative i else s
    let s := s.judgeHistory i f
    let s := if s.genState i ≠ genIdle && s.hasFlagGen i genNoMemory then s.allocGen i else s
    let p := s.streamPartition i
    (s.logArrival p arrReady 0 i (s.anchorFrame p) (ordinal % 2 ^ 32)).pruneFrames i

/-- The oldest true frame of a stream that waits and whose flow and depth are resolved (R128). -/
def State.waitingFrame (s : State) (i : Nat) : Option Frame :=
  let withheld := (s.partRt (s.streamPartition i)).withheld
  (s.ctx i).frames.find? fun f =>
    !f.ready && f.flow != .pending && f.depth.resolved && !withheld.contains (i, f.ordinal)

/-- A lossy frame or a taint as frame generation takes it (R136 step 3, R166, R170, R182). -/
def State.genLossy (s : State) (i : Nat) : State :=
  let g := s.genStream i
  let o := (s.ctx i).trueCount
  let t := s.setGenStream i { g with pendingPrime := true, primeAfter := o, quiet := 0 }
  t.resetHistory i o false

/-! Replay (R174, R175). -/

/-- The end of a replay: the partition goes on live, its withheld frames ready (R175). -/
def State.endReplay (s : State) (p : Nat) : State :=
  let r := s.partRt p
  let t := s.setPartRt p { r with arrivalMode := 0, replayLevel := none, withheld := [], lates := [] }
  let t := t.bump (Entry.partReplayDivergences p)
  t.each r.withheld fun t e => t.makeReady e.1 e.2

/-- The arrival entry at the replay position, if its slot holds the expected Sequence. -/
def State.replayEntry (s : State) (p seq : Nat) : Option Nat :=
  let e := leNat (s.readMem p (s.arrivalSlot p seq) 16)
  if bits e 0 32 = seq % 2 ^ 32 then some e else none

/-- Entries consumed up to the next CHOICE, which must be this port's for frame F (R174, R175); `fuel` bounds the entries.
A level acts from its entry's position on (DEDUCED, log entry 92). -/
def State.replayTo (s : State) (p n F : Nat) (fuel : Nat) : State :=
  match fuel with
  | 0 => s.endReplay p
  | k + 1 =>
    let seq := s.n (Entry.partArrivalCount p)
    match s.replayEntry p seq with
    | none => s.endReplay p
    | some e =>
      let t := s.setN (Entry.partArrivalCount p) ((seq + 1) % 2 ^ 32)
      let kind := bits e 124 4
      let i := bits e 111 9
      let value := bits e 32 32
      if kind = arrChoice then
        if bits e 120 4 = n && bits e 64 32 = F % 2 ^ 32 then t else t.endReplay p
      else if kind = arrReady then
        match (t.partRt p).withheld.find? fun w => w.1 = i && w.2 % 2 ^ 32 = value with
        | none => t.endReplay p
        | some w =>
          let u := t.setPartRt p { t.partRt p with withheld := (t.partRt p).withheld.filter (· ≠ w) }
          (u.makeReady w.1 w.2).replayTo p n F k
      else if kind = arrShed then
        (t.setPartRt p { t.partRt p with replayLevel := some value }).replayTo p n F k
      else if kind = arrWeights then
        match (t.adaptOf i).slotOf value with
        | none => t.endReplay p
        | some slot => (t.setAdaptOf i { t.adaptOf i with activeSlot := slot }).replayTo p n F k
      else if kind = arrFault then t.endReplay p
      else if kind = arrLate then
        let r := t.partRt p
        (t.setPartRt p { r with lates := r.lates ++ [(bits e 120 4, bits e 64 32, i)] }).replayTo p n F k
      else t.replayTo p n F k

/-- Whether the record that follows names a view's job of frame F as late: a LATE entry before the port's next CHOICE (R174). -/
def State.lateAhead (s : State) (p n F i : Nat) (fuel seq : Nat) : Bool :=
  match fuel with
  | 0 => false
  | k + 1 =>
    match s.replayEntry p seq with
    | none => false
    | some e =>
      if bits e 124 4 = arrChoice && bits e 120 4 = n then false
      else if bits e 124 4 = arrLate && bits e 120 4 = n && bits e 111 9 = i && bits e 64 32 = F % 2 ^ 32 then true
      else s.lateAhead p n F i k (seq + 1)

/-- The most entries that a choice point reads. -/
def replayFuel : Nat := 16777216

/-- Whether the record names a view's job of frame F as late, in the entries that another port's choice point has consumed or in those that
follow (R174). -/
def State.replayLate (s : State) (p n F i : Nat) : Bool :=
  (s.partRt p).lates.contains (n, F % 2 ^ 32, i) || s.lateAhead p n F i replayFuel (s.n (Entry.partArrivalCount p))

/-! Late jobs at the compose point (R138, R159, R188, R189). -/

/-- A view whose generation job is late: HOLD of n (R138, R159). -/
def ViewChoice.late (v : ViewChoice) (frames : List Frame) (newest : Option Frame) (prev : Option Pic) : ViewChoice :=
  let o := match v.pic with
    | some (.fill _ a ..) => some a
    | some (.lead _ src ..) => some src
    | _ => newest.map Frame.ordinal
  let pic := match o with
    | none => none
    | some o => ((frames.find? fun f => f.ordinal = o).map fun f => f.pic v.stream)
  { v with pic := pic, code := provHold, repeat_ := pic.isSome && pic = prev, gated := 0, shown := [] }

/-- The jobs of a set that a compose point finds unfinished, abandoned: their number. -/
def State.dropLate (s : State) (f : GenJob → Bool) : Nat × State :=
  let l := s.gen.jobs.filter f
  ((l.filter fun j => !j.dropped).length, s.each l fun t j => t.dropJob j.id)

/-- A generated view whose job is late: it counts once for the views that share it, each has its LATE entry, and it shows n with code HOLD
(R138, R159, R173, R189). -/
def State.viewLate (s : State) (n F : Nat) (l : LayerDesc) (v : ViewChoice) (pic : Pic) (named : Bool) : ViewChoice × State :=
  let i := v.stream
  let p := s.streamPartition i
  let (k, t) := s.dropLate fun j => j.kind = 1 && j.port = n && j.pic = pic
  let t := if k = 0 then t else ((t.bump (Entry.streamGenJobsLate i)).bump (Entry.portGenJobsLate n)).bump Entry.genJobsLate
  let t := t.logArrival p arrLate n i (F % 2 ^ 32) 0
  let t := if (s.partRt p).arrivalMode = 2 && !named then t.endReplay p else t
  let last := match (s.portRt n).chosen with
    | _ :: c :: _ => ((c.views.find? fun x => x.layer = v.layer).map ViewChoice.pic).getD none
    | _ => none
  let w := v.late (t.ctx i).frames (t.newestReady i) last
  let out := if v.fixed then none else w.pic.bind (t.heldOutput n l)
  ({ w with output := out, fixed := out.isNone }, t)

/-- One view at the compose point of F: its generation or up-scaling job must be complete, or, in replay, follow the record; a generated
picture is judged (R138, R144, R174, R180, R188). -/
def State.settleView (s : State) (n F : Nat) (v : ViewChoice) : ViewChoice × State :=
  match (s.cameraLayers n).find? fun l => l.index = v.layer, v.pic with
  | some l, some pic =>
    let p := s.streamPartition v.stream
    let v := { v with plain := s.showsPlain n l }
    if v.code = provFill || v.code = provLead then
      let named := (s.partRt p).arrivalMode = 2 && s.replayLate p n F v.stream
      match s.gen.jobs.find? fun j => j.kind = 1 && j.port = n && j.pic = pic && j.done && !named with
      | none => s.viewLate n F l v pic named
      | some j =>
        let out := if v.fixed || !j.inputs.geometries.contains l.geometry then none else some j.output
        ({ s.judge n l j v with output := out, fixed := out.isNone }, s)
    else
      let (k, t) := s.dropLate fun j => j.kind = 2 && j.port = n && j.pic = pic && j.geometry = l.geometry && j.due = F && !j.done
      let t := if k = 0 then t else (t.bump (Entry.portUpJobsLate n)).bump Entry.upJobsLate
      let out := if v.fixed then none else t.heldOutput n l pic
      ({ v with output := out, fixed := out.isNone }, t)
  | _, _ => (v, s)

/-- One rendered view at the compose point of F (R188). -/
def State.settleRender (s : State) (n F : Nat) (v : RenderChoice) : RenderChoice × State :=
  let (k, t) := s.dropLate fun j => j.kind = 2 && j.port = n && j.render && j.layer = v.layer && j.due = F && !j.done
  let t := if k = 0 then t else (t.bump (Entry.portUpJobsLate n)).bump Entry.upJobsLate
  let held := t.gen.jobs.find? fun j => j.kind = 2 && j.port = n && j.render && j.layer = v.layer && j.done &&
    v.count.isSome && j.pic = .render v.target (v.count.getD 0)
  let out := if v.fixed then none else held.map GenJob.output
  ({ v with output := out, fixed := out.isNone }, t)

/-- The views of frame F settled at its compose point; those through the fixed scaler alone counted (R138, R178, R188). -/
def State.settleViews (s : State) (n F : Nat) : State :=
  match (s.portRt n).chosen with
  | [] => s
  | c :: rest =>
    if c.frame ≠ F then s
    else
      let (views, t) := c.views.foldl (fun (acc : List ViewChoice × State) v =>
        let (w, u) := acc.2.settleView n F v
        (acc.1 ++ [w], u)) (([] : List ViewChoice), s)
      let (renders, t) := c.renders.foldl (fun (acc : List RenderChoice × State) v =>
        let (w, u) := acc.2.settleRender n F v
        (acc.1 ++ [w], u)) (([] : List RenderChoice), t)
      let fixed := (views.filter ViewChoice.fixed).length + (renders.filter RenderChoice.fixed).length
      let t := (t.add (Entry.portUpFixedScalerViews n) fixed).add Entry.upFixedScalerViews fixed
      let t := t.setPortRt n { t.portRt n with chosen := { c with views := views, renders := renders } :: rest }
      let t := t.each views fun t v => t.add (Entry.streamGenBlocksGated v.stream) v.gated
      let p := t.streamPartition ((views.head?.map ViewChoice.stream).getD 0)
      let q := t.partRt p
      let t := if q.lates.isEmpty then t else t.setPartRt p { q with lates := q.lates.filter fun e => (e.1, e.2.1) ≠ (n, F % 2 ^ 32) }
      t.each views fun t v => t.holdLead n v

end Sys2Proof.Machine
end

