-- ==== Sys2Proof/Machine/Compose.lean ====
section
/-! DEFINITION. What a raster port composes, pixel by pixel: block assembly, colour conversion, blending, route tags and the marker
(spec/07_upscaling.md R177, R180; spec/09_scan_out_and_display_integrity.md R236, R240, R245, R247). -/

namespace Sys2Proof.Machine

open Sys2Proof

/-! Route tags and CRCs (R245, R247). -/

/-- The payload of a route tag (R245, R246). -/
def tagPayload (source ordinal port layer code kind : Nat) : Nat :=
  packFields [(9, 0), (1, kind), (3, code), (6, layer), (4, port), (32, ordinal), (9, source)]

/-- One step of the CRC-32 of IEEE 802.3, reflected, bit by bit (R247). -/
def crcBits (crc : Nat) (fuel : Nat) : Nat :=
  match fuel with
  | 0 => crc
  | n + 1 => crcBits (if crc % 2 = 1 then Nat.xor (crc / 2) 0xEDB88320 else crc / 2) n

/-- The CRC register after a list of bytes. -/
def crcBytes (crc : Nat) (l : List Nat) : Nat :=
  match l with
  | [] => crc
  | b :: r => crcBytes (crcBits (Nat.xor crc b) 8) r

/-- The CRC-32 of a byte list (R247). -/
def crc32 (l : List Nat) : Nat := Nat.xor (crcBytes 0xFFFFFFFF l) 0xFFFFFFFF

/-- The pixels of a tag as the bytes of the words of R237, in raster order: 32×8 pixels in 16×4 cells, bit 63 first (R245). -/
def tagBytes (payload : Nat) : List Nat :=
  (List.range 8).flatMap fun y => (List.range 32).flatMap fun x =>
    let on := payload.testBit (63 - (y / 2 * 16 + x / 2))
    let w := if on then 2 ^ 30 - 1 else 0
    [w % 256, w / 256 % 256, w / 65536 % 256, w / 16777216]

/-! The content of a composition (R180, R240). -/

/-- The provenance code of a frame's views (R139). -/
def viewsCode (l : List ViewChoice) : Nat :=
  (([provLead, provFill, provHold].find? fun c => l.any fun v => v.code = c)).getD provTrue

/-- The payload of a layer's route tag from what the layer shows (R245, R246): the stamp of its picture, all ones where it has none. -/
def State.tagOf (s : State) (n : Nat) (views : List ViewChoice) (l : LayerDesc) : Option Nat :=
  if !s.tagDrawn n l then none
  else if l.kind = 1 then
    (views.find? fun v => v.layer = l.index).map fun v =>
      let o := match v.pic with | none => 2 ^ 32 - 1 | some p => p.frames.getD 0 0 % 2 ^ 32
      tagPayload l.source o n l.index v.code 0
  else
    let o := match (s.target (s.portOwner n) l.source).shown with | none => 2 ^ 32 - 1 | some e => e.1 % 2 ^ 32
    some (tagPayload l.source o n l.index 0 1)

/-- What a camera layer's pixels come from (R145, R146, R180). -/
def State.cameraPixels (s : State) (n : Nat) (l : LayerDesc) (v : ViewChoice) : LayerPixels :=
  let frames := (s.ctx v.stream).frames
  let at_ := fun (o : Nat) => (frames.find? fun f => f.ordinal = o).map Frame.picture
  match v.pic with
  | none => { layer := l.index }
  | some p =>
    let source := (at_ p.later).getD ⟨0, 0, [], [], []⟩
    let job := s.gen.jobs.find? fun j => j.kind = 1 && j.port = n && j.pic = p && j.done
    let isGen := v.code = provFill || v.code = provLead
    { layer := l.index, width := source.width, height := source.height
      picture := if isGen then none else some source
      newest := v.newest.bind at_
      generated := if isGen then job.map GenJob.output else none
      output := v.output, gates := v.gates }

/-- What a render-target layer's pixels come from (R180, R240): the Newest frame of its target. -/
def State.renderPixels (s : State) (n : Nat) (l : LayerDesc) (v : RenderChoice) : LayerPixels :=
  let p := s.portOwner n
  let g := s.target p l.source
  match s.targetDesc p l.source, g.shown with
  | some d, some _ =>
    { layer := l.index, width := (descSize d).1, height := (descSize d).2, output := v.output, format := bits d 472 4
      surface := s.readMem p (bits d 384 64 + g.newest * descFrame d) (descPixels d * descBytes d) }
  | _, _ => { layer := l.index }

/-- The content of a composition of a port from its choices (R180, R240). -/
def State.content (s : State) (n : Nat) (c : FrameChoice) : Composition :=
  let t := s.timing n
  let layers := s.layers n
  let m := s.markerRect n
  { width := t.hActive, height := t.vActive, table := (s.portRt n).applied, regions := s.plainRegions n
    layers := layers.map fun l =>
      if l.kind = 1 then s.cameraPixels n l ((c.views.find? fun v => v.layer = l.index).getD { layer := l.index })
      else if l.kind = 2 then s.renderPixels n l ((c.renders.find? fun v => v.layer = l.index).getD { layer := l.index })
      else { layer := l.index }
    tags := layers.filterMap fun l => (s.tagOf n c.views l).map fun x => (l.tagRect.1, l.tagRect.2.1, x)
    marker := if s.markerOn n then some (m.1, m.2.1, viewsCode c.views) else none }

/-! Pixels (R180, R237, R240). -/

/-- BT.709 narrow-range YCbCr of 10 bits to full-range RGB in F32, on the scale of 0 to 1,023 (R240; the order of the operations is a DESIGN
CHOICE, log entry 97). -/
def yuvToRgb (l : List Nat) : List Nat :=
  let y := f32Mul (f32OfInt ((l.getD 0 0 : Nat) - 64)) (f32Ratio 1023 876)
  let b := f32Mul (f32OfInt ((l.getD 1 0 : Nat) - 512)) (f32Ratio 1023 896)
  let r := f32Mul (f32OfInt ((l.getD 2 0 : Nat) - 512)) (f32Ratio 1023 896)
  [f32Add y (f32Mul (f32Ratio 15748 10000) r),
    f32Sub (f32Sub y (f32Mul (f32Ratio (722 * 18556) 71520000) b)) (f32Mul (f32Ratio (2126 * 15748) 71520000) r),
    f32Add y (f32Mul (f32Ratio 18556 10000) b)]

/-- A channel code of a ColourFormat on the scale of 0 to 1,023 (R240). -/
def channelLevel (format k code : Nat) : Rat :=
  if format = 2 then
    let v := (fmtFP16.decode code).value
    1023 * (if v < 0 then 0 else if 1 < v then 1 else v)
  else mkRat (1023 * code) ((channelMax format).getD k 1023)

/-- The channel codes of a pixel word of a ColourFormat. -/
def channelCodes (format v : Nat) : List Nat :=
  if format = 2 then (List.range 4).map fun k => bits v (16 * k) 16 else unpackColour format v

/-- A channel of a stored render frame. -/
def LayerPixels.channel (p : LayerPixels) (k : Nat) : Plane :=
  let b := colourBytes p.format
  { width := p.width, height := p.height
    sample := fun x y => channelLevel p.format k ((channelCodes p.format (field p.surface (b * (y * p.width + x)) b)).getD k 0) }

/-- The planes of a generated picture (R83, R148). -/
def generatedPlanes (output width height : Nat) : List Plane :=
  (List.range 3).map fun k =>
    { width := if k = 0 then width else divCeil width 2, height := if k = 0 then height else divCeil height 2
      sample := fun x y => (((Config.generatedSample output k y x).toNat : Nat) : Rat) }

/-- The planes of a network's up-scaled output of a view: of YCbCr, or the channels of a rendered frame (R177, R187). -/
def LayerDesc.upscaledPlanes (l : LayerDesc) (output format : Nat) : List Plane :=
  let (w, h) := l.upSize
  (List.range (if l.kind = 2 then 4 else 3)).map fun k =>
    let half := l.kind = 1 && 0 < k
    { width := if half then divCeil w 2 else w, height := if half then divCeil h 2 else h
      sample := fun x y =>
        let v := (Config.upscaledSample output l.geometry k y x).toNat
        if l.kind = 2 then channelLevel format k v else ((v % 1024 : Nat) : Rat) }

/-- The position of an output pixel in the up-scaled output, the compositor covering the remaining factor (R177). -/
def LayerDesc.upscaledAt (l : LayerDesc) (x y : Nat) : Rat × Rat :=
  ((((x - l.dstLeft : Nat) : Rat) + mkRat 1 2) * mkRat l.upSize.1 (max 1 l.dstW),
    (((y - l.dstTop : Nat) : Rat) + mkRat 1 2) * mkRat l.upSize.2 (max 1 l.dstH))

/-- A camera layer's luma and chroma at a pixel, by the rows of R180; none where it draws FillColour. -/
def LayerPixels.camera (p : LayerPixels) (l : LayerDesc) (regions : List (Nat × Nat × Nat × Nat)) (cols x y : Nat) : Option (List Nat) :=
  let u := l.sourceX x
  let v := l.sourceY y
  let b := y / 8 * cols + x / 8
  let inside := fun (w h : Nat) => decide (u < (w : Rat)) && decide (v < (h : Rat))
  let plain := p.newest.filter fun q => inside q.width q.height
  if blockMeets cols regions b then plain.map fun q => scaledYuv (picturePlanes q) u v
  else
    match if p.generated.isSome then p.gates.find? fun g => g.block = b else none with
    | some g => plain.map fun q => scaledYuv (picturePlanes q) (u + warpOffset g.dx) (v + warpOffset g.dy)
    | none =>
      if !inside p.width p.height then none
      else
        match p.output, p.picture, p.generated with
        | some o, _, _ => let a := l.upscaledAt x y; some (scaledYuv (l.upscaledPlanes o 0) a.1 a.2)
        | none, some q, _ => some (scaledYuv (picturePlanes q) u v)
        | none, none, some o => some (scaledYuv (generatedPlanes o p.width p.height) u v)
        | none, none, none => none

/-- A render-target layer's channels at a pixel on the scale of 0 to 1,023, alpha last (R180, R240). -/
def LayerPixels.rendered (p : LayerPixels) (l : LayerDesc) (regions : List (Nat × Nat × Nat × Nat)) (cols x y : Nat) : Option (List Nat) :=
  let u := l.sourceX x
  let v := l.sourceY y
  if !(decide (u < (p.width : Rat)) && decide (v < (p.height : Rat))) then none
  else
    match if blockMeets cols regions (y / 8 * cols + x / 8) then none else p.output with
    | some o => let a := l.upscaledAt x y; some ((l.upscaledPlanes o p.format).map fun q => q.scaled a.1 a.2)
    | none => some ((List.range 4).map fun k => (p.channel k).scaled u v)

/-- A layer's colour at a pixel of its destination and its alpha, as FP32 codes (R238, R240; AlphaMode 3 is reserved and drawn opaque, DESIGN
CHOICE, log entry 97). -/
def LayerPixels.colour (p : LayerPixels) (l : LayerDesc) (regions : List (Nat × Nat × Nat × Nat)) (cols x y : Nat) : List Nat × Nat :=
  let flat := [l.fill.1, l.fill.2.1, l.fill.2.2].map fun (v : Nat) => f32OfInt v
  let (rgb, own) : List Nat × Nat :=
    if l.kind = 1 then (((p.camera l regions cols x y).map yuvToRgb).getD flat, f32One)
    else if l.kind = 2 then
      match p.rendered l regions cols x y with
      | none => (flat, f32One)
      | some c => ((c.take 3).map fun (v : Nat) => f32OfInt v, f32Ratio (c.getD 3 0 : Nat) 1023)
    else (flat, f32One)
  let k := f32Ratio l.alpha 255
  (rgb, match l.alphaMode with | 1 => k | 2 => f32Mul own k | _ => f32One)

/-- A colour blended over another (R240). -/
def blendOver (top under : List Nat) (alpha : Nat) : List Nat :=
  (top.zip under).map fun e => f32Add (f32Mul e.1 alpha) (f32Mul e.2 (f32Sub f32One alpha))

/-- A 30-bit pixel word (R237). -/
def pixelWord (r g b : Nat) : Nat := packFields [(10, b), (10, g), (10, r)]

/-- Black or white of a glyph's pixel. -/
def glyphWord (char x y : Nat) : Nat := if Config.glyph char x y then pixelWord 1023 1023 1023 else 0

/-- The four characters of a provenance code (R139, R140). -/
def codeText (code : Nat) : List Nat :=
  (match code with | 0 => "TRUE" | 1 => "FILL" | 2 => "LEAD" | 3 => "HOLD" | _ => "SAFE").toList.map Char.toNat

/-- A pixel of a composition (R237, R240): its layers blended in ascending order over black, then the route tags, the marker last. -/
def Composition.pixel (c : Composition) (x y : Nat) : Nat :=
  let cols := divCeil c.width 8
  let drawn := (enabledLayers c.table).filter fun l =>
    l.dstLeft ≤ x && x < l.dstLeft + l.dstW && l.dstTop ≤ y && y < l.dstTop + l.dstH
  let mixed := drawn.foldl (fun under l =>
    let p := (c.layers.find? fun p => p.layer = l.index).getD {}
    let (rgb, a) := p.colour l c.regions cols x y
    blendOver rgb under a) [0, 0, 0]
  let level := fun (k : Nat) => ((f32 (mixed.getD k 0)).toIntSat 0 1023).toNat
  let base := pixelWord (level 0) (level 1) (level 2)
  let inTag := fun (e : Nat × Nat × Nat) => e.1 ≤ x && x < e.1 + 32 && e.2.1 ≤ y && y < e.2.1 + 8
  let tagged := match (c.tags.filter inTag).getLast? with
    | none => base
    | some e => if e.2.2.testBit (63 - ((y - e.2.1) / 2 * 16 + (x - e.1) / 2)) then pixelWord 1023 1023 1023 else 0
  match c.marker with
  | some (mx, my, code) =>
    if mx ≤ x && x < mx + 64 && my ≤ y && y < my + 16 then glyphWord ((codeText code).getD ((x - mx) / 16) 0) ((x - mx) % 16) (y - my)
    else tagged
  | none => tagged

/-- The CRC-32 of a composition over its active area (R237, R247). -/
def Composition.crc (c : Composition) : Nat :=
  crc32 ((List.range c.height).flatMap fun y => (List.range c.width).flatMap fun x =>
    (List.range 4).map fun k => c.pixel x y / 256 ^ k % 256)

/-! Substitutes and the DSI-2 stream (R230, R231, R252). -/

/-- The readout of the hold frame's age in hundredths of a second (R252). -/
def ageText (centi : Nat) : List Char :=
  if 99999 < centi then "AGE >999 s".toList
  else
    "AGE ".toList ++ (Nat.toDigits 10 (centi / 100)) ++ ['.'] ++ Nat.toDigits 10 (centi / 10 % 10) ++ Nat.toDigits 10 (centi % 10) ++ " s".toList

/-- A pixel of the active area of a frame in scan-out (R252, R254). -/
def Active.pixel (a : Active) (width height x y : Nat) : Nat :=
  match a with
  | .black => 0
  | .composed c => c.pixel x y
  | .hold c age =>
    let text := ageText age
    if x < 16 || y < 16 || width ≤ x + 16 || height ≤ y + 16 then (if (x + y) / 8 % 2 = 0 then pixelWord 1023 1023 0 else 0)
    else if y < 32 && x < 16 + 16 * text.length then glyphWord (text.getD (x / 16 - 1) ' ').toNat (x % 16) (y % 16)
    else c.pixel x y
  | .blank =>
    let u := (x : Int) - ((width / 2 : Nat) : Int) + 128
    let v := (y : Int) - ((height / 2 : Nat) : Int) + 128
    if 0 ≤ u && u < 256 && 0 ≤ v && v < 256 then (Config.noPicture u.toNat v.toNat).toNat else pixelWord 256 256 256

/-- A packet of the DSI-2 stream on virtual channel 0: its data type, and a short packet's data or a long packet's payload (R230). -/
inductive DsiPacket where
  | short (type data : Nat)
  | long (type : Nat) (payload : Bytes)
deriving DecidableEq, Repr

/-- Data types that R230 names by their use only, as the DSI-2 standard numbers them (PRESUMED, log entry 96): vertical and horizontal sync
start and end, EoT, blanking. -/
def dsiVSyncStart : Nat := 0x01
def dsiVSyncEnd : Nat := 0x11
def dsiHSyncStart : Nat := 0x21
def dsiHSyncEnd : Nat := 0x31
def dsiEot : Nat := 0x08
def dsiBlank : Nat := 0x19

/-- The bytes that the lanes carry in a span of pixels (R231). -/
def DsiFrame.span (f : DsiFrame) (pixels : Nat) : Nat :=
  pixels * f.laneRate * 1000000 * f.timing.lanes / (8 * max 1 f.timing.pixelClock)

/-- A blanking packet that fills so many bytes, with its header and footer; none where they do not fit (log entry 96). -/
def dsiFill (bytes : Nat) : List DsiPacket := if bytes < 6 then [] else [.long dsiBlank (zeros (bytes - 6))]

/-- Pixels packed as 30-bit RGB 10-10-10, red first, each component from its least significant bit (PRESUMED, log entry 96). -/
def packPixels (l : List Nat) : Bytes :=
  leBytes (divCeil (30 * l.length) 8) (packFields ((l.map fun w =>
    [(10, bits w 20 10), (10, bits w 10 10), (10, bits w 0 10)]).flatten))

/-- The pixel stream packet of a line of the active area: 0x0D, or 0x0B with DSC on (R230, R232). -/
def DsiFrame.pixels (f : DsiFrame) (y : Nat) : DsiPacket :=
  let row := (List.range f.timing.hActive).map fun x => f.active.pixel f.timing.hActive f.timing.vActive x y
  match f.dsc with
  | none => .long 0x0D (packPixels row)
  | some (bpp, slices) => .long 0x0B (Config.dscLine bpp slices y row)

/-- Bytes of a packet on the lanes. -/
def DsiPacket.bytes (p : DsiPacket) : Nat := match p with | .short .. => 4 | .long _ b => 6 + b.length

/-- The packets of a line of a frame (R230, R231, R233): the sync pulse, then blanking or the back porch, the pixels and the front porch; a
picture parameter set precedes the pixels of a frame with DSC on. -/
def DsiFrame.line (f : DsiFrame) (y : Nat) : List DsiPacket :=
  let t := f.timing
  let first := t.vSync + t.vBack
  let start := if y = 0 then dsiVSyncStart else if y = t.vSync then dsiVSyncEnd else dsiHSyncStart
  let head : List DsiPacket := .short start 0 :: dsiFill (f.span t.hSync - 4) ++ [.short dsiHSyncEnd 0]
  let pps : List DsiPacket := match f.dsc with
    | some (bpp, slices) => if y = 0 then [.long 0x0A (Config.dscParameters bpp slices t.hActive t.vActive)] else []
    | none => []
  let body := if first ≤ y && y < first + t.vActive then dsiFill (f.span t.hBack - 4) ++ [f.pixels (y - first)] else pps
  let used := ((head ++ body).map DsiPacket.bytes).foldl (· + ·) 0
  head ++ body ++ dsiFill (f.span (t.hSync + t.hBack + t.hActive + t.hFront) - used)

/-- The packets of a frame, line by line (R230, R233). -/
def DsiFrame.packets (f : DsiFrame) : List DsiPacket :=
  (List.range (f.timing.vSync + f.timing.vBack + f.timing.vActive + f.timing.vFront)).flatMap f.line

end Sys2Proof.Machine
end

