-- ==== Sys2Proof/Machine/Ports.lean ====
section
/-! DEFINITION. Raster ports: the layer table, starts and stops, the frame loop, the checks of the Presentation Integrity Unit,
frame records and genlock (spec/09_scan_out_and_display_integrity.md, R139 to R143). -/

namespace Sys2Proof.Machine

open Sys2Proof

/-! The layer table (R239, R241). -/

/-- The compose budget of a port in pixels (R241). -/
def State.composeBudget (s : State) (n : Nat) : Nat :=
  let t := s.timing n
  if t.pixelClock = 0 then 0
  else (t.composeUsed + t.vSync + t.vBack) * t.hTotal * 10181000000 / t.pixelClock

/-- The compose cost of layers on a port in pixels (R241). -/
def State.composeCost (s : State) (n : Nat) (l : List LayerDesc) : Nat :=
  (s.timing n).hActive * (s.timing n).vActive + l.foldl (fun a x => a + x.dstW * x.dstH) 0

/-- Check 2 of R239: the crop within the source, the source of the port's partition. -/
def State.sourceFits (s : State) (n : Nat) (l : LayerDesc) : Bool :=
  let p := s.portOwner n
  let within := fun (w h : Nat) =>
    8 ≤ l.cropW && 8 ≤ l.cropH && l.cropLeft + l.cropW ≤ w && l.cropTop + l.cropH ≤ h
  if l.kind = 2 then
    match s.targetDesc p l.source with
    | none => false
    | some d => within (descSize d).1 (descSize d).2
  else
    p ≠ 0 && s.streamPartition l.source = p &&
      within (s.cfgN l.source (Entry.streamMaxWidth l.source)) (s.cfgN l.source (Entry.streamMaxHeight l.source))

/-- The first cause of R239 by which a layer fails, given the layers below it; 0 for none. -/
def State.layerCause (s : State) (n : Nat) (below : List LayerDesc) (l : LayerDesc) : Nat :=
  let t := s.timing n
  let drawn := s.tagDrawn n l
  let tag := l.tagRect
  if l.dstW < 8 || l.dstH < 8 || t.hActive < l.dstLeft + l.dstW || t.vActive < l.dstTop + l.dstH then 1
  else if l.kind ≠ 3 && !s.sourceFits n l then 2
  else if l.kind ≠ 3 && (4 * l.dstW < l.cropW || 8 * l.cropW < l.dstW || 4 * l.dstH < l.cropH || 8 * l.cropH < l.dstH)
  then 3
  else if drawn && (l.dstW < l.tagX + 32 || l.dstH < l.tagY + 8 || tag.1 % 8 ≠ 0 || tag.2.1 % 8 ≠ 0 ||
      meets tag (s.markerRect n) || (below.filter (s.tagDrawn n)).any fun x => meets tag x.tagRect) then 4
  else if s.composeBudget n < s.composeCost n (below ++ [l]) then 5
  else 0

/-- LayerError of a table: the first failing layer in bits 15:8, its cause in bits 7:0; 0 where none fails (R239). -/
def State.tableError (s : State) (n : Nat) (below rest : List LayerDesc) : Nat :=
  match rest with
  | [] => 0
  | l :: more =>
    match s.layerCause n below l with
    | 0 => s.tableError n (below ++ [l]) more
    | c => 256 * l.index + c

/-- The up-scaling buffers that the views of a table ask for: those whose geometry a network may scale, with the bytes of each (R187). -/
def State.upWanted (s : State) (n : Nat) (table : Bytes) : List UpView :=
  ((enabledLayers table).filter LayerDesc.mayScale).map fun l =>
    let (w, h) := l.upSize
    { layer := l.index
      bytes := if l.kind = 1 then frameBytes w h
        else to256 (w * colourBytes (bits ((s.targetDesc (s.portOwner n) l.source).getD 0) 472 4)) * h }

/-- Bytes of the buffers of a list of views, `k` of each. -/
def upBytes (k : Nat) (l : List UpView) : Nat := l.foldl (fun a v => a + k * v.bytes) 0

/-- The up-scaling buffers that a port holds: of its views, and older ones that a composition still reads (R187, R192). -/
def State.putUpViews (s : State) (n : Nat) (l : List UpView) (old : Nat) : State :=
  let r := s.portRt n
  (s.setPortRt n { r with upViews := l, upOld := old }).allocate (s.portOwner n) (tagUpscale n) (upBytes r.upBuffers l + old)

/-- The buffers at a port's start: UpscaleBuffers for each view, or, where they cannot be had, none until the next start (R187). -/
def State.startUpViews (s : State) (n : Nat) (table : Bytes) : State :=
  let k := s.n (Entry.portUpUpscaleBuffers n)
  let want := s.upWanted n table
  if s.deviceFits (s.portOwner n) (upBytes k want) then (s.setPortRt n { s.portRt n with upBuffers := k }).putUpViews n want 0
  else s.setPortRt n { s.portRt n with upBuffers := 0, upViews := [], upOld := 0 }

/-- The buffers for a table that applies to a port that runs: those of unchanged size stay, the others are freed once no composition reads
them, and each view that needs new ones gets them where they fit, or takes the fixed scaler (R192; DEDUCED for one view, log entry 72). -/
def State.moveUpViews (s : State) (n : Nat) (table : Bytes) : State :=
  let r := s.portRt n
  if r.upBuffers = 0 then s
  else
    let want := s.upWanted n table
    let kept := r.upViews.filter want.contains
    let gone := upBytes r.upBuffers (r.upViews.filter fun v => !want.contains v)
    let t := s.putUpViews n kept (r.upOld + if r.composing.isSome then gone else 0)
    t.each (want.filter fun v => !kept.contains v) fun t v =>
      let q := t.portRt n
      if t.deviceFits (t.portOwner n) (q.upBuffers * v.bytes) then t.putUpViews n (q.upViews ++ [v]) q.upOld else t

/-- The older buffers freed as a composition ends (R192). -/
def State.freeOldUp (s : State) (n : Nat) : State :=
  if (s.portRt n).upOld = 0 then s else s.putUpViews n (s.portRt n).upViews 0

/-- A table applied to a port: its views, its cost, the served set of flow (R115, R239, R241);
rendered views of a changed ratio start a new history (R186). -/
def State.applyTable (s : State) (n : Nat) (table : Bytes) : State :=
  let r := s.portRt n
  let ratios := (enabledLayers table).map fun l => (l.index, 16 * l.ratios.1 + l.ratios.2)
  let changed := (ratios.filter fun e => Assoc.find r.ratios e.1 ≠ some e.2).map fun e => (e.1, (none : Option Nat))
  let t := s.setPortRt n { r with
    applied := table, nextTable := none, ratios := ratios, renderReset := (r.renderReset ++ changed).eraseDups }
  let t := t.setN (Entry.portComposeCost n) (t.composeCost n (enabledLayers table) / 1000)
  let t := if r.timing.isSome then t.moveUpViews n table else t
  t.recomputeServed

/-- A written LayerTable: applied from the next compose point, at once on a port that is OFF; or refused (R239). -/
def State.writeLayers (s : State) (n : Nat) (table : Bytes) : State :=
  let e := s.tableError n [] (enabledLayers table)
  let t := s.setB (Entry.portLayerTable n) table
  if e ≠ 0 then (t.setN (Entry.portLayerState n) 2).setN (Entry.portLayerError n) e
  else
    let t := (t.setN (Entry.portLayerState n) 1).setN (Entry.portLayerError n) 0
    if t.portState n = 0 then t.applyTable n table
    else t.setPortRt n { t.portRt n with nextTable := some table }

/-! Flags (R258). -/

/-- Whether a port is fenced. -/
def State.portFenced (s : State) (n : Nat) : Bool := s.fenced ⟨.port, n⟩

/-- Whether a unit that keeps a port from LIVE is fenced: its compositor context or the PIU (R410). -/
def State.unitsFenced (s : State) (n : Nat) : Bool := s.fenced ⟨.compositor, n⟩ || s.fenced piuUnit

/-- Flags as their conditions stand. -/
def State.portFlags (s : State) (n : Nat) : State :=
  let r := s.portRt n
  let short := decide (s.lanesActive n < (s.timing n).lanes)
  let old := s.n (Entry.portFlags n)
  s.setN (Entry.portFlags n)
    (maskOf ((if old.testBit 0 then [0] else []) ++ (if short then [1] else []) ++ (if r.hold.isSome then [2] else []) ++
      (if s.portState n ≠ 0 && (s.timing n).dsc then [3] else []) ++
      (if s.portFenced n then [4] else []) ++ (if r.waitRclk then [5] else [])))

/-! Starts and stops (R232, R254, R362, R425). -/

/-- Bytes of a port's three compose buffers (R237). -/
def Timing.composeBytes (t : Timing) : Nat := 3 * (t.vActive * to256 (4 * t.hActive))

/-- The link rate test of R232: LaneRate × LanesActive ≥ 1.05 × PixelClock × b, with b in sixteenths of a bit. -/
def linkFits (rate lanes clock bits16 : Nat) : Bool := 21 * clock * bits16 ≤ 20 * rate * 1000000 * lanes * 16

/-- The start checks of a port (R254 step 1): 5 partition, 4 fenced, 1 link rate, 3 DSC geometry, 2 memory; the order is a DESIGN
CHOICE (log entry 22). -/
def State.portStartError (s : State) (n : Nat) : Nat :=
  let t := s.timingEntries n
  let b := if t.dsc then s.n (Entry.timingDscBitsPerPixel n) else 480
  if !s.partOpen (s.portOwner n) then 5
  else if s.portFenced n then 4
  else if !linkFits (s.n (Entry.timingLaneRate n)) (min t.lanes (s.dsiGood n)) t.pixelClock b then 1
  else if t.dsc && (t.hActive % (2 * s.n (Entry.timingDscSlices n)) ≠ 0 || t.vActive % 8 ≠ 0) then 3
  else if !s.deviceFits 0 t.composeBytes then 2
  else 0

/-- The counters that restart from 0 at a port's start (R152, R195, R257). -/
def portCounters (n : Nat) : List Nat :=
  [Entry.portFrameCount n, Entry.portSafeEntries n, Entry.portComposeLate n, Entry.portSafeCause n, Entry.portSafeKind n,
   Entry.portGenRecordsWritten n, Entry.portGenFramesTrue n, Entry.portGenFramesFill n, Entry.portGenFramesLead n,
   Entry.portGenFramesHold n, Entry.portGenFramesSafe n, Entry.portGenJobsLate n, Entry.portUpJobsCompleted n,
   Entry.portUpJobsLate n, Entry.portUpFixedScalerViews n, Entry.portUpHistoryResets n, Entry.portUpCollapseCount n,
   Entry.portUpNoDepthJobs n, Entry.rectRectFailures n, Entry.safeTagFailures n, Entry.safeFreshnessFailures n,
   Entry.safeHoldIntegrityFailures n, Entry.safeHoldFrameCount n, Entry.safeHoldAge n]

/-- The frame-record ring judged once at the start: base with bits 9:0 ignored and slots, where it fits the partition (R141). -/
def State.recordRing (s : State) (n : Nat) : Option (Nat × Nat) :=
  let base := s.n (Entry.portGenRecordBase n) / 1024 * 1024
  let slots := s.n (Entry.portGenRecordSlots n)
  if s.inRange (s.portOwner n) base (1024 * slots) then some (base, slots) else none

/-! The stream on the lanes (R230, R231). -/

/-- Whether a port's frames run: not OFF, its clock good, not fenced: its lanes are then in HS mode, else in LP-11 (R231). -/
def State.portRuns (s : State) (n : Nat) : Bool :=
  s.portState n ≠ 0 && !(s.portRt n).waitRclk && !s.portFenced n

/-- The hold frame's age in hundredths of a second, rounded down (R252). -/
def State.holdCenti (s : State) (n : Nat) (h : HoldFrame) : Nat :=
  let t := s.timing n
  if t.pixelClock = 0 then 0
  else (h.age + ((s.portRt n).frames - h.frame) * t.vTotal) * t.hTotal * 100 / t.pixelClock

/-- What the active area of the frame in progress shows at its start (R237, R250, R252, R254, R255). -/
def State.activeNow (s : State) (n : Nat) : Active :=
  let r := s.portRt n
  if s.portState n = 3 then .black
  else if r.carrying then
    (match if s.n (Entry.portSafeKind n) = 1 then r.hold else none with
    | some h => .hold h.content (s.holdCenti n h)
    | none => .blank)
  else match r.scan with
    | some c => .composed c.content
    | none => .black

/-- The frame that ends as the port has sent it (R230, R231, R235). -/
def State.sentFrame (s : State) (n : Nat) : DsiFrame :=
  let r := s.portRt n
  let t := s.timing n
  { count := r.frames % 2 ^ 32, timing := { t with vFront := ((t.vFront : Int) + r.frontAdjust).toNat, lanes := s.lanesActive n }
    laneRate := s.n (Entry.timingLaneRate n)
    dsc := if t.dsc then some (s.n (Entry.timingDscBitsPerPixel n), s.n (Entry.timingDscSlices n)) else none
    active := r.active }

/-- The frame in progress of a port sent on its lanes: nothing unless the port counts (R231). -/
def State.sendPortFrame (s : State) (n : Nat) : State :=
  if (s.portRt n).counting then s.emit (.dsi n (s.sentFrame n)) else s

/-- A port that starts: its timing taken, buffers allocated, counters at 0, black until the first composition (R254 step 1). -/
def State.portBegin (s : State) (n : Nat) : State :=
  let old := s.portRt n
  let table := if s.n (Entry.portLayerState n) = 0 then [] else old.applied
  let t := s.setPortRt n
    { timing := some (s.timingEntries n), recordRing := s.recordRing n, black := true, nextTable := old.nextTable
      ratios := old.ratios, applied := table }
  let t := t.allocate 0 (tagCompose n) (s.timingEntries n).composeBytes
  let t := (t.setPortRt n { t.portRt n with histThreshold := t.n (Entry.portUpHistoryThreshold n) }).startUpViews n table
  let t := (t.zero (portCounters n ++ [Entry.portStartError n, Entry.portPendingStart n])).setN
    (Entry.rectLastFailedRect n) 255
  let t := (t.setN (Entry.portEnable n) 1).setN (Entry.timingGenlockState n)
    (if (s.timingEntries n).sync then 1 else 0)
  let t := t.setPortState n 1
  (t.applyTable n table).portFlags n

/-- A start after its checks: STARTING, or OFF with Enable 0 and StartError (R254 step 1, R425). -/
def State.portStart (s : State) (n : Nat) : State :=
  match s.portStartError n with
  | 0 => s.portBegin n
  | e =>
    let t := (s.setN (Entry.portStartError n) e).setN (Entry.portPendingStart n) 0
    let t := if e = 5 then t.refuseEnable (Entry.portEnable n) (t.portOwner n) else t.setN (Entry.portEnable n) 0
    (t.setPortState n 0).portFlags n

/-- Enable 1 of a port (R254, R425). -/
def State.portEnableOn (s : State) (n : Nat) : State :=
  match s.portState n with
  | 0 => s.portStart n
  | 3 => (s.setN (Entry.portEnable n) 1).setN (Entry.portPendingStart n) 1
  | _ => s.setN (Entry.portEnable n) 1

/-- The start of a port's stop: PV deasserted, its jobs abandoned (R150, R192, R254 step 5). -/
def State.portBeginStop (s : State) (n : Nat) : State :=
  let t := (s.setPortState n 3).zero [Entry.portSafeCause n, Entry.portSafeKind n]
  let t := t.dropJobs fun j => j.port = n
  let t := t.setPortRt n { t.portRt n with black := true, carrying := false }
  (t.recomputeServed).portFlags n

/-- Enable 0 of a port (R254 step 5, R425). -/
def State.portEnableOff (s : State) (n : Nat) : State :=
  let t := s.zero [Entry.portEnable n]
  if s.shows n then t.portBeginStop n
  else if s.portState n = 3 then t.setN (Entry.portPendingStart n) 0
  else t

/-- The end of a port's stop: its buffers released, OFF or a pending start; not before its partition's scrub ends (R254 step 6,
R255) (DEDUCED, log entry 58). -/
def State.portStopped (s : State) (n : Nat) : State :=
  let p := s.portOwner n
  if s.portState n ≠ 3 || s.partState p = 4 || s.partState p = 3 then s
  else
    let s := s.sendPortFrame n
    let s := if s.on (Entry.portPendingStart n) || !s.portRuns n then s else s.emit (.dsiEnd n)
    let r := s.portRt n
    let t := ((s.release 0 (tagCompose n)).release p (tagUpscale n)).dropRatios n
    let t := t.setJobs (t.gen.jobs.filter fun j => j.port ≠ n)
    let t := t.setPortRt n { applied := r.applied, nextTable := none, ratios := r.ratios }
    let t := match r.nextTable with | some x => t.applyTable n x | none => t
    let t := ((t.reapJobs n).setPortState n 0).idleSweep
    if t.on (Entry.portPendingStart n) then t.portStart n else t.portFlags n

/-! Frame records (R139 to R143). -/

/-- The choice of a frame, if it is one of the last two. -/
def PortRt.choiceOf (r : PortRt) (F : Nat) : Option FrameChoice := r.chosen.find? fun c => c.frame = F

/-- The port's code in frame F (R139). -/
def PortRt.code (r : PortRt) (F : Nat) : Nat :=
  if r.carrying then provSafe
  else match r.choiceOf F with | none => provTrue | some c => viewsCode c.views

/-- The newest true frame that contributes pixels to a view: that of its picture, or the newest one where a block is gated or shows no
synthesis (R143, R145, R146). -/
def ViewChoice.contributes (v : ViewChoice) : Option Nat :=
  match v.pic with
  | none => none
  | some p => if v.gated ≠ 0 || v.plain then some (max p.later (v.newest.getD 0)) else some p.later

/-- The SourceAge of a view in frame F: port lines from the arrival of its newest contributing true frame to F's first active line;
none without a true frame, or where the frame arrived before the port counted (R143, R244; log entry 23). -/
def State.sourceAge (s : State) (n F : Nat) (v : ViewChoice) : Option Nat :=
  match v.contributes with
  | none => none
  | some o =>
    match (s.ctx v.stream).frames.find? fun f => f.ordinal = o with
    | none => none
    | some f => (Assoc.find f.arrival n).map fun a => F * (s.timing n).vTotal + (s.timing n).firstActive - a

/-- The Phase field of a view (R143, R160). -/
def State.viewPhase (s : State) (v : ViewChoice) : Nat :=
  match v.pic with
  | some (.fill _ _ _ k r _ _) => if v.code = provFill then k * 256 / r else 0
  | some (.lead i _ ts target) =>
    if v.code = provLead then min 255 (64 * (target - (ts : Rat)) / s.sourceInterval i).floor.toNat else 0
  | _ => 0

/-- A view entry of 16 bytes (R143). -/
def State.viewBytes (s : State) (n F : Nat) (v : ViewChoice) : Bytes :=
  let ones := 2 ^ 32 - 1
  let frame := match v.pic with | none => ones | some p => (p.frames.getD 0 ones) % 2 ^ 32
  let age := match v.pic with | none => ones | some _ => min ones ((s.sourceAge n F v).getD ones)
  leBytes 16 (packFields
    [(32, v.gated), (32, age), (32, frame), (4, 0), (8, s.viewPhase v), (1, 0), (1, ofBool v.repeat_), (3, v.code),
     (6, v.layer), (9, v.stream)])

/-- Whether the marker is drawn in the frame in progress (R142). -/
def PortRt.showsMarker (r : PortRt) : Bool := match r.active with | .composed c => c.marker.isSome | _ => false

/-- The frame record of F (R141 to R143). -/
def State.recordBytes (s : State) (n F : Nat) : Bytes :=
  let r := s.portRt n
  let c := (r.choiceOf F).getD { frame := F }
  let kind := if r.carrying then s.n (Entry.portSafeKind n) else 0
  let head := packFields
    [(96, 0), (32, r.sequence), (32, c.views.foldl (fun a v => a + v.gated) 0), (45, 0), (2, c.shed),
     (1, ofBool r.pvAtStart), (1, ofBool r.showsMarker), (2, kind), (3, r.code F),
     (6, c.views.length), (4, n), (32, F)]
  fit 1024 (leBytes 32 head ++ joinBytes (c.views.map (s.viewBytes n F)))

/-- The record of the frame in progress written, once, where RecordEnable was 1 at its start and the ring fits (R141); a frame without a composition has
a record too, written at its start (DEDUCED, log entry 45). -/
def State.writeRecord (s : State) (n : Nat) : State :=
  let r := s.portRt n
  let F := r.frames
  match r.recordRing with
  | none => s
  | some (base, slots) =>
    if !r.recordOn || r.recorded = some F then s
    else
      let t := s.writeMem (s.portOwner n) (base + 1024 * (r.sequence % max 1 slots)) (s.recordBytes n F)
      (t.setPortRt n { r with recorded := some F, sequence := r.sequence + 1 }).bump (Entry.portGenRecordsWritten n)

/-! Exits from SAFE (R253). -/

/-- Whether an open event names a port or a unit it reads: its compositor context or the PIU (R253; DEDUCED, log entry 24). -/
def State.portNamed (s : State) (n : Nat) : Bool :=
  s.openEvents.any fun e =>
    e.unit = ⟨.port, n⟩ || e.unit = ⟨.compositor, n⟩ || e.unit = ⟨.piu, 0⟩ || e.ports.contains n

/-- Whether SAFE_REQ_n counts as asserted (R423). -/
def State.safeReqOn (s : State) : Bool := s.inputs.safeReq || s.inputs.toggling

/-- Whether a port can leave SAFE at a frame start (R253). -/
def State.canExit (s : State) (n : Nat) : Bool :=
  let r := s.portRt n
  s.n (Entry.portSafeExitFrames n) ≤ r.exitCount && !s.safeReqOn && !s.portNamed n && !r.waitRclk &&
    !s.portFenced n && !s.unitsFenced n && !s.held && (s.n (Entry.portSafeExit n) = 0 || r.acked)

/-- A port LIVE: PV asserted, no cause, no substitute (R243, R254 steps 2 and 4) (DEDUCED, log entry 73). -/
def State.goLive (s : State) (n : Nat) : State :=
  let t := (s.setPortState n 2).zero [Entry.portSafeCause n, Entry.portSafeKind n]
  t.setPortRt n { t.portRt n with exitCount := 0, acked := false, blankNext := false, carrying := false }

/-! The frame loop (R28, R236, R250 to R254). -/

/-- The counter of the port frames of a code (R152). -/
def codeCounter (n code : Nat) : Nat :=
  match code with
  | 0 => Entry.portGenFramesTrue n
  | 1 => Entry.portGenFramesFill n
  | 2 => Entry.portGenFramesLead n
  | 3 => Entry.portGenFramesHold n
  | _ => Entry.portGenFramesSafe n

/-- The hold frame after a frame has ended (R237). -/
def PortRt.qualify (r : PortRt) : Option HoldFrame :=
  match r.scan with
  | some c =>
    if c.frame = r.frames && c.plain && !r.carrying && !r.failed then
      some { frame := c.frame, crc := c.crc, age := c.age, content := c.content }
    else r.hold
  | none => r.hold

/-- HoldFrameCount and HoldAge as they read (R252, R261). -/
def State.showHold (s : State) (n : Nat) : State :=
  match (s.portRt n).hold with
  | none => s
  | some h =>
    let age := h.age + ((s.portRt n).frames - h.frame) * (s.timing n).vTotal
    (s.setN (Entry.safeHoldFrameCount n) (h.frame % 2 ^ 32)).setN (Entry.safeHoldAge n)
      (min (2 ^ 32 - 1) ((s.timing n).millis age))

/-- The check of the hold frame that SAFE_HOLD has shown: a CRC-32 that differs from the recorded one is counted (R251, R261). -/
def State.holdFails (s : State) (n holdCrc : Nat) : Bool :=
  s.portState n = 5 && s.n (Entry.portSafeKind n) = 1 && (s.portRt n).carrying &&
    (match (s.portRt n).hold with | none => false | some h => h.crc ≠ holdCrc)

/-- A frame start of a port (R28, R230, R237, R243, R250 step 3, R251, R253, R254): the frame that ends is sent and judged, the port changes
state, the next composition enters scan-out.  `holdCrc`: the CRC-32 of the hold frame as scan-out read it. -/
def State.frameStart (s : State) (n holdCrc : Nat) : State :=
  if !s.portRuns n then s
  else
    let bad := s.holdFails n holdCrc
    let s := if bad then s.bump (Entry.safeHoldIntegrityFailures n) else s
    let s := s.sendPortFrame n
    let r := s.portRt n
    let passed := r.counting && !r.failed && (match r.scan with | some c => c.frame = r.frames | none => false)
    let hold := if r.counting then r.qualify else r.hold
    let F := if r.counting then r.frames + 1 else 0
    let scan := match r.composed with | some c => if c.frame = F then some c else none | none => none
    let count := if s.portState n ≠ 5 then 0 else if !r.carrying then r.exitCount else if passed then r.exitCount + 1 else 0
    let t := s.setPortRt n { r with
      counting := true, frames := F, hold := hold, scan := scan
      composed := if scan.isSome then none else r.composed
      failed := r.failedNext, failedNext := false, exitCount := count, acked := r.acked && count ≠ 0, frontAdjust := 0 }
    let t := t.setN (Entry.portFrameCount n) (F % 2 ^ 32)
    let t :=
      if t.portState n = 1 then
        (if passed && !t.safeReqOn && !t.held && !(t.portRt n).failed && !t.unitsFenced n then t.goLive n else t)
      else if t.portState n = 5 then
        (if t.canExit n then t.goLive n
        else if t.n (Entry.portSafeKind n) = 1 && (bad || (t.portRt n).blankNext || t.mustBlank n) then
          t.setN (Entry.portSafeKind n) 2
        else t)
      else t
    let t := t.setPortRt n { t.portRt n with
      carrying := decide (t.portState n = 5), black := t.portState n = 3 || (t.portRt n).scan.isNone
      recordOn := t.on (Entry.portGenRecordEnable n), pvAtStart := decide (t.portState n = 2) }
    -- until the composition is in, the active area is left as it was: black, or the buffer of the frame before (R250)
    let wait := (t.portRt n).scan.isNone && (t.portRt n).composing.isSome && t.portState n ≠ 5 && t.portState n ≠ 3
    let t := if wait then t else t.setPortRt n { t.portRt n with active := t.activeNow n }
    let t := t.bump (codeCounter n ((t.portRt n).code F))
    let t := if ((t.portRt n).composing.map Composed.frame) = some F then t else t.writeRecord n
    (t.showHold n).portFlags n

/-- The views of F where a new table has just been applied: a layer without a view takes its stream's choice (R239, R240). -/
def State.refreshViews (s : State) (n F : Nat) : State :=
  match (s.portRt n).chosen with
  | [] => s
  | c :: rest =>
    if c.frame ≠ F then s
    else
      let (views, t) := (s.cameraLayers n).foldl (fun (acc : List ViewChoice × State) l =>
        match c.views.find? fun v => v.layer = l.index && v.stream = l.source with
        | some v => (acc.1 ++ [v], acc.2)
        | none =>
          let (pick, u) := match c.views.find? fun v => v.stream = l.source with
            | some v => (v, acc.2)
            | none => (acc.2.advanceGen l.source).chooseStream n l.source F
          let (v, u) := u.placeView n F l pick
          (acc.1 ++ [v], u)) (([] : List ViewChoice), s)
      let (renders, t) := ((t.layers n).filter fun l => l.kind = 2).foldl (fun (acc : List RenderChoice × State) l =>
        match c.renders.find? fun v => v.layer = l.index && v.target = l.source with
        | some v => (acc.1 ++ [v], acc.2)
        | none =>
          let (v, u) := acc.2.placeRender n F l
          (acc.1 ++ [v], u)) (([] : List RenderChoice), t)
      t.setPortRt n { t.portRt n with chosen := { c with views := views, renders := renders } :: rest }

/-- The predicted CRC of a rectangle in frame F, where its entry is there (R249). -/
def State.prediction (s : State) (n F rect : Nat) : Option Nat :=
  let p := s.portOwner n
  let base := s.n (Entry.rectPredictBase n) / 256 * 256 + 256 * (F % max 1 (s.n (Entry.rectPredictSlots n)))
  if p = 0 || !s.inRange p base 256 || s.readFails p base 256 then none
  else
    let e := leNat (s.readMem p (base + 8 * rect) 8)
    if bits e 32 32 = F % 2 ^ 32 then some (bits e 0 32) else none

/-- A failed check of the frame being composed (R250). -/
def State.failNext (s : State) (n cause : Nat) (blank : Bool) : State :=
  (s.setPortRt n { s.portRt n with failedNext := true }).portFails n cause blank

/-- A failed check of the frame in scan-out (R250). -/
def State.failNow (s : State) (n cause : Nat) (blank : Bool) : State :=
  (s.setPortRt n { s.portRt n with failed := true }).portFails n cause blank

/-- The freshness check of F at its compose point (R244). -/
def State.checkFresh (s : State) (n F : Nat) (views : List ViewChoice) : State :=
  let limit := (s.timing n).lines (s.n (Entry.portFreshnessLimit n)) 1000
  let stale := views.any fun v => match s.sourceAge n F v with | none => true | some a => limit < a
  if stale then (s.bump (Entry.safeFreshnessFailures n)).failNext n 1 false else s

/-- Predicted rectangles whose entry is missing at the compose point of F (R249, R250). -/
def State.checkPredicted (s : State) (n F : Nat) : State :=
  let missing := (activeRects (s.portRt n).rects).filter fun e =>
    e.2.mode = 2 && (s.prediction n F e.1).isNone
  match missing.getLast? with
  | none => s
  | some e =>
    let t := (s.add (Entry.rectRectFailures n) missing.length).setN (Entry.rectLastFailedRect n) e.1
    t.failNext n 3 true

/-- The compose point of a port's next frame (R236, R239, R244, R248, R249): tables apply, jobs are settled, checks are made,
composition begins. -/
def State.composeAt (s : State) (n : Nat) : State :=
  let F := (s.portRt n).frames + 1
  if !s.portRuns n || !s.shows n || !(s.portRt n).counting || ((s.portRt n).composing.map Composed.frame) = some F ||
      ((s.portRt n).composed.map Composed.frame) = some F then s
  else
    let t := match (s.portRt n).nextTable with
      | none => s
      | some x => (s.applyTable n x).refreshViews n F
    let t := t.setPortRt n { t.portRt n with rects := t.b (Entry.rectRectTable n) }
    let t := t.settleViews n F
    let choice := ((t.portRt n).choiceOf F).getD { frame := F }
    let views := choice.views
    let content := t.content n choice
    let predicted := (activeRects (t.portRt n).rects).filterMap fun e =>
      if e.2.mode = 2 then (t.prediction n F e.1).map fun x => (e.1, x) else none
    let cams := (t.cameraLayers n).map fun l => (views.find? fun v => v.layer = l.index).getD { layer := l.index }
    let ages := cams.filterMap (t.sourceAge n F)
    let t := t.checkFresh n F cams
    let t := t.checkPredicted n F
    t.setPortRt n { t.portRt n with
      composing := some
        { frame := F, age := ages.foldl max 0, plain := cams.all fun v => v.code = provTrue || v.code = provHold
          content := content, rects := (t.portRt n).rects, symbols := t.n (Entry.rectSymbolSelect n), predicted := predicted } }

/-- A composition in its buffer; what it alone read is free (R148, R187, R192, R236, R251). -/
def State.composeDone (s : State) (n crc : Nat) : State :=
  let r := s.portRt n
  match r.composing with
  | none => s
  | some c =>
    let d := { c with crc := crc }
    let t :=
      if c.frame ≤ r.frames then
        -- after the frame start, before the first active line
        let t := s.setPortRt n { r with composing := none, scan := if c.frame = r.frames then some d else r.scan, black := false }
        if c.frame = r.frames then (t.setPortRt n { t.portRt n with active := t.activeNow n }).writeRecord n else t
      else s.setPortRt n { r with composing := none, composed := some d }
    (t.reapJobs n).freeOldUp n

/-- The first active line with the composition unfinished: the buffer of the frame before is repeated (R250, R256, R257). -/
def State.composeIsLate (s : State) (n : Nat) : State :=
  let r := s.portRt n
  match r.composing with
  | none => s
  | some c =>
    if c.frame ≠ r.frames then s
    else
      let t := s.setPortRt n { r with composing := none }
      let t := (t.bump (Entry.portComposeLate n)).writeRecord n
      ((t.reapJobs n).freeOldUp n).failNow n 4 false

/-! Checks in scan-out (R245 to R249). -/

/-- The expected payload of a layer's tag in the frame in scan-out (R246), as its choice and the pass counts gave it at its compose point; none
where the layer draws no tag. -/
def State.expectedTag (s : State) (n layer : Nat) : Option Nat :=
  (s.portRt n).scan.bind fun c => (c.content.tags.find? fun e => bits e.2.2 13 6 = layer).map fun e => e.2.2

/-- Whether the reported ordinal of a camera layer exceeds the true frames whose arrival the PIU has seen (R246). -/
def State.tagAhead (s : State) (n layer : Nat) : Bool :=
  match ((s.portRt n).choiceOf (s.portRt n).frames).map FrameChoice.views with
  | none => false
  | some views =>
    match views.find? fun v => v.layer = layer with
    | none => false
    | some v => match v.pic with
      | none => false
      | some p => (s.ctx v.stream).trueCount < p.frames.getD 0 0

/-- Whether the two copies' results of a check differ (R242). -/
def copiesDiffer (expected a b : Nat) : Bool := (a = expected) != (b = expected)

/-- The PIU's disagreement (R242, R250): the PIU named and fenced, every PV pair deasserted, running ports SAFE_BLANK. -/
def State.piuDisagrees (s : State) : State :=
  let live := (List.range s.portCount).filter fun n => s.portState n = 2
  let (t, _) := s.takeReport piuUnit piuUnit .presentation 0 live 3
  let t := t.markFenced piuUnit
  (t.each (List.range t.portCount) fun t n => t.enterSafeOpen n 7).settle 1

/-- The route tag check of a layer (R246, R250): the CRCs of the tag at the two taps. -/
def State.checkTag (s : State) (n layer crcA crcB : Nat) : State :=
  if !s.portRuns n || !s.shows n then s
  else
    match s.expectedTag n layer with
    | none => s
    | some payload =>
      let e := crc32 (tagBytes payload)
      let bad := s.tagAhead n layer || crcA ≠ e || crcB ≠ e
      let t := if bad then (s.bump (Entry.safeTagFailures n)).failNow n 2 true else s
      if copiesDiffer e crcA crcB then t.piuDisagrees else t

/-- The expected CRC of a rectangle of the frame in scan-out (R248, R249). -/
def State.expectedRect (s : State) (n : Nat) (c : Composed) (i : Nat) (r : RectDesc) : Option Nat :=
  let t := s.timing n
  let (l, top, right, bottom) := r.rect
  if r.mode = 3 || right ≤ l || bottom ≤ top || t.hActive < right || t.vActive < bottom then none
  else if r.mode = 1 then some (r.static.getD (bits c.symbols (2 * i) 2) 0)
  else Assoc.find c.predicted i

/-- The check of a CRC rectangle (R248, R250). -/
def State.checkRect (s : State) (n i crcA crcB : Nat) : State :=
  if !s.portRuns n || !s.shows n then s
  else
    match (s.portRt n).scan.bind fun c => ((activeRects c.rects).find? fun e => e.1 = i).map fun e => (c, e.2) with
    | none => s
    | some (c, r) =>
      let fail := fun (t : State) =>
        ((t.bump (Entry.rectRectFailures n)).setN (Entry.rectLastFailedRect n) i).failNow n 3 true
      match s.expectedRect n c i r with
      | none => if r.mode = 2 then s else fail s
      | some e =>
        let t := if crcA ≠ e || crcB ≠ e then fail s else s
        if copiesDiffer e crcA crcB then t.piuDisagrees else t

/-! The clock and genlock (R30, R235, R254 step 7). -/

/-- RCLK out of range (R30, R254 step 7): reported, and a port that is not OFF stops counting. -/
def State.rclkFails (s : State) (n : Nat) : State :=
  if s.portState n = 0 then s
  else
    let (t, _) := s.takeReport ⟨.port, n⟩ ⟨.port, n⟩ .presentation 0 (if s.portState n = 2 then [n] else []) 6
    let t := if s.shows n then
        let st := s.portState n
        let t := if st = 5 then t else (t.setPortState n 5).bump (Entry.portSafeEntries n)
        let t := t.setN (Entry.portSafeCause n) 6
        if st = 5 then t else t.setN (Entry.portSafeKind n) (t.safeKind n false)
      else t
    let t := t.setPortRt n { t.portRt n with waitRclk := true, counting := false, exitCount := 0, acked := false }
    ((t.dropRatios n).settle 1).portFlags n

/-- RCLK in range for 100 ms: STARTING, with the counters from 0; a port that is STOPPING counts from 0 (R30, R254 step 7) (DEDUCED, log
entry 71). -/
def State.rclkReturns (s : State) (n : Nat) : State :=
  let r := s.portRt n
  if !r.waitRclk || s.held then s
  else
    let t := s.setPortRt n
      { timing := r.timing, applied := r.applied, nextTable := r.nextTable, ratios := r.ratios, upBuffers := r.upBuffers
        upViews := r.upViews, upOld := r.upOld, histThreshold := r.histThreshold, renderReset := r.renderReset
        recordRing := r.recordRing, sequence := r.sequence, black := true }
    let t := if s.portState n = 5 then t.setPortState n 1 else t
    let t := t.zero [Entry.portFrameCount n, Entry.portSafeCause n, Entry.portSafeKind n]
    t.portFlags n

/-- Genlock lost: the port runs free on its own timing; FsyncLost counts each entry to it (R235, R489). -/
def State.loseGenlock (s : State) (n : Nat) : State :=
  let t := s.setPortRt n { s.portRt n with lockRun := 0, frontAdjust := 0 }
  let t := if t.n (Entry.timingGenlockState n) = 3 then t else t.bump Entry.pinsFsyncLost
  (t.setN (Entry.timingGenlockState n) 3).setFlag (Entry.portFlags n) 0 true

/-- GenlockState as the run of aligned edges gives it: 2 locked, 1 locking (R235). -/
def State.fsyncAt (s : State) (n : Nat) (e : Int) (periodTenths : Nat) : State :=
  if !(s.timing n).sync || !s.portRuns n then s
  else
    let r := s.portRt n
    let front := (s.timing n).vFront
    if periodTenths < 9 then s.loseGenlock n
    else
      let run := if e.natAbs ≤ 1 then min 8 (r.lockRun + 1) else 0
      let adjust := max (1 - (front : Int)) (clampInt (-8) 8 e)
      let t := s.setPortRt n { r with lockRun := run, frontAdjust := adjust }
      (t.setN (Entry.timingGenlockState n) (if 8 ≤ run then 2 else 1)).setFlag (Entry.portFlags n) 0 false

/-- A filtered edge of FSYNC: FsyncLevels shows the level, and a rising edge aligns the port (R235, R422, R489). -/
def State.fsyncTaken (s : State) (n : Nat) (rising : Bool) (e : Int) (periodTenths : Nat) : State :=
  if s.isOff then s
  else
    let t := s.setFlag Entry.pinsFsyncLevels n rising
    if rising then t.fsyncAt n e periodTenths else t

/-- No FSYNC edge for two frame periods: the port free-runs (R235). -/
def State.genlockGone (s : State) (n : Nat) : State :=
  if !(s.timing n).sync || !s.portRuns n then s
  else s.loseGenlock n

/-- A SafeAck of 1: counts once the exit count is reached (R253). -/
def State.ackSafe (s : State) (n : Nat) : State :=
  let r := s.portRt n
  if s.portState n = 5 && s.n (Entry.portSafeExitFrames n) ≤ r.exitCount then s.setPortRt n { r with acked := true } else s

/-- A RenderReset of 1: the history of each rendered view restarts with its next job (R186). -/
def State.resetRender (s : State) (n : Nat) : State :=
  let r := s.portRt n
  s.setPortRt n { r with renderReset := ((s.layers n).filter fun l => l.kind = 2).map fun l => (l.index, none) }

/-- The choice point of a port's next frame, after the arrival record in replay (R135, R174). -/
def State.choiceAt (s : State) (n : Nat) : State :=
  let r := s.portRt n
  let F := r.frames + 1
  if !s.portRuns n || !s.shows n || !r.counting || (r.chosen.head?.map FrameChoice.frame) = some F then s
  else
    let p := s.portOwner n
    let t := if (s.partRt p).arrivalMode = 2 then s.replayTo p n F replayFuel else s
    t.chooseAll n

end Sys2Proof.Machine
end

