-- ==== Sys2Proof/Machine/Rings.lean ====
section
/-! DEFINITION. Rings and doorbells: descriptors, the taking of entries, completions (R364 to R369). -/

namespace Sys2Proof.Machine

open Sys2Proof

/-- The user partition, not OFF, that holds the block of a ring (R358). -/
def State.ringOwner (s : State) (r : Nat) : Option Nat :=
  ((List.range 9).drop 1).find? fun p =>
    s.partState p ≠ 0 && (((s.partRt p).owned.map Owned.blocks).getD []).contains (r / 64)

/-- The offset of the descriptor of a ring in its partition: by the rank of its block, bits 5:0 of the base ignored (R364, R376). -/
def State.ringDescAt (s : State) (p r : Nat) : Nat :=
  let k := (((s.partRt p).owned.map Owned.blocks).getD []).findIdx (· = r / 64)
  s.n (Entry.partRingRingTableBase p) / 64 * 64 + 64 * (64 * k + r % 64)

/-- The descriptor of a ring as memory holds it; none where it lies outside the range or cannot be read. -/
def State.ringDesc (s : State) (p r : Nat) : Option Nat :=
  let a := s.ringDescAt p r
  if s.inRange p a 64 && !s.readFails p a 64 then some (leNat (s.readMem p a 64)) else none

/-- A doorbell (R365): Tail taken with what the descriptor gives, or the write ignored and counted. -/
def State.ringBell (s : State) (fn r tail : Nat) : State :=
  match s.ringOwner r with
  | none => s
  | some p =>
    let bad := s.bump (Entry.partRingBadDoorbells p)
    match s.ringDesc p r with
    | none => bad
    | some d =>
      let g := s.ring r
      let slots := bits d 379 5
      if (fn = p || (fn = 0 && !s.confidential)) && s.partState p = 2 && d.testBit 378 && 4 ≤ slots && slots ≤ 16 &&
          (tail + 2 ^ 32 - g.head) % 2 ^ 32 ≤ 2 ^ slots then
        s.setRing r { g with
          tail := tail, function := fn, slotsLog := slots, submitBase := bits d 448 64, completeBase := bits d 384 64
          irq := d.testBit 377, vector := bits d 366 11, completeRead := bits d 224 32 }
      else bad

/-- The next entry that a ring can take, with its partition: one below Tail, within the completion limit, the partition LIVE, the PCIe
controller in service (R365, R367, R410).  An entry outside the range or unreadable is none in the second place, with the cause it ends with (R368)
(DEDUCED, log entry 62). -/
def State.nextEntry (s : State) (r : Nat) : Option (Nat × (Option Nat × Nat)) :=
  match s.ringOwner r with
  | none => none
  | some p =>
    let g := s.ring r
    if s.partState p ≠ 2 || s.fenced ⟨.pcie, 0⟩ || g.head = g.tail || (g.head + 2 ^ 32 - g.completeRead) % 2 ^ 32 = 2 ^ g.slotsLog then none
    else
      let a := g.submitBase + 64 * (g.head % 2 ^ g.slotsLog)
      some (p,
        if !s.inRange p a 64 then (none, 2)
        else if s.readFails p a 64 then (none, 6)
        else (some (leNat (s.readMem p a 64)), 0))

/-- A count of jobs of a partition and of a ring (R369, R376). -/
def State.countJob (s : State) (r : Nat) (total : Nat) (f : Ring → Ring) : State :=
  (s.bump total).setRing r (f (s.ring r))

/-- An entry taken: Head advances in the device and in the descriptor; Submitted counts it (R364, R365, R369). -/
def State.takeEntry (s : State) (p r : Nat) : State :=
  let g := s.ring r
  let head := (g.head + 1) % 2 ^ 32
  let t := s.writeMem p (s.ringDescAt p r + 36) (leBytes 4 head)
  t.countJob r (Entry.partRingSubmitted p) fun g => { g with head := head, submitted := (g.submitted + 1) % 2 ^ 32 }

/-- A completion written (R368): the 16-byte entry, Completions, the counts, the vector, CompleteRead read again. -/
def State.complete (s : State) (p r index tag : Nat) (irq : Bool) (cause : Nat) : State :=
  let g := s.ring r
  let status := if cause = 0 then 1 else 2
  let phase := (g.completions / 2 ^ g.slotsLog + 1) % 2
  let e := packFields [(1, phase), (15, 0), (8, cause), (8, status), (32, index), (64, tag)]
  let t := s.writeMem p (g.completeBase + 16 * (g.completions % 2 ^ g.slotsLog)) (leBytes 16 e)
  let next := (g.completions + 1) % 2 ^ 32
  let t := t.writeMem p (t.ringDescAt p r + 32) (leBytes 4 next)
  let t := t.setRing r { g with completions := next }
  let t := if cause = 0 then
      t.countJob r (Entry.partRingCompleted p) fun g => { g with completed := (g.completed + 1) % 2 ^ 32 }
    else
      (t.countJob r (Entry.partRingAbandoned p) fun g => { g with abandoned := (g.abandoned + 1) % 2 ^ 32 }).setN
        (Entry.partRingLastCause p) cause
  let t := if irq && g.irq then t.signal p g.vector else t
  match t.ringDesc p r with
  | none => t
  | some d => t.setRing r { t.ring r with completeRead := bits d 224 32 }

/-- The number by which the device knows a ring job: ring and submission index. -/
def ringJobId (r index : Nat) : Nat := r * 2 ^ 32 + index

/-- A ring job by its number. -/
def State.ringJob? (s : State) (id : Nat) : Option RingJob := s.jobs.find? fun j => j.id = id

/-- A ring job ended with a cause: 0 completed, else abandoned (R368). -/
def State.endJob (s : State) (id cause : Nat) : State :=
  match s.ringJob? id with
  | none => s
  | some j =>
    let t := { s with jobs := s.jobs.filter fun k => k.id ≠ id }
    t.complete j.partition j.ring j.index j.tag j.irq cause

/-- The fields of an entry (R366). -/
def entryKind (e : Nat) : Nat := bits e 504 8
def entryTag (e : Nat) : Nat := bits e 384 64
def entryIrq (e : Nat) : Bool := e.testBit 495

/-- A job of an entry, as it is when taken. -/
def ringJobOf (p r index e : Nat) : RingJob :=
  { id := ringJobId r index, partition := p, ring := r, index := index, tag := entryTag e, irq := entryIrq e
    kind := entryKind e, slot := bits e 496 8, param := bits e 448 32, a := bits e 320 64, b := bits e 256 64
    c := bits e 192 64, srcPlace := bits e 493 2, dstPlace := bits e 491 2, mode := bits e 488 3 }

/-- An entry that ends when taken, with a cause. -/
def State.takeAndEnd (s : State) (p r e cause : Nat) : State :=
  let index := (s.ring r).head
  (s.takeEntry p r).complete p r index (entryTag e) (entryIrq e) cause

/-- An entry taken as a job that goes on. -/
def State.takeJob (s : State) (p r e : Nat) (f : RingJob → RingJob) : State :=
  let j := ringJobOf p r (s.ring r).head e
  let t := s.takeEntry p r
  { t with jobs := t.jobs ++ [f j] }

/-- What a ring command does with the next entry where it has the kind. -/
def State.withEntry (s : State) (r kind : Nat) (f : Nat → Nat → State) : State :=
  match s.nextEntry r with
  | some (p, (some e, _)) => if entryKind e = kind then f p e else s
  | _ => s

/-- A NOP ends when taken (R368). -/
def State.ringNop (s : State) (r : Nat) : State := s.withEntry r 0 fun p e => s.takeAndEnd p r e 0

/-- A FENCE is taken, and ends, once every earlier entry of its ring has ended (R367). -/
def State.ringFence (s : State) (r : Nat) : State :=
  s.withEntry r 4 fun p e => if (s.ring r).completions = (s.ring r).head then s.takeAndEnd p r e 0 else s

/-- An entry of another kind is malformed; one that cannot be read ends with its cause (R366, R368). -/
def State.ringMalformed (s : State) (r : Nat) : State :=
  match s.nextEntry r with
  | none => s
  | some (p, (none, cause)) => s.takeAndEnd p r 0 cause
  | some (p, (some e, _)) => if 4 < entryKind e then s.takeAndEnd p r e 1 else s

/-! COPY (R366). -/

/-- The bytes that a COPY moves and, in mode 1, the descriptor and the offset of the newest frame; none for a malformed entry. -/
def State.copyShape (s : State) (j : RingJob) : Option (Nat × Option (Nat × Nat)) :=
  if 1 < j.srcPlace || 1 < j.dstPlace then none
  else if j.mode = 0 then (if j.c = 0 || 2 ^ 32 < j.c then none else some (j.c, none))
  else if j.mode = 1 then
    match s.targetDesc j.partition (j.param % 256) with
    | none => none
    | some d =>
      let w := (descSize d).1
      let h := (descSize d).2
      let b := colourBytes (bits d 472 4)
      let frame := to256 (w * h * b + divCeil w 8 * divCeil h 8)
      let g := Assoc.get s.raster.targets (j.partition * 256 + j.param % 256) {}
      some (w * h * b, some (d, bits d 384 64 + g.newest * frame))
  else none

/-- Where a COPY reads, if in the partition's memory. -/
def RingJob.copySource (j : RingJob) (shape : Nat × Option (Nat × Nat)) : Option Nat :=
  match shape.2 with
  | some (_, o) => some o
  | none => if j.srcPlace = 0 then some j.a else none

/-- The cause with which a COPY ends at once: 1 malformed, 2 outside the range; 0 for none. -/
def State.copyCause (s : State) (j : RingJob) : Nat :=
  match s.copyShape j with
  | none => 1
  | some shape =>
    let outside := match j.copySource shape with
      | some o => !s.inRange j.partition o shape.1
      | none => false
    if outside || (j.dstPlace = 0 && !s.inRange j.partition j.b shape.1) then 2 else 0

/-- A COPY entry (R366, R368): taken, and ended where it is malformed or leaves the range. -/
def State.ringCopy (s : State) (r : Nat) : State :=
  s.withEntry r 3 fun p e =>
    let cause := s.copyCause (ringJobOf p r (s.ring r).head e)
    if cause = 0 then s.takeJob p r e id else s.takeAndEnd p r e cause

/-- The last byte of a COPY: its data moved, its completion written; unreadable data abandons it (R366, R368). -/
def State.copyDone (s : State) (id : Nat) (host : Bytes) : State :=
  match s.ringJob? id with
  | none => s
  | some j =>
    if j.kind ≠ 3 then s
    else
      match s.copyShape j with
      | none => s.endJob id 1
      | some shape =>
        let p := j.partition
        let (fails, data) := match j.copySource shape with
          | some o => (s.readFails p o shape.1, s.readMem p o shape.1)
          | none => (false, fit shape.1 host)
        if fails then s.endJob id 6
        else
          let t := if j.dstPlace = 0 then s.writeMem p j.b data
            else s.emit (.hostWrite (s.ring j.ring).function j.b data)
          t.endJob id 0

/-- A COPY whose host transfer fails (R457). -/
def State.copyFails (s : State) (id : Nat) : State :=
  match s.ringJob? id with
  | none => s
  | some j => if j.kind = 3 && (j.srcPlace = 1 || j.dstPlace = 1) then (s.endJob id 9).bump Entry.pcieHostTransferFailures else s

/-! COMPUTE (R210, R366, R367). -/

/-- Whether `n` bytes from an offset on meet a surface that an open pass of the partition draws: frame buffer, motion plane, sample store,
depth surface (R198, R210). -/
def Pass.draws (q : Pass) (o n : Nat) : Bool :=
  let d := q.desc
  let w := (descSize d).1
  let h := (descSize d).2
  let b := colourBytes (bits d 472 4)
  let m := divCeil w 8 * divCeil h 8
  let samples := 2 ^ bits d 478 2
  let frame := to256 (w * h * b + m)
  let plane := to256 (w * h * 4)
  let within := fun (base size : Nat) => base < o + n && o < base + size
  within (bits d 384 64 + q.buffer * frame) frame ||
    (d.testBit 476 && within (bits d 192 64 + q.buffer * plane) plane) ||
    (samples ≠ 1 && within (bits d 256 64) (samples * (w * h * b + m))) ||
    (d.testBit 477 && within (bits d 320 64) (samples * (w * h * 4 + m)))

/-- Whether the output range that the image declares for a COMPUTE job meets an open pass (R210, log entry 49). -/
def State.outputHeld (s : State) (p slot param b : Nat) : Bool :=
  let n := Config.outputBytes (((s.slotRt slot).active.map TableImage.digest).getD []) param
  s.raster.passes.any fun q => q.partition = p && q.draws b n

/-- The COMPUTE jobs of a slot that wait for a lap. -/
def State.slotQueue (s : State) (k : Nat) : List RingJob :=
  s.jobs.filter fun j => j.kind = 1 && j.slot = k && !j.inLap

/-- Whether a slot takes COMPUTE jobs of a partition: ACTIVE, the partition's, trigger QUEUE (1) or ASYNC (2) (R366, R287). -/
def State.slotUsable (s : State) (p k : Nat) : Bool :=
  k < 120 && s.n (Entry.slotPartition k) = p &&
    (match (s.slotRt k).active with | none => false | some t => t.trigger = 1 || t.trigger = 2)

/-- A COMPUTE entry (R366): a job number and a place in its slot's queue; cause 3 where the slot is not usable; blocked while the
queue holds 1,024 jobs (R367); held by an open pass (R210). -/
def State.ringCompute (s : State) (r : Nat) : State :=
  s.withEntry r 1 fun p e =>
    let k := bits e 496 8
    if !s.slotUsable p k then s.takeAndEnd p r e 3
    else if 1024 ≤ (s.slotQueue k).length then s
    else
      let rt := s.partRt p
      let held := s.outputHeld p k (bits e 448 32) (bits e 256 64)
      let t := s.takeJob p r e fun j => { j with number := rt.nextJob, held := held }
      let t := t.setPartRt p { t.partRt p with nextJob := (rt.nextJob + 1) % 2 ^ 24 }
      if held then t.bump (Entry.partRasterHeldComputeJobs p) else t

/-- Held jobs released once no open pass draws into their output (R210). -/
def State.releaseHeld (s : State) : State :=
  { s with jobs := s.jobs.map fun j =>
    if j.held && !s.outputHeld j.partition j.slot j.param j.b then { j with held := false } else j }

/-- COMPUTE jobs that have not begun held where their output meets an open pass, each hold counted once (R210). -/
def State.holdOutputs (s : State) : State :=
  s.each (s.jobs.filter fun j => j.kind = 1 && !j.inLap && !j.held && s.outputHeld j.partition j.slot j.param j.b) fun t j =>
    ({ t with jobs := t.jobs.map fun (x : RingJob) => if x.id = j.id then { x with held := true } else x }).bump
      (Entry.partRasterHeldComputeJobs j.partition)

/-- The ring jobs of a partition ended with a cause (R362, R280). -/
def State.endJobs (s : State) (f : RingJob → Bool) (cause : Nat) : State :=
  s.each (s.jobs.filter f) fun t j => t.endJob j.id cause

end Sys2Proof.Machine
end

