-- ==== Sys2Proof/Machine/Raster.lean ====
section
/-! DEFINITION. The raster pipeline up to the bins: render targets, passes, batches, set-up and binning
(spec/08_raster_pipeline.md, R197 to R205, R207, R214, R215). -/

namespace Sys2Proof.Machine

open Sys2Proof

/-- The open passes replaced. -/
def State.setPasses (s : State) (l : List Pass) : State := { s with raster := { s.raster with passes := l } }

/-- A pass by its number. -/
def State.pass? (s : State) (id : Nat) : Option Pass := s.raster.passes.find? fun q => q.id = id

/-- A pass replaced. -/
def State.setPass (s : State) (q : Pass) : State := s.setPasses (s.raster.passes.map fun x => if x.id = q.id then q else x)

/-- Status of a target (R198): Newest, Drawing, InUse, Stale, Valid. -/
def TargetRt.status (g : TargetRt) (drawing : Option Nat) : Nat :=
  packFields [(25, 0), (1, ofBool g.shown.isSome), (1, ofBool g.stale), (1, ofBool drawing.isSome),
    (2, drawing.getD 0), (2, g.newest)]

/-- FrameCount and Status written into the descriptor (R197, R198). -/
def State.showTarget (s : State) (p target : Nat) (drawing : Option Nat) : State :=
  let g := s.target p target
  s.writeMem p (s.targetAt p target + 16)
    (leBytes 8 (packFields [(32, g.status drawing), (32, g.passes)]))

/-- The rendered layers of ports that show a target start a new history with the job of a FrameCount (R186). -/
def State.restartHistory (s : State) (p target count : Nat) : State :=
  s.each (List.range s.portCount) fun t n =>
    if t.n (Entry.portPartition n) = p then
      let r := t.portRt n
      let l := ((t.layers n).filter fun l => l.kind = 2 && l.source = target).map fun l => (l.index, some count)
      t.setPortRt n { r with renderReset := (r.renderReset ++ l).eraseDups }
    else t

/-! Opening a pass (R199, R202, R203). -/

/-- Whether a reader holds the complete frame of a FrameCount: an up-scaling job, or a composition that shows it. -/
def State.renderHeld (s : State) (p target count : Nat) : Bool :=
  (s.gen.jobs.any fun j => j.partition = p && j.render && !j.done && !j.dropped && j.pic == .render target count) ||
    (List.range s.portCount).any fun n =>
      s.n (Entry.portPartition n) = p && (s.portRt n).composing.isSome &&
        (s.layers n).any fun l => l.kind = 2 && l.source = target && Assoc.find (s.portRt n).shownRender l.index = some count

/-- The buffer that a pass would draw into: unused ones first, then the one with the oldest frame, neither Newest nor held (R203). -/
def State.freeTargetBuffer (s : State) (p target d : Nat) : Option Nat :=
  let g := s.target p target
  let used := g.buffers.map Prod.fst
  let fresh := (List.range (descBuffers d)).filter fun b => !used.contains b
  (fresh ++ used).find? fun b =>
    b < descBuffers d && !(g.shown.isSome && g.newest = b) &&
      !(match g.buffers.find? fun e => e.1 = b with | none => false | some e => s.renderHeld p target e.2)

/-- The pool's offset and length, bits 15:0 ignored (R228). -/
def State.poolBase (s : State) (p : Nat) : Nat := s.n (Entry.partRasterPoolBase p) / 65536 * 65536
def State.poolSize (s : State) (p : Nat) : Nat := s.n (Entry.partRasterPoolSize p) / 65536 * 65536

/-- The header that a RASTER entry names and its kind: 1 pass, 2 batch, 3 query batch, 0 unknown; from the place of Kind in each
(R199, R200, R220). -/
def State.rasterHeader (s : State) (p a : Nat) : Nat × Nat :=
  let kind := fun (n : Nat) => if s.inRange p a n then field (s.readMem p (a + n - 1) 1) 0 1 else 0
  if kind 16 = 1 then (1, leNat (s.readMem p a 16))
  else if kind 40 = 2 then (2, leNat (s.readMem p a 40))
  else if kind 48 = 3 then (3, leNat (s.readMem p a 48))
  else (0, 0)

/-- Bytes of a header of a kind. -/
def headerBytes (kind : Nat) : Nat := match kind with | 2 => 40 | 3 => 48 | _ => 16

/-- The cause with which a header of a RASTER entry ends at once: 2 outside the range, 6 uncorrectable; 0 for none. -/
def State.headerCause (s : State) (p a kind : Nat) : Nat :=
  let n := headerBytes kind
  if !s.inRange p a n then 2 else if s.readFails p a n then 6 else 0

/-- A header refused (R202). -/
def State.refuseHeader (s : State) (p r e : Nat) : State :=
  (s.takeAndEnd p r e 4).bump (Entry.partRasterBadCommands p)

/-- Whether R202 refuses a pass header. -/
def State.passRefused (s : State) (p h : Nat) : Bool :=
  match s.targetDesc p (bits h 112 8) with
  | none => true
  | some d =>
    bits h 96 16 = 0 || 1 < bits h 94 2 || !descLegal d ||
      (descSurfaces d).any (fun e => !s.inRange p e.1 e.2) || !s.inRange p (s.poolBase p) (s.poolSize p)

/-- The tile grid of a target (R207). -/
def tileCols (d : Nat) : Nat := divCeil (descSize d).1 32
def tileCount (d : Nat) : Nat := tileCols d * divCeil (descSize d).2 32

/-- The unfenced tile units, rising. -/
def State.tileUnits (s : State) : List Nat := (List.range 16).filter fun u => !s.fenced ⟨.tile, u⟩

/-- A pass opened on a buffer (R198, R203); compute jobs that would write its surfaces are held (R210). -/
def State.openPass (s : State) (p r e h d buffer : Nat) : State :=
  let target := bits h 112 8
  let g := s.target p target
  let count := (g.passes + 1) % 2 ^ 32
  let q : Pass :=
    { id := s.raster.nextPass, partition := p, target := target, job := ringJobId r (s.ring r).head, header := h, desc := d
      buffer := buffer, frameCount := count, poolSize := s.poolSize p, limit := s.n (Entry.partRasterReserveLimit p)
      units := s.tileUnits }
  let t := s.takeJob p r e id
  let t := t.setTarget p target { g with
    passes := count, buffers := g.buffers.filter (fun b => b.1 ≠ buffer), size := bits d 480 32 }
  let t := { t with raster := { t.raster with passes := t.raster.passes ++ [q], nextPass := q.id + 1 } }
  let t := if g.size ≠ 0 && g.size ≠ bits d 480 32 then t.restartHistory p target count else t
  (t.showTarget p target (some buffer)).holdOutputs

/-- The pass open on a target. -/
def State.passOn (s : State) (p target : Nat) : Option Pass :=
  s.raster.passes.find? fun q => q.partition = p && q.target = target

/-- A RASTER entry whose header is a pass header, or of no known kind (R202, R203): refused, waiting for its target, or opened
(DEDUCED, log entry 63). -/
def State.passOpens (s : State) (r : Nat) : State :=
  s.withEntry r 2 fun p e =>
    let a := bits e 320 64
    let (kind, h) := s.rasterHeader p a
    if kind = 2 || kind = 3 then s
    else
      match s.headerCause p a kind with
      | 0 =>
        if kind = 0 || s.passRefused p h then s.refuseHeader p r e
        else
          match s.targetDesc p (bits h 112 8), s.passOn p (bits h 112 8) with
          | some d, none =>
            match s.freeTargetBuffer p (bits h 112 8) d with
            | none => s
            | some b => s.openPass p r e h d b
          | _, _ => s
      | c => s.takeAndEnd p r e c

/-! The end of a pass (R198, R203, R216, R226). -/

/-- Bytes of the overflow reserve in use (R216). -/
def State.reserveUsed (s : State) : Nat :=
  s.raster.passes.foldl (fun a q => a + q.reserve.foldl (fun b x => b + x.bytes) 0) 0

/-- The bytes of it that a partition holds (DESIGN CHOICE, log entry 64). -/
def State.reserveOf (s : State) (p : Nat) : Nat :=
  (s.raster.passes.filter fun q => q.partition = p).foldl (fun a q => a + q.reserve.foldl (fun b x => b + x.bytes) 0) 0

/-- ReserveFree and ReserveHighWater (R227). -/
def State.showReserve (s : State) : State :=
  let u := s.reserveUsed
  let t := s.setN Entry.rasterReserveFree (2 ^ 24 - u)
  if s.n Entry.rasterReserveHighWater < u then t.setN Entry.rasterReserveHighWater u else t

/-- Tile units back to idle. -/
def State.idleTiles (s : State) (units : List Nat) : State :=
  s.each units fun t u => if t.n (Entry.tileState u) = 1 then t.setN (Entry.tileState u) 0 else t

/-- A pass abandoned with a cause (R203): the drawn buffer free, Stale, Newest kept; its header and batches that were taken end with
cause 5; held compute jobs go on (R210). -/
def State.abandonPass (s : State) (q : Pass) (cause : Nat) : State :=
  let g := s.target q.partition q.target
  let t := s.setPasses (s.raster.passes.filter fun x => x.id ≠ q.id)
  let t := t.setTarget q.partition q.target { g with stale := true }
  let t := t.idleTiles (q.running.map TileRun.unit)
  let t := t.showReserve
  let t := (t.bump Entry.rasterPassesAbandoned).bump (Entry.partRasterPassesAbandoned q.partition)
  let t := t.setN (Entry.partRasterAbandonCause q.partition) cause
  let t := t.showTarget q.partition q.target none
  let t := t.restartHistory q.partition q.target ((q.frameCount + 1) % 2 ^ 32)
  let t := t.endJob q.job 5
  (t.each q.batches fun t b => t.endJob b.2.1 5).releaseHeld

/-! Set-up (R204, R205). -/

/-- The constants of set-up as FP32 codes: 0, 1, 2, 16, ±32,768. -/
def f32Zero : Nat := 0
def f32Two : Nat := 0x40000000

/-- A vertex as it is fetched: clip position, previous clip position, attributes, as FP32 codes (R204). -/
structure ClipVert where
  x : Nat
  y : Nat
  z : Nat
  w : Nat
  prev  : List Nat
  attrs : List Nat

/-- Fields of a batch header (R200). -/
def batchPrims (h : Nat) : Nat := bits h 272 16 + 1
def batchIndex (h : Nat) : Nat := bits h 288 16
def batchAttrs (h : Nat) : Nat := bits h 260 4
def batchBlend (h : Nat) : Nat := bits h 256 4
def batchDepthTest (h : Nat) : Bool := h.testBit 255
def batchDepthWrite (h : Nat) : Bool := h.testBit 254
def batchCull (h : Nat) : Nat := bits h 252 2
def batchTextures (h : Nat) : Nat := bits h 250 2

/-- Bytes of a vertex (R204). -/
def vertexBytes (d h : Nat) : Nat := 16 + (if descUpscale d then 12 else 0) + 4 * batchAttrs h

/-- The vertex numbers of a triangle of a batch: from the index buffer, or in order (R200). -/
def State.vertexIndices (s : State) (p h prim : Nat) : List Nat :=
  let base := bits h 0 64
  if base = 0 then [3 * prim, 3 * prim + 1, 3 * prim + 2]
  else (List.range 3).map fun i => leNat (s.readMem p (base + 12 * prim + 4 * i) 4)

/-- A vertex of a batch. -/
def State.fetchVertex (s : State) (p d h i : Nat) : ClipVert :=
  let b := s.readMem p (bits h 64 64 + vertexBytes d h * i) (vertexBytes d h)
  let f := fun k => field b (4 * k) 4
  let up := descUpscale d
  let o := if up then 7 else 4
  { x := f 0, y := f 1, z := f 2, w := f 3, prev := if up then [f 4, f 5, f 6] else []
    attrs := (List.range (batchAttrs h)).map fun k => f (o + k) }

/-- The reads of a batch's triangle: index and vertex ranges as (offset, bytes). -/
def State.triangleReads (s : State) (p d h prim : Nat) : List (Nat × Nat) :=
  let base := bits h 0 64
  let v := vertexBytes d h
  (if base = 0 then [] else [(base + 12 * prim, 12)]) ++
    (s.vertexIndices p h prim).map fun i => (bits h 64 64 + v * i, v)

/-- A value on the way from `a` to `b`: a + f · (b − a) in binary32. -/
def f32Lerp (f a b : Nat) : Nat := f32Add a (f32Mul f (f32Sub b a))

/-- A vertex on an edge. -/
def ClipVert.lerp (f : Nat) (a b : ClipVert) : ClipVert :=
  { x := f32Lerp f a.x b.x, y := f32Lerp f a.y b.y, z := f32Lerp f a.z b.z, w := f32Lerp f a.w b.w
    prev := (a.prev.zip b.prev).map fun e => f32Lerp f e.1 e.2
    attrs := (a.attrs.zip b.attrs).map fun e => f32Lerp f e.1 e.2 }

/-- A polygon cut by one plane: kept where `f` is at least 0, cut edges at their crossing. -/
def clipPlane (f : ClipVert → Nat) (l : List ClipVert) : List ClipVert :=
  let inside := fun v => f32Le f32Zero (f v)
  let cut := fun a b => ClipVert.lerp (f32Div (f a) (f32Sub (f a) (f b))) a b
  (l.zip (l.drop 1 ++ l.take 1)).flatMap fun e =>
    match inside e.1, inside e.2 with
    | true, true => [e.2]
    | true, false => [cut e.1 e.2]
    | false, true => [cut e.1 e.2, e.2]
    | false, false => []

/-- x/W or y/W on the screen: (q + 1) · size / 2, or (1 − q) · size / 2 (R205). -/
def screenX (x w width : Nat) : Nat := f32Div (f32Mul (f32Add (f32Div x w) f32One) (f32OfInt width)) f32Two
def screenY (y w height : Nat) : Nat := f32Div (f32Mul (f32Sub f32One (f32Div y w)) (f32OfInt height)) f32Two

/-- The guard band as bounds on X/W or Y/W: screen positions from −32,768 to 32,768 (R205). -/
def guardHigh (size : Nat) : Nat := f32Sub (f32Ratio 65536 size) f32One
def guardLow (size : Nat) : Nat := f32Sub (f32Neg (f32Ratio 65536 size)) f32One

/-- A triangle clipped against 0 ≤ Z ≤ W and the guard band, in this order (R205; the order and the crossing's arithmetic are a
DESIGN CHOICE, log entry 25). -/
def clipTriangle (width height : Nat) (l : List ClipVert) : List ClipVert :=
  let l := clipPlane (fun v => v.z) l
  let l := clipPlane (fun v => f32Sub v.w v.z) l
  let l := clipPlane (fun v => f32Sub v.x (f32Mul (guardLow width) v.w)) l
  let l := clipPlane (fun v => f32Sub (f32Mul (guardHigh width) v.w) v.x) l
  let l := clipPlane (fun v => f32Sub (f32Mul (guardHigh height) v.w) v.y) l
  clipPlane (fun v => f32Sub v.y (f32Mul (guardLow height) v.w)) l

/-- A vertex on the screen, snapped to 1/256 pixel, with depth Z/W (R205). -/
def ClipVert.toScreen (v : ClipVert) (width height : Nat) : Vert :=
  { x := ((f32 (screenX v.x v.w width)).scale 8).toInt, y := ((f32 (screenY v.y v.w height)).scale 8).toInt
    z := f32Div v.z v.w, w := v.w, prev := v.prev, attrs := v.attrs }

/-- Twice the signed area of three points, positive where they run clockwise on a screen whose y runs down. -/
def area2 (ax ay bx by' cx cy : Int) : Int := (bx - ax) * (cy - ay) - (by' - ay) * (cx - ax)

/-- Twice the signed area of a triangle. -/
def Tri.area (t : Tri) : Int :=
  match t.verts with
  | [a, b, c] => area2 a.x a.y b.x b.y c.x c.y
  | _ => 0

/-- Whether a triangle is culled: area 0, or the face that Cull names (R200, R205). -/
def Tri.culled (t : Tri) (cull : Nat) : Bool :=
  t.area = 0 || (cull = 1 && 0 < t.area) || (cull = 2 && t.area < 0)

/-- The fan of a clipped polygon. -/
def fan (seq : Nat) (l : List Vert) : List Tri :=
  match l with
  | a :: r => (r.zip (r.drop 1)).map fun e => { seq := seq, verts := [a, e.1, e.2] }
  | [] => []

/-- The triangles that a primitive of a batch gives after clipping and culling (R205); each takes its own set-up data. -/
def State.setUp (s : State) (q : Pass) (h prim : Nat) : List Tri :=
  let (w, hh) := descSize q.desc
  let verts := (s.vertexIndices q.partition h prim).map (s.fetchVertex q.partition q.desc h)
  let poly := (clipTriangle w hh verts).map fun v => v.toScreen w hh
  (fan (batchIndex h * 65536 + prim) poly).filter fun t => !t.culled (batchCull h)

/-- The tiles that a triangle reaches: those of the target's grid that its area meets, edges included (R215). -/
def Tri.tiles (t : Tri) (d : Nat) : List Nat :=
  match t.verts with
  | [a, b, c] =>
    let sgn : Int := if t.area < 0 then -1 else 1
    let lo := fun (u v w : Int) => min u (min v w)
    let hi := fun (u v w : Int) => max u (max v w)
    (List.range (tileCount d)).filter fun k =>
      let x0 : Int := (k % tileCols d * 8192 : Nat)
      let y0 : Int := (k / tileCols d * 8192 : Nat)
      let reach := fun (p r : Vert) =>
        ([(x0, y0), (x0 + 8192, y0), (x0, y0 + 8192), (x0 + 8192, y0 + 8192)] : List (Int × Int)).any fun e =>
          0 ≤ sgn * area2 p.x p.y r.x r.y e.1 e.2
      lo a.x b.x c.x ≤ x0 + 8192 && x0 ≤ hi a.x b.x c.x && lo a.y b.y c.y ≤ y0 + 8192 && y0 ≤ hi a.y b.y c.y &&
        reach a b && reach b c && reach c a
  | _ => []

/-! The pool (R215). -/

/-- Bytes of the tile lists: 256 for each 31 entries of a tile. -/
def listBytes (entries : List (Nat × Nat)) : Nat :=
  ((entries.map Prod.fst).eraseDups).foldl (fun a k => a + 256 * divCeil (entries.filter fun e => e.1 = k).length 31) 0

/-- Bytes of the pool that a pass holds. -/
def Pass.poolUsed (q : Pass) : Nat := q.setup + listBytes q.entries

/-- Bytes of the pool that the earlier passes of a pass's partition hold. -/
def State.poolBefore (s : State) (q : Pass) : Nat :=
  (s.raster.passes.filter fun x => x.partition = q.partition && x.id < q.id).foldl (fun a x => a + x.poolUsed) 0

/-- A pass with one more triangle in its bins. -/
def Pass.bin (q : Pass) (attrs : Nat) (t : Tri) : Pass :=
  { q with
    tris := q.tris ++ [(q.nextTri, t)], nextTri := q.nextTri + 1, setup := q.setup + 48 + 12 * attrs
    entries := q.entries ++ (t.tiles q.desc).map fun k => (k, q.nextTri) }

/-- A pass that has binned all its batches renders every tile (R203). -/
def Pass.finish (q : Pass) : Pass :=
  if q.nextBatch = bits q.header 96 16 && !q.partial_ && !q.final then
    { q with final := true, due := (List.range (tileCount q.desc)) }
  else q

/-- What binning does with the next triangles of the batch in hand. -/
inductive Binned where
  | done (q : Pass)
  | full (q : Pass)
  | bad  (q : Pass)

/-- Triangles of a batch binned from the next one until the batch ends or the pool has no room; stopped by unreadable data (R215,
R226). -/
def State.binFrom (s : State) (h before : Nat) (fuel : Nat) (q : Pass) : Binned :=
  match fuel with
  | 0 => .done q
  | n + 1 =>
    if batchPrims h ≤ q.nextPrim then .done q
    else if (s.triangleReads q.partition q.desc h q.nextPrim).any fun e => s.readFails q.partition e.1 e.2 then .bad q
    else
      let more := (s.setUp q h q.nextPrim).foldl (fun (x : Pass) t => x.bin (batchAttrs h) t) q
      if q.poolSize < before + more.poolUsed then .full q
      else s.binFrom h before n { more with nextPrim := q.nextPrim + 1 }

/-- The batch in hand binned on: it ends, or the pool is full and a partial render starts or binning waits for an earlier pass
(R215). -/
def State.binMore (s : State) (q : Pass) : State :=
  match q.batches.find? fun b => b.1 = q.nextBatch with
  | none => s.setPass q.finish
  | some (_, _, h) =>
    match s.binFrom h (s.poolBefore q) (batchPrims h + 1) { q with waiting := false } with
    | .done x => s.setPass ({ x with nextBatch := x.nextBatch + 1, nextPrim := 0 }).finish
    | .bad x => (s.setPass x).abandonPass x 3
    | .full x =>
      if 0 < s.poolBefore q then s.setPass { x with waiting := true }
      else
        let t := s.setPass { x with partial_ := true, due := (x.entries.map Prod.fst).eraseDups }
        (t.bump Entry.rasterOverflows).bump (Entry.partRasterPartialRenders q.partition)

/-- Binning resumed in the passes of a partition that wait for the pool (R215). -/
def State.resumeBins (s : State) (p : Nat) : State :=
  s.each (s.raster.passes.filter fun q => q.partition = p && q.waiting) fun t q =>
    match t.pass? q.id with
    | some x => t.binMore x
    | none => t

/-- The batch in hand binned on; where its pass was abandoned, its chunks are free for the passes that wait for them (R215, R226). -/
def State.binOn (s : State) (q : Pass) : State :=
  let t := s.binMore q
  if (t.pass? q.id).isSome then t else t.resumeBins q.partition

/-! Batches (R200 to R202). -/

/-- Whether a batch names a shading table that it may: an ACTIVE slot of the partition with trigger ASYNC (R279). -/
def State.shadeUsable (s : State) (p h : Nat) : Bool :=
  let k := bits h 264 8
  k < 128 && s.n (Entry.slotPartition k) = p && ((s.slotRt k).active.map TableImage.trigger) == some 2

/-- Whether R202 and R279 refuse a batch header on its open pass. -/
def State.batchRefused (s : State) (q : Pass) (h : Nat) : Bool :=
  !s.shadeUsable q.partition h || 5 < batchBlend h || batchCull h = 3 || bits q.header 96 16 ≤ batchIndex h || batchIndex h < q.nextBatch ||
    q.batches.any fun b => b.1 = batchIndex h

/-- The offset and bytes of each texture of a batch (R217, R218): pages of 4 KiB over the grid. -/
def State.textureDescs (s : State) (p h : Nat) : List Nat :=
  (List.range (batchTextures h)).map fun i => leNat (s.readMem p (bits h 128 64 + 16 * i) 16)

/-- Bytes of a texture. -/
def textureBytes (d : Nat) : Nat := divCeil (bits d 48 16) 32 * divCeil (bits d 32 16) 32 * 4096

/-- Whether a texture descriptor holds what R217 allows. -/
def textureLegal (d : Nat) : Bool :=
  bits d 28 4 < 2 && bits d 25 2 ≠ 3 && 1 ≤ bits d 48 16 && bits d 48 16 ≤ 4096 && 1 ≤ bits d 32 16 && bits d 32 16 ≤ 4096

/-- Whether a batch reads outside its partition's range: vertices, indices, texture descriptors and textures. -/
def State.batchOutside (s : State) (q : Pass) (h : Nat) : Bool :=
  let p := q.partition
  (batchTextures h ≠ 0 && !s.inRange p (bits h 128 64) (16 * batchTextures h)) ||
    (s.textureDescs p h).any (fun d => !s.inRange p (bits d 64 64 / 4096 * 4096) (textureBytes d)) ||
    (bits h 0 64 ≠ 0 && !s.inRange p (bits h 0 64) (12 * batchPrims h)) ||
    (List.range (batchPrims h)).any fun i => (s.triangleReads p q.desc h i).any fun e => !s.inRange p e.1 e.2

/-- Whether a pass bins: no earlier pass of its partition still has batches to bin, and the geometry front end works (R201, R410). -/
def State.binsNow (s : State) (q : Pass) : Bool :=
  !s.fenced ⟨.geometry, 0⟩ && !s.raster.passes.any fun x => x.partition = q.partition && x.id < q.id && x.nextBatch ≠ bits x.header 96 16

/-- A RASTER entry whose header is a batch header (R201, R202, R215): refused, waiting for its predecessors, or taken and binned. -/
def State.batchBins (s : State) (r : Nat) : State :=
  s.withEntry r 2 fun p e =>
    let a := bits e 320 64
    let (kind, h) := s.rasterHeader p a
    if kind ≠ 2 then s
    else
      match s.headerCause p a 2 with
      | 0 =>
        match s.targetDesc p (bits h 304 8), s.passOn p (bits h 304 8) with
        | some _, some q =>
          if s.batchRefused q h || (s.textureDescs p h).any (fun d => !textureLegal d) then s.refuseHeader p r e
          else if s.batchOutside q h then s.takeAndEnd p r e 2
          else if batchIndex h ≠ q.nextBatch || q.partial_ || q.waiting || !s.binsNow q then s
          else
            let id_ := ringJobId r (s.ring r).head
            let t := s.takeJob p r e id
            let read := (s.textureDescs p h).map fun d =>
              (d, s.readMem p (bits d 64 64 / 4096 * 4096) (textureBytes d))
            let q' := { q with
              batches := q.batches ++ [(batchIndex h, id_, h)], nextPrim := 0
              textures := q.textures ++ read.filter fun e => !q.textures.any fun x => x.1 = e.1 }
            t.binOn q'
        | _, _ => s.refuseHeader p r e
      | c => s.takeAndEnd p r e c

/-- The end of a partial render (R215 step 4): chunks and set-up data freed, binning resumes. -/
def State.partialDone (s : State) (p : Nat) : State :=
  match s.raster.passes.find? fun q => q.partition = p && q.partial_ && q.due.isEmpty && q.running.isEmpty with
  | none => s
  | some q => s.binOn { q with partial_ := false, tris := [], entries := [], setup := 0 }

end Sys2Proof.Machine
end

