-- ==== Sys2Proof/Machine/Tiles.lean ====
section
/-! DEFINITION. Tile units: ownership, shading, depth, blending, the overflow reserve, resolve and motion, the end of a pass
(R205 to R219). -/

namespace Sys2Proof.Machine

open Sys2Proof

/-! Ownership (R207). -/

/-- The unit that owns a tile of a pass. -/
def Pass.tileOwner (q : Pass) (tile : Nat) : Option Nat :=
  let d := q.desc
  if q.units.isEmpty then none else q.units[(tile % tileCols d + 5 * (tile / tileCols d)) % q.units.length]?

/-- The pixels of a tile in raster order. -/
def tilePixels (d tile : Nat) : List (Nat × Nat) :=
  let x0 := tile % tileCols d * 32
  let y0 := tile / tileCols d * 32
  (List.range (min 32 ((descSize d).2 - y0))).flatMap fun j =>
    (List.range (min 32 ((descSize d).1 - x0))).map fun i => (x0 + i, y0 + j)

/-! Samples (R205, R214). -/

/-- The sample positions within a pixel in 1/256 pixel. -/
def samplePositions (samples : Nat) : List (Int × Int) :=
  match samples with
  | 1 => [(128, 128)]
  | 2 => [(192, 192), (64, 64)]
  | _ => [(96, 32), (224, 96), (32, 160), (160, 224)]

/-- The four low bits of a number reversed. -/
def bitrev4 (i : Nat) : Nat := maskOf ((bitsSet i 4).map fun b => 3 - b)

/-- The offset of a jitter phase in 1/256 pixel (R185). -/
def jitter (phase : Nat) : Int × Int :=
  ((2 * (bitrev4 phase : Int) - 15) * 8, (2 * (((7 * phase + 5) % 16 : Nat) : Int) - 15) * 8)

/-- The displacement of the samples of a pass (R214). -/
def Pass.offset (q : Pass) : Int × Int := if descUpscale q.desc then jitter (q.frameCount % 16) else (0, 0)

/-- Whether a point lies on the inner side of an edge of a clockwise triangle, or on it where it is a top or a left edge. -/
def edgeCovers (a b : Vert) (px py : Int) : Bool :=
  let e := area2 a.x a.y b.x b.y px py
  0 < e || (e = 0 && ((a.y = b.y && a.x < b.x) || b.y < a.y))

/-- The vertices of a triangle in clockwise order. -/
def Tri.clockwise (t : Tri) : List Vert :=
  match t.verts with
  | [a, b, c] => if 0 < t.area then [a, b, c] else [a, c, b]
  | l => l

/-- Whether a triangle covers a point (R205). -/
def Tri.covers (t : Tri) (px py : Int) : Bool :=
  match t.clockwise with
  | [a, b, c] => edgeCovers a b px py && edgeCovers b c px py && edgeCovers c a px py
  | _ => false

/-- The weights of a triangle's vertices at a point, as FP32 codes (R205; the order of the operations is a DESIGN CHOICE, log entry
25). -/
def Tri.weights (t : Tri) (px py : Int) : List (Nat × Vert) :=
  match t.verts with
  | [a, b, c] =>
    let n := t.area
    [(f32Ratio (area2 b.x b.y c.x c.y px py) n, a), (f32Ratio (area2 c.x c.y a.x a.y px py) n, b),
      (f32Ratio (area2 a.x a.y b.x b.y px py) n, c)]
  | _ => []

/-- A sum of FP32 codes in order. -/
def f32Sum (l : List Nat) : Nat :=
  match l with
  | [] => f32Zero
  | x :: r => r.foldl f32Add x

/-- Depth at a point: linear in screen space. -/
def Tri.depthAt (t : Tri) (px py : Int) : Nat := f32Sum ((t.weights px py).map fun e => f32Mul e.1 e.2.z)

/-- A value of the vertices at a point, with perspective correction. -/
def Tri.attrAt (t : Tri) (f : Vert → Nat) (px py : Int) : Nat :=
  let q := (t.weights px py).map fun e => (f32Div e.1 e.2.w, f e.2)
  f32Div (f32Sum (q.map fun e => f32Mul e.1 e.2)) (f32Sum (q.map Prod.fst))

/-- A depth comparison (R199). -/
def depthPasses (func new old : Nat) : Bool :=
  match func with
  | 0 => false
  | 1 => f32Lt new old
  | 2 => f32Le new old && f32Le old new
  | 3 => f32Le new old
  | 4 => f32Lt old new
  | 5 => f32Lt new old || f32Lt old new
  | 6 => f32Le old new
  | _ => true

/-! Textures (R217 to R219). -/

/-- The byte offset of a texel in its texture (R218). -/
def texelOffset (width x y : Nat) : Nat :=
  let z := maskOf (((bitsSet (x % 32) 5).map fun i => 2 * i) ++ (bitsSet (y % 32) 5).map fun i => 2 * i + 1)
  (y / 32 * divCeil width 32 + x / 32) * 4096 + 4 * z

/-- A texel number wrapped: repeat, clamp to edge, mirror. -/
def wrapTexel (wrap size : Nat) (i : Int) : Nat :=
  let n : Int := size
  match wrap with
  | 0 => (i % n).toNat
  | 1 => (clampInt 0 (n - 1) i).toNat
  | _ => let k := i % (2 * n); (if k < n then k else 2 * n - 1 - k).toNat

/-- A texel of a texture of a partition. -/
def State.texel (s : State) (p d : Nat) (x y : Int) : List Nat :=
  let o := texelOffset (bits d 48 16) (wrapTexel (bits d 25 2) (bits d 48 16) x) (wrapTexel (bits d 25 2) (bits d 32 16) y)
  unpackColour (bits d 28 4) (leNat (s.readMem p (bits d 64 64 / 4096 * 4096 + o) 4))

/-- A texture sampled at (u, v): the texel that holds the point, or four weighted by 1/256, texel centres at halves (R219; the
centres are PRESUMED, log entry 26).  The channels are FP32 codes of 0 to 1. -/
def State.sampleTexture (s : State) (p d u v : Nat) : List Nat :=
  let w := bits d 48 16
  let h := bits d 32 16
  let fu := f32Mul u (f32OfInt w)
  let fv := f32Mul v (f32OfInt h)
  let code := fun (l : List Nat) => (l.zip (channelMax (bits d 28 4))).map fun e => f32Ratio e.1 e.2
  if !d.testBit 27 then code (s.texel p d (f32 fu).floor (f32 fv).floor)
  else
    -- positions in 1/256 texel, from the centre of texel 0
    let qx := ((f32 fu).scale 8).toInt - 128
    let qy := ((f32 fv).scale 8).toInt - 128
    let x := qx / 256
    let y := qy / 256
    let fx := (qx % 256).toNat
    let fy := (qy % 256).toNat
    let c := fun (dx dy : Int) => s.texel p d (x + dx) (y + dy)
    code ((List.range 4).map fun k =>
      let at_ := fun (l : List Nat) => l.getD k 0
      rneShift ((256 - fx) * (256 - fy) * at_ (c 0 0) + fx * (256 - fy) * at_ (c 1 0) + (256 - fx) * fy * at_ (c 0 1) +
        fx * fy * at_ (c 1 1)) 16)

/-! What a tile sends to shading (R206). -/

/-- Whether a texture no longer holds what it held when its batch was taken (R219). -/
def State.textureChanged (s : State) (q : Pass) (d : Nat) : Bool :=
  match q.textures.find? fun e => e.1 = d with
  | none => false
  | some e => s.readMem q.partition (bits d 64 64 / 4096 * 4096) (textureBytes d) ≠ e.2

/-- The header of the batch that a sequence number belongs to. -/
def Pass.batchOf (q : Pass) (seq : Nat) : Nat :=
  ((q.batches.find? fun b => b.1 = seq / 65536).map fun b => b.2.2).getD 0

/-- The triangles of a tile in sequence order. -/
def Pass.tileTris (q : Pass) (tile : Nat) : List Tri :=
  (q.entries.filter fun e => e.1 = tile).filterMap fun e => Assoc.find q.tris e.2

/-- Whether a batch's triangles hide what lies behind them: replaced, tested and written depth (R206). -/
def batchOpaque (h : Nat) : Bool := batchBlend h = 0 && batchDepthTest h && batchDepthWrite h

/-- The depth of every sample of a tile, sample planes one after another, before its triangles: the reserve or the surface after a
partial render, else by DepthLoad (R212, R215). -/
def State.tileDepth (s : State) (q : Pass) (tile : Nat) : List Nat :=
  let d := q.desc
  let pixels := tilePixels d tile
  let clear := bits q.header 0 32
  let before := q.rendered.contains tile
  if descExternal d && (before || q.header.testBit 93) then
    (List.range (descSamples d)).flatMap fun k => pixels.map fun e =>
      leNat (s.readMem q.partition (bits d 320 64 + k * descDepthPlane d + (e.2 * (descSize d).1 + e.1) * 4) 4)
  else
    match (if before then q.reserve.find? fun r => r.tile = tile else none) with
    | some r => r.codes
    | none => List.replicate (descSamples d * pixels.length) clear

/-- One triangle over the samples of a tile in depth alone: the samples that it covers and that pass, and the depth after. -/
def Pass.depthStep (q : Pass) (pixels : List (Nat × Nat)) (depth : List Nat) (t : Tri) : List Bool × List Bool × List Nat :=
  let h := q.batchOf t.seq
  let (ox, oy) := q.offset
  let func := bits q.header 90 3
  let points := (samplePositions (descSamples q.desc)).flatMap fun sp => pixels.map fun e =>
    ((e.1 : Int) * 256 + sp.1 + ox, (e.2 : Int) * 256 + sp.2 + oy)
  let covered := points.map fun e => t.covers e.1 e.2
  let z := (points.zip covered).map fun e => if e.2 then t.depthAt e.1.1 e.1.2 else 0
  let passes := (covered.zip (z.zip depth)).map fun e =>
    e.1 && (!batchDepthTest h || depthPasses func e.2.1 e.2.2)
  let after := (passes.zip (z.zip depth)).map fun e => if e.1 && batchDepthWrite h then e.2.1 else e.2.2
  (covered, passes, after)

/-- What remains visible of the triangles at each sample: an opaque one replaces those before it where it passes (R206, R208). -/
def Pass.visible (q : Pass) (pixels : List (Nat × Nat)) (depth : List Nat) (tris : List Tri) : List (List Nat) :=
  (tris.foldl (fun (acc : List Nat × List (List Nat) × Nat) t =>
    let (_, passes, after) := q.depthStep pixels acc.1 t
    let h := q.batchOf t.seq
    let piles := (passes.zip acc.2.1).map fun e =>
      if e.1 then (if batchBlend h = 0 then [acc.2.2] else acc.2.2 :: e.2) else e.2
    (after, piles, acc.2.2 + 1)) (depth, depth.map fun _ => [], 0)).2.1

/-- The pixels that a tile sends to shading, in sequence order: of an opaque triangle those where it stays visible at some sample,
of any other all that it covers (R206); with attributes at the pixel centre and texels (R205, R219). -/
def State.shadePixels (s : State) (q : Pass) (tile : Nat) : List ShadePixel :=
  let pixels := tilePixels q.desc tile
  let n := pixels.length
  let tris := q.tileTris tile
  let depth := s.tileDepth q tile
  let seen := q.visible pixels depth tris
  ((tris.zip (List.range tris.length)).flatMap fun e =>
    let (t, k) := e
    let h := q.batchOf t.seq
    let covered := (q.depthStep pixels depth t).1
    let samples := List.range (descSamples q.desc)
    (pixels.zip (List.range n)).filterMap fun f =>
      let (xy, i) := f
      let shown := samples.any fun j =>
        if batchOpaque h then (seen.getD (j * n + i) []).contains k else covered.getD (j * n + i) false
      if shown then
        let px := (xy.1 : Int) * 256 + 128
        let py := (xy.2 : Int) * 256 + 128
        let attrs := (List.range (batchAttrs h)).map fun a => t.attrAt (fun v => v.attrs.getD a 0) px py
        let coord := fun a => if a < attrs.length then attrs.getD a 0 else (Config.missingAttr a).toNat
        let texels := (s.textureDescs q.partition h).map fun d =>
          let u := coord (bits d 21 4)
          let v := coord (bits d 21 4 + 1)
          if s.textureChanged q d then (List.range 4).map fun k => (Config.changedTexel d u v k).toNat
          else s.sampleTexture q.partition d u v
        some { seq := t.seq, x := xy.1, y := xy.2, attrs := attrs, texels := texels }
      else none)

/-- The shading batons of a tile: up to 64 pixels of one triangle each, in sequence order (R206). -/
def shadeBatons (fuel : Nat) (l : List ShadePixel) : List (List ShadePixel) :=
  match fuel, l with
  | 0, _ => []
  | _, [] => []
  | n + 1, x :: r =>
    let run := (x :: r).takeWhile fun y => y.seq = x.seq
    run.take 64 :: shadeBatons n ((x :: r).drop (min 64 run.length))

/-! Colours (R198, R208). -/

/-- Four FP32 codes converted to a target's format, to the nearest with ties to even, saturated (R208). -/
def encodeColour (format : Nat) (c : List Nat) : Nat :=
  if format = 2 then packFields ((c.take 4).map fun x => (16, fmtFP16.encode (f32 x)))
  else
    let widths := if format = 0 then [8, 8, 8, 8] else [10, 10, 10, 2]
    packFields ((widths.zip (c.zip (channelMax format))).map fun e =>
      (e.1, ((f32 (f32Mul e.2.1 (f32OfInt e.2.2))).toIntSat 0 e.2.2).toNat))

/-- A colour over another by a BlendMode (R200, R208) (PRESUMED, log entry 65). -/
def blend (mode : Nat) (src dst : List Nat) : List Nat :=
  let a := src.getD 3 0
  let rest := f32Sub f32One a
  let both := fun (f : Nat → Nat → Nat) => (src.zip dst).map fun e => f e.1 e.2
  match mode with
  | 1 =>
    (List.range 4).map fun k =>
      let x := if k = 3 then a else f32Mul (src.getD k 0) a
      f32Add x (f32Mul (dst.getD k 0) rest)
  | 2 => both fun x y => f32Add x (f32Mul y rest)
  | 3 => both f32Add
  | 4 => both fun x y => if f32Lt y x then y else x
  | 5 => both fun x y => if f32Lt x y then y else x
  | _ => src

/-- The offset of a pixel's colour at a sample: the frame buffer for 1 sample, else the sample store (R198, R215). -/
def Pass.colourAt (q : Pass) (buffer k : Nat) (e : Nat × Nat) : Nat :=
  let d := q.desc
  let i := (e.2 * (descSize d).1 + e.1) * descBytes d
  if descSamples d = 1 then bits d 384 64 + buffer * descFrame d + i else bits d 256 64 + k * descSamplePlane d + i

/-- The colours of a tile's samples before its triangles: what a partial render left, the newest complete frame, or ClearColour
(R199, R213, R215). -/
def State.tileColour (s : State) (q : Pass) (tile : Nat) : List Nat :=
  let d := q.desc
  let pixels := tilePixels d tile
  let format := bits d 472 4
  let before := q.rendered.contains tile
  let g := s.target q.partition q.target
  if before || bits q.header 94 2 = 1 then
    (List.range (descSamples d)).flatMap fun k => pixels.map fun e =>
      leNat (s.readMem q.partition (q.colourAt (if before then q.buffer else g.newest) k e) (descBytes d))
  else
    let c := bits q.header 32 32
    let clear := encodeColour format ((List.range 4).map fun k => f32Ratio (bits c (24 - 8 * k) 8) 255)
    List.replicate (descSamples d * pixels.length) clear

/-- A tile rendered: per sample colour and depth, and per pixel the motion word of the first sample (R208, R213). -/
structure TileState where
  colour : List Nat
  depth  : List Nat
  motion : List Nat

/-- The motion word of a triangle at a pixel (R184, R213): 16 times previous less current position. -/
def Tri.motionAt (t : Tri) (d : Nat) (e : Nat × Nat) : Nat :=
  let px := (e.1 : Int) * 256 + 128
  let py := (e.2 : Int) * 256 + 128
  let f := fun k => t.attrAt (fun v => v.prev.getD k 0) px py
  let half := fun (v : Nat) (prev : Nat) =>
    unsigned 16 ((f32 (f32Mul (f32OfInt 16) (f32Sub prev (f32Div (f32OfInt (2 * v + 1)) f32Two)))).toIntSat (-32767) 32767)
  half e.1 (screenX (f 0) (f 2) (descSize d).1) * 65536 + half e.2 (screenY (f 1) (f 2) (descSize d).2)

/-- One triangle applied to a tile with the colours that shading returned for its pixels (R208). -/
def Pass.apply (q : Pass) (pixels : List (Nat × Nat)) (shaded : List (ShadePixel × List Nat)) (m : TileState) (t : Tri) :
    TileState :=
  let h := q.batchOf t.seq
  let format := bits q.desc 472 4
  let n := pixels.length
  let (_, passes, depth) := q.depthStep pixels m.depth t
  let mine := shaded.filter fun e => e.1.seq = t.seq
  let colour := (List.range m.colour.length).map fun i =>
    let old := m.colour.getD i 0
    if passes.getD i false then
      let e := pixels.getD (i % n) (0, 0)
      match mine.find? fun x => x.1.x = e.1 && x.1.y = e.2 with
      | none => old
      | some x => encodeColour format (blend (batchBlend h) x.2 (decodeColour format old))
    else old
  let motion := if descUpscale q.desc && batchDepthWrite h then
      (List.range n).map fun i =>
        if passes.getD i false then t.motionAt q.desc (pixels.getD i (0, 0)) else m.motion.getD i 0
    else m.motion
  { colour := colour, depth := depth, motion := motion }

/-- The motion word of a pixel that no depth-writing triangle covered. -/
def noMotion : Nat := 0x80008000

/-- A tile before its triangles. -/
def State.tileBefore (s : State) (q : Pass) (tile : Nat) : TileState :=
  { colour := s.tileColour q tile, depth := s.tileDepth q tile
    motion := (Assoc.find q.motion tile).getD ((tilePixels q.desc tile).map fun _ => noMotion) }

/-! The units (R207, R209, R215, R216). -/

/-- Free bytes written from an address: metadata whose values the manual leaves to the compression (R212). -/
def State.writeFree (s : State) (p o n : Nat) : State :=
  (s.each (List.range n) fun t i =>
    let (k, u) := t.drawFree
    u.writeMem p (o + i) [Config.freeValue k 8])

/-- The 8×8 blocks of a tile, by number in the target. -/
def tileBlocks (d tile : Nat) : List Nat :=
  let cols := divCeil (descSize d).1 8
  ((tilePixels d tile).filter fun e => e.1 % 8 = 0 && e.2 % 8 = 0).map fun e => e.2 / 8 * cols + e.1 / 8

/-- A plane of a tile written: its pixels uncompressed and a metadata byte for each block (R198, R212; the stored form is a DESIGN
CHOICE, log entry 27). -/
def State.writePlane (s : State) (q : Pass) (tile base bytes : Nat) (codes : List Nat) : State :=
  let d := q.desc
  let pixels := tilePixels d tile
  let t := s.each (pixels.zip codes) fun t e =>
    t.writeMem q.partition (base + (e.1.2 * (descSize d).1 + e.1.1) * bytes) (leBytes bytes e.2)
  t.each (tileBlocks d tile) fun t b => t.writeFree q.partition (base + descPixels d * bytes + b) 1

/-- The tiles that a unit could take: of passes with tiles ready, in order of the time left in the partition's schedule window, then of
partition, then of the pass, then of the tile (R209); a partition without a window comes last. -/
def State.tileChoices (s : State) (u : Nat) (left : List Nat) : List (Pass × Nat) :=
  let key := fun (q : Pass) => (left.getD (q.partition - 1) (2 ^ 64) * 2 ^ 48 + q.partition * 2 ^ 40 + q.id : Nat)
  (sortBy (fun (q : Pass) => ((key q : Nat) : Int)) s.raster.passes).flatMap fun q =>
    (q.due.filter fun k => q.tileOwner k = some u).map fun k => (q, k)

/-- The reads of a tile's surfaces at its start, as (offset, bytes). -/
def State.tileReads (s : State) (q : Pass) (tile : Nat) : List (Nat × Nat) :=
  let d := q.desc
  let before := q.rendered.contains tile
  let g := s.target q.partition q.target
  (if before || bits q.header 94 2 = 1 then
    (List.range (descSamples d)).flatMap fun k => (tilePixels d tile).map fun e =>
      (q.colourAt (if before then q.buffer else g.newest) k e, descBytes d) else []) ++
    (if descExternal d && (before || q.header.testBit 93) then
      (List.range (descSamples d)).flatMap fun k => (tilePixels d tile).map fun e =>
        (bits d 320 64 + k * descDepthPlane d + (e.2 * (descSize d).1 + e.1) * 4, 4) else [])

/-- A free tile unit takes a tile (R206, R209): its pixels go to shading; unreadable data abandons the pass (R226). -/
def State.tileStarts (s : State) (u : Nat) (left : List Nat) : State :=
  if s.fenced ⟨.tile, u⟩ || s.raster.passes.any (fun q => q.running.any fun r => r.unit = u) then s
  else
    match s.tileChoices u left with
    | [] => s
    | (q, k) :: _ =>
      let bad := (s.tileReads q k).any fun e => s.readFails q.partition e.1 e.2
      let textures := (q.tileTris k).flatMap fun t => s.textureDescs q.partition (q.batchOf t.seq)
      let badTexture := textures.any fun d => s.readFails q.partition (bits d 64 64 / 4096 * 4096) (textureBytes d)
      if bad || badTexture then (s.abandonPass q 3).resumeBins q.partition
      else
        let run : TileRun := { unit := u, tile := k, pixels := s.shadePixels q k }
        let t := s.setPass { q with due := q.due.filter (· ≠ k), running := q.running ++ [run] }
        let t := { t with raster := { t.raster with lastPart := Assoc.put t.raster.lastPart u q.partition } }
        t.setN (Entry.tileState u) 1

/-- Depth placed in the overflow reserve (R216): the tile's compressed size, which the manual does not give, is free up to that of
uncompressed depth and its metadata. -/
def State.placeDepth (s : State) (q : Pass) (tile : Nat) (codes : List Nat) : Option (State × Reserved) :=
  let most := to256 (4 * codes.length + descSamples q.desc * (tileBlocks q.desc tile).length) / 256
  let (k, t) := s.drawFree
  let bytes := 256 * ((Config.freeValue k 16).toNat % most + 1)
  if q.limit < s.reserveOf q.partition + bytes || 2 ^ 24 < s.reserveUsed + bytes then none
  else some (t, { tile := tile, bytes := bytes, codes := codes })

/-- A unit's tile finished with the colours that shading returned, in the order of the pixels sent (R208, R213, R215, R216). -/
def State.tileEnds (s : State) (u : Nat) (shaded : List (List Nat)) : State :=
  match s.raster.passes.find? fun q => q.running.any fun r => r.unit = u with
  | none => s
  | some q =>
    match q.running.find? fun r => r.unit = u with
    | none => s
    | some run =>
      let d := q.desc
      let k := run.tile
      let pixels := tilePixels d k
      let n := pixels.length
      let colours := (run.pixels.zip (List.range run.pixels.length)).map fun e => (e.1, shaded.getD e.2 [])
      let m := (q.tileTris k).foldl (q.apply pixels colours) (s.tileBefore q k)
      let planes := List.range (descSamples d)
      let part := fun (l : List Nat) (j : Nat) => (l.drop (j * n)).take n
      let base := fun (j : Nat) => q.colourAt q.buffer j (0, 0)
      let t := s.each planes fun t j => t.writePlane q k (base j) (descBytes d) (part m.colour j)
      let t := if descExternal d then
          t.each planes fun t j => t.writePlane q k (bits d 320 64 + j * descDepthPlane d) 4 (part m.depth j)
        else t
      let t := ((t.setN (Entry.tileState u) 0).bump (Entry.tileTilesRendered u)).meter (Entry.tileSampleRate u) (descSamples d * n)
      let q' := { q with
        running := q.running.filter (fun r => r.unit ≠ u), rendered := (k :: q.rendered).eraseDups
        entries := q.entries.filter (fun e => e.1 ≠ k), reserve := q.reserve.filter (fun r => r.tile ≠ k)
        motion := if descUpscale d then Assoc.put q.motion k m.motion else q.motion }
      let t := t.setPass q'
      if q.partial_ && !descExternal d then
        match t.placeDepth q' k m.depth with
        | none => (t.abandonPass q' 1).resumeBins q.partition
        | some (t, r) => ((t.setPass { q' with reserve := q'.reserve ++ [r] }).showReserve).resumeBins q.partition
      else (t.showReserve).resumeBins q.partition

/-! The end of a pass (R203, R213). -/

/-- Whether a pass is finished but for resolve and motion. -/
def Pass.ready (q : Pass) : Bool := q.final && q.due.isEmpty && q.running.isEmpty

/-- The colour of a pixel resolved from its samples: the FP32 mean (R213). -/
def resolvePixel (format : Nat) (samples : List Nat) : Nat :=
  let c := samples.map (decodeColour format)
  encodeColour format ((List.range 4).map fun k =>
    f32Div (f32Sum (c.map fun x => x.getD k 0)) (f32OfInt samples.length))

/-- The resolve of a tile of a multi-sample target into the drawn buffer. -/
def State.resolveTile (s : State) (q : Pass) (tile : Nat) : State :=
  let d := q.desc
  let codes := (tilePixels d tile).map fun e =>
    resolvePixel (bits d 472 4) ((List.range (descSamples d)).map fun k =>
      leNat (s.readMem q.partition (q.colourAt q.buffer k e) (descBytes d)))
  s.writePlane q tile (bits d 384 64 + q.buffer * descFrame d) (descBytes d) codes

/-- The motion words of a tile written (R184, R213). -/
def State.writeMotion (s : State) (q : Pass) (tile : Nat) : State :=
  let d := q.desc
  let words := (Assoc.find q.motion tile).getD []
  s.each ((tilePixels d tile).zip words) fun t e =>
    t.writeMem q.partition (bits d 192 64 + q.buffer * descMotion d + (e.1.2 * (descSize d).1 + e.1.1) * 4) (leBytes 4 e.2)

/-- The oldest finished pass of a partition completed (R203, R213): resolve, motion plane, Newest, the jobs of its header and batches. -/
def State.passEnds (s : State) (p : Nat) : State :=
  match s.raster.passes.find? fun q => q.partition = p && q.ready with
  | none => s
  | some q =>
    let d := q.desc
    let tiles := List.range (tileCount d)
    let t := if descSamples d = 1 then s else s.each tiles fun t k => t.resolveTile q k
    let t := if descUpscale d then t.each tiles fun t k => t.writeMotion q k else t
    let g := t.target p q.target
    let t := t.setPasses (t.raster.passes.filter fun x => x.id ≠ q.id)
    let t := t.setTarget p q.target { g with
      newest := q.buffer, shown := some (q.frameCount, descExternal d), stale := false
      buffers := g.buffers ++ [(q.buffer, q.frameCount)] }
    let t := (t.bump Entry.rasterPassesCompleted).showReserve
    let t := t.showTarget p q.target none
    let t := t.endJob q.job 0
    ((t.each q.batches fun t b => t.endJob b.2.1 0).releaseHeld).resumeBins p

/-- PassTimeout has passed since the oldest open pass of a partition opened (R203). -/
def State.passLate (s : State) (p : Nat) : State :=
  match s.raster.passes.find? fun q => q.partition = p with
  | none => s
  | some q => (s.abandonPass q 2).resumeBins p

/-! Faults (R226). -/

/-- A fenced tile unit: its unfinished tiles are ready again, and pass to the unfenced units (R207, R226). -/
def State.tileFenced (s : State) (u : Nat) : State :=
  s.setPasses (s.raster.passes.map fun q =>
    { q with units := if q.units.contains u then s.tileUnits.filter (· ≠ u) else q.units
             due := q.due ++ (q.running.filter fun r => r.unit = u).map TileRun.tile
             running := q.running.filter fun r => r.unit ≠ u })

/-- The open passes of a partition that stops: abandoned without a cause of R228, their jobs with cause 8 (R226, R362). -/
def State.dropPasses (s : State) (p : Nat) : State :=
  s.each (s.raster.passes.filter fun q => q.partition = p) fun t q => t.abandonPass q (t.n (Entry.partRasterAbandonCause p))

end Sys2Proof.Machine
end

