-- ==== Sys2Proof/Machine/Rays.lean ====
section
/-! DEFINITION. Ray traversal units: query batches, the BVH4, the triangle functions and the order of traversal (R220 to R226). -/

namespace Sys2Proof.Machine

open Sys2Proof

/-! The functions of R223, operation by operation in binary32. -/

/-- A vector of FP32 codes. -/
structure Vec where
  x : Nat
  y : Nat
  z : Nat

def Vec.sub (u v : Vec) : Vec := ⟨f32Sub u.x v.x, f32Sub u.y v.y, f32Sub u.z v.z⟩
def Vec.add (u v : Vec) : Vec := ⟨f32Add u.x v.x, f32Add u.y v.y, f32Add u.z v.z⟩
def Vec.scale (u : Vec) (k : Nat) : Vec := ⟨f32Mul u.x k, f32Mul u.y k, f32Mul u.z k⟩
def Vec.dot (u v : Vec) : Nat := f32Add (f32Add (f32Mul u.x v.x) (f32Mul u.y v.y)) (f32Mul u.z v.z)
def Vec.cross (u v : Vec) : Vec :=
  ⟨f32Sub (f32Mul u.y v.z) (f32Mul u.z v.y), f32Sub (f32Mul u.z v.x) (f32Mul u.x v.z),
    f32Sub (f32Mul u.x v.y) (f32Mul u.y v.x)⟩

/-- Comparisons with FP32 zero and between codes. -/
def f32Eq (a b : Nat) : Bool := f32Le a b && f32Le b a
def f32Ge0 (a : Nat) : Bool := f32Le f32Zero a
def f32Le0 (a : Nat) : Bool := f32Le a f32Zero

/-- `tri_hit`: t, or none. -/
def triHit (o d a b c : Vec) : Option Nat :=
  let e1 := b.sub a
  let e2 := c.sub a
  let pv := d.cross e2
  let det := e1.dot pv
  if f32Eq det f32Zero then none
  else
    let tv := o.sub a
    let u := tv.dot pv
    let qv := tv.cross e1
    let v := d.dot qv
    let ok := if f32Lt f32Zero det then f32Ge0 u && f32Ge0 v && f32Le (f32Add u v) det
      else f32Le0 u && f32Le0 v && f32Le det (f32Add u v)
    if ok then some (f32Div (e2.dot qv) det) else none

/-- `tri_dist2`: the squared distance. -/
def triDist2 (p a b c : Vec) : Nat :=
  let ab := b.sub a
  let ac := c.sub a
  let ap := p.sub a
  let d1 := ab.dot ap
  let d2 := ac.dot ap
  if f32Le0 d1 && f32Le0 d2 then ap.dot ap
  else
    let bp := p.sub b
    let d3 := ab.dot bp
    let d4 := ac.dot bp
    if f32Ge0 d3 && f32Le d4 d3 then bp.dot bp
    else
      let cp := p.sub c
      let d5 := ab.dot cp
      let d6 := ac.dot cp
      if f32Ge0 d6 && f32Le d5 d6 then cp.dot cp
      else
        let vc := f32Sub (f32Mul d1 d4) (f32Mul d3 d2)
        let q :=
          if f32Le0 vc && f32Ge0 d1 && f32Le0 d3 then a.add (ab.scale (f32Div d1 (f32Sub d1 d3)))
          else
            let vb := f32Sub (f32Mul d5 d2) (f32Mul d1 d6)
            if f32Le0 vb && f32Ge0 d2 && f32Le0 d6 then a.add (ac.scale (f32Div d2 (f32Sub d2 d6)))
            else
              let va := f32Sub (f32Mul d3 d6) (f32Mul d5 d4)
              if f32Le0 va && f32Ge0 (f32Sub d4 d3) && f32Ge0 (f32Sub d5 d6) then
                b.add ((c.sub b).scale (f32Div (f32Sub d4 d3) (f32Add (f32Sub d4 d3) (f32Sub d5 d6))))
              else
                let den := f32Div f32One (f32Add (f32Add va vb) vc)
                (a.add (ab.scale (f32Mul vb den))).add (ac.scale (f32Mul vc den))
        let w := p.sub q
        w.dot w

/-! Boxes (R221, R224). -/

/-- A finite value as a fraction. -/
def Fl.toRat (x : Fl) : Option Rat :=
  match x with
  | .fin neg m e =>
    let v : Rat := if 0 ≤ e then ((m * 2 ^ e.toNat : Nat) : Rat) else mkRat m (2 ^ (-e).toNat)
    some (if neg then -v else v)
  | _ => none

/-- The FP32 code below or above a code. -/
def f32Below (c : Nat) : Nat := if c = 0 then 0x80000001 else if c < 2 ^ 31 then c - 1 else c + 1
def f32Above (c : Nat) : Nat := if c = 2 ^ 31 then 1 else if c < 2 ^ 31 then c + 1 else c - 1

/-- An exact value rounded to binary32 towards −∞ or +∞ (R221). -/
def f32Down (x : Fl) : Nat := let c := fmtFP32.round x; if Fl.le (f32 c) x then c else f32Below c
def f32Up (x : Fl) : Nat := let c := fmtFP32.round x; if Fl.le x (f32 c) then c else f32Above c

/-- The bounds of a child's box on an axis (0 x, 1 y, 2 z); none where they are not finite. -/
def childSpan (node child axis : Nat) : Option (Rat × Rat) :=
  let origin := f32 (bits node (608 - 32 * axis) 32)
  let e := signed 8 (bits node (536 - 8 * axis) 8)
  let at_ := fun (o : Nat) => origin.add ((Fl.ofInt (bits node (512 - 96 * (child + 1) + o) 16 : Nat)).scale e)
  match (f32 (f32Down (at_ (80 - 16 * axis)))).toRat, (f32 (f32Up (at_ (32 - 16 * axis)))).toRat with
  | some a, some b => some (a, b)
  | _, _ => none

/-- A child's box by axis. -/
def childBox (node child : Nat) : List (Option (Rat × Rat)) := (List.range 3).map (childSpan node child)

/-- The part of a segment o + t · d, lo ≤ t (≤ hi), within a slab; none where they do not meet. -/
def slab (o d a b : Rat) (lo : Rat) (hi : Option Rat) : Option (Rat × Option Rat) :=
  if d = 0 then (if a ≤ o && o ≤ b then some (lo, hi) else none)
  else
    let t1 := (a - o) / d
    let t2 := (b - o) / d
    let lo' := max lo (min t1 t2)
    let hi' := match hi with | none => max t1 t2 | some h => min h (max t1 t2)
    if lo' ≤ hi' then some (lo', some hi') else none

/-- Where a segment enters a box, exactly; none where it does not meet it.  A box, origin or vector that is not finite counts as met
at the segment's start (R224; exact arithmetic is DEDUCED, log entry 28). -/
def boxEntry (box : List (Option (Rat × Rat))) (o d : List (Option Rat)) (limit : Option Rat) : Option Rat :=
  ((box.zip (o.zip d)).foldl (fun (acc : Option (Rat × Option Rat)) e =>
    match acc, e with
    | some (lo, hi), (some (a, b), some p, some v) => slab p v a b lo hi
    | acc, _ => acc) (some (0, limit))).map Prod.fst

/-- The squared distance of a point from a box, exactly. -/
def boxDist2 (box : List (Option (Rat × Rat))) (o : List (Option Rat)) : Rat :=
  (box.zip o).foldl (fun (acc : Rat) e =>
    match e with
    | (some (a, b), some p) => acc + (if p < a then (a - p) * (a - p) else if b < p then (p - b) * (p - b) else 0)
    | _ => acc) 0

/-! Traversal (R222 to R224). -/

/-- A query (R222). -/
structure Query where
  kind   : Nat
  mask   : Nat
  origin : Vec
  vector : Vec
  limit  : Nat

/-- A query as memory holds it (DESIGN CHOICE, log entry 66). -/
def queryOf (q : Nat) : Query :=
  let v := fun o => Vec.mk (bits q (o + 64) 32) (bits q (o + 32) 32) (bits q o 32)
  { kind := bits q 312 8, mask := bits q 256 32, origin := v 160, vector := v 64, limit := bits q 32 32 }

/-- A traversal: visits made, whether the budget is used up, the cause of a failed read (R226, R368), whether the BVH holds a reserved
code, and the best triangle as (t or squared distance, index, ObjectId). -/
structure Traversal where
  visits : Nat := 0
  spent  : Bool := false
  cause  : Nat := 0
  open_  : Bool := false
  best   : Option (Nat × Nat × Nat) := none

/-- What is left to visit: a node or a run of triangles, behind the box that may hide it. -/
structure Visit where
  leaf  : Bool
  ref   : Nat
  count : Nat
  box   : Option (List (Option (Rat × Rat)))

/-- The direction of a query's segment (R223). -/
def Query.dir (q : Query) : Vec := if q.kind = 0 then q.vector.sub q.origin else q.vector

/-- The components of a vector as fractions. -/
def Vec.rats (v : Vec) : List (Option Rat) := [(f32 v.x).toRat, (f32 v.y).toRat, (f32 v.z).toRat]

/-- Whether a child is skipped (R224). -/
def Query.skips (q : Query) (t : Traversal) (box : List (Option (Rat × Rat))) : Bool :=
  match q.kind with
  | 0 => t.best.isSome || (boxEntry box q.origin.rats q.dir.rats (some 1)).isNone
  | 1 =>
    if f32Lt q.limit f32Zero || (f32 q.limit).isNan then true
    else
      match boxEntry box q.origin.rats q.dir.rats (f32 q.limit).toRat with
      | none => true
      | some entry =>
        match t.best with
        | none => false
        | some b => match (f32 b.1).toRat with | none => false | some best => best < entry
  | _ =>
    let d := boxDist2 box q.origin.rats
    let far := fun (o : Option Rat) => match o with | none => false | some r => r < d
    f32Lt q.limit f32Zero || (f32 q.limit).isNan || far ((f32 q.limit).toRat.map fun l => l * l) ||
      far (t.best.bind fun b => (f32 b.1).toRat)

/-- The measure of a triangle for a query, if it counts (R223). -/
def Query.measure (q : Query) (a b c : Vec) : Option Nat :=
  match q.kind with
  | 0 => (triHit q.origin q.dir a b c).bind fun t => if f32Lt f32Zero t && f32Lt t f32One then some t else none
  | 1 => (triHit q.origin q.dir a b c).bind fun t => if f32Lt f32Zero t && f32Le t q.limit then some t else none
  | _ =>
    let d := triDist2 q.origin a b c
    if f32Le (f32Sqrt d) q.limit then some d else none

/-- A read of the partition's memory by a traversal. -/
def State.rayRead (s : State) (p o n : Nat) : Nat × Nat :=
  if !s.inRange p o n then (0, 2) else if s.readFails p o n then (0, 6) else (leNat (s.readMem p o n), 0)

/-- One triangle tested: a visit unless its class takes no part (R222, R224). -/
def State.testTriangle (s : State) (p triBase maxVisits : Nat) (q : Query) (t : Traversal) (i : Nat) : Traversal :=
  if t.spent || t.cause ≠ 0 then t
  else
    let (d, cause) := s.rayRead p (triBase + 48 * i) 48
    if cause ≠ 0 then { t with cause := cause }
    else if !q.mask.testBit (bits d 59 5) then t
    else if maxVisits ≤ t.visits then { t with spent := true }
    else
      let v := fun k => Vec.mk (bits d (352 - 96 * k) 32) (bits d (320 - 96 * k) 32) (bits d (288 - 96 * k) 32)
      let t := { t with visits := t.visits + 1 }
      match q.measure (v 0) (v 1) (v 2) with
      | none => t
      | some x =>
        let better := match t.best with
          | none => true
          | some (y, j, _) => f32Lt x y || (f32Eq x y && i < j)
        if better then { t with best := some (x, i, bits d 64 32) } else t

/-- The children of a node, in rising order. -/
def nodeChildren (node : Nat) : List Visit :=
  (List.range 4).filterMap fun c =>
    let kind := bits node (512 + 2 * c) 2
    let ref := bits node (96 - 32 * c) 32
    if kind = 1 then some { leaf := false, ref := ref, count := 0, box := some (childBox node c) }
    else if kind = 2 then some { leaf := true, ref := ref / 32, count := ref % 32 + 1, box := some (childBox node c) }
    else none

/-- The traversal of a query, depth first (R224); `fuel` bounds the visits and the children skipped. -/
def State.traverse (s : State) (p nodeBase triBase maxVisits : Nat) (q : Query) (fuel : Nat) (todo : List Visit)
    (t : Traversal) : Traversal :=
  match fuel, todo with
  | _, [] => t
  | 0, _ => t
  | n + 1, v :: rest =>
    if t.spent || t.cause ≠ 0 then t
    else if (match v.box with | none => false | some b => q.skips t b) then
      s.traverse p nodeBase triBase maxVisits q n rest t
    else if v.leaf then
      let t := ((List.range v.count).map (v.ref + ·)).foldl (s.testTriangle p triBase maxVisits q) t
      s.traverse p nodeBase triBase maxVisits q n rest t
    else if maxVisits ≤ t.visits then { t with spent := true }
    else
      let (d, cause) := s.rayRead p (nodeBase + 80 * v.ref) 80
      if cause ≠ 0 then { t with cause := cause }
      else
        let odd := (List.range 4).any fun c => bits d (512 + 2 * c) 2 = 3
        s.traverse p nodeBase triBase maxVisits q n (nodeChildren d ++ rest)
          { t with visits := t.visits + 1, open_ := t.open_ || odd }

/-- The result of a query of 16 bytes (R222 to R224), or none where the manual states none. -/
def Query.result (q : Query) (t : Traversal) : Option Nat :=
  if 2 < q.kind || t.open_ then none
  else if t.spent then some (2 ^ 126)
  else
    match t.best with
    | none => some 0
    | some (x, i, obj) =>
      let value := if q.kind = 2 then f32Sqrt x else x
      some (packFields [(32, obj), (32, i), (32, value), (30, 0), (1, 0), (1, 1)])

/-! Batches (R220, R225, R226). -/

/-- Queries of a batch. -/
def queryCount (h : Nat) : Nat := bits h 360 16 + 1

/-- The query batches replaced. -/
def State.setQueries (s : State) (l : List QueryJob) : State := { s with raster := { s.raster with queries := l } }

/-- Waiting batches start on the lowest free unfenced units (R225). -/
def State.startQueries (s : State) : State :=
  s.each (List.range 4) fun t u =>
    if t.fenced ⟨.ray, u⟩ || t.raster.queries.any (fun q => q.unit = some u) then t
    else
      match t.raster.queries.find? fun q => q.unit.isNone with
      | none => t
      | some q =>
        (t.setQueries (t.raster.queries.map fun x => if x.job = q.job then { x with unit := some u } else x)).setN
          (Entry.rayState u) 1

/-- A RASTER entry whose header is a query batch header (R220, R225). -/
def State.queryTaken (s : State) (r : Nat) : State :=
  s.withEntry r 2 fun p e =>
    let a := bits e 320 64
    let (kind, h) := s.rasterHeader p a
    if kind ≠ 3 then s
    else
      match s.headerCause p a 3 with
      | 0 =>
        if !s.inRange p (bits h 64 64) (40 * queryCount h) || !s.inRange p (bits h 0 64) (16 * queryCount h) then
          s.takeAndEnd p r e 2
        else
          let id_ := ringJobId r (s.ring r).head
          let t := s.takeJob p r e id
          (t.setQueries (t.raster.queries ++ [{ partition := p, job := id_, header := h }])).startQueries
      | c => s.takeAndEnd p r e c

/-- The results of a batch in query order with the visits made, or the cause by which it is abandoned. -/
def State.queryAnswer (s : State) (p h : Nat) : Nat × List (Option Nat) × Nat :=
  let qBase := bits h 64 64
  if s.readFails p qBase (40 * queryCount h) then (6, [], 0)
  else
    let run := (List.range (queryCount h)).map fun i =>
      let q := queryOf (leNat (s.readMem p (qBase + 40 * i) 40))
      let most := bits h 344 16
      let t := s.traverse p (bits h 192 64 / 16 * 16) (bits h 128 64 / 16 * 16) most q (5 * most + 5)
        [{ leaf := false, ref := 0, count := 0, box := none }] {}
      (t.cause, q.result t, t.visits)
    match run.find? fun e => e.1 ≠ 0 with
    | some e => (e.1, [], 0)
    | none => (0, run.map fun e => e.2.1, (run.map fun e => e.2.2).foldl (· + ·) 0)

/-- A batch done on a unit: its results written in query order, or the job abandoned (R222, R225, R226). -/
def State.queryEnds (s : State) (u : Nat) : State :=
  match s.raster.queries.find? fun q => q.unit = some u with
  | none => s
  | some q =>
    let p := q.partition
    let h := q.header
    let (cause, results, visits) := s.queryAnswer p h
    let t := s.setQueries (s.raster.queries.filter fun x => x.job ≠ q.job)
    let t := t.setN (Entry.rayState u) 0
    let t := if cause ≠ 0 then t
      else
        let t := t.each (results.zip (List.range results.length)) fun t e =>
          let at_ := bits h 0 64 + 16 * e.2
          match e.1 with
          | some v => t.writeMem p at_ (leBytes 16 v)
          | none => t.writeFree p at_ 16
        ((t.add Entry.rasterRayQueries (queryCount h)).add (Entry.rayQueries u) (queryCount h)).meter (Entry.raySlotRate u)
          (4 * visits)
    (t.endJob q.job cause).startQueries

/-- A fenced ray unit: its batch runs again from its first query on another unit (R226). -/
def State.rayFenced (s : State) (u : Nat) : State :=
  (s.setQueries (s.raster.queries.map fun q => if q.unit = some u then { q with unit := none } else q)).startQueries

/-- The query batches of a partition that stops. -/
def State.dropQueries (s : State) (p : Nat) : State :=
  let mine := s.raster.queries.filter fun q => q.partition = p
  let t := s.setQueries (s.raster.queries.filter fun q => q.partition ≠ p)
  let t := t.each (mine.filterMap QueryJob.unit) fun t u => if t.n (Entry.rayState u) = 1 then t.setN (Entry.rayState u) 0 else t
  t.startQueries

end Sys2Proof.Machine
end

