-- ==== Sys2Proof/Machine/Image.lean ====
section
/-! DEFINITION. Table images: header, configurations, legs, model list, and the checks of a stage (R268 to R270, R281, R287, R298,
R303, R304, R318 to R321, R332). -/

namespace Sys2Proof.Machine

open Sys2Proof

/-! Records. -/

/-- The record of `n` bytes at an offset of an image, as a number. -/
def imageRecord (img : Bytes) (o n : Nat) : Nat := field img o n

/-- Fields of the header (R287). -/
def hdrHerds (h : Nat) : Nat := bits h 460 4
def hdrLanes (h : Nat) : Nat := bits h 453 7
def hdrTrigger (h : Nat) : Nat := bits h 451 2
def hdrJobKind (h : Nat) : Nat := bits h 448 3
def hdrConfigs (h : Nat) : Nat := bits h 435 13
def hdrModels (h : Nat) : Nat := bits h 426 9
def hdrFull (h : Nat) : Nat := bits h 411 15
def hdrFallback (h : Nat) : Nat := bits h 396 15
def hdrWork (h : Nat) : Nat := bits h 352 32
def hdrLegsAt (h : Nat) : Nat := bits h 128 32

/-- The sections of an image as (offset, bytes): bindings, configurations, model list, legs. -/
def hdrSections (h : Nat) : List (Nat × Nat) :=
  [(bits h 224 32, 1024), (bits h 192 32, 64 * hdrConfigs h), (bits h 160 32, 16 * hdrModels h),
    (hdrLegsAt h, 16 * (hdrFull h * hdrHerds h + hdrFallback h * (hdrHerds h - 1)))]

/-- Whether a header holds only codes that R287 gives, with a JobKind that fits its Trigger. -/
def hdrLegal (h : Nat) : Bool :=
  let k := hdrJobKind h
  let t := hdrTrigger h
  bits h 480 32 = 0x4C454753 && bits h 464 16 = 1 && 1 ≤ hdrHerds h && hdrHerds h ≤ 8 && 1 ≤ hdrLanes h &&
    hdrLanes h ≤ 64 && hdrConfigs h ≤ 4096 && hdrModels h ≤ 256 && 1 ≤ hdrFull h && hdrFull h ≤ 16384 &&
    hdrFallback h ≤ 16384 && (hdrHerds h ≠ 1 || hdrFallback h = 0) &&
    ((k = 0 && t ≠ 3) || ((k = 1 || k = 2) && t ≤ 1) || (k = 3 && t = 2) || (k = 4 && t = 3))

/-- The configurations of an image, as numbers. -/
def imageConfigs (img : Bytes) (h : Nat) : List Nat :=
  (List.range (hdrConfigs h)).map fun i => imageRecord img (bits h 192 32 + 64 * i) 64

/-- The legs of a position: of the full version, or of the fallback (R287). -/
def imageLegs (img : Bytes) (h : Nat) (fallback : Bool) (pos : Nat) : List Nat :=
  let n := if fallback then hdrFallback h else hdrFull h
  let o := hdrLegsAt h + 16 * (if fallback then hdrFull h * hdrHerds h + hdrFallback h * pos else hdrFull h * pos)
  (List.range n).map fun i => imageRecord img (o + 16 * i) 16

/-- The model entries of an image, their digests still to compute (R281). -/
def imageModels (img : Bytes) (h : Nat) : List ModelEntry :=
  (List.range (hdrModels h)).map fun i =>
    let m := imageRecord img (bits h 160 32 + 16 * i) 16
    { number := bits m 113 15, pin := m.testBit 112, safety := m.testBit 111, bytes := bits m 64 32, offset := bits m 0 64 }

/-- Fields of a leg (R268). -/
def legOp (l : Nat) : Nat := bits l 104 8
def legConfig (l : Nat) : Nat := bits l 64 12
def legBank (l : Nat) : Nat := bits l 60 2
def legStation (l : Nat) : Nat := bits l 112 16
def legSource (l : Nat) : Nat := bits l 98 6
def legDest (l : Nat) : Nat := bits l 92 6
def legCount (l : Nat) : Nat := bits l 76 16
def legPerLane (l : Nat) : Bool := l.testBit 63
def legMasked (l : Nat) : Bool := l.testBit 62
def legImmediate (l : Nat) : Nat := bits l 0 32

/-- The masked parts of a list of legs, up to END: those of one bit each in the mask bitmap of a lane (R273). -/
def legParts (legs : List Nat) : Nat :=
  (((legs.takeWhile fun l => legOp l ≠ 0xE5).filter legMasked).map legCount).foldl (· + ·) 0

/-- Fields of a queue binding (R270). -/
def bindDevice (b : Nat) : Nat := bits b 125 3
def bindStation (b : Nat) : Nat := bits b 109 16
def bindQueue (b : Nat) : Nat := bits b 103 6
def bindFirst (b : Nat) : Nat := bits b 93 10
def bindSpan (b : Nat) : Nat := bits b 83 10 + 1

/-- The logical kid to which baton `j` of lane `l` of a leg of `count` batons goes (R271). -/
def bindKid (b count l j : Nat) : Nat := bindFirst b + (l * count + j) % bindSpan b

/-- The kids of a binding's span (R271). -/
def bindKids (b : Nat) : List Nat := List.range' (bindFirst b) (bindSpan b)

/-! Lane records (R274). -/

/-- A lane record as the 256-bit number that is stored. -/
def LaneRecord.word (r : LaneRecord) : Nat :=
  packFields [(64, r.maskBase), (64, r.outputBase), (64, r.inputBase), (32, r.param), (24, r.job), (7, 0), (1, 1)]

/-- The lane record that a 256-bit number spells; none for a lane that is not occupied. -/
def laneRecordOf (w : Nat) : Option LaneRecord :=
  if w.testBit 255 then
    some { job := bits w 224 24, param := bits w 192 32, inputBase := bits w 128 64, outputBase := bits w 64 64, maskBase := bits w 0 64 }
  else none

/-- Whether an operation code is one that R269, R305 and R322 give. -/
def opLegal (op : Nat) : Bool :=
  op ≤ 0x09 || (0x20 ≤ op && op ≤ 0x27) || op = 0xE0 || op = 0xE1 || op = 0xE3 || op = 0xE4 || op = 0xE5

/-- Whether an operation reads weight scales from the bank of its leg: MMA, RESCALE, WIDE, CONVWIN, GROUPCONV, BLOCKCONV and the
rectified forms (R297, R305, R322). -/
def opScales (op : Nat) : Bool :=
  [0x01, 0x02, 0x04, 0x20, 0x22, 0x23, 0x25, 0x26].contains op

/-! Conversion configurations (R304). -/

def cfgKind (c : Nat) : Nat := bits c 508 4
def convLayer (c : Nat) : Nat := bits c 502 6
def convWide (c : Nat) : Bool := c.testBit 501
def convScaleBase (c : Nat) : Nat := bits c 467 12
def convModel (c : Nat) : Nat := bits c 452 15
def convChannels (c : Nat) : Nat := bits c 439 13
def convOutliers (c : Nat) : Nat := bits c 432 7
def convStatsBase (c : Nat) : Nat := bits c 420 12
def convStats (c : Nat) : Bool := c.testBit 419
def convOutlierAt (c : Nat) : Nat := bits c 288 32
def convScaleAt (c : Nat) : Nat := bits c 224 32

/-- Whether a conversion configuration keeps the codes and ranges of R304. -/
def convLegal (c : Nat) : Bool :=
  let weights := bits c 488 4
  (bits c 496 4 = 4 || bits c 496 4 = 6) && bits c 492 4 ≤ 10 && (if convWide c then weights = 4 else weights ≤ 3) &&
    1 ≤ convChannels c && convChannels c ≤ 4096 && convOutliers c ≤ 64 &&
    convScaleBase c + convChannels c ≤ 4096 && convStatsBase c + convChannels c ≤ 4096

/-- Whether two configurations measure error in overlapping accumulators. -/
def statsOverlap (a b : Nat) : Bool :=
  cfgKind a = 1 && cfgKind b = 1 && convStats a && convStats b &&
    convStatsBase a < convStatsBase b + convChannels b && convStatsBase b < convStatsBase a + convChannels a

/-! Address-generator configurations (R318 to R321). -/

/-- The configuration as R316 to R331 read it; its stripe is that of a leg. -/
def addrConfig (c : Nat) : AddrConfig :=
  { kind := cfgKind c, kernelW := bits c 503 5, kernelH := bits c 498 5, strideX := bits c 494 4 + 1
    strideY := bits c 490 4 + 1, dilationX := bits c 486 4 + 1, dilationY := bits c 482 4 + 1
    padLeft := bits c 478 4, padRight := bits c 474 4, padTop := bits c 470 4, padBottom := bits c 466 4
    modeLeft := bits c 464 2, modeRight := bits c 462 2, modeTop := bits c 460 2, modeBottom := bits c 458 2
    padConstant := bits c 442 16, inChannels := bits c 429 13, outChannels := bits c 416 13, groups := bits c 403 13
    inWidth := bits c 390 13, inHeight := bits c 378 12, inFormat := bits c 374 4, stripeCount := bits c 355 7
    expandRows := bits c 345 10, countPad := c.testBit 344, poolMax := c.testBit 343
    srcRowPitch := bits c 288 32, srcPlanePitch := bits c 256 32, srcOffset := bits c 192 64, srcPlace := bits c 190 2
    dstPlace := bits c 188 2, dstRowPitch := bits c 156 32, dstOffset := bits c 64 64, stripe := 0 }

/-- The output extent of an axis (R319). -/
def outExtent (n padLo padHi dilation kernel stride : Nat) : Int :=
  ((n : Int) + padLo + padHi - dilation * (kernel - 1 : Nat) - 1) / stride + 1

/-- The output width and height of a window configuration. -/
def addrOutWidth (g : AddrConfig) : Int := outExtent g.inWidth g.padLeft g.padRight g.dilationX g.kernelW g.strideX
def addrOutHeight (g : AddrConfig) : Int := outExtent g.inHeight g.padTop g.padBottom g.dilationY g.kernelH g.strideY

/-- Bytes of an element of a format (R290), in halves. -/
def formatHalves (f : Nat) : Nat :=
  match f with
  | 1 => 1
  | 4 | 5 | 8 => 4
  | 6 | 7 => 8
  | _ => 2

/-- Whether BLOCKCONV runs a configuration (R325). -/
def addrBlocksLegal (g : AddrConfig) : Bool :=
  g.groups = 1 && g.kernelW ≤ 7 && g.kernelH ≤ 7 &&
    ((g.inChannels ≤ 4 && g.outChannels ≤ 64) || (g.outChannels ≤ 4 && g.inChannels ≤ 64)) &&
    (g.inFormat = 0 || (g.inFormat = 8 && (g.inChannels = 1 || g.inChannels = 3)))

/-- Whether an address-generator configuration keeps the rules of R318 and R321, given the image's configurations. -/
def addrLegal (configs : List Nat) (c : Nat) : Bool :=
  let g := addrConfig c
  let k := g.kind
  let window := k ≠ 13
  let conv := configs.getD (bits c 362 12) 0
  let mirror := (g.modeLeft = 2 && g.inWidth ≤ g.padLeft) || (g.modeRight = 2 && g.inWidth ≤ g.padRight) ||
    (g.modeTop = 2 && g.inHeight ≤ g.padTop) || (g.modeBottom = 2 && g.inHeight ≤ g.padBottom)
  k ≤ 13 && g.inFormat ≤ 10 && bits c 190 2 < 2 && bits c 188 2 < 2 && 1 ≤ g.inChannels && g.inChannels ≤ 4096 &&
    1 ≤ g.outChannels && g.outChannels ≤ 4096 && 1 ≤ g.inWidth && g.inWidth ≤ 4096 && 1 ≤ g.inHeight && g.inHeight ≤ 2176 &&
    (!window ||
      (g.kernelW ≠ 0 && g.kernelH ≠ 0 && (k ≠ 8 || (g.kernelW ≤ 7 && g.kernelH ≤ 7)) &&
        (k ≠ 9 || 7 < g.kernelW || 7 < g.kernelH) && !mirror && 1 ≤ (addrOutWidth g) && 1 ≤ (addrOutHeight g) &&
        g.groups ≠ 0 && g.inChannels % g.groups = 0 && g.outChannels % g.groups = 0 && (k = 11 || g.groups = 1) &&
        (k ≠ 10 ||
          (g.kernelW ≤ 8 && g.kernelH ≤ 8 && g.padLeft < g.dilationX * (g.kernelW - 1) + 1 &&
            g.padRight < g.dilationX * (g.kernelW - 1) + 1 && g.padTop < g.dilationY * (g.kernelH - 1) + 1 &&
            g.padBottom < g.dilationY * (g.kernelH - 1) + 1)) &&
        (k ≠ 12 || addrBlocksLegal g) && cfgKind conv = 1 && convChannels conv = g.outChannels)) &&
    (!(k = 10 || k = 13) || g.outChannels = g.inChannels) && 1 ≤ g.stripeCount && g.stripeCount ≤ 64

/-- Whether layer `b` reads what layer `a` of the same stripe count writes: a link of a stripe chain (R331, R332; how a chain is named is
DEDUCED, log entry 29). -/
def chained (a b : Nat) : Bool :=
  8 ≤ cfgKind a && cfgKind a ≤ 13 && 8 ≤ cfgKind b && cfgKind b ≤ 13 && bits a 355 7 = bits b 355 7 && 1 < bits a 355 7 &&
    bits a 188 2 = bits b 190 2 && bits a 64 64 = bits b 192 64

/-- Whether each stripe of `b` reads only rows of its own stripe of `a` and the two beside it (R332). -/
def chainLegal (a b : Nat) : Bool :=
  let ga := addrConfig a
  let gb := addrConfig b
  let n := ga.stripeCount
  let ha := (addrOutHeight ga).toNat
  let hb := (addrOutHeight gb).toNat
  (List.range n).all fun s =>
    let y0 := s * hb / n
    let y1 := (s + 1) * hb / n
    if y1 ≤ y0 then true
    else
      let first := max 0 ((y0 * gb.strideY : Int) - gb.padTop)
      let last := min ((gb.inHeight : Int) - 1) (((y1 - 1) * gb.strideY + (gb.kernelH - 1) * gb.dilationY : Nat) - gb.padTop : Int)
      ((s - 1) * ha / n : Nat) ≤ first && last < (min n (s + 2) * ha / n : Nat)

/-- Bytes that a version places in herd memory: expanded buffers and output tensors there (R321, R324). -/
def herdBytes (c : Nat) : Nat :=
  let g := addrConfig c
  (if g.kind = 9 then
      g.inChannels / max 1 g.groups * g.kernelH * g.kernelW * (addrOutWidth g).toNat * g.expandRows * formatHalves g.inFormat / 2
    else 0) +
    (if bits c 188 2 = 0 then bits c 156 32 * (addrOutHeight g).toNat * g.outChannels else 0)

/-- The address-generator configurations of an image. -/
def addrConfigs (configs : List Nat) : List Nat := configs.filter fun c => 8 ≤ cfgKind c

/-- Whether the configurations of an image keep R304, R318, R321 and R332. -/
def configsLegal (configs : List Nat) : Bool :=
  let numbered := configs.zip (List.range configs.length)
  (numbered.all fun e =>
    let k := cfgKind e.1
    k = 0 || (k = 1 && convLegal e.1) || (k = 2 && e.2 = 0) || (8 ≤ k && addrLegal configs e.1)) &&
    (numbered.all fun a => numbered.all fun b => b.2 ≤ a.2 || !statsOverlap a.1 b.1) &&
    ((addrConfigs configs).all fun a => (addrConfigs configs).all fun b => !chained a b || chainLegal a b)

/-- Whether the legs of an image carry known operations and banks by trigger (R269, R298). -/
def legsLegal (trigger : Nat) (legs : List Nat) : Bool :=
  legs.all fun l =>
    opLegal (legOp l) &&
      (!opScales (legOp l) ||
        match trigger with
        | 2 => legBank l = 2
        | 3 => legBank l = 3
        | _ => legBank l ≤ 1)

/-- Whether a model entry is one that R281 allows. -/
def modelLegal (m : ModelEntry) : Bool := m.bytes % 32 = 0 && m.bytes ≤ 16777216 && m.offset % 32 = 0

/-- The channel list of the outliers of a conversion configuration in its model (R303). -/
def State.outlierList (s : State) (p : Nat) (m : ModelEntry) (c : Nat) : List Nat :=
  (List.range (convOutliers c)).map fun i => leNat (s.readMem p (m.offset + convOutlierAt c + 2 * i) 2)

/-- Whether a list rises strictly. -/
def rising (l : List Nat) : Bool := (l.zip (l.drop 1)).all fun e => e.1 < e.2

/-- Whether the outlier lists of an image rise and name channels of their layers' inputs (R303). -/
def State.outliersLegal (s : State) (p : Nat) (configs : List Nat) (models : List ModelEntry) : Bool :=
  (configs.zip (List.range configs.length)).all fun e =>
    cfgKind e.1 ≠ 1 || convOutliers e.1 = 0 ||
      match models.find? fun m => m.number = convModel e.1 with
      | none => true
      | some m =>
        let l := s.outlierList p m e.1
        rising l && (addrConfigs configs).all fun c => bits c 362 12 ≠ e.2 || l.all (· < bits c 429 13)

/-! Herds of a partition (R263). -/

/-- The herds of a partition that are in service, by position. -/
def State.positions (s : State) (p : Nat) : List Nat :=
  (List.range s.herdCount).filter fun h => s.n (Entry.herdPartition h) = p && s.n (Entry.herdState h) = 1

/-- Position of every herd of a partition, 255 where it has none. -/
def State.showPositions (s : State) (p : Nat) : State :=
  let l := s.positions p
  s.each ((List.range s.herdCount).filter fun h => s.n (Entry.herdPartition h) = p) fun t h =>
    t.setN (Entry.herdPosition h) (if l.contains h then l.findIdx (· = h) else 255)

/-- The user partition on whose herds a slot runs: its owner, or partition k − 119 for a compose slot (R278). -/
def State.slotRunner (s : State) (k : Nat) : Nat := if 120 ≤ k then k - 119 else s.n (Entry.slotPartition k)

/-- The slots that run on the herds of a partition. -/
def State.slotsOf (s : State) (p : Nat) : List Nat := (List.range 128).filter fun k => p ≠ 0 && s.slotRunner k = p

/-- The version of an image for a number of herds: false full, true fallback, none neither (R284, R287). -/
def TableImage.variant (t : TableImage) (herds : Nat) : Option Bool :=
  if herds = 0 then none
  else if t.herdsFull = herds then some false
  else if t.herdsFull = herds + 1 then some true
  else none

/-- The legs that a version takes of a bank on one herd. -/
def TableImage.size (t : TableImage) (fallback : Bool) : Nat := if fallback then t.legsFallback else t.legsFull

/-- The legs in a bank of a partition's herds without those of one slot (R280). -/
def State.bankUsed (s : State) (p k bank : Nat) : Nat :=
  ((s.slotsOf p).filter (· ≠ k)).foldl (fun a j =>
    let r := s.slotRt j
    let of_ := fun (o : Option TableImage) (fb : Bool) =>
      match o with
      | none => 0
      | some t => if t.bank = bank then t.size fb else 0
    let herds := (s.positions p).length
    let next := fun (o : Option TableImage) => of_ o ((o.bind fun t => t.variant herds).getD false)
    a + of_ r.active r.fallback + next r.staged + next r.loading) 0

/-! Pins (R281). -/

/-- Whether a model is pinned: by its list entry or PinOverrides; in safety mode the Safety ones; those of up-scaling tables and of compose
slots. -/
def State.modelPinned (s : State) (k p jobKind : Nat) (m : ModelEntry) : Bool :=
  let l := s.b (Entry.partCachePinOverrides p)
  let named := ((List.range (l.length / 2)).map fun i => field l (2 * i) 2).reverse.find? fun v => v % 2 ^ 15 = m.number
  120 ≤ k || jobKind = 2 || (s.safetyMode && m.safety) ||
    (match named with | some v => 2 ^ 15 ≤ v | none => m.pin)

/-- Herd memory in bytes. -/
def herdMemory : Nat := 25165824

/-- The working area of the herds of a partition: the largest of its active slots (R281), one slot's taken as given. -/
def State.workBytes (s : State) (p k : Nat) (mine : Nat) : Nat :=
  ((s.slotsOf p).filter (· ≠ k)).foldl (fun a j =>
    match (s.slotRt j).active with | none => a | some t => max a t.workBytes) mine

/-- The distinct pinned models of the active slots of a partition, one slot's image taken as given. -/
def State.pinnedModels (s : State) (p k : Nat) (img : TableImage) : List ModelEntry :=
  let of_ := fun (j : Nat) (t : TableImage) => t.models.filter (s.modelPinned j p t.jobKind)
  let others := ((s.slotsOf p).filter (· ≠ k)).flatMap fun j =>
    match (s.slotRt j).active with | none => [] | some t => of_ j t
  (of_ k img ++ others).foldl (fun (acc : List ModelEntry) m =>
    if acc.any fun x => x.number = m.number && x.digest = m.digest then acc else acc ++ [m]) []

/-- Whether the pinned models and the working area leave no room (StageError 4, R281, R321). -/
def State.herdMemoryShort (s : State) (p k : Nat) (img : TableImage) : Bool :=
  let pins := (s.pinnedModels p k img).foldl (fun a m => a + m.bytes) 0
  herdMemory < pins + s.workBytes p k img.workBytes ||
    img.workBytes < (addrConfigs img.configs).foldl (fun a c => a + herdBytes c) 0

/-! The checks of a stage (R280, R287). -/

/-- An image as loaded, in a bank. -/
def tableOf (img : Bytes) (base bank : Nat) (models : List ModelEntry) : TableImage :=
  let h := imageRecord img 0 64
  let configs := imageConfigs img h
  { base := base, length := img.length, herdsFull := hdrHerds h, lanes := hdrLanes h, trigger := hdrTrigger h
    jobKind := hdrJobKind h, legsFull := hdrFull h, legsFallback := hdrFallback h, workBytes := hdrWork h
    annexFull := bits h 320 32, annexFallback := bits h 288 32, version := bits h 256 32, bank := bank
    widenLanes := match configs with
      | c :: _ => if cfgKind c = 2 then some (bits c 502 6) else none
      | [] => none
    bindings := (List.range 64).map fun i => imageRecord img (bits h 224 32 + 16 * i) 16
    configs := configs, models := models
    full := (List.range (hdrHerds h)).map (imageLegs img h false)
    fallback := (List.range (hdrHerds h - 1)).map (imageLegs img h true)
    digest := Config.shake256 img }

/-- The outcome of a stage's checks: a StageError, or the version to load.  The order is that of the list of R287 as far as the image can
be read (log entry 30). -/
def State.stageCheck (s : State) (k : Nat) : Nat × Option TableImage :=
  let p := s.n (Entry.slotPartition k)
  let base := s.n (Entry.slotImageBase k) / 64 * 64
  let length := s.n (Entry.slotImageLength k)
  if !s.partOpen p then (7, none)
  else if !s.inRange p base length then (6, none)
  else if s.readFails p base length then (8, none)
  else
    let img := s.readMem p base length
    let h := imageRecord img 0 64
    if !hdrLegal h || (hdrSections h).any fun e => length < e.1 + e.2 then (1, none)
    else
      let configs := imageConfigs img h
      let models := imageModels img h
      let t := tableOf img base 0 models
      let outside := models.any fun m => !s.inRange p m.offset m.bytes
      if !configsLegal configs || !(t.full ++ t.fallback).all (legsLegal t.trigger) || !models.all modelLegal ||
          (!outside && !s.outliersLegal p configs models) then (1, none)
      else
        let herds := (s.positions p).length
        let r := s.slotRt k
        match t.variant herds with
        | none => (3, none)
        | some fb =>
          let banks := match r.active with | none => [0, 1] | some a => [1 - a.bank]
          match banks.find? fun b => s.bankUsed p k b + t.size fb ≤ 16384 with
          | none => (2, none)
          | some b =>
            if outside then (6, none)
            else if models.any fun m => s.readFails p m.offset m.bytes then (8, none)
            else
              let digested := models.map fun m => { m with digest := Config.shake256 (s.readMem p m.offset m.bytes) }
              let t := { t with bank := b, models := digested }
              if s.herdMemoryShort p k t then (4, none) else (0, some t)

end Sys2Proof.Machine
end

