-- ==== Sys2Proof/Machine/Epochs.lean ====
section
/-! DEFINITION. What an attestation report says of the device and of each partition, and the epochs that count its changes (R395 to R401). -/

namespace Sys2Proof.Machine

open Sys2Proof

/-! The header's fields (R395). -/

/-- Spare kids in use, all herds. -/
def State.sparesUsed (s : State) : Nat := s.herds.herds.foldl (fun a e => a + e.2.swaps.length) 0

/-- The fields of the header that change, other than Nonce and ReportLength: SecurityMode, SafetyMode, DebugOpen, FirmwareState,
DeviceState, HerdsFenced, SparesUsed, UnitsFenced and HerdsSwitched. -/
def State.headerFields (s : State) : List Nat :=
  [s.n Entry.secSecurityMode, s.n Entry.faultSafetyMode, s.n Entry.secDebugState, s.n Entry.secFirmwareState, s.device,
   maskOf ((List.range 8).filter fun h => s.fenced ⟨.herd, h⟩), s.sparesUsed,
   (s.fc.fenced.filter fun u => u.kind ≠ .kid && u.kind ≠ .herd).length, maskOf s.boot.switched]

/-- The digests of the header. -/
def State.headerDigests (s : State) : Bytes × Bytes := (s.security.activeFw, s.security.stagedFw)

/-! A partition's section (R396, R397). -/

/-- The slots that a partition's section covers: 120 to 127 for partition 0. -/
def State.sectionSlots (s : State) (p : Nat) : List Nat :=
  if p = 0 then (List.range 8).map (120 + ·) else (List.range 120).filter fun k => s.n (Entry.slotPartition k) = p

/-- Herds of a partition under reset, or all of its herds while a slot is reloaded for a change of herd count (R284, R401). -/
def State.resettingHerds (s : State) (p : Nat) : List Nat :=
  if p = 0 then []
  else
    let own := (List.range s.herdCount).filter fun h => s.n (Entry.herdPartition h) = p
    if (s.sectionSlots p).any fun k => ((s.slotRt k).reload).isSome then own
    else own.filter fun h => s.n (Entry.herdState h) = 2

/-- The State field of a section: the partition's state, 5 RESETTING while herds reset or slots are reloaded (R401). -/
def State.sectionState (s : State) (p : Nat) : Nat :=
  if p = 0 then 2
  else
    let st := s.partState p
    if (st = 2 || st = 3) && !(s.resettingHerds p).isEmpty then 5 else st

/-- An entry of a section (R397). -/
structure SectionEntry where
  kind    : Nat
  index   : Nat
  version : Nat
  digest  : Bytes
deriving DecidableEq, Repr

/-- Bytes as a number, the first byte most significant: the order of digests. -/
def beNat (b : Bytes) : Nat := b.foldl (fun a x => 256 * a + x.toNat) 0

/-- Kind 1 entries: the active slots, ascending. -/
def State.tableEntries (s : State) (p : Nat) : List SectionEntry :=
  (s.sectionSlots p).filterMap fun k => ((s.slotRt k).active).map fun t => ⟨1, k, t.version, t.digest⟩

/-- Kind 2 entries: the distinct models of those slots by number, then by digest. -/
def State.modelEntries (s : State) (p : Nat) : List SectionEntry :=
  let all := (s.sectionSlots p).flatMap fun k =>
    match (s.slotRt k).active with
    | none => []
    | some t => t.models.map fun m => (⟨2, m.number, 0, m.digest⟩ : SectionEntry)
  sortBy (fun e : SectionEntry => ((e.index * 2 ^ 512 + beNat e.digest : Nat) : Int)) all.eraseDups

/-- Kind 3 entries: the streams that hold adaptation state, ascending, each with its active version (R347, R348). -/
def State.adaptEntries (s : State) (p : Nat) : List SectionEntry :=
  (List.range 512).filterMap fun i =>
    match Assoc.find (s.adaptPart p).streams i with
    | none => none
    | some a => if a.slots.isEmpty then none else some ⟨3, i, a.version, if a.activeSlot = 0 then [] else a.digests.getD (a.activeSlot - 1) []⟩

/-- The entries of a section in order; none in STARTING and SCRUBBING, Kind 1 alone in RESETTING (R401). -/
def State.sectionEntries (s : State) (p : Nat) : List SectionEntry :=
  let st := s.sectionState p
  if st = 1 || st = 4 then []
  else if st = 5 then s.tableEntries p
  else s.tableEntries p ++ s.modelEntries p ++ s.adaptEntries p

/-- The numbers of a section's header that change: State, HerdMask, PortMask, MemoryBase, MemorySize, ResettingHerds (R396). -/
def State.sectionFields (s : State) (p : Nat) : List Nat :=
  let o := (s.partRt p).owned
  let f := fun (g : Owned → Nat) => (o.map g).getD 0
  [s.sectionState p, if p = 0 then 0 else f fun w => maskOf w.herds, if p = 0 then 0 else f fun w => maskOf w.ports,
   if p = 0 then 0 else f Owned.memBase, if p = 0 then 8 else f Owned.memSize, maskOf (s.resettingHerds p)]

/-- Whether ConfigDigest covers a key: an RW or RWP entry (R396). -/
def State.digested (s : State) (k : Nat) : Bool :=
  match s.row k with
  | some r => r.acc == .rw || r.acc == .rwp
  | none => false

/-- Whether a partition owns a digested entry whose value differs between two states. -/
def State.configChanged (s t : State) (p : Nat) : Bool :=
  (t.dict.any fun e => s.raw e.1 ≠ t.raw e.1 && t.digested e.1 && t.ownerOf e.1 = p) ||
    s.dict.any fun e => s.raw e.1 ≠ t.raw e.1 && s.digested e.1 && s.ownerOf e.1 = p

/-- Whether what some user partition owns differs, so that entries of partition 0 changed hands. -/
def State.handsChanged (s t : State) : Bool :=
  [1, 2, 3, 4, 5, 6, 7, 8].any fun p => (s.partRt p).owned ≠ (t.partRt p).owned

/-- Whether a partition's section differs between two states; its ConfigDigest is zeros in STARTING and SCRUBBING, and a partition that
is OFF has no section (R394, R401). -/
def State.sectionChanged (s t : State) (p : Nat) : Bool :=
  let st := t.sectionState p
  s.sectionFields p ≠ t.sectionFields p || s.sectionEntries p ≠ t.sectionEntries p ||
    (p = 0 && s.handsChanged t) || ((p = 0 || (st ≠ 0 && st ≠ 1 && st ≠ 4)) && s.configChanged t p)

/-! The epochs. -/

/-- The epoch of a partition. -/
def State.epochOf (s : State) (p : Nat) : Nat := Assoc.get s.security.partEpochs p 0

/-- `t` with the epochs of what a command changed since `s` advanced by 1; a device that is OFF has none (R395; log entry 35). -/
def State.seal (s t : State) : State :=
  let moved := if t.isOff then [] else (List.range 9).filter fun p => s.sectionChanged t p
  { t with
    security := { t.security with
      epoch := if !t.isOff && (s.headerFields ≠ t.headerFields || s.headerDigests ≠ t.headerDigests) then
          (t.security.epoch + 1) % 2 ^ 32 else t.security.epoch
      partEpochs := moved.foldl (fun l p => Assoc.put l p ((Assoc.get l p 0 + 1) % 2 ^ 32)) t.security.partEpochs } }

end Sys2Proof.Machine
end

