-- ==== Sys2Proof/Machine/Answer.lean ====
section
/-! DEFINITION. The outcomes of commands: a next state with the epochs of what changed.  A command that names a unit which the
part does not have changes nothing (R1, R2). -/

namespace Sys2Proof.Machine

open Sys2Proof

/-- The outcome of a command. -/
abbrev Answer := Host.Outcome State Fault Refusal

/-- The outcome of a command that leads to `t`. -/
def State.answer (s t : State) : Answer := .next (s.seal t)

/-- The outcome of a command that names a herd: none on a herd that the part does not have, whose record is absent (R2) and of which
no event comes (DEDUCED, log entry 83). -/
def State.onHerd (s : State) (h : Nat) (t : State) : Answer := s.answer (if h < s.herdCount then t else s)

/-- The outcome of a command that names a raster port, in the same way. -/
def State.onPort (s : State) (n : Nat) (t : State) : Answer := s.answer (if n < s.portCount then t else s)

end Sys2Proof.Machine
end

