-- ==== Sys2Proof/Machine/Slots.lean ====
section
/-! DEFINITION. Relay table slots: staging, live swap, the model cache, scale banks, laps, widening and the statistics window
(R272 to R289, R298, R306 to R309). -/

namespace Sys2Proof.Machine

open Sys2Proof

/-! Versions (R280, R284, R289). -/

/-- The entries of a slot by its active version (R289). -/
def State.showSlot (s : State) (k : Nat) : State :=
  let r := s.slotRt k
  match r.active with
  | none =>
    (((s.zero [Entry.slotActiveVersion k, Entry.slotLanes k, Entry.slotTrigger k, Entry.slotFallback k,
      Entry.slotAnnexBound k, Entry.slotJobKind k]).setB (Entry.slotTableDigest k) (zeros 64))).setN (Entry.slotState k) 0
  | some t =>
    let u := ((s.setN (Entry.slotActiveVersion k) t.version).setB (Entry.slotTableDigest k) t.digest).setN
      (Entry.slotLanes k) t.lanes
    let u := ((u.setN (Entry.slotTrigger k) t.trigger).setN (Entry.slotJobKind k) t.jobKind).setN
      (Entry.slotAnnexBound k) (if r.fallback then t.annexFallback else t.annexFull)
    (u.setN (Entry.slotFallback k) (ofBool r.fallback)).setN (Entry.slotState k) 1

/-- Whether an active slot of a partition lists a model that a herd holds (R281). -/
def State.modelListed (s : State) (p : Nat) (c : CachedModel) : Bool :=
  (s.slotsOf p).any fun k => (((s.slotRt k).active.map TableImage.models).getD []).any fun m =>
    c.partition = p && c.number = m.number && c.digest = m.digest

/-- WorkBytes, the cache's room and the named accumulators of the herds of a partition, by the active slots; a pinned model that none of them
lists any more is pinned no longer (R281, R288, R314). -/
def State.showHerds (s : State) (p : Nat) : State :=
  let work := s.workBytes p 128 0
  let named := ((s.slotsOf p).flatMap fun k => match (s.slotRt k).active with | none => [] | some t => t.configs).foldl
    (fun a c => if cfgKind c = 1 && convStats c then a + convChannels c else a) 0
  s.each ((List.range s.herdCount).filter fun h => s.n (Entry.herdPartition h) = p) fun t h =>
    let c := (t.herdRt h).cache.map fun (x : CachedModel) =>
      { x with pinned := x.pinned && (x.partition ≠ p || t.modelListed p x) }
    let t := t.setHerdRt h { t.herdRt h with cache := c }
    let t := (t.setN (Entry.herdWorkBytes h) work).setN (Entry.cacheCacheBytes h) (herdMemory - work)
    let t := t.setN (Entry.herdArithStatsChannelsUsed h) (min 4096 named)
    let t := t.setN (Entry.cachePinnedBytes h) ((c.filter CachedModel.pinned).foldl (fun a m => a + m.bytes) 0)
    (t.setN (Entry.cacheResidentBytes h) (c.foldl (fun a m => a + m.bytes) 0)).setN (Entry.cacheResidentModels h) c.length

/-- The staged version made active (R280 step 4). -/
def State.swapIn (s : State) (k : Nat) : State :=
  let r := s.slotRt k
  match r.staged with
  | none => s
  | some t =>
    let p := s.slotRunner k
    let fb := (t.variant (s.positions p).length).getD r.fallback
    let u := s.setSlotRt k { r with active := some t, staged := none, fallback := fb, reload := none }
    let u := u.setN (Entry.slotStageState k) 0
    let u := if r.active.isNone then
        u.zero [Entry.slotLaps k, Entry.slotLapsAbandoned k, Entry.slotLapMax k, Entry.slotLapOverruns k]
      else u
    (u.showSlot k).showHerds p

/-- A slot emptied: its versions freed, its ring jobs abandoned with cause 7 (R280 step 5). -/
def State.emptySlot (s : State) (k : Nat) : State :=
  let r := s.slotRt k
  let p := s.slotRunner k
  let t := s.setSlotRt k { laps := r.laps }
  let t := (t.setN (Entry.slotStageState k) 0).showSlot k
  (t.endJobs (fun j => j.kind = 1 && j.slot = k) 7).showHerds p

/-- A write of 1 to Stage (R280 steps 1 and 2, R287). -/
def State.stageSlot (s : State) (k : Nat) : State :=
  if 120 ≤ k then s
  else
    let r := s.slotRt k
    match s.stageCheck k with
    | (_, some t) =>
      let u := s.setSlotRt k { r with staged := none, loading := some t }
      (u.setN (Entry.slotStageState k) 1).setN (Entry.slotStageError k) 0
    | (e, none) =>
      let u := s.setSlotRt k { r with staged := none, loading := none }
      let u := if e = 4 then u.bump (Entry.partCachePinRefused (s.n (Entry.slotPartition k))) else u
      (u.setN (Entry.slotStageState k) 3).setN (Entry.slotStageError k) e

/-- The end of a load (R280 steps 3 and 4): the version waits for the lap boundary, or becomes active at once in an EMPTY slot. -/
def State.stageLoaded (s : State) (k : Nat) : State :=
  let r := s.slotRt k
  match r.loading with
  | none => s
  | some t =>
    let u := (s.setSlotRt k { r with staged := some t, loading := none }).setN (Entry.slotStageState k) 2
    if r.active.isNone then u.swapIn k else u

/-- A write of 1 to Unload (R280 step 5): at the next lap boundary; an EMPTY slot drops the version that loads or waits
(DEDUCED, log entry 67). -/
def State.unloadSlot (s : State) (k : Nat) : State :=
  if 120 ≤ k then s
  else
    let r := s.slotRt k
    if r.active.isNone then s.emptySlot k else s.setSlotRt k { r with unload := true }

/-! Another herd count (R284). -/

/-- A change of the herds in service of a partition: positions given anew, staged and loading versions discarded with StageError 5,
each slot's version for the new count loaded; laps are abandoned where a herd was lost (R284 steps 1, 2 and 5). -/
def State.herdsChanged (s : State) (p : Nat) (lost : Bool) : State :=
  let t := s.showPositions p
  let herds := (t.positions p).length
  t.each (t.slotsOf p) fun t k =>
    let t := if lost then t.abandonLap k else t
    let r := t.slotRt k
    let dropped := r.staged.isSome || r.loading.isSome
    let reload := match r.active with
      | none => none
      | some a =>
        match a.variant herds with
        | none => none
        | some v => if v = r.fallback then none else some (v, false)
    let t := t.setSlotRt k { r with staged := none, loading := none, reload := reload }
    if dropped then (t.setN (Entry.slotStageState k) 3).setN (Entry.slotStageError k) 5 else t

/-- A loaded version of another count made active in the other bank. -/
def State.applyReload (s : State) (k : Nat) (fb : Bool) : State :=
  let r := s.slotRt k
  (s.setSlotRt k { r with
    fallback := fb, reload := none
    active := r.active.map fun (t : TableImage) => { t with bank := 1 - t.bank } }).showSlot k

/-- The load for another herd count ends (R284 steps 3 and 5): fallback versions become active for every slot together, full ones wait
for the lap boundary of each slot. -/
def State.reloadDone (s : State) (p : Nat) : State :=
  s.each (s.slotsOf p) fun t k =>
    match (t.slotRt k).reload with
    | some (true, false) => t.applyReload k true
    | some (false, false) =>
      t.setSlotRt k { t.slotRt k with reload := some (false, true) }
    | _ => t

/-! Models (R281, R282). -/

/-- The model to evict: not pinned, least recently used, then the lowest number. -/
def victim (l : List CachedModel) : Option CachedModel :=
  minBy (fun (m : CachedModel) => ((m.lastUse * 32768 + m.number : Nat) : Int)) (l.filter fun m => !m.pinned)

/-- A cache with room made for `n` bytes, and how many models left it. -/
def makeRoom (capacity n : Nat) (fuel : Nat) (l : List CachedModel) : List CachedModel × Nat :=
  match fuel with
  | 0 => (l, 0)
  | f + 1 =>
    if l.foldl (fun a m => a + m.bytes) 0 + n ≤ capacity then (l, 0)
    else
      match victim l with
      | none => (l, 0)
      | some v =>
        let (r, e) := makeRoom capacity n f (l.filter fun m => m ≠ v)
        (r, e + 1)

/-- One listed model made resident on a herd: used, or loaded as a miss (R281, R282). -/
def State.useModel (s : State) (p h : Nat) (pin : Bool) (m : ModelEntry) : State :=
  let r := s.herdRt h
  let same := fun (c : CachedModel) => c.partition = p && c.number = m.number && c.digest = m.digest
  if r.cache.any same then
    s.setHerdRt h { r with
      cache := r.cache.map fun (c : CachedModel) => if same c then { c with lastUse := r.useClock, pinned := pin } else c }
  else
    let (kept, gone) := makeRoom (herdMemory - s.n (Entry.herdWorkBytes h)) m.bytes (r.cache.length + 1) r.cache
    let c : CachedModel :=
      { partition := p, number := m.number, digest := m.digest, bytes := m.bytes, pinned := pin, lastUse := r.useClock
        data := s.readMem p m.offset m.bytes }
    let t := s.setHerdRt h { r with cache := kept ++ [c] }
    ((t.bump (Entry.cacheMisses h)).add (Entry.cacheEvictions h) gone)

/-- The models of a slot made resident on every herd of its partition at a lap start: misses in list order, counted on herds and
partition (R282); the time that they take is a free value (log entry 105). -/
def State.makeResident (s : State) (k p : Nat) (t : TableImage) : State :=
  let herds := s.positions p
  let missing := t.models.filter fun m => herds.any fun h =>
    !(s.herdRt h).cache.any fun c => c.partition = p && c.number = m.number && c.digest = m.digest
  let u := s.each herds fun u h =>
    let u := u.setHerdRt h { u.herdRt h with useClock := (u.herdRt h).useClock + 1 }
    u.each t.models fun u m => u.useModel p h (u.modelPinned k p t.jobKind m) m
  let u := (u.add (Entry.partCacheMisses p) missing.length).add (Entry.partCacheMissBytes p)
    (missing.foldl (fun a m => a + m.bytes) 0)
  let (i, v) := u.drawFree
  let u := if missing.isEmpty then u else v.add (Entry.partCacheMissTime p) (Config.freeValue i 16).toNat
  u.showHerds p

/-- Whether a model that a lap must load cannot be read (R276, R282, R312). -/
def State.modelsUnreadable (s : State) (p : Nat) (t : TableImage) : Bool :=
  (t.models.filter fun m => (s.positions p).any fun h =>
    !(s.herdRt h).cache.any fun c => c.partition = p && c.number = m.number && c.digest = m.digest).any fun m =>
      s.readFails p m.offset m.bytes

/-! Scale banks (R298). -/

/-- The conversion configuration that a leg's configuration leads to. -/
def TableImage.convOf (t : TableImage) (leg : Nat) : Option Nat :=
  let c := t.configs.getD (legConfig leg) 0
  if cfgKind c = 1 then some c
  else if 8 ≤ cfgKind c then
    let d := t.configs.getD (bits c 362 12) 0
    if cfgKind d = 1 then some d else none
  else none

/-- The bank of a leg reloaded from the resident model where its tag differs (R298). -/
def State.reloadBank (s : State) (p h : Nat) (t : TableImage) (leg : Nat) : State :=
  if !opScales (legOp leg) then s
  else
    match t.convOf leg with
    | none => s
    | some c =>
      let r := s.herdRt h
      let bank := legBank leg
      if r.banks.any fun b => b.bank = bank && b.partition = p && b.model = convModel c && b.offset = convScaleAt c then s
      else
        let data := match r.cache.find? fun m => m.partition = p && m.number = convModel c &&
            t.models.any fun e => e.number = m.number && e.digest = m.digest with
          | none => []
          | some m => slice m.data (convScaleAt c) 4096
        let b : ScaleBank := { bank := bank, partition := p, model := convModel c, offset := convScaleAt c, data := data }
        s.setHerdRt h { r with
          banks := r.banks.filter (fun x => x.bank ≠ bank) ++ [b], reloadsLow := r.reloadsLow + 1 }

/-- The legs of a herd position of the version in use. -/
def SlotRt.legs (r : SlotRt) (pos : Nat) : List Nat :=
  match r.active with
  | none => []
  | some t => (if r.fallback then t.fallback else t.full).getD pos []

/-- The reloads of a lap's legs, up to END, on every herd. -/
def State.reloadBanks (s : State) (k p : Nat) (t : TableImage) : State :=
  let herds := s.positions p
  s.each (herds.zip (List.range herds.length)) fun u e =>
    u.each (((u.slotRt k).legs e.2).takeWhile fun l => legOp l ≠ 0xE5) fun u l => u.reloadBank p e.1 t l

/-! Laps (R272, R273, R278, R373). -/

/-- Whether the tile units wait for colours of a shading table: pixels of batches that name the slot (R206, R211). -/
def State.shadePending (s : State) (k : Nat) : Bool :=
  s.raster.passes.any fun q => q.running.any fun r => r.pixels.any fun x => bits (q.batchOf x.seq) 264 8 = k

/-- The ring jobs that a lap of a slot would take: neither held nor beyond the widening budget, up to the lanes (R210, R273, R308). -/
def State.ringBatch (s : State) (k : Nat) (t : TableImage) : List RingJob :=
  let l := (s.slotQueue k).filter fun j => !j.held
  let wide := (l.filter fun j => j.widened.isSome).take (t.widenLanes.getD 0)
  (wide ++ l.filter fun j => j.widened.isNone).take t.lanes

/-- The generation or up-scaling jobs that a lap would take (R147, R308). -/
def State.genBatch (s : State) (p : Nat) (t : TableImage) : List GenJob :=
  let l := s.batch p t.jobKind t.digest
  let wide := (l.filter fun j => j.widened.isSome).take (t.widenLanes.getD 0)
  (wide ++ l.filter fun j => j.widened.isNone).take t.lanes

/-- The widened jobs that wait for a later lap (R308). -/
def State.widenWaits (s : State) (k p : Nat) (t : TableImage) : Nat :=
  let n := if t.jobKind = 0 then (((s.slotQueue k).filter fun j => !j.held).filter fun j => j.widened.isSome).length
    else ((s.batch p t.jobKind t.digest).filter fun j => j.widened.isSome).length
  n - t.widenLanes.getD 0

/-- Whether a slot's version fits its partition's herds and no change of version is loading (R284, R286). -/
def State.slotReady (s : State) (k : Nat) : Bool :=
  let r := s.slotRt k
  match r.active with
  | none => false
  | some t => t.variant (s.positions (s.slotRunner k)).length = some r.fallback || r.reload = some (false, false) ||
      r.reload = some (false, true)

/-- The open window of a partition that names a slot. -/
def State.windowFor (s : State) (p k : Nat) : Option OpenWindow :=
  (s.partRt p).windows.find? fun w => w.slots.contains k

/-- The lane record of a ring job (R366) or of a generation or up-scaling job (log entry 99). -/
def State.laneRecord (s : State) (jobKind id : Nat) : LaneRecord :=
  if jobKind = 0 then
    match s.ringJob? id with
    | none => {}
    | some j => { job := j.number, param := j.param, inputBase := j.a, outputBase := j.b, maskBase := j.c }
  else
    match s.job? id with
    | none => {}
    | some j =>
      let masks := !j.inputs.mask.isEmpty || j.inputs.alignment.any fun l => l.contains .masked
      { job := id % 2 ^ 24, param := Config.laneField j.inputs 1, inputBase := Config.laneField j.inputs 2
        outputBase := Config.laneField j.inputs 3, maskBase := if masks then Config.laneField j.inputs 4 else 0 }

/-- The bytes of a mask bitmap of a version: one bit for each part of each masked leg (R273). -/
def State.maskBytes (s : State) (k p : Nat) : Nat :=
  divCeil (((List.range (s.positions p).length).map fun pos => legParts ((s.slotRt k).legs pos)).foldl (· + ·) 0) 8

/-- The mask bitmap that a lane record names, read at lap start; none where it names none (R273). -/
def State.laneMask (s : State) (k p jobKind id : Nat) (r : LaneRecord) : Bytes :=
  if r.maskBase = 0 then []
  else if jobKind = 0 then s.readMem p r.maskBase (s.maskBytes k p)
  else
    match s.job? id with
    | none => []
    | some j => (List.range (s.maskBytes k p)).map fun i =>
        BitVec.ofNat 8 (maskOf ((List.range 8).filter fun b => Config.laneMask j.inputs (8 * i + b)))

/-- The rank of a trigger among the work of a herd: compose, then windows, then asynchronous tables (R211). -/
def triggerRank (trigger : Nat) : Nat := match trigger with | 3 => 0 | 2 => 2 | _ => 1

/-- Laps of lower rank that the start of a lap pre-empts on every herd of the partition: those that no running lap held back before (R211,
R278, R288; log entry 106). -/
def State.preempt (s : State) (k p : Nat) : State :=
  let rank := fun (j : Nat) => triggerRank (((s.slotRt j).active.map TableImage.trigger).getD 0)
  let running := (s.slotsOf p).filter fun j => j ≠ k && (s.slotRt j).lap.isSome
  let hit := running.filter fun j => rank k < rank j && !running.any fun i => rank i < rank j
  s.each (s.positions p) fun t h => t.add (Entry.herdPreemptions h) hit.length

/-- The layer from which a job is widened, latched at lap start (R307). -/
def State.widenedFrom (s : State) (kind id : Nat) : Option Nat :=
  if kind = 0 then (s.ringJob? id).bind RingJob.widened else (s.job? id).bind GenJob.widened

/-- A lap begun (R272, R273, R282): its number, its lanes with their records and masks, models resident, banks loaded; with unreadable data
it is abandoned at once (R276). -/
def State.beginLap (s : State) (k : Nat) (t : TableImage) (lanes : List Nat) (window : Option Nat) (port : Nat) : State :=
  let p := s.slotRunner k
  let r := s.slotRt k
  let records := lanes.map (s.laneRecord t.jobKind)
  let masks := (lanes.zip records).map fun e => s.laneMask k p t.jobKind e.1 e.2
  let bad := s.modelsUnreadable p t ||
    (t.jobKind = 0 && records.any fun r => r.maskBase ≠ 0 && s.readFails p r.maskBase (s.maskBytes k p))
  let u := (s.makeResident k p t).reloadBanks k p t
  let u := u.add (Entry.partArithWidenDeferred p) (s.widenWaits k p t)
  let l : Lap := { number := (r.laps + 1) % 2 ^ 32, lanes := lanes, window := window, port := port, abandoned := bad
                   records := records, masks := masks, widened := lanes.map (s.widenedFrom t.jobKind) }
  let u := (u.preempt k p).setSlotRt k { u.slotRt k with laps := r.laps + 1, lap := some l }
  match window with
  | none => u
  | some w =>
    u.setPartRt p { u.partRt p with
      windows := (u.partRt p).windows.map fun (x : OpenWindow) =>
        if x.number = w then { x with laps := x.laps + 1, done := if t.trigger = 0 then k :: x.done else x.done } else x }

/-- What a slot does before a lap: a staged version swaps in, a loaded full version becomes active (R272, R280, R284). -/
def State.beforeLap (s : State) (k : Nat) : State :=
  let r := s.slotRt k
  if r.lap.isSome then s
  else if r.staged.isSome then s.swapIn k
  else if r.reload = some (false, true) then s.applyReload k false
  else s

/-- Whether the lines left in a window hold the AnnexBound of a slot, in lines of the anchor port (R28, R373). -/
def State.annexFits (s : State) (k p lines : Nat) : Bool :=
  match s.anchorPort p with
  | none => false
  | some n => (s.timing n).lines (s.n (Entry.slotAnnexBound k)) 100000000 ≤ lines

/-- Whether laps of a slot may start: its units run, its partition is STARTING or LIVE, no lap of it runs (R272, R33). -/
def State.lapAllowed (s : State) (k : Nat) : Bool :=
  s.running && s.partOpen (s.slotRunner k) && (s.slotRt k).lap.isNone && (s.slotRt k).active.isSome &&
    !(s.positions (s.slotRunner k)).isEmpty

/-- The start of a lap of a table of ring, generation, up-scaling or compose jobs, where its trigger asks for one; in a window the lines left
must hold the lap's AnnexBound (R278, R373). -/
def State.lapStarts (s : State) (k lines : Nat) : State :=
  let t := s.beforeLap k
  let p := t.slotRunner k
  if !s.lapAllowed k || !t.slotReady k then s
  else
    match (t.slotRt k).active with
    | none => s
    | some img =>
      let win := t.windowFor p k
      let gen := img.jobKind = 1 || img.jobKind = 2
      let ring := t.ringBatch k img
      let jobs := t.genBatch p img
      let lanes := if img.jobKind = 0 then ring.map RingJob.id else if gen then jobs.map GenJob.id else []
      let due := match img.trigger with
        | 0 => (match win with | none => false | some w => !w.done.contains k)
        | 1 => win.isSome && !lanes.isEmpty && t.annexFits k p lines
        | 2 => !lanes.isEmpty || t.shadePending k
        | _ => !(t.partRt p).portsDue.isEmpty
      if !due then s
      else
        let port := (t.partRt p).portsDue.headD 0
        let u := t.beginLap k img lanes (if img.trigger ≤ 1 then win.map OpenWindow.number else none) port
        let u := if img.trigger = 3 then
            u.setPartRt p { u.partRt p with portsDue := (u.partRt p).portsDue.drop 1 } else u
        if gen then u.takeJobs k img.digest jobs
        else
          { u with jobs := u.jobs.map fun (j : RingJob) => if lanes.contains j.id then { j with inLap := true } else j }

/-! Sequencer legs (R269). -/

/-- What a sequencer leg of a position does to the lap: nothing unless a lap runs, it is not abandoned, and the position has not ended;
where the position's legs are known, one of them must be the leg (compose tables come from firmware and are not known). -/
def State.withLeg (s : State) (k pos op : Nat) (fits : Nat → Bool) (f : Lap → Lap) : State :=
  let r := s.slotRt k
  match r.lap with
  | none => s
  | some l =>
    let legs := r.legs pos
    if l.abandoned || l.ended.contains pos || (s.positions (s.slotRunner k)).length ≤ pos ||
        !(legs.isEmpty || legs.any fun x => legOp x = op && fits x) then s
    else s.setSlotRt k { r with lap := some (f l) }

/-! Widening (R306 to R308). -/

/-- The sums of a lane's layer over the units, in ascending herd and kid: error and square. -/
def Lap.layerSums (l : Lap) (lane layer : Nat) : Nat × Nat :=
  let mine := sortBy (fun (x : LapSum) => ((x.herd * 4096 + x.kid : Nat) : Int))
    (l.sums.filter fun x => x.lane = lane && x.layer = layer)
  (f32Sum (mine.map LapSum.err), f32Sum (mine.map LapSum.sq))

/-- The error ratio of a lane's layer (R306). -/
def Lap.ratio (l : Lap) (lane layer : Nat) : Nat :=
  let (e, q) := l.layerSums lane layer
  if f32Eq q f32Zero then f32Zero else f32Div e q

/-- The lowest layer of a lane that exceeds its threshold (R307). -/
def Lap.exceeds (l : Lap) (lane : Nat) : Option Nat :=
  let layers := ((l.sums.filter fun x => x.lane = lane && x.widenable && f32Lt f32Zero x.threshold).filter fun x =>
    f32Lt x.threshold (l.ratio lane x.layer)).map LapSum.layer
  minBy (fun (n : Nat) => (n : Int)) layers

/-- Whether jobs are held for widening: WidenEnable, taken as 1 in safety mode (R313). -/
def State.widens (s : State) : Bool := s.on Entry.arithWidenEnable || s.safetyMode

/-! The statistics window (R309). -/

/-- The window's settings, taken at its first lap. -/
def State.statsLatch (s : State) (p : Nat) : StatsWindow :=
  let w := (s.partRt p).stats
  if w.done = 0 then
    let laps := s.n (Entry.partArithStatsWindow p)
    { w with
      slot := s.n (Entry.partArithStatsSlot p), layer := s.n (Entry.partArithStatsLayer p)
      laps := if laps = 0 then s.n Entry.arithStatsWindowDefault else laps }
  else w

/-- Channel sums added to the accumulators of a herd. -/
def addChannel (l : List (Nat × Nat × Nat × Nat)) (c e q n : Nat) : List (Nat × Nat × Nat × Nat) :=
  if l.any fun x => x.1 = c then
    l.map fun x => if x.1 = c then (c, f32Add x.2.1 e, f32Add x.2.2.1 q, x.2.2.2 + n) else x
  else l ++ [(c, e, q, n)]

/-- The sums of a channel over the herds of a partition in ascending position: error, square, count. -/
def State.channelSums (s : State) (p c : Nat) : Nat × Nat × Nat :=
  let l := (s.positions p).filterMap fun h => (s.herdRt h).stats.find? fun x => x.1 = c
  (f32Sum (l.map fun x => x.2.1), f32Sum (l.map fun x => x.2.2.1), l.foldl (fun a x => a + x.2.2.2) 0)

/-- The end of a window: the sums published and every accumulator of the partition cleared (R309, R315). -/
def State.publishStats (s : State) (p : Nat) (w : StatsWindow) : State :=
  let conv := match (s.slotRt w.slot).active with
    | none => none
    | some t => t.configs.find? fun c => cfgKind c = 1 && !convWide c && convLayer c = w.layer
  let sums := match conv with
    | none => []
    | some c => (List.range (convChannels c)).map fun i => s.channelSums p (convStatsBase c + i)
  let mse := sums.map fun e => if e.2.2 = 0 then f32Zero else f32Div e.1 (f32OfInt e.2.2)
  let err := f32Sum (sums.map Prod.fst)
  let sq := f32Sum (sums.map fun e => e.2.1)
  let n := sums.foldl (fun a e => a + e.2.2) 0
  let t := s.setN (Entry.partArithWindowLaps p) w.laps
  let t := t.setN (Entry.partArithLayerMse p) (if n = 0 then f32Zero else f32Div err (f32OfInt n))
  let t := t.setN (Entry.partArithLayerRatio p) (if f32Eq sq f32Zero then f32Zero else f32Div err sq)
  let t := t.setB (Entry.partArithChannelMse p) (joinBytes (mse.map (leBytes 4)))
  let t := t.setN (Entry.partArithWidenedLayers p) (maskOf w.widened)
  let t := t.each (t.positions p) fun t h => t.setHerdRt h { t.herdRt h with stats := [] }
  t.setPartRt p { t.partRt p with stats := {} }

/-- A completed lap counted into the window of its partition (R309). -/
def State.countStats (s : State) (p k : Nat) (l : Lap) (widened : List Nat) : State :=
  let w := s.statsLatch p
  if w.slot ≠ k || p = 0 then s
  else
    let t := s.each l.channels fun t e =>
      t.setHerdRt e.1 { t.herdRt e.1 with stats := addChannel (t.herdRt e.1).stats e.2.1 e.2.2.1 e.2.2.2.1 e.2.2.2.2 }
    let w := { w with done := w.done + 1, widened := w.widened ++ widened }
    let t := t.setPartRt p { t.partRt p with stats := w }
    if w.laps ≤ w.done then t.publishStats p w else t

/-! The lap boundary (R272, R276, R287, R307, R387). -/

/-- A counter in units of 65,536 brought up to date at a lap boundary: the whole units of `low` added, the rest kept. -/
def State.addUnits (s : State) (k low : Nat) : State × Nat := (s.add k (low / 65536), low % 65536)

/-- The counters of a partition's herds that change at lap boundaries (R288, R314, R315, R387) (DEDUCED, log entry 55). -/
def State.flushUnits (s : State) (p : Nat) : State :=
  let t := s.each (s.positions p) fun t h =>
    let r := t.herdRt h
    let (t, b) := t.addUnits (Entry.herdBatonsIssued h) r.batonsLow
    let (t, l) := t.addUnits (Entry.herdArithScaleReloads h) r.reloadsLow
    let (t, q) := t.addUnits (Entry.herdArithSaturations h) r.satLow
    t.setHerdRt h { t.herdRt h with batonsLow := b, reloadsLow := l, satLow := q }
  let (t, q) := t.addUnits (Entry.partArithSaturations p) (t.partRt p).satLow
  let t := t.setPartRt p { t.partRt p with satLow := q }
  let (t, g) := t.addUnits Entry.arithSaturationsTotal t.herds.satLow
  { t with herds := { t.herds with satLow := g } }

/-- A queue with other batons: the first two are in its slots. -/
def Queue.refill (q : Queue) (l : List Baton) : Queue := { q with batons := l.take 2, waiting := l.drop 2 }

/-- A baton counted as abandoned by the herd that sent it (R288). -/
def State.countAbandoned (s : State) (b : Baton) : State :=
  let h := (b.srcStation.toNat - 0x2000) / 16
  if 0x2000 ≤ b.srcStation.toNat && b.srcStation.toNat < 0x2080 then s.bump (Entry.herdBatonsAbandoned h) else s

/-- The batons of a lap that are still queued leave their queues, abandoned (R276, R336). -/
def State.purgeBatons (s : State) (k number : Nat) : State :=
  let mine := fun (b : Baton) => b.slot.toNat = k && b.lap.toNat = number
  let gone := s.herds.queues.flatMap fun q => (q.batons ++ q.waiting).filter mine
  let t := { s with herds := { s.herds with
    queues := s.herds.queues.map fun (q : Queue) => q.refill ((q.batons ++ q.waiting).filter fun b => !mine b) } }
  t.each gone State.countAbandoned

/-- A baton whose handshake failed is abandoned, and with it the lap that sent it (R26, R276). -/
def State.abandonBaton (s : State) (b : Baton) : State :=
  let held := s.herds.queues.any fun q => (q.batons ++ q.waiting).contains b
  let t := { s with herds := { s.herds with
    queues := s.herds.queues.map fun (q : Queue) => q.refill ((q.batons ++ q.waiting).erase b) } }
  let k := b.slot.toNat
  let r := t.slotRt k
  let t := match r.lap with
    | none => t
    | some l =>
      if held && l.number = b.lap.toNat then t.setSlotRt k { r with lap := some { l with inFlight := l.inFlight - 1 } } else t
  (t.countAbandoned b).abandonLap k

/-- The jobs of an abandoned lap pending again (R147, R276). -/
def State.reissueJobs (s : State) (k : Nat) (l : Lap) : State :=
  let t := { s with jobs := s.jobs.map fun (j : RingJob) => if l.lanes.contains j.id then { j with inLap := false } else j }
  (t.holdOutputs).reissue k

/-- A job of a lane that exceeds: held with its widened set, counted (R307). -/
def State.widenJob (s : State) (p id layer : Nat) : State :=
  let t := { s with jobs := s.jobs.map fun (j : RingJob) => if j.id = id then { j with inLap := false, widened := some layer } else j }
  let t := t.amendJob id fun j => { j with inLap := none, widened := some layer }
  (t.bump (Entry.partArithWidenedJobs p)).bump Entry.arithWidenedJobsTotal

/-- A lane reported complete or held (R272, R307, R308): the state, and the layer from which it was widened. -/
def State.endLane (s : State) (p : Nat) (t : TableImage) (l : Lap) (lane : Nat) : State × Option Nat :=
  let id := l.lanes.getD lane 0
  let finish := fun (s : State) =>
    if t.jobKind = 0 then s.endJob id 0
    else
      match s.job? id with
      | none => s
      | some j =>
        if j.dropped then s.setJobs (s.gen.jobs.filter fun x => x.id ≠ id)
        else if j.render then s.finishJob id else (s.finishJob id).pruneFrames j.stream
  if lane ≥ l.lanes.length || !l.marked.contains lane then (s, none)
  else
    match l.exceeds lane, s.widenedFrom t.jobKind id with
    | some layer, none =>
      if !s.widens || t.widenLanes.isNone then ((finish s).bump (Entry.partArithExceedUnwidened p), none)
      else (s.widenJob p id layer, some layer)
    | _, _ => (finish s, none)

/-- What waits for a slot's lap boundary: Unload, a staged version, a loaded full version (R280, R284). -/
def State.atBoundary (s : State) (k : Nat) : State :=
  let r := s.slotRt k
  if r.unload then s.emptySlot k
  else if r.staged.isSome then s.swapIn k
  else if r.reload = some (false, true) then s.applyReload k false
  else s

/-- The boundary of a slot's lap (R272): jobs reported in lane order or reissued, counts, the window of R309, what waited for it, and the
shedding level (R22). -/
def State.lapEnds (s : State) (k tenNs : Nat) : State :=
  let r := s.slotRt k
  let p := s.slotRunner k
  match r.lap, r.active with
  | some l, some t =>
    if !l.abandoned && l.inFlight ≠ 0 then s
    else
      let u := s.purgeBatons k l.number
      let u := u.setSlotRt k { u.slotRt k with lap := none }
      let herds := u.positions p
      let u := if l.abandoned then
          let u := (u.bump (Entry.slotLapsAbandoned k)).reissueJobs k l
          u.each herds fun u h => u.bump (Entry.herdLapsAbandoned h)
        else
          let wide := l.lanes.any fun id => (u.widenedFrom t.jobKind id).isSome
          let (u, layers) := (List.range l.lanes.length).foldl (fun (acc : State × List Nat) lane =>
            let (v, o) := acc.1.endLane p t l lane
            (v, acc.2 ++ o.toList)) (u, ([] : List Nat))
          let u := u.reissueJobs k l
          let u := (u.bump (Entry.slotLaps k)).setN (Entry.slotLapMax k) (max (u.n (Entry.slotLapMax k)) tenNs)
          let u := if u.n (Entry.slotAnnexBound k) < tenNs then u.bump (Entry.slotLapOverruns k) else u
          let u := u.each herds fun u h =>
            let u := u.bump (Entry.herdLaps h)
            if wide then u.bump (Entry.herdArithWidenedLaps h) else u
          u.countStats p k l layers
      -- nothing that a station holds at the boundary is read by a later lap (R275)
      let u := u.each herds fun u h =>
        u.setHerdRt h { u.herdRt h with acc := (u.herdRt h).acc.filter fun e => e.1 / 1024 ≠ k }
      ((u.flushUnits p).atBoundary k).takeShed p
  | _, _ => s

end Sys2Proof.Machine
end

