-- ==== Sys2Proof/Machine/Track.lean ====
section
/-! DEFINITION. The track: stations, credits, the sending and taking of batons, and which batons a station refuses (R14, R15, R262,
R264, R267). -/

namespace Sys2Proof.Machine

open Sys2Proof

/-- This device's number, as it was at the last restart (R458). -/
def State.deviceNumber (s : State) : Nat := s.inForceN Entry.fabricDeviceNumber

/-! Stations (R262). -/

/-- Whether the part has a station. -/
def State.stationExists (s : State) (n : Nat) : Bool :=
  (0x2000 ≤ n && n < 0x2000 + 16 * s.herdCount && n % 16 < 5) || (0x3000 ≤ n && n < 0x3004) || (0x3010 ≤ n && n < 0x3014) ||
    (0x3020 ≤ n && n < 0x3028) || (0x3040 ≤ n && n < 0x3044) || (0x3050 ≤ n && n < 0x3054) || n = 0x3060 || n = 0x3070 ||
    n = 0x3071 || (0x3080 ≤ n && n < 0x3080 + s.portCount) || n = 0x3090 || (0x30A0 ≤ n && n < 0x30A6) || n = 0x30B0 ||
    (0x30C0 ≤ n && n < 0x30C4)

/-- The herd of a herd station. -/
def stationHerd (n : Nat) : Option Nat := if 0x2000 ≤ n && n < 0x2080 then some ((n - 0x2000) / 16) else none

/-- The physical kid at a logical position of a herd: the spare that replaced it, or the kid of the same number in the order of the
working ones (R12, R283). -/
def State.physicalKid (s : State) (h logical : Nat) : Nat :=
  (Assoc.find (s.herdRt h).swaps logical).getD logical

/-- The unit that a station is, for a report (R262, R410); tile units, ray units and links by their first (log entry 31). -/
def State.stationUnit (s : State) (n kid : Nat) : UnitCode :=
  match stationHerd n with
  | some h => if n % 16 = 0 then ⟨.kid, h * 2048 + s.physicalKid h kid⟩ else ⟨.herd, h⟩
  | none =>
    if n < 0x3010 then ⟨.eth, n % 16⟩
    else if n < 0x3020 then ⟨.csi, n % 16⟩
    else if n < 0x3040 then ⟨.slice, n % 16⟩
    else if n < 0x3050 then ⟨.stereo, n % 16⟩
    else if n < 0x3060 then ⟨.flow, n % 16⟩
    else if n = 0x3060 then ⟨.anchorStore, 0⟩
    else if n = 0x3070 then ⟨.tile, 0⟩
    else if n = 0x3071 then ⟨.ray, 0⟩
    else if n < 0x3090 then ⟨.compositor, n % 16⟩
    else if n = 0x3090 then ⟨.piu, 0⟩
    else if n < 0x30B0 then ⟨.zennikLane, 8 * (n % 16)⟩
    else if n = 0x30B0 then ⟨.lpddr, 0⟩
    else ⟨.mgmt, n % 4⟩

/-- A station of partition 0 or of a link: those from which shared stations take batons of partition 0 (R267). -/
def systemStation (n : Nat) : Bool :=
  n = 0x3090 || (0x3080 ≤ n && n < 0x3090) || (0x30A0 ≤ n && n < 0x30A6) || (0x30C0 ≤ n && n < 0x30C4)

/-- The bytes of a kid's tile store (R6, R16). -/
def tileStore : Nat := 32768

/-- Whether a payload lies wholly within the sending kid's tile store or the sending herd's memory (R16, R265, R266). -/
def payloadPlaced (b : Baton) : Bool :=
  let last := 32 * b.payloadAddr.toNat + b.payloadBytes.toNat
  match b.payloadPlace.toNat with
  | 0 => b.payloadBytes = 0
  | 1 => last ≤ tileStore
  | 2 => last ≤ herdMemory
  | _ => false

/-- Whether a station accepts a baton by the rule of its group, by its format code and, for a baton of this device, by the place of its
payload (R266, R267, R290) (DEDUCED, log entry 100). -/
def State.accepts (s : State) (n : Nat) (b : Baton) : Bool :=
  let p := b.partition.toNat
  b.format.toNat ≤ 10 && (b.srcDevice.toNat ≠ s.deviceNumber || payloadPlaced b) &&
    match stationHerd n with
    | some h => p = 0 || s.n (Entry.herdPartition h) = p
    | none =>
      if n = 0x3090 || 0x30C0 ≤ n then p = 0
      else if 0x3080 ≤ n && n < 0x3090 then p = 0 || s.n (Entry.portPartition (n % 16)) = p
      else p ≠ 0 || systemStation b.srcStation.toNat

/-! Queues (R14, R15, R264). -/

/-- A queue of a station. -/
def State.queue (s : State) (station queue : Nat) : Queue :=
  (s.herds.queues.find? fun q => q.station = station && q.queue = queue).getD { station := station, queue := queue }

/-- The queue replaced. -/
def State.setQueue (s : State) (q : Queue) : State :=
  let rest := s.herds.queues.filter fun x => !(x.station = q.station && x.queue = q.queue)
  { s with herds := { s.herds with queues := rest ++ (if q.batons.isEmpty && q.waiting.isEmpty then [] else [q]) } }

/-- A baton put into its destination queue where a slot is free and none waits before it, else waiting for a credit (R14, R15).  An
absent station returns no credit (DEDUCED, log entry 68). -/
def State.deliver (s : State) (b : Baton) : State :=
  let q := s.queue b.dstStation.toNat b.dstQueue.toNat
  if s.stationExists b.dstStation.toNat && q.batons.length < 2 && q.waiting.isEmpty then
    s.setQueue { q with batons := q.batons ++ [b] }
  else s.setQueue { q with waiting := q.waiting ++ [b] }

/-- The running lap that a baton belongs to. -/
def State.lapOf (s : State) (b : Baton) : Option Lap :=
  match (s.slotRt b.slot.toNat).lap with
  | none => none
  | some l => if l.number = b.lap.toNat then some l else none

/-- The lap of a baton's slot changed. -/
def State.setLap (s : State) (k : Nat) (l : Lap) : State := s.setSlotRt k { s.slotRt k with lap := some l }

/-! What the sequencer writes (R263, R267, R270, R271, R273). -/

/-- A station number of a relay table, with herd positions of a partition, as the track's physical number (R263). -/
def State.physicalStation (s : State) (p n : Nat) : Nat :=
  match stationHerd n with
  | none => n
  | some pos => 0x2000 + 16 * (s.positions p).getD pos 15 + n % 16

/-- The leg that sends a baton: that of its number on the first herd position where such a leg runs at the baton's station. -/
def State.sendingLeg (s : State) (b : Baton) : Option (Nat × Nat) :=
  let k := b.slot.toNat
  let p := s.slotRunner k
  (List.range (s.positions p).length).findSome? fun pos =>
    match (((s.slotRt k).legs pos).takeWhile fun l => legOp l ≠ 0xE5)[b.leg.toNat]? with
    | none => none
    | some w => if legOp w < 0xE0 && s.physicalStation p (legStation w) = b.srcStation.toNat then some (pos, w) else none

/-- Whether a mask bitmap masks a part of a leg: bits follow one another by herd position, masked leg and part (R273, log entry 101). -/
def State.partMasked (s : State) (k pos leg : Nat) (mask : Bytes) (j : Nat) : Bool :=
  let r := s.slotRt k
  let before := ((List.range pos).map fun q => legParts (r.legs q)).foldl (· + ·) 0 + legParts ((r.legs pos).take leg)
  mask ≠ [] && (leNat mask).testBit (before + j)

/-- Whether widening has a lane skip a leg: its configuration is narrow and its layer in the lane's widened set, or wide and not; the set holds
every widenable layer from the given one on (R307; log entry 107). -/
def State.widenSkips (s : State) (k w : Nat) (lowest : Option Nat) : Bool :=
  match (s.slotRt k).active with
  | none => false
  | some t =>
    match t.convOf w with
    | none => false
    | some c =>
      let inSet := match lowest with | none => false | some l => decide (l ≤ convLayer c)
      (t.configs.any fun d => cfgKind d = 1 && convLayer d = convLayer c && d.testBit 500) && (convWide c != inSet)

/-- Whether a leg sends part `j` of a lane: an occupied lane of a PerLane leg or lane 0, a part below Count that is not masked (R268,
R272). -/
def State.legSends (s : State) (k pos leg w : Nat) (l : Lap) (lane j : Nat) : Bool :=
  let lanes := if l.records.isEmpty then ((s.slotRt k).active.map TableImage.lanes).getD 0 else l.records.length
  (if legPerLane w then lane < lanes else lane = 0) && j < legCount w &&
    !(legMasked w && s.partMasked k pos leg (l.masks.getD lane []) j) && !s.widenSkips k w (l.widened.getD lane none)

/-- The baton that a leg sends, of which the descriptor gives the leg, the lane, the part and the payload, and the sequencer and the binding
all else; none where the table sends no such baton.  Last marks the last part sent (R263, R265, R267, R270, R271, R274). -/
def State.legBaton (s : State) (b : Baton) (l : Lap) (pos w : Nat) : Option Baton :=
  let k := b.slot.toNat
  let p := s.n (Entry.slotPartition k)
  let lane := b.lane.toNat
  let j := b.part.toNat
  let bind := (((s.slotRt k).active.map TableImage.bindings).getD []).getD (legDest w) 0
  let device := if bindDevice bind = 0 then some s.deviceNumber
    else ((((s.partRt p).owned.map Owned.deviceMap).getD [])[bindDevice bind - 1]?).map Prod.fst
  let later := (List.range (legCount w)).any fun i => j < i && s.legSends k pos b.leg.toNat w l lane i
  if !s.legSends k pos b.leg.toNat w l lane j then none
  else
    some { b with
      dstDevice := BitVec.ofNat 16 (device.getD b.dstDevice.toNat)
      dstStation := BitVec.ofNat 16 (if bindDevice bind = 0 then s.physicalStation (s.slotRunner k) (bindStation bind) else bindStation bind)
      dstQueue := BitVec.ofNat 6 (bindQueue bind)
      dstKid := if stationHerd (bindStation bind) ≠ none && bindStation bind % 16 = 0 then
          BitVec.ofNat 10 (bindKid bind (legCount w) lane j) else 0
      srcDevice := BitVec.ofNat 16 s.deviceNumber
      partition := BitVec.ofNat 4 p
      job := match l.records[lane]? with | none => b.job | some r => BitVec.ofNat 24 r.job
      last := !later }

/-- A baton as the sequencer sends it: that of a running lap whose legs are known follows its leg (compose tables come from firmware and
are not known); one of no lap is as its station sends it (log entry 101). -/
def State.relayed (s : State) (b : Baton) : Option Baton :=
  match s.lapOf b with
  | none => some b
  | some l =>
    if (List.range (s.positions (s.slotRunner b.slot.toNat)).length).all fun pos => ((s.slotRt b.slot.toNat).legs pos).isEmpty then some b
    else
      match s.sendingLeg b with
      | none => none
      | some (pos, w) => s.legBaton b l pos w

/-- The operations that a baton taken at a `conv` station starts: one on each kid of the span of every leg's source binding that is this
station's queue (R271). -/
def State.convRun (s : State) (station queue : Nat) (b : Baton) : State :=
  match s.lapOf b, stationHerd station with
  | some l, some h =>
    if station % 16 ≠ 0 then s
    else
      let k := b.slot.toNat
      let p := s.slotRunner k
      let binds := ((s.slotRt k).active.map TableImage.bindings).getD []
      let legs := (List.range (s.positions p).length).flatMap fun pos => (s.slotRt k).legs pos
      let kids := legs.flatMap fun w =>
        let bind := binds.getD (legSource w) 0
        if legOp w < 0xE0 && s.physicalStation p (legStation w) = station && bindQueue bind = queue &&
            s.physicalStation p (bindStation bind) = station then bindKids bind else []
      let runs := kids.foldl (fun (m : List ((Nat × Nat) × Nat)) kid =>
        match m.find? fun e => e.1 = (h, kid) with
        | none => m ++ [((h, kid), 1)]
        | some _ => m.map fun e => if e.1 = (h, kid) then (e.1, e.2 + 1) else e) l.convRuns
      s.setLap k { l with convRuns := runs }
  | _, _ => s

/-- Whether the sequencer holds a baton back: its lap is abandoned, or a barrier of its position waits (R269, R276). -/
def State.sendBlocked (s : State) (b : Baton) : Bool :=
  match s.lapOf b with
  | none => false
  | some l =>
    let pos := match s.sendingLeg b, stationHerd b.srcStation.toNat with
      | some (pos, _), _ => pos
      | none, none => 255
      | none, some h => (s.positions (s.slotRunner b.slot.toNat)).findIdx (· = h)
    l.abandoned || (l.barrier.contains pos && l.inFlight ≠ 0)

/-- What a send counts: the lap's batons in flight, the herd's batons (R272, R288). -/
def State.countSend (s : State) (b : Baton) : State :=
  let t := match s.lapOf b with
    | none => s
    | some l =>
      s.setLap b.slot.toNat { l with inFlight := l.inFlight + 1, barrier := if l.inFlight = 0 then [] else l.barrier }
  match stationHerd b.srcStation.toNat with
  | none => t
  | some h => t.setHerdRt h { t.herdRt h with batonsLow := (t.herdRt h).batonsLow + 1 }

/-- A baton taken or abandoned: no longer in flight. -/
def State.countTaken (s : State) (b : Baton) : State :=
  match s.lapOf b with
  | none => s
  | some l => s.setLap b.slot.toNat { l with inFlight := l.inFlight - 1 }

/-- A baton abandoned: the herd that sent it counts it, its lap is abandoned as a whole (R276, R288). -/
def State.dropBaton (s : State) (b : Baton) : State :=
  let t := s.countTaken b
  let t := match stationHerd b.srcStation.toNat with
    | none => t
    | some h => t.bump (Entry.herdBatonsAbandoned h)
  match t.lapOf b with
  | none => t
  | some _ => t.abandonLap b.slot.toNat

/-- The order in which a station takes batons: ascending Lane, then ascending Part (R264). -/
def batonOrder (b : Baton) : Int := ((b.lane.toNat * 65536 + b.part.toNat : Nat) : Int)

/-- The batons that a leg combines, taken once all are present, their credits returned to those that wait; the ones that the
station refuses (R264, R267). -/
def State.takeBatons (s : State) (station queue count : Nat) : State × List Baton :=
  let q := s.queue station queue
  if q.batons.length < count then (s, [])
  else
    let taken := (sortBy batonOrder q.batons).take count
    let left := taken.foldl (fun (l : List Baton) b => l.erase b) q.batons
    let all := left ++ q.waiting
    let t := s.setQueue { q with batons := all.take 2, waiting := all.drop 2 }
    let t := t.each taken fun t b => t.countTaken b
    let (taken', refused) := taken.partition fun b => s.accepts station b
    (t.each taken' fun t b => t.convRun station queue b, refused)

end Sys2Proof.Machine
end

