-- ==== Sys2Proof/Machine/Arith.lean ====
section
/-! DEFINITION. Number formats, row exponents, conversion, accumulation and rescale: the operations of chapter 11 (R290 to R311). -/

namespace Sys2Proof.Machine

open Sys2Proof

/-! Codes (R290 to R292, R296). -/

/-- The format that a zero-compressed format expands to (R329). -/
def plainFormat (f : Nat) : Nat := match f with | 9 => 0 | 10 => 2 | _ => f

/-- The value of a code of a format (R290). -/
def codeValue (f c : Nat) : Fl :=
  match plainFormat f with
  | 0 => Fl.ofInt (signed 8 (c % 2 ^ 8))
  | 1 => Fl.ofInt (signed 4 (c % 2 ^ 4))
  | 2 => fmtE4M3.decode (c % 2 ^ 8)
  | 3 => fmtE5M2.decode (c % 2 ^ 8)
  | 4 => fmtBF16.decode (c % 2 ^ 16)
  | 5 => fmtFP16.decode (c % 2 ^ 16)
  | 6 => fmtFP32.decode (c % 2 ^ 32)
  | 7 => Fl.ofInt (signed 32 (c % 2 ^ 32))
  | _ => Fl.ofInt (c % 2 ^ 10 : Nat)

/-- The floating format of a code, none for the integer ones. -/
def floatOf (f : Nat) : Option FloatFormat :=
  match plainFormat f with
  | 2 => some fmtE4M3
  | 3 => some fmtE5M2
  | 4 => some fmtBF16
  | 5 => some fmtFP16
  | 6 => some fmtFP32
  | _ => none

/-- The range and width of an integer format's codes: lowest, highest, bits (R290). -/
def intRange (f : Nat) : Int × Int × Nat :=
  match plainFormat f with
  | 0 => (-128, 127, 8)
  | 1 => (-8, 7, 4)
  | 7 => (-2147483648, 2147483647, 32)
  | _ => (0, 1023, 16)

/-- Whether a value, rounded to a format, lies beyond its largest finite value (R292, R296). -/
def saturates (f : Nat) (x : Fl) : Bool :=
  match x, floatOf f with
  | .nan, _ => false
  | .inf _, _ => true
  | .fin _ m e, some g => m ≠ 0 && g.top < g.nearest m e
  | y, none => let z := y.toInt; z < (intRange f).1 || (intRange f).2.1 < z

/-- The code of a value in a format: rounded to nearest, ties to even, then saturated; a NaN becomes the format's or 0 (R292, R296). -/
def codeOf (f : Nat) (x : Fl) : Nat :=
  match floatOf f with
  | some g => g.encode x
  | none => let r := intRange f; unsigned r.2.2 (x.toIntSat r.1 r.2.1)

/-- Whether the conversion of a value counts in NanConversions: a NaN that is converted to an integer format (R292). -/
def nanCounts (f : Nat) (x : Fl) : Bool := x.isNan && (floatOf f).isNone

/-! Row exponents (R299). -/

/-- Qmax of a format that a conversion scales; INT4 by its largest code (DEDUCED, log entry 32); none for the others. -/
def qmaxOf (f : Nat) : Option Nat :=
  match plainFormat f with
  | 0 => some 127
  | 1 => some 7
  | 2 => some 448
  | 3 => some 57344
  | _ => none

/-- The exponents of a row exponent, rising. -/
def exponentRange : List Int := (List.range 128).map fun (i : Nat) => (i : Int) - 64

/-- The greatest magnitude of the finite values of a row that are not masked. -/
def rowMax (row : List (Fl × Bool)) : Fl :=
  (row.filter fun e => !e.2 && e.1.isFin).foldl (fun a e => if Fl.lt a e.1.abs then e.1.abs else a) (.fin false 0 0)

/-- The exponent of a row for a largest code: the smallest in range with max|x| at most Qmax times 2 to it; 0 without a finite non-zero
value (R299). -/
def rowExponent (qmax : Nat) (row : List (Fl × Bool)) : Int :=
  let m := rowMax row
  match m with
  | .fin _ 0 _ => 0
  | _ => (exponentRange.find? fun e => Fl.le m (Fl.ofDyadic qmax e)).getD 63

/-- A converted row: its exponent, its codes, how many saturated and how many NaNs counted. -/
structure RowOut where
  exp   : Int
  codes : List Nat
  sats  : Nat
  nans  : Nat
deriving DecidableEq, Repr

/-- A row converted to a format with an exponent: masked elements are code 0 (R299, R300). -/
def convertAt (f : Nat) (e : Int) (row : List (Fl × Bool)) : RowOut :=
  { exp := e
    codes := row.map fun x => if x.2 then 0 else codeOf f (x.1.scale (-e))
    sats := (row.filter fun x => !x.2 && saturates f (x.1.scale (-e))).length
    nans := (row.filter fun x => !x.2 && nanCounts f x.1).length }

/-- A row converted by a configuration's output format and scale mode; formats without a Qmax take no scale (R299). -/
def convertRow (c : ConvConfig) (row : List (Fl × Bool)) : RowOut :=
  match qmaxOf c.outFormat with
  | none => convertAt c.outFormat 0 row
  | some q => convertAt c.outFormat (if c.outScaleMode = 1 then c.outExponent else rowExponent q row) row

/-- A row without masked elements. -/
def unmasked (row : List Fl) : List (Fl × Bool) := row.map fun x => (x, false)

/-! Payloads (R290, R300, R329). -/

/-- The group records of a zero-compressed row: bitmap, non-zero codes, padding to 8 bytes; −0 of E4M3 is zero (R329). -/
def compressRow (f : Nat) (codes : List Nat) (fuel : Nat) : Bytes :=
  match fuel with
  | 0 => []
  | k + 1 =>
    match codes with
    | [] => []
    | _ =>
      let g := (codes.take 64).map fun c => if f = 10 && c = 0x80 then 0 else c
      let map := maskOf ((List.range g.length).filter fun i => g.getD i 0 ≠ 0)
      let body := (g.filter (· ≠ 0)).map fun c => BitVec.ofNat 8 c
      leBytes 8 map ++ body ++ zeros ((8 - body.length % 8) % 8) ++ compressRow f (codes.drop 64) k

/-- The bytes of a row's codes in a format (R290). -/
def rowBytes (f : Nat) (codes : List Nat) : Bytes :=
  if f = 9 || f = 10 then compressRow f codes (codes.length + 1)
  else if f = 1 then
    (List.range (divCeil codes.length 2)).map fun i =>
      BitVec.ofNat 8 (codes.getD (2 * i) 0 % 16 + 16 * (codes.getD (2 * i + 1) 0 % 16))
  else
    let n := match f with | 4 | 5 | 8 => 2 | 6 | 7 => 4 | _ => 1
    codes.flatMap fun c => leBytes n c

/-- The trailer of a converted payload: one I8 for each row, padded to 32 bytes (R300). -/
def trailerOf (exps : List Int) : Bytes :=
  let b := exps.map fun e => BitVec.ofNat 8 (unsigned 8 e)
  b ++ zeros ((32 - b.length % 32) % 32)

/-- A payload of rows in a format, with a trailer where the format is scaled (R300, R329). -/
def payloadOf (f : Nat) (rows : List (List Nat)) (exps : List Int) : Bytes :=
  rows.flatMap (rowBytes f) ++ (if (qmaxOf f).isSome then trailerOf exps else [])

/-! The station that runs an operation. -/

/-- Whether an operation runs: the units work and the herd is in service (R31, R263). -/
def State.opActs (s : State) (u : OpUnit) : Bool := s.running && s.n (Entry.herdState u.herd) = 1

/-- The user partition of an operation: that on whose herds its slot runs. -/
def State.opPart (s : State) (u : OpUnit) : Nat := s.slotRunner u.slot

/-- The outcome of an operation: nothing where the herd is out of service (R33). -/
def State.onUnit (s : State) (u : OpUnit) (f : State → State) : State := if s.opActs u then f s else s

/-- Saturations and NaNs counted (R292, R293, R313 to R315): saturations in parts of their units, for the next lap boundary. -/
def State.countArith (s : State) (u : OpUnit) (sats nans : Nat) : State :=
  let p := s.opPart u
  let r := s.herdRt u.herd
  let t := s.setHerdRt u.herd { r with satLow := r.satLow + sats }
  let t := t.setPartRt p { t.partRt p with satLow := (t.partRt p).satLow + sats }
  let t := { t with herds := { t.herds with satLow := t.herds.satLow + sats } }
  if nans = 0 then t else (t.add (Entry.partArithNanConversions p) nans).add Entry.arithNanConversionsTotal nans

/-- A baton refused for its format or its trailer: the lap is abandoned (R267, R290, R317). -/
def State.refuseOp (s : State) (u : OpUnit) : State := s.abandonLap u.slot

/-- The output of an operation: rows of codes in a format with their exponents, as the payload sent (R300). -/
def State.output (s : State) (u : OpUnit) (f : Nat) (rows : List (List Nat)) (exps : List Int) : State :=
  s.setHerdRt u.herd { s.herdRt u.herd with
    vecOut := rows, exponents := if (qmaxOf f).isSome then exps else [], payload := payloadOf f rows exps }

/-- Converted rows sent, their saturations and NaNs counted. -/
def State.outputRows (s : State) (u : OpUnit) (f : Nat) (rows : List RowOut) : State :=
  (s.countArith u (rows.foldl (fun a r => a + r.sats) 0) (rows.foldl (fun a r => a + r.nans) 0)).output u f
    (rows.map RowOut.codes) (rows.map RowOut.exp)

/-! Conversion error (R306). -/

/-- The error terms of an element in FP32: (x − x̂)² and x². -/
def errorTerms (x xhat : Fl) : Nat × Nat :=
  let a := fmtFP32.round x
  let d := f32Sub a (fmtFP32.round xhat)
  (f32Mul d d, f32Mul a a)

/-- The elements of a conversion that are measured: (channel, error, square), masked ones and NaNs left out. -/
def measured (c : ConvConfig) (rows : List (List (Fl × Bool))) (out : List RowOut) : List (Nat × Nat × Nat) :=
  (rows.zip out).flatMap fun e =>
    (((List.range e.1.length).zip e.1).zip e.2.codes).filterMap fun x =>
      let i := x.1.1
      let v := x.1.2
      if v.2 || v.1.isNan then none
      else some (i, errorTerms v.1 ((codeValue c.outFormat x.2).scale e.2.exp))

/-- The sums of a lane's layer on a unit, one pair for each. -/
def addSum (l : List LapSum) (z : LapSum) : List LapSum :=
  let same := fun (x : LapSum) => x.lane = z.lane && x.layer = z.layer && x.herd = z.herd && x.kid = z.kid
  if l.any same then
    l.map fun (x : LapSum) => if same x then { x with err := f32Add x.err z.err, sq := f32Add x.sq z.sq } else x
  else l ++ [z]

/-- The sums of a channel of a herd in a lap. -/
def addLapChannel (l : List (Nat × Nat × Nat × Nat × Nat)) (h c err sq : Nat) : List (Nat × Nat × Nat × Nat × Nat) :=
  if l.any fun x => x.1 = h && x.2.1 = c then
    l.map fun x => if x.1 = h && x.2.1 = c then (h, c, f32Add x.2.2.1 err, f32Add x.2.2.2.1 sq, x.2.2.2.2 + 1) else x
  else l ++ [(h, c, err, sq, 1)]

/-- Measured elements added to the sums of the unit's lap, in element order; the channel of an element is its place in its row (R306;
DEDUCED, log entry 32). -/
def State.measure (s : State) (u : OpUnit) (c : ConvConfig) (l : List (Nat × Nat × Nat)) : State :=
  if !c.statsEnable then s
  else
    match (s.slotRt u.slot).lap with
    | none => s
    | some lap =>
      let kid := match u.kid with | none => 2048 | some k => (k : Nat)
      let add := fun (a : Lap) (e : Nat × Nat × Nat) =>
        { a with
          sums := addSum a.sums
            { lane := u.lane.toNat, layer := c.layerId, herd := u.herd, kid := kid, err := e.2.1, sq := e.2.2
              widenable := c.widenable, threshold := c.widenThreshold }
          channels := addLapChannel a.channels u.herd (c.statsBase + e.1) e.2.1 e.2.2 }
      s.setLap u.slot (l.foldl add lap)

/-! Conversions (R299, R300, R305, R310, R311). -/

/-- A matrix of codes with its mask as values; a mask that is not given masks nothing. -/
def maskedRows (f : Nat) (rows : List (List Nat)) (mask : List (List Bool)) : List (List (Fl × Bool)) :=
  (rows.zip (List.range rows.length)).map fun e =>
    (e.1.zip (List.range e.1.length)).map fun x => (codeValue f x.1, (mask.getD e.2 []).getD x.2 false)

/-- CONVERT (R299, R300, R305, R306): from FP32 or BF16 only (R304). -/
def State.convertOp (s : State) (u : OpUnit) (c : ConvConfig) (rows : List (List Nat)) (mask : List (List Bool)) : State :=
  if c.inFormat ≠ 6 && c.inFormat ≠ 4 then s.refuseOp u
  else
    let values := maskedRows c.inFormat rows mask
    let out := values.map (convertRow c)
    (s.outputRows u c.outFormat out).measure u c (measured c values out)

/-- STATS (R305, R306): the error of a conversion made elsewhere. -/
def State.statsOp (s : State) (u : OpUnit) (c : ConvConfig) (source codes : List (List Nat)) (exps : List Int)
    (mask : List (List Bool)) : State :=
  let values := maskedRows 6 source mask
  let out := (codes.zip (List.range codes.length)).map fun e =>
    ({ exp := exps.getD e.2 0, codes := e.1, sats := 0, nans := 0 } : RowOut)
  s.measure u c (measured c values out)

/-- NaNs that reach a gradient or a moment, all counted (R311). -/
def nansOf (rows : List (List Fl)) : Nat := (rows.flatMap id).foldl (fun a x => if x.isNan then a + 1 else a) 0

/-- GRADCONV (R310): FP32 gradients to E5M2 with an exponent for each row. -/
def State.gradconvOp (s : State) (u : OpUnit) (rows : List (List Nat)) : State :=
  let values := rows.map fun r => r.map f32
  let out := values.map fun r => convertAt 3 (rowExponent 57344 (unmasked r)) (unmasked r)
  (s.countArith u (out.foldl (fun a r => a + r.sats) 0) (nansOf values)).output u 3 (out.map RowOut.codes)
    (out.map RowOut.exp)

/-- A row of second moments: unsigned 8-bit codes of the square roots (R310). -/
def packSecond (row : List Nat) : RowOut :=
  let roots := row.map fun c => f32 (f32Sqrt c)
  let e := rowExponent 255 (unmasked roots)
  let scaled := roots.map fun x => x.scale (-e)
  { exp := e
    codes := scaled.map fun x => (x.toIntSat 0 255).toNat
    sats := (scaled.filter fun x => match x with | .nan => false | .inf _ => true | y => decide (255 < y.toInt)).length
    nans := (scaled.filter Fl.isNan).length }

/-- MOMPACK (R310, R311). -/
def State.mompackOp (s : State) (u : OpUnit) (second : Bool) (rows : List (List Nat)) : State :=
  let out := rows.map fun r =>
    if second then packSecond r
    else let v := unmasked (r.map f32); convertAt 0 (rowExponent 127 v) v
  s.outputRows u 0 out

/-- MOMUNPACK (R310): q · 2ᵉ, squared for the second moment, as FP32. -/
def State.momunpackOp (s : State) (u : OpUnit) (second : Bool) (rows : List (List Nat)) (exps : List Int) : State :=
  let out := (rows.zip (List.range rows.length)).map fun e =>
    e.1.map fun q =>
      let k := exps.getD e.2 0
      if second then
        let v := Fl.scale (Fl.ofInt (q % 2 ^ 8 : Nat)) k
        fmtFP32.round (v.mul v)
      else fmtFP32.round ((codeValue 0 q).scale k)
  s.output u 6 out []

/-- MASTERUPD (R305, R310): m = bf16(fl32(m) + u). -/
def State.masterupdOp (s : State) (u : OpUnit) (masters updates : List Nat) : State :=
  let out := (masters.zip updates).map fun e =>
    fmtBF16.encode (f32 (f32Add (fmtFP32.round (codeValue 4 e.1)) e.2))
  s.output u 4 [out] []

/-! Accumulation (R293, R294). -/

/-- The pairs of operand formats that a kid accepts: INT8 × INT8, INT8 × INT4, and E4M3 and E5M2 in any pair (R293). -/
def pairLegal (fa fw : Nat) : Bool :=
  let a := plainFormat fa
  let w := plainFormat fw
  (a = 0 && w ≤ 1) || ((a = 2 || a = 3) && (w = 2 || w = 3))

/-- Whether a pair of formats accumulates in INT32. -/
def pairInt (fa : Nat) : Bool := plainFormat fa = 0

/-- An INT32 sum, saturated, and whether it saturated (R293). -/
def int32Add (acc : Nat) (d : Int) : Nat × Nat :=
  let z := signed 32 (acc % 2 ^ 32) + d
  let c := clampInt (-2147483648) 2147483647 z
  (unsigned 32 c, if c = z then 0 else 1)

/-- The products of a handshake added to an accumulator: one, or two with INT4 weights in one sum (R293). -/
def accumulate (fa fw : Nat) (acc : Nat) (pairs : List (Nat × Nat)) : Nat × Nat :=
  if pairInt fa then
    int32Add acc (pairs.foldl (fun (a : Int) e => a + (codeValue fa e.1).toInt * (codeValue fw e.2).toInt) 0)
  else
    (pairs.foldl (fun a e => f32Add a (fmtFP32.round ((codeValue fa e.1).mul (codeValue fw e.2)))) acc, 0)

/-- The accumulators of a kid for a slot. -/
def State.kidAcc (s : State) (u : OpUnit) : List Nat :=
  Assoc.get (s.herdRt u.herd).acc (u.slot * 1024 + (u.kid.map fun (k : Fin 1024) => (k : Nat)).getD 0) []

/-- The accumulators replaced. -/
def State.setKidAcc (s : State) (u : OpUnit) (acc : List Nat) : State :=
  s.setHerdRt u.herd { s.herdRt u.herd with
    acc := Assoc.put (s.herdRt u.herd).acc (u.slot * 1024 + (u.kid.map fun (k : Fin 1024) => (k : Nat)).getD 0) acc }

/-- One handshake of the MAC array: acc[i][j] += a[i] · w[j], two of each with INT4 weights (R293). -/
def macStep (fa fw : Nat) (acc : List Nat) (a w : List Nat) : List Nat × Nat :=
  let n := if plainFormat fw = 1 then 2 else 1
  let r := (List.range 64).map fun k =>
    accumulate fa fw (acc.getD k 0) ((List.range n).map fun q => (a.getD (8 * q + k / 8) 0, w.getD (8 * q + k % 8) 0))
  (r.map Prod.fst, r.foldl (fun c e => c + e.2) 0)

/-- MMA (R293, R305): a refused pair of formats abandons the lap. -/
def State.mmaOp (s : State) (u : OpUnit) (fa fw : Nat) (steps : List (List Nat × List Nat)) : State :=
  if !pairLegal fa fw then s.refuseOp u
  else
    let (acc, sats) := steps.foldl (fun (z : List Nat × Nat) e =>
      let (b, c) := macStep fa fw z.1 e.1 e.2
      (b, z.2 + c)) (s.kidAcc u, 0)
    (s.countArith u sats 0).setKidAcc u acc

/-! Outliers and rescale (R301 to R303, R328). -/

/-- A sum of BF16 products in ascending order: exact products, one rounding for each addition (R294). -/
def bf16Dot (l : List (Nat × Nat)) : Nat :=
  l.foldl (fun a e => f32Add a (fmtFP32.round ((codeValue 4 e.1).mul (codeValue 4 e.2)))) 0

/-- A column of a matrix of codes. -/
def column (m : List (List Nat)) (c : Nat) : List Nat := m.map fun r => r.getD c 0

/-- The width of a matrix. -/
def matrixWidth (m : List (List Nat)) : Nat := (m.headD []).length

/-- The outlier partials (R303): activations rounded to BF16, summed in list order. -/
def outlierPartials (acts weights : List (List Nat)) : List (List Nat) :=
  acts.map fun a => (List.range (matrixWidth weights)).map fun c =>
    bf16Dot ((a.map fun x => fmtBF16.encode (f32 x)).zip (column weights c))

/-- OUTLIER (R303, R305). -/
def State.outlierOp (s : State) (u : OpUnit) (acts weights : List (List Nat)) : State :=
  s.output u 6 (outlierPartials acts weights) []

/-- The weight exponent of an output channel: the scale register ScaleBase + c of the bank of the leg; 0 in a bank that is clear (R297, R298). -/
def State.weightExp (s : State) (h : Nat) (j : RescaleJob) (c : Nat) : Int :=
  match (s.herdRt h).banks.find? fun b => b.bank = j.bank.val with
  | none => 0
  | some b => signed 8 ((b.data.getD (j.scaleBase + c) 0).toNat)

/-- The exponent of a row, or that of the first row where only that is given (R317). -/
def rescaleRowExp (j : RescaleJob) (r : Nat) : Int := j.rowExps.getD r (j.rowExps.headD 0)

/-- A value of RESCALE before its conversion: a code made by the single rounding of step 3, or an FP32 value (R302). -/
inductive Rescaled where
  | code (q : Nat) (sat : Bool)
  | value (y : Nat)
deriving DecidableEq, Repr

/-- Whether step 3 rounds once: INT8 or INT4 output with a static scale and no outlier channels (R302). -/
def directRescale (c : ConvConfig) (j : RescaleJob) : Bool :=
  (plainFormat c.outFormat = 0 || c.outFormat = 1) && c.outScaleMode = 1 && j.partials.isEmpty

/-- Steps 1 to 4 of R302 for the accumulator of a row and a channel, rectified where asked (R328); `ws`: the weight exponents. -/
def rescaleOne (c : ConvConfig) (j : RescaleJob) (ws : Nat → Int) (integer relu : Bool) (row ch acc : Nat) : Rescaled :=
  let e := j.entries.getD ch (0, 0, 0)
  let mult : Nat := e.1 % 2 ^ 16
  let shift : Nat := e.2.1 % 2 ^ 6
  let bias : Nat := e.2.2 % 2 ^ 32
  let k := ws ch + rescaleRowExp j row
  let v : Int := (signed 32 (acc % 2 ^ 32) + signed 32 bias) * mult
  if integer && directRescale c j then
    let x := Fl.ofDyadic v (k - shift - c.outExponent)
    let z := x.toIntSat (intRange c.outFormat).1 (intRange c.outFormat).2.1
    .code (unsigned (intRange c.outFormat).2.2 (if relu then max 0 z else z)) (saturates c.outFormat x)
  else
    let y := if integer then fmtFP32.round (Fl.ofDyadic v (k - shift))
      else fmtFP32.round ((f32 (f32Mul (f32Add acc bias) (fmtFP32.round (Fl.ofDyadic mult (-(shift : Int)))))).scale k)
    let y := match j.partials with
      | [] => y
      | l => f32Add y ((l.getD row []).getD ch 0)
    let y := if relu && ((f32 y).isNan || f32Lt 0 y) then y else if relu then 0 else y
    .value y

/-- Step 5 of R302: a row of rescaled values converted (R296, R299). -/
def finishRow (c : ConvConfig) (row : List Rescaled) : RowOut :=
  let value := fun (x : Rescaled) => match x with | .code .. => Fl.fin false 0 0 | .value y => f32 y
  if row.any fun x => match x with | .code .. => true | .value _ => false then
    { exp := c.outExponent
      codes := row.map fun x => match x with | .code q _ => q | .value _ => 0
      sats := (row.filter fun x => match x with | .code _ b => b | .value _ => false).length
      nans := 0 }
  else convertRow c (unmasked (row.map value))

/-- The rows of an output made from accumulators by row and channel (R302). -/
def rescaleRows (c : ConvConfig) (j : RescaleJob) (ws : Nat → Int) (integer relu : Bool) (accs : List (List Nat)) : List RowOut :=
  (accs.zip (List.range accs.length)).map fun e =>
    finishRow c ((e.1.zip (List.range e.1.length)).map fun x => rescaleOne c j ws integer relu e.2 x.2 x.1)

/-- A list cut into rows of a width. -/
def rowsOf (width : Nat) (l : List Nat) : List (List Nat) :=
  if width = 0 then [] else (List.range (l.length / width)).map fun r => (l.drop (r * width)).take width

/-- RESCALE and RESCALE_RELU (R302, R305, R328): the accumulators of the kid, by row and output channel. -/
def State.rescaleOp (s : State) (u : OpUnit) (c : ConvConfig) (j : RescaleJob) (relu : Bool) : State :=
  s.outputRows u c.outFormat (rescaleRows c j (s.weightExp u.herd j) j.integer relu (rowsOf j.entries.length (s.kidAcc u)))

/-- WIDE and WIDE_RELU (R294, R302, R305, R328): BF16 sums, then R302 with an FP32 accumulator. -/
def State.wideOp (s : State) (u : OpUnit) (c : ConvConfig) (acts weights : List (List Nat)) (j : RescaleJob) (relu : Bool) :
    State :=
  let accs := acts.map fun a => (List.range (matrixWidth weights)).map fun ch => bf16Dot (a.zip (column weights ch))
  s.outputRows u c.outFormat (rescaleRows c j (s.weightExp u.herd j) false relu accs)

/-! The commands. -/

/-- CONVERT (R299, R305). -/
def execConvert (u : OpUnit) (c : ConvConfig) (rows : List (List Nat)) (mask : List (List Bool)) (s : State) : Answer :=
  s.onHerd u.herd (s.onUnit u fun t => t.convertOp u c rows mask)

/-- MMA (R293). -/
def execMma (u : OpUnit) (fmtA fmtW : Nat) (steps : List (List Nat × List Nat)) (s : State) : Answer :=
  s.onHerd u.herd (s.onUnit u fun t => t.mmaOp u fmtA fmtW steps)

/-- RESCALE (R302). -/
def execRescale (u : OpUnit) (c : ConvConfig) (job : RescaleJob) (s : State) : Answer :=
  s.onHerd u.herd (s.onUnit u fun t => t.rescaleOp u c job false)

/-- OUTLIER (R303). -/
def execOutlier (u : OpUnit) (acts weights : List (List Nat)) (s : State) : Answer :=
  s.onHerd u.herd (s.onUnit u fun t => t.outlierOp u acts weights)

/-- WIDE (R305). -/
def execWide (u : OpUnit) (c : ConvConfig) (acts weights : List (List Nat)) (job : RescaleJob) (s : State) : Answer :=
  s.onHerd u.herd (s.onUnit u fun t => t.wideOp u c acts weights job false)

/-- GRADCONV (R310). -/
def execGradconv (u : OpUnit) (rows : List (List Nat)) (s : State) : Answer :=
  s.onHerd u.herd (s.onUnit u fun t => t.gradconvOp u rows)

/-- MOMPACK (R310, R311). -/
def execMompack (u : OpUnit) (second : Bool) (rows : List (List Nat)) (s : State) : Answer :=
  s.onHerd u.herd (s.onUnit u fun t => t.mompackOp u second rows)

/-- MOMUNPACK (R310). -/
def execMomunpack (u : OpUnit) (second : Bool) (rows : List (List Nat)) (exps : List Int) (s : State) : Answer :=
  s.onHerd u.herd (s.onUnit u fun t => t.momunpackOp u second rows exps)

/-- MASTERUPD (R305, R310). -/
def execMasterupd (u : OpUnit) (masters updates : List Nat) (s : State) : Answer :=
  s.onHerd u.herd (s.onUnit u fun t => t.masterupdOp u masters updates)

/-- STATS (R305, R306). -/
def execStats (u : OpUnit) (c : ConvConfig) (source codes : List (List Nat)) (exps : List Int)
    (mask : List (List Bool))
    (s : State) : Answer :=
  s.onHerd u.herd (s.onUnit u fun t => t.statsOp u c source codes exps mask)

/-- RESCALE_RELU (R328). -/
def execRescaleRelu (u : OpUnit) (c : ConvConfig) (job : RescaleJob) (s : State) : Answer :=
  s.onHerd u.herd (s.onUnit u fun t => t.rescaleOp u c job true)

/-- WIDE_RELU (R328). -/
def execWideRelu (u : OpUnit) (c : ConvConfig) (acts weights : List (List Nat)) (job : RescaleJob)
    (s : State) : Answer :=
  s.onHerd u.herd (s.onUnit u fun t => t.wideOp u c acts weights job true)

end Sys2Proof.Machine
end

