-- ==== Sys2Proof/Machine/Tensors.lean ====
section
/-! DEFINITION. Tensors in the partition's external memory: their layout, rows stored zero-compressed, stripes (R290, R316, R317, R329 to
R332). -/

namespace Sys2Proof.Machine

open Sys2Proof

/-- The codes of a zero-compressed row of `n` elements: for each 64 a bitmap, the codes of its set bits, padding to 8 bytes (R329). -/
def expandRow (fuel n : Nat) (b : Bytes) : List Nat :=
  match fuel with
  | 0 => []
  | k + 1 =>
    if n = 0 then []
    else
      let map := field b 0 8
      let set := bitsSet map (min 64 n)
      let codes := (List.range (min 64 n)).map fun i => if map.testBit i then field b (8 + set.findIdx (· = i)) 1 else 0
      codes ++ expandRow k (n - min 64 n) (b.drop (8 + to8 set.length))
where
  /-- Rounded up to a multiple of 8. -/
  to8 (n : Nat) : Nat := divCeil n 8 * 8

/-- The bytes of a row of `n` elements as stored, at most (R290, R329, R330). -/
def storedRow (f n : Nat) : Nat := if f = 9 || f = 10 then divCeil n 64 * 72 else divCeil (n * formatHalves f) 2

/-- The codes of a stored row (R290, R329). -/
def rowCodes (f n : Nat) (b : Bytes) : List Nat :=
  if f = 9 || f = 10 then expandRow (n + 1) n b
  else if f = 1 then (List.range n).map fun i => field b (i / 2) 1 / (if i % 2 = 0 then 1 else 16) % 16
  else (List.range n).map fun i => field b (i * formatHalves f / 2) (formatHalves f / 2)

/-- The reads of a source tensor in external memory, as (offset, bytes): its rows and, where a tensor of a scaled format comes without
exponents, its exponent plane (R316). -/
def sourceReads (g : AddrConfig) (x : Tensor) : List (Nat × Nat) :=
  ((List.range g.inChannels).flatMap fun c => (List.range g.inHeight).map fun y =>
    (g.srcOffset + c * g.srcPlanePitch + y * g.srcRowPitch, storedRow g.inFormat g.inWidth)) ++
    (if (qmaxOf g.inFormat).isSome && x.exps.isEmpty then
      [(g.srcOffset + g.inChannels * g.srcPlanePitch, g.inChannels * g.inHeight)] else [])

/-- Whether an operation reads its source from external memory; a decoded picture comes with the command (log entry 108). -/
def readsMemory (g : AddrConfig) : Bool := g.srcPlace = 1 && g.inFormat ≠ 8

/-- The source tensor of a configuration: from external memory by R316, else as the command gives it. -/
def State.source (s : State) (u : OpUnit) (g : AddrConfig) (x : Tensor) : Tensor :=
  if !readsMemory g then x
  else
    let p := s.opPart u
    { planes := (List.range g.inChannels).map fun c => (List.range g.inHeight).map fun y =>
        rowCodes g.inFormat g.inWidth
          (s.readMem p (g.srcOffset + c * g.srcPlanePitch + y * g.srcRowPitch) (storedRow g.inFormat g.inWidth))
      exps := if (qmaxOf g.inFormat).isSome && x.exps.isEmpty then
          (List.range g.inChannels).map fun c => (List.range g.inHeight).map fun y =>
            signed 8 (leNat (s.readMem p (g.srcOffset + g.inChannels * g.srcPlanePitch + c * g.inHeight + y) 1))
        else x.exps }

/-- An operation over its source tensor: unreadable data abandons the lap (R276, R336). -/
def State.withSource (s : State) (u : OpUnit) (g : AddrConfig) (x : Tensor) (f : Tensor → State) : State :=
  if readsMemory g && (sourceReads g x).any fun e => s.readFails (s.opPart u) e.1 e.2 then s.refuseOp u
  else f (s.source u g x)

/-- The rows that a stripe writes, of `ho` (R331). -/
def stripeRows (g : AddrConfig) (ho : Nat) : List Nat :=
  let n := max 1 g.stripeCount
  let a := g.stripe * ho / n
  List.range' a ((g.stripe + 1) * ho / n - a)

/-- Output rows of `channels` planes of `ho` rows, channel by channel and within one by the stripe's rows, written to external memory where the
configuration places them there: elements by R316, per-row exponents into the exponent plane. -/
def State.storeRows (s : State) (u : OpUnit) (g : AddrConfig) (f mode channels ho : Nat) (rows : List RowOut) : State :=
  if g.dstPlace ≠ 1 then s
  else
    let p := s.opPart u
    let places := (List.range channels).flatMap fun c => (stripeRows g ho).map fun y => (c, y)
    s.each (places.zip rows) fun t e =>
      let t := t.writeMem p (g.dstOffset + e.1.1 * (g.dstRowPitch * ho) + e.1.2 * g.dstRowPitch) (rowBytes f e.2.codes)
      if (qmaxOf f).isSome && mode = 0 then
        t.writeMem p (g.dstOffset + channels * (g.dstRowPitch * ho) + e.1.1 * ho + e.1.2) [BitVec.ofNat 8 (unsigned 8 e.2.exp)]
      else t

end Sys2Proof.Machine
end

