-- ==== Sys2Proof/Machine/Conv.lean ====
section
/-! DEFINITION. Convolution and image operators: padding, windows, implicit and expanded products, grouped and few-channel layers, pooling
and layout (R316 to R330). -/

namespace Sys2Proof.Machine

open Sys2Proof

/-! Padding (R320). -/

/-- Where a position on one axis takes its value. -/
inductive PadSource where
  | inside (i : Nat)
  | skip
  | zero
  | const
deriving DecidableEq, Repr

/-- The source of a position on an axis of extent `n`, by the modes of its two edges. -/
def padSource (i : Int) (n low high : Nat) (pooling : Bool) : PadSource :=
  let mode := if i < 0 then low else high
  if 0 ≤ i && i < n then .inside i.toNat
  else
    match mode with
    | 3 => .inside (clampInt 0 ((n : Int) - 1) i).toNat
    | 2 => .inside (if i < 0 then -i else 2 * ((n : Int) - 1) - i).toNat
    | 0 => if pooling then .skip else .zero
    | _ => .const

/-- The code of an element of a tensor (R316). -/
def tensorCode (x : Tensor) (c y i : Nat) : Nat := ((x.planes.getD c []).getD y []).getD i 0

/-- The exponent of a row of a channel (R316, R317). -/
def tensorExp (x : Tensor) (c y : Nat) : Int := (x.exps.getD c []).getD y 0

/-- The index of an element in a plane: halved for the chroma of a decoded picture (R325). -/
def chromaIndex (g : AddrConfig) (c i : Nat) : Nat := if g.inFormat = 8 && 1 ≤ c then i / 2 else i

/-- The code and exponent at an input position, none where it takes no part (R320).  At a corner a position that is left out wins over a
zero one, and a zero one over a constant (DESIGN CHOICE, log entry 33). -/
def inputAt (g : AddrConfig) (x : Tensor) (pooling : Bool) (c : Nat) (y i : Int) : Option (Nat × Int) :=
  let sy := padSource y g.inHeight g.modeTop g.modeBottom pooling
  let sx := padSource i g.inWidth g.modeLeft g.modeRight pooling
  let row := chromaIndex g c (clampInt 0 ((g.inHeight : Int) - 1) y).toNat
  match sy, sx with
  | .skip, _ => none
  | _, .skip => none
  | .zero, _ => some (0, 0)
  | _, .zero => some (0, 0)
  | .const, _ => some (g.padConstant, tensorExp x c row)
  | .inside r, .const => some (g.padConstant, tensorExp x c (chromaIndex g c r))
  | .inside r, .inside q => some (tensorCode x c (chromaIndex g c r) (chromaIndex g c q), tensorExp x c (chromaIndex g c r))

/-- The window of an output position over channels `c0` to `c0 + cn - 1`, in ascending reduction index (R319). -/
def window (g : AddrConfig) (x : Tensor) (pooling : Bool) (c0 cn yo xo : Nat) : List (Option (Nat × Int)) :=
  (List.range cn).flatMap fun c => (List.range g.kernelH).flatMap fun ky => (List.range g.kernelW).map fun kx =>
    inputAt g x pooling (c0 + c) ((yo * g.strideY + ky * g.dilationY : Nat) - (g.padTop : Int))
      ((xo * g.strideX + kx * g.dilationX : Nat) - (g.padLeft : Int))

/-- The codes of a window, 0 where a position takes no part. -/
def windowCodes (l : List (Option (Nat × Int))) : List Nat := l.map fun o => (o.map Prod.fst).getD 0

/-- The output extents as numbers. -/
def outWidth (g : AddrConfig) : Nat := (addrOutWidth g).toNat
def outHeight (g : AddrConfig) : Nat := (addrOutHeight g).toNat

/-- The output positions of a stripe in raster order (R331). -/
def outPositions (g : AddrConfig) : List (Nat × Nat) :=
  (stripeRows g (outHeight g)).flatMap fun y => (List.range (outWidth g)).map fun x => (y, x)

/-! Kids (R317, R323, R324). -/

/-- A list cut in twos: the products of handshakes with INT4 weights. -/
def inTwos (l : List (Nat × Nat)) (fuel : Nat) : List (List (Nat × Nat)) :=
  match fuel with
  | 0 => []
  | k + 1 => match l with
    | [] => []
    | _ => l.take 2 :: inTwos (l.drop 2) k

/-- The sum of a window's products in ascending reduction index from 0, as the MAC array makes it (R293, R319). -/
def kidDot (fa fw : Nat) (l : List (Nat × Nat)) : Nat × Nat :=
  let steps := if plainFormat fw = 1 then inTwos l l.length else l.map fun e => [e]
  steps.foldl (fun (z : Nat × Nat) e =>
    let (a, c) := accumulate fa fw z.1 e
    (a, z.2 + c)) (0, 0)

/-- Whether every exponent of a tensor is the same (R317). -/
def oneExponent (x : Tensor) : Bool :=
  match x.exps.flatMap id with
  | [] => true
  | e :: r => r.all (· = e)

/-- The rows of an expanded buffer: for each reduction index the codes of the windows of some output rows (R324). -/
def expandRows (g : AddrConfig) (x : Tensor) (first : Nat) : List (List Nat) :=
  let rows := (List.range g.expandRows).filterMap fun r => if first + r < outHeight g then some (first + r) else none
  let pixels := rows.flatMap fun y => (List.range (outWidth g)).map fun i => windowCodes (window g x false 0 g.inChannels y i)
  (List.range (g.inChannels * g.kernelH * g.kernelW)).map fun k => pixels.map fun w => w.getD k 0

/-- CONVWIN (R322, R323): the sums of every output position and channel, positions in raster order, channels within a position; Kind 9
reads the expanded buffer.  A refused pair of formats or differing exponents abandon the lap (R293, R317). -/
def State.convwinOp (s : State) (u : OpUnit) (g : AddrConfig) (fw : Nat) (x : Tensor) (w : List (List Nat)) : State :=
  if !pairLegal g.inFormat fw || !oneExponent x then s.refuseOp u
  else
    let buffer := (s.herdRt u.herd).expanded
    let windows := if g.kind = 9 then (List.range (matrixWidth buffer)).map fun i => column buffer i
      else (outPositions g).map fun e => windowCodes (window g x false 0 g.inChannels e.1 e.2)
    let sums := windows.flatMap fun a => w.map fun b => kidDot g.inFormat fw (a.zip b)
    (s.countArith u (sums.foldl (fun a e => a + e.2) 0) 0).setKidAcc u (sums.map Prod.fst)

/-- EXPAND (R324). -/
def State.expandOp (s : State) (u : OpUnit) (g : AddrConfig) (x : Tensor) (firstRow : Nat) : State :=
  s.setHerdRt u.herd { s.herdRt u.herd with expanded := expandRows g x firstRow }

/-! Planar outputs. -/

/-- The output of a stripe as rows of a channel, channel by channel (R316, R317, R331): each from the values of its positions. -/
def planarRows (g : AddrConfig) (channels : Nat) (f : Nat → Nat → Nat → RowOut) : List RowOut :=
  (List.range channels).flatMap fun o => (stripeRows g (outHeight g)).map fun y => f o y (outWidth g)

/-- Converted planar rows sent, and stored where the configuration places them in external memory. -/
def State.planarOut (s : State) (u : OpUnit) (g : AddrConfig) (c : ConvConfig) (channels : Nat) (rows : List RowOut) : State :=
  (s.outputRows u c.outFormat rows).storeRows u g c.outFormat c.outScaleMode channels (outHeight g) rows

/-! The vector and blocks engines (R325 to R327). -/

/-- GROUPCONV (R326): codes decoded with their row exponents, FP32 sums in ascending k, then R302 with an FP32 accumulator.  The decoded
values hold the exponents already, so R302 adds none (DEDUCED, log entry 32). -/
def State.groupconvOp (s : State) (u : OpUnit) (g : AddrConfig) (c : ConvConfig) (x : Tensor) (w : List (List Nat))
    (j : RescaleJob) : State :=
  let cin := g.inChannels / max 1 g.groups
  let cout := g.outChannels / max 1 g.groups
  let j' := { j with rowExps := [] }
  let sum := fun (o y i : Nat) =>
    ((window g x false (o / max 1 cout * cin) cin y i).zip (w.getD o [])).foldl (fun a e =>
      match e.1 with
      | none => a
      | some q => f32Add a (fmtFP32.round (((codeValue g.inFormat q.1).scale q.2).mul (f32 e.2)))) 0
  let row := fun (o y n : Nat) =>
    finishRow c ((List.range n).map fun i => rescaleOne c j' (fun _ => 0) false false (y * n + i) o (sum o y i))
  s.planarOut u g c g.outChannels (planarRows g g.outChannels row)

/-- BLOCKCONV (R325): INT32 sums of samples or INT8 codes with INT8 weights, then R302. -/
def State.blockconvOp (s : State) (u : OpUnit) (g : AddrConfig) (c : ConvConfig) (x : Tensor) (w : List (List Int))
    (j : RescaleJob) : State :=
  let sum := fun (o y i : Nat) =>
    ((windowCodes (window g x false 0 g.inChannels y i)).zip (w.getD o [])).foldl (fun (z : Nat × Nat) e =>
      let (a, k) := int32Add z.1 ((codeValue g.inFormat e.1).toInt * e.2)
      (a, z.2 + k)) (0, 0)
  let row := fun (o y n : Nat) =>
    let sums := (List.range n).map fun i => sum o y i
    let out := finishRow c (((List.range n).zip sums).map fun e => rescaleOne c j (s.weightExp u.herd j) true false (y * n + e.1) o e.2.1)
    { out with sats := out.sats + sums.foldl (fun a e => a + e.2) 0 }
  s.planarOut u g c g.outChannels (planarRows g g.outChannels row)

/-- The largest of the values taken; a NaN among them gives NaN (R327). -/
def poolMax (l : List Fl) : Fl :=
  match l with
  | [] => .fin false 0 0
  | a :: r => r.foldl (fun m x => if m.isNan || x.isNan then .nan else if Fl.lt m x then x else m) a

/-- The average in FP32: summed in raster order, divided once (R327). -/
def poolAverage (l : List Fl) (divisor : Nat) : Fl :=
  f32 (f32Div (l.foldl (fun a x => f32Add a (fmtFP32.round x)) 0) (f32OfInt divisor))

/-- POOL (R327): converted by the layer's configuration without weights or rescale. -/
def State.poolOp (s : State) (u : OpUnit) (g : AddrConfig) (c : ConvConfig) (x : Tensor) : State :=
  let value := fun (o y i : Nat) =>
    let l := (window g x true o 1 y i).filterMap fun e => e.map fun q => (codeValue g.inFormat q.1).scale q.2
    if g.poolMax then poolMax l
    else poolAverage l (if g.countPad then g.kernelW * g.kernelH else l.length)
  let row := fun (o y n : Nat) => convertRow c (unmasked ((List.range n).map fun i => value o y i))
  s.planarOut u g c g.inChannels (planarRows g g.inChannels row)

/-- The rows of an interleaved source, from external memory or as the command gives them (R322). -/
def State.interleaved (s : State) (u : OpUnit) (g : AddrConfig) (rows : List (List Nat)) : List (List Nat) :=
  if g.srcPlace ≠ 1 then rows
  else (List.range g.inHeight).map fun y =>
    rowCodes g.inFormat (g.inWidth * g.inChannels)
      (s.readMem (s.opPart u) (g.srcOffset + y * g.srcRowPitch) (storedRow g.inFormat (g.inWidth * g.inChannels)))

/-- PLANARISE (R322): element (c, y, x) of interleaved rows, as rows channel by channel, stored by R316; unreadable data abandons the lap. -/
def State.planariseOp (s : State) (u : OpUnit) (g : AddrConfig) (rows : List (List Nat)) : State :=
  let n := storedRow g.inFormat (g.inWidth * g.inChannels)
  if g.srcPlace = 1 && (List.range g.inHeight).any fun y => s.readFails (s.opPart u) (g.srcOffset + y * g.srcRowPitch) n then s.refuseOp u
  else
    let from_ := s.interleaved u g rows
    let out := (List.range g.inChannels).flatMap fun c => from_.map fun r =>
      (List.range (r.length / max 1 g.inChannels)).map fun i => r.getD (i * g.inChannels + c) 0
    let t := s.setHerdRt u.herd { s.herdRt u.herd with vecOut := out, exponents := [], payload := [] }
    t.storeRows u { g with stripe := 0, stripeCount := 1 } g.inFormat 1 g.inChannels g.inHeight
      (out.map fun r => { exp := 0, codes := r, sats := 0, nans := 0 })

/-! The commands. -/

/-- CONVWIN (R323). -/
def execConvwin (u : OpUnit) (g : AddrConfig) (fmtW : Nat) (x : Tensor) (w : List (List Nat)) (s : State) : Answer :=
  s.onHerd u.herd (s.onUnit u fun t => t.withSource u g x fun y => t.convwinOp u g fmtW y w)

/-- EXPAND (R324). -/
def execExpand (u : OpUnit) (g : AddrConfig) (x : Tensor) (firstRow : Nat) (s : State) : Answer :=
  s.onHerd u.herd (s.onUnit u fun t => t.withSource u g x fun y => t.expandOp u g y firstRow)

/-- GROUPCONV (R326). -/
def execGroupconv (u : OpUnit) (g : AddrConfig) (c : ConvConfig) (x : Tensor) (w : List (List Nat)) (job : RescaleJob)
    (s : State) : Answer :=
  s.onHerd u.herd (s.onUnit u fun t => t.withSource u g x fun y => t.groupconvOp u g c y w job)

/-- BLOCKCONV (R325). -/
def execBlockconv (u : OpUnit) (g : AddrConfig) (c : ConvConfig) (x : Tensor) (w : List (List Int)) (job : RescaleJob)
    (s : State) : Answer :=
  s.onHerd u.herd (s.onUnit u fun t => t.withSource u g x fun y => t.blockconvOp u g c y w job)

/-- POOL (R327). -/
def execPool (u : OpUnit) (g : AddrConfig) (c : ConvConfig) (x : Tensor) (s : State) : Answer :=
  s.onHerd u.herd (s.onUnit u fun t => t.withSource u g x fun y => t.poolOp u g c y)

/-- PLANARISE (R322). -/
def execPlanarise (u : OpUnit) (g : AddrConfig) (rows : List (List Nat)) (s : State) : Answer :=
  s.onHerd u.herd (s.onUnit u fun t => t.planariseOp u g rows)

end Sys2Proof.Machine
end

