-- ==== Sys2Proof/Machine/Adapt.lean ====
section
/-! DEFINITION. On-site adaptation: rings, samples, budget, training laps, candidates, tests, versions and commands
(spec/13_on_site_adaptation.md). -/

namespace Sys2Proof.Machine

open Sys2Proof

/-- The elements of a list, each with its place. -/
def indexed {α : Type} (l : List α) : List (Nat × α) := (List.range l.length).zip l

/-! Which streams adapt (R337, R338). -/

/-- AdaptState codes (R357). -/
def adaptOff : Nat := 0
def adaptCollecting : Nat := 1
def adaptTraining : Nat := 2
def adaptTesting : Nat := 3
def adaptHalted : Nat := 4

/-- Whether a stream's bit is set in its partition's AdaptStreams and the stream is LIVE. -/
def State.adaptListed (s : State) (p i : Nat) : Bool :=
  p ≠ 0 && s.streamPartition i = p && s.streamState i = 2 && mapBit (s.b (Entry.partAdaptAdaptStreams p)) i

/-- Whether a stream adapts (R337). -/
def State.adapts (s : State) (p i : Nat) : Bool :=
  s.adaptListed p i && (s.n (Entry.streamGenMode i) = 1 || s.n (Entry.streamGenMode i) = 2)

/-- The training table of a partition: the slot that AdaptSlot names, where it is ACTIVE with trigger ASYNC and training jobs (R338). -/
def State.trainingTable (s : State) (p : Nat) : Option (Nat × TableImage) :=
  let k := s.n (Entry.partAdaptAdaptSlot p)
  if 119 < k || s.n (Entry.slotPartition k) ≠ p then none
  else
    match (s.slotRt k).active with
    | none => none
    | some t => if t.trigger = 2 && t.jobKind = 3 then some (k, t) else none

/-- The budget of a period in 10 ns units (R343). -/
def AdaptPart.units (a : AdaptPart) : Nat := a.budget * 100000

/-- The halt cause of an adapting stream, the lowest code where several hold (R350, R351, R353; the order is a DESIGN CHOICE, log entry
34); 0 for none. -/
def State.haltCause (s : State) (p i : Nat) : Nat :=
  let table := s.trainingTable p
  if s.safetyMode && !s.on Entry.adaptSafetyAllow then 1
  else if s.shedLevel p ≠ 0 then 2
  else if (s.partRt p).arrivalMode = 2 then 3
  else if table.isNone then 4
  else if (s.adaptOf i).slots.isEmpty then 5
  else if s.n (Entry.streamGenMode i) = 0 then 6
  else
    match table with
    | some (k, _) => if (s.adaptPart p).units < s.n (Entry.slotAnnexBound k) then 7 else 0
    | none => 0

/-! Candidates and what a stream holds (R345, R348). -/

/-- The weights of a stream's active version: those of its slot, or the base weights of the training table's image (R347, R348). -/
def State.activeWeights (s : State) (p i : Nat) : Bytes :=
  let a := s.adaptOf i
  if a.activeSlot ≠ 0 then a.weights.getD (a.activeSlot - 1) []
  else
    match s.trainingTable p with
    | some (_, t) => Config.baseWeights t.digest a.kind
    | none => []

/-- A new candidate from the active version, its master weights decoded exactly, its moments 0 (R345). -/
def State.startCandidate (s : State) (p i : Nat) : State :=
  let a := s.adaptOf i
  s.setAdaptOf i { a with
    candidate := true, master := Config.masterOf (s.activeWeights p i), era := a.era + 1, steps := 0
    nextTest := s.n (Entry.partAdaptCandidateSteps p) }

/-- The candidate replaced by a new one, where one is held. -/
def State.restartCandidate (s : State) (p i : Nat) : State :=
  if (s.adaptOf i).candidate then s.startCandidate p i else s

/-- OFF: the ring and the candidate freed, the slots and the active version kept (R348, R350 step 7). -/
def State.adaptStops (s : State) (p i : Nat) : State :=
  let t := s.clearAdaptRing i
  let a := t.adaptOf i
  (t.setAdaptOf i { a with
    state := adaptOff, cause := 0, candidate := false, master := [], steps := 0, testing := none, discardTest := false, passed := false }).release p
    (tagAdaptRing i)

/-- All adaptation of a stream freed; its active version becomes 0 (R348). -/
def State.adaptFree (s : State) (i : Nat) : State :=
  let p := s.streamPartition i
  let t := (s.adaptStops p i).activate i 0
  (t.setAdaptOf i {}).release p (tagVersions i)

/-- A side of a picture reduced (R339; an odd side is rounded up, DESIGN CHOICE, log entry 34). -/
def reducedSide (n r : Nat) : Nat := match r with | 1 => divCeil n 2 | _ => divCeil (divCeil n 2) 2

/-- The mean of codes, rounded to nearest with ties to even (R339). -/
def meanCode (l : List Nat) : Nat := (roundEven (meanRat (l.map fun (n : Nat) => (n : Rat)))).toNat

/-- Two rows of a plane averaged 2×2; a last odd column has two samples (R339; DESIGN CHOICE, log entry 34). -/
def halveRow : List Nat → List Nat → List Nat
  | a :: b :: r, c :: d :: t => meanCode [a, b, c, d] :: halveRow r t
  | [a], [c] => [meanCode [a, c]]
  | _, _ => []

/-- A plane averaged 2×2; a last odd row is taken twice (R339; DESIGN CHOICE, log entry 34). -/
def halvePlane : List (List Nat) → List (List Nat)
  | a :: b :: r => halveRow a b :: halvePlane r
  | [a] => [halveRow a a]
  | [] => []

/-- A picture reduced once. -/
def halvedPicture (p : Picture) : Picture :=
  ⟨divCeil p.width 2, divCeil p.height 2, halvePlane p.luma, halvePlane p.cb, halvePlane p.cr⟩

/-- The reduced copy of a true frame (R339). -/
def reducedPicture (p : Picture) (r : Nat) : Picture :=
  match r with
  | 1 => halvedPicture p
  | _ => halvedPicture (halvedPicture p)

/-- Bytes of the network that a partition trains: the models of its training table (DESIGN CHOICE, log entry 34). -/
def State.networkBytes (s : State) (p : Nat) : Nat :=
  match s.trainingTable p with
  | none => 0
  | some (_, t) => t.models.foldl (fun a m => a + m.bytes) 0

/-- Step 1 of R350: the ring, the training state (a BF16 master, two moments and the candidate) and the three slots allocated, or HALTED
with NoMemory. -/
def State.adaptBegins (s : State) (p i w h : Nat) : State :=
  let a := s.adaptOf i
  let r := s.n (Entry.partAdaptReduction p)
  let n := s.networkBytes p
  let ring := 256 * frameBytes (reducedSide w r) (reducedSide h r) + 5 * n
  let slots := if a.slots.isEmpty then 3 * n else 0
  let b := { a with kind := s.n (Entry.streamGenMode i), reduction := r, testRatio := if a.slots.isEmpty then 65535 else a.testRatio }
  if !s.deviceFits p (ring + slots) then s.setAdaptOf i { b with state := adaptHalted, cause := 5 }
  else
    let t := s.allocate p (tagAdaptRing i) ring
    let t := if a.slots.isEmpty then t.allocate p (tagVersions i) slots else t
    t.setAdaptOf i { b with
      state := adaptCollecting, cause := 0
      slots := if a.slots.isEmpty then [0, 0, 0] else a.slots
      digests := if a.slots.isEmpty then [[], [], []] else a.digests
      weights := if a.slots.isEmpty then [[], [], []] else a.weights }

/-- The transitions that happen at once (R350 steps 5 and 7, R351): halts, and what leaves adaptation. -/
def State.adaptSweep (s : State) (p : Nat) : State :=
  s.each (s.adaptPart p).streams fun t e =>
    let i := e.1
    let a := t.adaptOf i
    if a.state = adaptOff then t
    else if !t.adaptListed p i then t.adaptStops p i
    else
      let cause := t.haltCause p i
      let t := if cause = 1 then
          let u := t.setAdaptOf i { a with candidate := false, master := [], steps := 0, testing := none, passed := false }
          u.activate i 0
        else t
      let a := t.adaptOf i
      if cause = 0 || a.state = adaptHalted then t else t.setAdaptOf i { a with state := adaptHalted, cause := cause }

/-- The sweep over every user partition. -/
def State.adaptSweepAll (s : State) : State := s.each [1, 2, 3, 4, 5, 6, 7, 8] State.adaptSweep

/-! Frames, samples and targets (R339 to R341). -/

/-- The frames of a target's triple (R340). -/
def tripleOf (kind target : Nat) : List Nat :=
  if kind = 1 then [target - 1, target, target + 1] else [target - 2, target - 1, target]

/-- Whether a target's triple lies in a ring. -/
def tripleComplete (kind : Nat) (ring : List Nat) (target : Nat) : Bool := (tripleOf kind target).all ring.contains

/-- The ordinals in a stream's ring (R339). -/
def AdaptStream.ring (a : AdaptStream) : List Nat := a.copies.map Prod.fst

/-- A copy in the ring. -/
def AdaptStream.copy (a : AdaptStream) (k : Nat) : Picture := ((a.copies.find? fun e => e.1 = k).map Prod.snd).getD ⟨0, 0, [], [], []⟩

/-- The frames that a target is predicted from, and the target's (R340). -/
def AdaptStream.sample (a : AdaptStream) (target : Nat) : List Picture × Picture :=
  (((tripleOf a.kind target).filter (· ≠ target)).map a.copy, a.copy target)

/-- The target whose triple a frame completes, where there is one. -/
def targetOf (kind ordinal : Nat) : Option Nat :=
  if kind = 1 then (if 3 ≤ ordinal then some (ordinal - 1) else none)
  else if 3 ≤ ordinal then some ordinal else none

/-- Dropped samples counted. -/
def State.dropSamples (s : State) (p n : Nat) : State := if n = 0 then s else s.add (Entry.partAdaptSamplesDropped p) n

/-- A sample queued; the oldest is dropped where the queue is full (R341). -/
def State.queueSample (s : State) (p i target : Nat) : State :=
  let a := s.adaptPart p
  let depth := s.n (Entry.partAdaptSampleQueue p)
  let q := a.queue ++ [(i, target)]
  (s.setAdaptPart p { a with queue := q.drop (q.length - depth) }).dropSamples p (q.length - depth)

/-- A reduced copy of a true frame enters the ring of 256; samples whose frames left it are dropped (R339, R341). -/
def State.ringCopies (s : State) (p i ordinal : Nat) (picture : Picture) : State :=
  let a := s.adaptOf i
  let b := { a with copies := ((ordinal, reducedPicture picture a.reduction) :: a.copies).take 256 }
  let t := s.setAdaptOf i b
  let r := t.adaptPart p
  let stale := r.queue.filter fun e => e.1 = i && !tripleComplete a.kind b.ring e.2
  (t.setAdaptPart p { r with queue := r.queue.filter fun e => !stale.contains e }).dropSamples p stale.length

/-- A ready true frame as adaptation takes it (R339, R341, R350 steps 1 and 2). -/
def State.adaptFrame (s : State) (i ordinal : Nat) : State :=
  let p := s.streamPartition i
  if !s.adapts p i then s
  else
    let picture := match (s.ctx i).frames.find? fun f => f.ordinal = ordinal with
      | some f => f.picture
      | none => ⟨s.cfgN i (Entry.streamMaxWidth i), s.cfgN i (Entry.streamMaxHeight i), [], [], []⟩
    let a := s.adaptOf i
    let s1 := if a.state = adaptOff || (a.state = adaptHalted && a.cause = 5) then s.adaptBegins p i picture.width picture.height else s
    let s2 := if (s1.adaptOf i).slots.isEmpty then s1
      else
        let t := s1.ringCopies p i ordinal picture
        let b := t.adaptOf i
        match targetOf b.kind ordinal with
        | none => t
        | some k =>
          if k % 4 = 0 || !tripleComplete b.kind b.ring k then t
          else
            let t := t.queueSample p i k
            if b.state = adaptCollecting then
              let u := t.startCandidate p i
              u.setAdaptOf i { u.adaptOf i with state := adaptTraining }
            else t
    s2.adaptSweep p

/-! Training laps (R342, R343, R346). -/

/-- The resumption of halted streams at a lap start (R350 step 6). -/
def State.adaptResumes (s : State) (p : Nat) : State :=
  s.each (s.adaptPart p).streams fun t e =>
    let a := t.adaptOf e.1
    if a.state = adaptHalted && a.cause ≠ 5 && t.haltCause p e.1 = 0 then
      t.setAdaptOf e.1 { a with state := if a.candidate then adaptTraining else adaptCollecting, cause := 0 }
    else t

/-- The held-out targets of a stream's ring whose triples are complete, in ascending order (R346). -/
def AdaptStream.heldOut (a : AdaptStream) : List (List Picture × Picture) :=
  ((a.ring.filter fun k => k % 4 = 0 && tripleComplete a.kind a.ring k).reverse).map a.sample

/-- The start of a lap of a training table: the streams that test take the lap, else samples from the head of the queue, within the
budget, after pending shading tables (R342, R343, R346). -/
def State.trainingStarts (s : State) (k : Nat) : State :=
  let s0 := s.beforeLap k
  let p := s0.slotRunner k
  let t := (s0.adaptSweep p).adaptResumes p
  let idle := (s.adaptSweep p).adaptResumes p
  match t.trainingTable p with
  | none => idle
  | some (k', img) =>
    let a := t.adaptPart p
    let bound := t.n (Entry.slotAnnexBound k)
    let shading := (t.slotsOf p).any fun j => t.shadePending j
    let testers := (a.streams.filter fun e => e.2.state = adaptTesting && !e.2.passed).map Prod.fst
    let samples := if testers.isEmpty then
        (a.queue.filter fun e => (t.adaptOf e.1).state = adaptTraining).take img.lanes
      else []
    if k' ≠ k || !t.lapAllowed k || !t.slotReady k || t.shedLevel p ≠ 0 || shading || a.units < a.started + bound ||
        (testers.isEmpty && samples.isEmpty) then idle
    else
      let u := t.beginLap k img [] none 0
      let u := u.setAdaptPart p { u.adaptPart p with
        started := a.started + bound
        queue := a.queue.filter fun e => !samples.contains e
        lapSamples := samples.map fun e =>
          let b := t.adaptOf e.1
          ⟨e.1, e.2, b.era, (b.sample e.2).1, (b.sample e.2).2⟩ }
      u.each testers fun u i =>
        let b := u.adaptOf i
        u.setAdaptOf i { b with testing := some b.heldOut, discardTest := false }

/-- The optimiser step of a stream's candidate over its lanes of a lap, in ascending order (R342, R344). -/
def State.trainCandidate (s : State) (lanes : List AdaptSample) (generator i : Nat) : State :=
  let a := s.adaptOf i
  let mine := (indexed lanes).filter fun e => e.2.stream = i && e.2.era = a.era
  if !a.candidate || mine.isEmpty then s
  else s.setAdaptOf i { a with
    master := Config.trained a.master (mine.map fun e => (e.1, e.2.inputs, e.2.answer)) generator }

/-- A sample trained into its candidate; at its last step the stream tests (R350 step 3). -/
def State.trainSample (s : State) (p : Nat) (e : AdaptSample) : State :=
  let t := s.bump (Entry.partAdaptSamples p)
  let a := t.adaptOf e.stream
  if !a.candidate || a.era ≠ e.era then t
  else
    let n := a.steps + 1
    t.setAdaptOf e.stream { a with
      steps := n, state := if a.state = adaptTraining && a.nextTest ≤ n then adaptTesting else a.state }

/-- The slot that a new version takes: an empty one, or that of the lowest version that is not active (R348). -/
def AdaptStream.nextSlot (a : AdaptStream) : Nat :=
  match a.slots.findIdx? (· = 0) with
  | some i => i + 1
  | none =>
    ((minBy (fun (i : Nat) => ((a.slots.getD (i - 1) 0 : Nat) : Int)) ([1, 2, 3].filter fun i => i ≠ a.activeSlot))).getD 1

/-- A promotion (R347): the master weights converted into a new version, stored with its digest and active; a new candidate. -/
def State.promote (s : State) (p i : Nat) : State :=
  let a := s.adaptOf i
  let slot := a.nextSlot
  let made := Config.versionOf a.master
  let t := s.setAdaptOf i { a with
    highest := a.highest + 1, slots := a.slots.set (slot - 1) (a.highest + 1)
    digests := a.digests.set (slot - 1) (Config.shake256 made), weights := a.weights.set (slot - 1) made
    promotions := a.promotions + 1, state := adaptTraining, passed := false }
  let t := ((t.activate i slot).bump (Entry.partAdaptPromotions p)).bump Entry.adaptPromotionsTotal
  t.startCandidate p i

/-- A rejection (R347). -/
def State.rejectCandidate (s : State) (p i : Nat) : State :=
  let a := s.adaptOf i
  let t := s.setAdaptOf i { a with rejections := a.rejections + 1, state := adaptTraining }
  (t.startCandidate p i).bump (Entry.partAdaptRejections p)

/-- Whether a herd of a partition is under reset (R352). -/
def State.underReset (s : State) (p : Nat) : Bool :=
  (List.range s.herdCount).any fun h => s.n (Entry.herdPartition h) = p && s.n (Entry.herdState h) = 2

/-- Whether a candidate is rejected by its errors: a NaN, or more than the active version's by the margin (R346, FP32 by R296). -/
def testRejects (ec ea margin : Nat) : Bool :=
  (f32 ec).isNan || f32Lt (f32Div (f32Mul ea (f32OfInt ((100 : Int) - margin))) (f32OfInt 100)) ec

/-- The mean absolute difference of 10-bit luma between a prediction and its target, as an FP32 code summed in FP32 (R346; the order
of the sum is a DESIGN CHOICE, log entry 34). -/
def meanDifference (weights : Bytes) (t : List Picture × Picture) : Nat :=
  let d := (indexed t.2.luma).flatMap fun r => (indexed r.2).map fun c =>
    ((c.2 : Int) - ((Config.predicted weights t.1 r.1 c.1).toNat : Int)).natAbs
  f32Div (d.foldl (fun a (x : Nat) => f32Add a (f32OfInt x)) 0) (f32OfInt d.length)

/-- The error of weights over the held-out targets (R346). -/
def testError (weights : Bytes) (l : List (List Picture × Picture)) : Nat :=
  l.foldl (fun a t => f32Add a (meanDifference weights t)) 0

/-- TestRatio: e_c / e_a in 1/1,000, 65,535 for a NaN (R357). -/
def testRatioOf (ec ea : Nat) : Nat :=
  let r := Fl.mul (f32 (f32Div ec ea)) (Fl.ofInt 1000)
  if r.isNan then 65535 else (r.toIntSat 0 65535).toNat

/-- The end of a test (R346, R350 step 4): the errors of the candidate and of the active version over the targets latched. -/
def State.testEnds (s : State) (p i : Nat) : State :=
  let a := s.adaptOf i
  match a.testing with
  | none => s
  | some l =>
    let t := s.setAdaptOf i { a with testing := none, discardTest := false }
    let b := t.adaptOf i
    if a.discardTest || a.state ≠ adaptTesting then
      t.setAdaptOf i { b with state := if a.state = adaptTesting then adaptTraining else a.state }
    else if l.length < 32 then t.setAdaptOf i { b with state := adaptTraining, nextTest := a.steps + 16 }
    else
      let ec := testError (Config.versionOf a.master) l
      let ea := testError (s.activeWeights p i) l
      let t := t.setAdaptOf i { b with testRatio := testRatioOf ec ea }
      if testRejects ec ea (s.n Entry.adaptPromoteMargin) then t.rejectCandidate p i
      else if t.underReset p then
        let t := t.setAdaptOf i { t.adaptOf i with passed := true }
        t.setAdaptPart p { t.adaptPart p with waiting := (t.adaptPart p).waiting ++ [(false, i)] }
      else t.promote p i

/-- One draw of the generator (R344): its state after `n` of them. -/
def generatorAfter (g n : Nat) : Nat := (g + n * 0x9E37_79B9_7F4A_7C15) % 2 ^ 64

/-- The value that a generator state gives (R344). -/
def generatorValue (g : Nat) : Nat :=
  let mix := fun (z k m : Nat) => (z ^^^ (z / 2 ^ k)) * m % 2 ^ 64
  let z := mix (mix (g % 2 ^ 64) 30 0xBF58_476D_1CE4_E5B9) 27 0x94D0_49BB_1331_11EB
  z ^^^ (z / 2 ^ 31)

/-- The boundary of a training lap (R342, R344, R346, R354): samples trained or dropped, tests ended or repeated. -/
def State.trainingEnds (s : State) (k : Nat) : State :=
  let p := s.slotRunner k
  match (s.slotRt k).lap with
  | none => s
  | some l =>
    if !l.abandoned && l.inFlight ≠ 0 then s
    else
      let a := s.adaptPart p
      let t := s.setAdaptPart p { a with lapSamples := [] }
      let testers := (a.streams.filter fun e => e.2.testing.isSome).map Prod.fst
      if l.abandoned then
        let t := t.dropSamples p a.lapSamples.length
        t.each testers fun t i =>
          let b := t.adaptOf i
          t.setAdaptOf i { b with
            testing := none, discardTest := false
            state := if b.discardTest && b.state = adaptTesting then adaptTraining else b.state }
      else
        let draws := match t.trainingTable p with
          | some (_, img) => Config.drawn img.digest a.lapSamples.length
          | none => 0
        let t := t.setAdaptPart p { t.adaptPart p with generator := generatorAfter a.generator draws }
        let t := t.each (a.lapSamples.map AdaptSample.stream).eraseDups fun t i => t.trainCandidate a.lapSamples a.generator i
        let t := t.each a.lapSamples fun t e => t.trainSample p e
        t.each testers fun t i => t.testEnds p i

/-- Whether a slot trains: it is the training table's. -/
def State.trains (s : State) (k : Nat) : Bool :=
  match (s.slotRt k).active with
  | none => false
  | some t => t.jobKind = 3

/-! Budget periods (R343). -/

/-- The start of a period: BudgetUsed of the last one, the budget taken anew. -/
def State.budgetPeriod (s : State) (p : Nat) : State :=
  let a := s.adaptPart p
  let t := s.setN (Entry.partAdaptBudgetUsed p) (min 25 (a.started / 100000))
  let t := t.setAdaptPart p { a with started := 0, budget := t.n Entry.adaptAdaptBudget }
  t.adaptSweep p

/-! Commands (R349, R351 to R353, R357). -/

/-- A command's operation, stream and version. -/
def commandOp (w : Nat) : Nat := bits w 61 3
def commandStream (w : Nat) : Nat := bits w 32 9
def commandVersion (w : Nat) : Nat := bits w 0 32

/-- CommandResult of a command as it is written, 0 where it can be done (R349, R351, R353, R356; the order is a DESIGN CHOICE, log entry
34). -/
def State.commandCheck (s : State) (p w : Nat) : Nat :=
  let i := commandStream w
  let op := commandOp w
  let v := commandVersion w
  if (s.partRt p).arrivalMode = 2 then 4
  else if 2 < op then 5
  else if p = 0 || s.streamPartition i ≠ p || (s.adaptOf i).slots.isEmpty then 1
  else if op = 0 && v ≠ 0 && s.safetyMode && !s.on Entry.adaptSafetyAllow then 6
  else if op = 0 && ((s.adaptOf i).slotOf v).isNone then 2
  else 0

/-- The candidate replaced after a command; a test whose lap runs is discarded at its boundary (R349). -/
def State.afterCommand (s : State) (p i : Nat) : State :=
  let a := s.adaptOf i
  let t := s.setAdaptOf i { a with
    discardTest := a.testing.isSome, passed := false
    state := if a.state = adaptTesting && a.testing.isNone then adaptTraining else a.state }
  t.restartCandidate p i

/-- A command done: 0, or 2 where the version is no longer held. -/
def State.applyCommand (s : State) (p w : Nat) : State :=
  let i := commandStream w
  let a := s.adaptOf i
  match commandOp w with
  | 0 =>
    match a.slotOf (commandVersion w) with
    | none => s.setN (Entry.partAdaptCommandResult p) 2
    | some k =>
      let t := ((s.activate i k).afterCommand p i).bump (Entry.partAdaptRollbacks p)
      (t.bump Entry.adaptRollbacksTotal).setN (Entry.partAdaptCommandResult p) 0
  | 1 => (s.afterCommand p i).setN (Entry.partAdaptCommandResult p) 0
  | _ =>
    let t := s.activate i 0
    let t := t.setAdaptOf i { t.adaptOf i with slots := [0, 0, 0], digests := [[], [], []], weights := [[], [], []] }
    (t.afterCommand p i).setN (Entry.partAdaptCommandResult p) 0

/-- A write of Command (R349): refused, waiting for a herd reset, or done. -/
def State.adaptCommand (s : State) (p w : Nat) : State :=
  let e := s.commandCheck p w
  if e ≠ 0 then s.setN (Entry.partAdaptCommandResult p) e
  else if s.underReset p then
    let i := commandStream w
    let a := s.adaptOf i
    let t := s.setAdaptOf i { a with discardTest := a.testing.isSome }
    let t := t.setAdaptPart p { t.adaptPart p with waiting := (t.adaptPart p).waiting ++ [(true, w)] }
    t.setN (Entry.partAdaptCommandResult p) 3
  else s.applyCommand p w

/-- What waited for a herd reset, in order (R349, R352). -/
def State.adaptDrain (s : State) (p : Nat) : State :=
  if s.underReset p then s
  else
    let l := (s.adaptPart p).waiting
    let t := s.setAdaptPart p { s.adaptPart p with waiting := [] }
    t.each l fun t e =>
      if e.1 then
        (if (t.adaptOf (commandStream e.2)).slots.isEmpty then t.setN (Entry.partAdaptCommandResult p) 1 else t.applyCommand p e.2)
      else if (t.adaptOf e.2).passed then t.promote p e.2
      else t

/-- An uncorrectable error in a stream's weights (R354): a candidate is discarded, and a test of it too (DEDUCED, log entry 34), and a new
one starts from the active version; an adapted active version is freed, version 0 active, and the jobs that were to use it abandoned. -/
def State.weightsLost (s : State) (i : Nat) (ofCandidate : Bool) : State :=
  let p := s.streamPartition i
  let a := s.adaptOf i
  if p = 0 then s
  else if ofCandidate then s.afterCommand p i
  else if a.activeSlot = 0 then s
  else
    let t := s.dropJobs fun j => j.kind = 1 && j.stream = i && j.inputs.weights = a.version
    let t := t.activate i 0
    let k := a.activeSlot - 1
    (t.setAdaptOf i { t.adaptOf i with
      slots := a.slots.set k 0, digests := a.digests.set k [], weights := a.weights.set k [] }).bump (Entry.partAdaptCorruptVersions p)

/-- A write of Mode as adaptation takes it (R348): another Kind frees what the stream holds. -/
def State.adaptMode (s : State) (i mode : Nat) : State :=
  let a := s.adaptOf i
  let t := if (mode = 1 || mode = 2) && a.kind ≠ 0 && a.kind ≠ mode then s.adaptFree i else s
  t.adaptSweep (t.streamPartition i)

/-- Adaptation of a partition as it starts (R344, R356). -/
def State.adaptPartStarts (s : State) (p : Nat) : State :=
  let t := s.setAdaptPart p { generator := s.n (Entry.partAdaptSeed p), budget := s.n Entry.adaptAdaptBudget }
  t.zero [Entry.partAdaptSamples p, Entry.partAdaptSamplesDropped p, Entry.partAdaptPromotions p, Entry.partAdaptRejections p,
    Entry.partAdaptRollbacks p, Entry.partAdaptCorruptVersions p]

/-- A stream's 32 bytes of StreamTable (R357). -/
def adaptRow (a : AdaptStream) : Bytes :=
  leBytes 32 <| packFields
    [(32, a.rejections), (32, a.promotions), (32, a.slots.getD 2 0), (32, a.slots.getD 1 0), (32, a.slots.getD 0 0),
     (32, a.version), (16, 0), (16, a.testRatio), (16, min 65535 a.steps), (6, 0), (2, a.activeSlot), (2, a.kind), (3, a.cause),
     (3, a.state)]

/-- StreamTable of a partition (R356, R357). -/
def State.streamTable (s : State) (p : Nat) : Bytes :=
  (List.range 512).flatMap fun i => if p ≠ 0 && s.streamPartition i = p then adaptRow (s.adaptOf i) else zeros 32

/-! The commands. -/

/-- LAP_START (R272, R278, R342). -/
def execLapStart (l : LapTrigger) (s : State) : Answer :=
  s.answer (s.ifRunning (if (s.beforeLap l.slot).trains l.slot then s.trainingStarts l.slot else s.lapStarts l.slot l.lines))

/-- LAP_BOUNDARY (R272, R346). -/
def execLapBoundary (k : Fin 128) (tenNs : Nat) (s : State) : Answer :=
  s.answer (s.ifRunning
    (let t := if s.trains k then s.trainingEnds k else s
     let t := t.lapEnds k tenNs
     t.adaptSweep (t.slotRunner k)))

/-- NOP (R269): nothing. -/
def execNop (k : Fin 128) (h : Fin 8) (s : State) : Answer := s.answer (s.withLeg k h 0xE0 (fun _ => true) id)

/-- BARRIER (R269): no further baton of the position until the lap's batons are taken. -/
def execBarrier (k : Fin 128) (h : Fin 8) (s : State) : Answer :=
  s.answer (s.ifRunning (s.withLeg k h 0xE1 (fun _ => true) fun l =>
    { l with barrier := if l.inFlight = 0 || l.barrier.contains h then l.barrier else l.barrier ++ [(h : Nat)] }))

/-- MODEL (R269, R281): the model was made resident at the lap's start; nothing is sent. -/
def execModel (k : Fin 128) (h : Fin 8) (number : BitVec 15) (s : State) : Answer :=
  s.answer (s.withLeg k h 0xE3 (fun x => legImmediate x % 2 ^ 15 = number.toNat) id)

/-- COMPLETE (R269): the lane's job is marked complete. -/
def execComplete (k : Fin 128) (h : Fin 8) (lane : BitVec 6) (s : State) : Answer :=
  s.answer (s.ifRunning (s.withLeg k h 0xE4 (fun _ => true) fun l =>
    { l with marked := if l.marked.contains lane.toNat then l.marked else l.marked ++ [lane.toNat] }))

/-- END (R269): the position's legs end for this lap. -/
def execEndLegs (k : Fin 128) (h : Fin 8) (s : State) : Answer :=
  s.answer (s.ifRunning (s.withLeg k h 0xE5 (fun _ => true) fun l => { l with ended := l.ended ++ [(h : Nat)] }))

/-- ADAPT_BUDGET_PERIOD (R343). -/
def execAdaptBudgetPeriod (p : Fin 8) (s : State) : Answer := s.answer (s.ifRunning (s.budgetPeriod (p + 1)))

end Sys2Proof.Machine
end

