-- ==== Sys2Proof/Machine/Peers.lean ====
section
/-! DEFINITION. The link layer of peers: lanes, frames, replay, credits, routes and the sending of batons to other devices
(R458 to R468). -/

namespace Sys2Proof.Machine

open Sys2Proof

/-! Links.  Links 0 to 5 are the Zennik links; link 16 + d is the UDP session with device d (R468). -/

/-- The link record of the UDP session with a device. -/
def udpLink (device : Nat) : Nat := 16 + device

/-- The link by which a route leaves: 255 stands for UDP (R469). -/
def routeLink (device link : Nat) : Nat := if link = 255 then udpLink device else link

/-- Lane `l` of link `z` as a unit (R410). -/
def laneUnit (z l : Nat) : UnitCode := ⟨.zennikLane, 8 * z + l⟩

/-- The lanes of a link that are proven and not fenced (R445, R465). -/
def State.goodLanes (s : State) (z : Nat) : List Nat :=
  (List.range 8).filter fun l => !(s.zlink z).badLanes.contains l && !s.fenced (laneUnit z l)

/-- The lanes that a link runs on: all 8, or its four lowest-numbered good ones (R461, R465). -/
def lanesUsed (good : List Nat) : List Nat := if good.length = 8 then good else if 4 ≤ good.length then good.take 4 else []

/-- LanesActive and LaneMask. -/
def State.showLanes (s : State) (z : Nat) (l : List Nat) : State :=
  (s.setN (Entry.zlinkLanesActive z) l.length).setN (Entry.zlinkLaneMask z) (maskOf l)

/-- LinkState: 0 down, 1 handshake, 2 up, 3 fenced, 4 refused or duplicate (R469). -/
def State.linkState (s : State) (z : Nat) : Nat := s.n (Entry.zlinkLinkState z)

/-- Pieces of `n` bytes, the last short. -/
def pieces (n : Nat) (fuel : Nat) (b : Bytes) : List Bytes :=
  match fuel with
  | 0 => []
  | fuel + 1 => if b.isEmpty then [] else b.take n :: pieces n fuel (b.drop n)

/-- The UDP peers: device, Ethernet port and address; bytes short of a whole entry name none (R469). -/
def State.udpPeers (s : State) : List (Nat × Nat × Bytes) :=
  let b := s.b Entry.udpUdpPeers
  ((pieces 24 b.length b).filter fun e => e.length = 24).map fun e => (field e 0 2, field e 2 1, slice e 4 16)

/-- The Ethernet port of a UDP peer. -/
def State.udpPort? (s : State) (device : Nat) : Option Nat := (s.udpPeers.find? fun e => e.1 = device).map fun e => e.2.1

/-- The Ethernet port of a UDP session: the one it was opened with, else that of UdpPeers (R469). -/
def State.udpPortOf (s : State) (z : Nat) : Option Nat :=
  if (s.zlink z).session = 0 then s.udpPort? (z - 16) else some (s.zlink z).port

/-- Whether frames can leave on a link. -/
def State.linkRuns (s : State) (z : Nat) : Bool :=
  if z < 16 then (s.linkState z = 1 || s.linkState z = 2 || s.linkState z = 4) && !(s.zlink z).retraining
  else
    match s.udpPortOf z with
    | none => false
    | some e => s.n (Entry.ethLinkState e) = 1

/-! Frames (R462 to R464). -/

/-- Frames that a replay buffer and a receive buffer hold. -/
def frameBuffer : Nat := 512

/-- Whether the replay buffer holds room for `n` more frames. -/
def ZLink.room (l : ZLink) (n : Nat) : Bool := l.replay.length + n ≤ frameBuffer

/-- AckNumber: the low 32 bits of the last frame received in order. -/
def ZLink.ack (l : ZLink) : Nat := (l.nextRx + 2 ^ 32 - 1) % 2 ^ 32

/-- The 256 bytes of a frame: the header, and the body and tag encrypted inside a session, before it the clear body, its CRC-32 and 12 zero bytes
(R462). -/
def linkFrame (l : ZLink) (f : ZFrame) : Bytes :=
  let header := leBytes 16 (packFields [(64, f.number), (32, l.ack), (16, min l.toReturn 65535), (8, 0), (8, f.type)])
  header ++ fit 240 (if l.session = 3 then Config.gcm l.key header f.body
    else f.body ++ leBytes 4 (crc32 ((header ++ f.body).map fun (x : Byte) => x.toNat)))

/-- The bytes that carry a frame on a link: itself, or a datagram to a UDP peer with a header and this one frame (R462, R468; one frame a
datagram is a DESIGN CHOICE, log entry 37). -/
def State.wireBytes (s : State) (z : Nat) (f : ZFrame) : Bytes :=
  let frame := linkFrame (s.zlink z) f
  if z < 16 then frame
  else leBytes 2 0x5A4E ++ leBytes 1 1 ++ zeros 1 ++ leBytes 2 s.deviceNumber ++ leBytes 2 (z - 16) ++ zeros 8 ++ frame

/-- A frame driven on a link, with the acknowledgement and the credits of the moment; FramesSent counts it. -/
def State.driveFrame (s : State) (z : Nat) (f : ZFrame) : State :=
  let l := s.zlink z
  let t := s.emit (.zennik z f.type f.number l.ack (min l.toReturn 65535) f.body (s.wireBytes z f))
  let t := t.setZlink z { l with toReturn := l.toReturn - min l.toReturn 65535 }
  if z < 16 then t.bump (Entry.zlinkFramesSent z) else t

/-- A new frame: it takes the next number and stays in the replay buffer (R462, R464). -/
def State.sendFrame (s : State) (z type : Nat) (body : Bytes) : State :=
  let l := s.zlink z
  let f : ZFrame := { number := l.nextTx, type := type, body := fit 224 body }
  (s.setZlink z { l with nextTx := (l.nextTx + 1) % 2 ^ 64, replay := l.replay ++ [f] }).driveFrame z f

/-- An acknowledgement (2) or a negative one (3); owed where the replay buffer is full. -/
def State.sendAnswer (s : State) (z type : Nat) : State :=
  let l := s.zlink z
  if s.linkRuns z && l.room 1 then (s.setZlink z { l with owes := 0 }).sendFrame z type []
  else s.setZlink z { l with owes := type }

/-- Frames of a handshake message (Type 4), 224 bytes each (log entry 37). -/
def State.sendMessage (s : State) (z : Nat) (b : Bytes) : State :=
  s.each (pieces 224 b.length b) fun t p => t.sendFrame z 4 p

/-- Frames of the replay buffer from a number up, driven again in order; Resends counts them (R464; log entry 37). -/
def State.resendFrom (s : State) (z number : Nat) : State :=
  s.each ((s.zlink z).replay.filter fun f => number ≤ f.number) fun t f =>
    let t := t.driveFrame z f
    if z < 16 then t.bump (Entry.zlinkResends z) else t

/-- What an AckNumber acknowledges: the frames up to the last one sent that has these low bits; batons acknowledged whole are taken. -/
def State.takeAck (s : State) (z ack : Nat) : State :=
  let l := s.zlink z
  let back := (l.nextTx + 2 ^ 32 - 1 - ack) % 2 ^ 32
  if l.replay.length ≤ back then s
  else
    let last := l.nextTx - 1 - back
    let done := l.sent.filter fun e => e.1 ≤ last
    let t := s.setZlink z
      { l with replay := l.replay.filter fun f => last < f.number, sent := l.sent.filter fun e => last < e.1 }
    t.each done fun t e => if e.2.srcDevice.toNat = t.deviceNumber then t.countTaken e.2 else t

/-! Batons in frames (R265, R463). -/

/-- The descriptor's 32 bytes. -/
def batonDescriptor (b : Baton) : Bytes :=
  leBytes 32 <| packFields
    [(16, 0), (1, ofBool b.last), (4, b.format.toNat), (16, b.part.toNat), (6, b.lane.toNat), (14, b.leg.toNat), (7, b.slot.toNat),
     (32, b.lap.toNat), (24, b.job.toNat), (24, b.payloadAddr.toNat), (2, b.payloadPlace.toNat), (13, b.payloadBytes.toNat),
     (3, b.kind.toNat), (4, b.partition.toNat), (6, b.dstQueue.toNat), (10, b.srcKid.toNat), (10, b.dstKid.toNat),
     (16, b.srcStation.toNat), (16, b.srcDevice.toNat), (16, b.dstStation.toNat), (16, b.dstDevice.toNat)]

/-- The baton in the bodies of its frames. -/
def batonOf (b : Bytes) : Baton :=
  let d := field b 0 32
  let f := fun (lo n : Nat) => BitVec.ofNat n (bits d lo n)
  { dstDevice := f 240 16, dstStation := f 224 16, srcDevice := f 208 16, srcStation := f 192 16, dstKid := f 182 10
    srcKid := f 172 10, dstQueue := f 166 6, partition := f 162 4, kind := f 159 3, payloadBytes := f 146 13
    payloadPlace := f 144 2, payloadAddr := f 120 24, job := f 96 24, lap := f 64 32, slot := f 57 7, leg := f 43 14
    lane := f 37 6, part := f 21 16, format := f 17 4, last := d.testBit 16
    payload := slice b 32 (bits d 146 13) }

/-- Frames that a baton takes (R463). -/
def batonFrames (payloadBytes : Nat) : Nat := divCeil (32 + payloadBytes) 224

/-- Whether a link can send a baton now: an open session, credit for all of its frames and room to keep them (R384, R463). -/
def State.canSend (s : State) (z : Nat) (b : Baton) : Bool :=
  let l := s.zlink z
  let k := batonFrames b.payloadBytes.toNat
  s.linkRuns z && l.session = 3 && k ≤ l.credits && l.room k

/-- A baton sent on a link. -/
def State.sendBaton (s : State) (z : Nat) (b : Baton) : State :=
  let k := batonFrames b.payloadBytes.toNat
  let body := fit (224 * k) (batonDescriptor b ++ b.payload)
  let t := s.each (pieces 224 body.length body) fun t p => t.sendFrame z 1 p
  let l := t.zlink z
  t.setZlink z { l with credits := l.credits - k, sent := l.sent ++ [(l.nextTx - 1, b)] }

/-! Routes (R466, R467). -/

/-- The route to a device. -/
def State.route? (s : State) (device : Nat) : Option Route := s.peers.routes.find? fun r => r.device = device

/-- A baton that no route reaches (R467): abandoned, with the lap of its sender where that is this device. -/
def State.unreachable (s : State) (b : Baton) : State :=
  let t := if b.srcDevice.toNat = s.deviceNumber then s.dropBaton b else s
  t.bump Entry.fabricBatonsUnreachable

/-- The opening of a UDP session: the device's own chain sent to the peer (R384 step 1, R468; log entry 37). -/
def State.udpBegin (s : State) (device : Nat) : State :=
  let z := udpLink device
  if (s.zlink z).session = 0 && s.linkRuns z then
    (s.setZlink z { session := 1, port := (s.udpPort? device).getD 0, credits := frameBuffer, peerDevice := device }).sendMessage z s.certChain
  else s

/-- The batons that wait for a link, oldest first: each is sent where it can be, and otherwise those to its device wait behind it (R15). -/
def State.sendWaiting (s : State) : State :=
  let step := fun (acc : State × List Nat × List Baton) (b : Baton) =>
    let (t, blocked, left) := acc
    let d := b.dstDevice.toNat
    match t.route? d with
    | none => (t.unreachable b, blocked, left)
    | some r =>
      let z := routeLink d r.link
      if blocked.contains d || r.pending.isSome then (t, d :: blocked, left ++ [b])
      else if t.canSend z b then (t.sendBaton z b, blocked, left)
      else (if r.link = 255 then t.udpBegin d else t, d :: blocked, left ++ [b])
  let (t, _, left) := s.peers.waiting.foldl step ({ s with peers := { s.peers with waiting := [] } }, [], [])
  { t with peers := { t.peers with waiting := left ++ t.peers.waiting } }

/-- A baton to another device. -/
def State.sendRemote (s : State) (b : Baton) : State :=
  ({ s with peers := { s.peers with waiting := s.peers.waiting ++ [b] } }).sendWaiting

/-- Whether batons to a device are unacknowledged on a link. -/
def State.unacked (s : State) (z device : Nat) : Bool := (s.zlink z).sent.any fun e => e.2.dstDevice.toNat = device

/-- Whether a link carries routes: up, its peer's number its own (R458). -/
def State.carries (s : State) (z : Nat) : Bool := s.linkState z = 2 && (s.zlink z).session = 3

/-- The routes that links and UDP peers offer: device, hops and link; the peers of links at one hop, what they announce one hop further
up to 3, UDP for the rest (R466). -/
def State.offers (s : State) : List (Nat × Nat × Nat) :=
  let own := s.deviceNumber
  let zennik := (List.range 6).flatMap fun z =>
    if s.carries z then
      ((s.zlink z).peerDevice, 1, z) ::
        (((s.zlink z).routes.filter fun r => r.device.toNat ≠ own && r.hops + 1 ≤ 3).map fun r => (r.device.toNat, r.hops + 1, z))
    else []
  zennik ++ ((s.udpPeers.filter fun e => e.1 ≠ own && !(zennik.any fun o => o.1 = e.1)).map fun e => (e.1, 1, 255))

/-- The best route to a device: fewest hops, then the lower link number. -/
def bestOffer (l : List (Nat × Nat × Nat)) (device : Nat) : Option (Nat × Nat) :=
  (minBy (fun o : Nat × Nat × Nat => ((o.2.1 * 256 + o.2.2 : Nat) : Int)) (l.filter fun o => o.1 = device)).map (·.2)

/-- Reachable: 4 bytes a device, ascending (R469). -/
def reachable (l : List Route) : Bytes :=
  joinBytes ((sortBy (fun r : Route => (r.device : Int)) l).map fun r =>
    leBytes 2 r.device ++ leBytes 1 r.hops ++ leBytes 1 r.link)

/-- A route frame on a link: each device reached over Zennik, with its hop count (R466). -/
def State.sendRoutes (s : State) (z : Nat) : State :=
  if s.linkRuns z && (s.zlink z).session = 3 && (s.zlink z).room 1 then
    s.sendFrame z 5 (Config.routeBody ((s.peers.routes.filter fun r => r.link ≠ 255).map fun r => (r.device, r.hops)))
  else s

/-- A route frame on every link. -/
def State.announce (s : State) : State := s.each (List.range 6) State.sendRoutes

/-- A route put in use; RouteChanges counts it where the device was reached by another link. -/
def State.useRoute (s : State) (device hops link : Nat) : State :=
  let rest := s.peers.routes.filter fun r => r.device ≠ device
  let t := { s with peers := { s.peers with routes := rest ++ [{ device := device, hops := hops, link := link }] } }
  match s.route? device with
  | none => t
  | some r => if r.link = link then t else t.bump Entry.fabricRouteChanges

/-- One device's route after a change of what links offer: no longer reached, newly reached, or changed once no baton to it is
unacknowledged on the old link (R467). -/
def State.settleRoute (s : State) (offers : List (Nat × Nat × Nat)) (device : Nat) : State :=
  match bestOffer offers device, s.route? device with
  | none, none => s
  | none, some _ =>
    { s with peers := { s.peers with routes := s.peers.routes.filter fun r => r.device ≠ device } }
  | some (hops, link), none => s.useRoute device hops link
  | some (hops, link), some r =>
    if r.link = link then s.useRoute device hops link
    else if s.unacked (routeLink device r.link) device then
      { s with peers := { s.peers with
          routes := s.peers.routes.map fun x => if x.device = device then { x with pending := some (hops, link) } else x } }
    else s.useRoute device hops link

/-- The routes after a change; where the reach changed, Reachable and a route frame on every link (R466). -/
def State.updateRoutes (s : State) : State :=
  let offers := s.offers
  let devices := ((offers.map (·.1)) ++ (s.peers.routes.map Route.device)).eraseDups
  let t := s.each devices fun t d => t.settleRoute offers d
  let b := reachable t.peers.routes
  let t := if b = s.b Entry.fabricReachable then t else (t.setB Entry.fabricReachable b).announce
  t.sendWaiting

/-- ROUTE_CHANGE_APPLY: a route that waits takes effect once no baton is unacknowledged on the old one (R467). -/
def State.applyRoute (s : State) (device : Nat) : State :=
  match s.route? device with
  | none => s
  | some r =>
    match r.pending with
    | none => s
    | some (hops, link) =>
      if s.unacked (routeLink device r.link) device then s
      else
        let t := s.useRoute device hops link
        (t.setB Entry.fabricReachable (reachable t.peers.routes)).announce.sendWaiting

/-! Sessions (R384). -/

/-- UdpSessions: the UDP sessions open. -/
def State.showUdp (s : State) : State :=
  s.setN Entry.udpUdpSessions ((s.peers.links.filter fun e => 16 ≤ e.1 && e.2.session = 3).length % 256)

/-- The name of a link's session keys. -/
def sessionKey (z : Nat) : KeyName := if z < 16 then .session z else .udpSession (z - 16)

/-- A key destroyed. -/
def State.destroyKey (s : State) (k : KeyName) : State :=
  { s with security := { s.security with keys := s.security.keys.filter (· ≠ k) } }

/-- Whether a key exists. -/
def State.hasKey (s : State) (k : KeyName) : Bool := s.security.keys.contains k

/-- A key made by the RTU, which is `n` keys of KeysGenerated (R378; log entry 36). -/
def State.makeKey (s : State) (k : KeyName) (n : Nat) : State :=
  let t := s.destroyKey k
  ({ t with security := { t.security with keys := t.security.keys ++ [k] } }).add Entry.secKeysGenerated n

/-- Whether the RTU makes keys (R379). -/
def State.trngHealthy (s : State) : Bool := s.n Entry.secTrngState = 0

/-- A session closed: its keys destroyed, its frames and batons forgotten; the batons that were not acknowledged. -/
def State.closeSession (s : State) (z : Nat) : State × List Baton :=
  let l := s.zlink z
  let t := s.destroyKey (sessionKey z)
  ((t.setZlink z { badLanes := l.badLanes, peerDevice := if z < 16 then 0 else l.peerDevice }).showUdp, l.sent.map (·.2))

/-- A link out of use (R384, R465, R467): its session closed, its batons resent first on the new route. -/
def State.linkFails (s : State) (z state : Nat) : State :=
  let (t, batons) := s.closeSession z
  let t := if z < 16 then (t.setN (Entry.zlinkLinkState z) state).showLanes z [] else t
  ({ t with peers := { t.peers with waiting := batons ++ t.peers.waiting } }).updateRoutes

/-- A session refused (R384 step 5). -/
def State.refuseSession (s : State) (z : Nat) : State :=
  let lanes := (s.zlink z).badLanes
  let t := s.bump Entry.peerSessionsRefused
  let (t, batons) := t.closeSession z
  let t := t.setZlink z { t.zlink z with badLanes := lanes }
  let t := if z < 16 then t.setN (Entry.zlinkLinkState z) 4
    else (t.setZlink z { t.zlink z with session := 4 }).post Entry.peerSessionsRefused
  ({ t with peers := { t.peers with waiting := batons ++ t.peers.waiting } }).updateRoutes

/-- A link trained (R384 step 1, R462): frame numbers from 0, full credit, the own chain sent. -/
def State.linkTrained (s : State) (z : Nat) : State :=
  let lanes := lanesUsed (s.goodLanes z)
  if s.inForceN (Entry.zlinkEnable z) = 0 || lanes.isEmpty || (s.linkState z ≠ 0 && s.linkState z ≠ 3) then s
  else
    let t := (s.setN (Entry.zlinkLinkState z) 1).showLanes z lanes
    (t.setZlink z { session := 1, credits := frameBuffer, badLanes := (s.zlink z).badLanes }).sendMessage z s.certChain

/-- The serial numbers of PeerAllow; bytes short of a whole value are ignored (R402). -/
def State.peersAllowed (s : State) : List Nat :=
  let b := s.b Entry.peerPeerAllow
  ((pieces 8 b.length b).filter fun e => e.length = 8).map leNat

/-- A handshake message made with the RTU's keys, which nothing reads. -/
def State.sendHandshake (s : State) (z : Nat) : State :=
  let (i, t) := s.drawFree
  t.sendMessage z (Config.handshake i)

/-- Whether this device begins the exchange: it has the lower serial number. -/
def State.initiates (s : State) (z : Nat) : Bool := s.fuses.serial < (s.zlink z).peerSerial

/-- A peer's chain (R384 steps 2 and 3). -/
def State.chainReceived (s : State) (z : Nat) (c : PeerChain) : State :=
  if (s.zlink z).session ≠ 1 then s
  else if c.chainOk && (s.peersAllowed.isEmpty || s.peersAllowed.contains c.serial.toNat) && s.trngHealthy then
    let t := s.setZlink z { s.zlink z with session := 2, peerDevice := c.device.toNat, peerSerial := c.serial.toNat }
    let t := if z < 16 then
        (t.setN (Entry.zlinkPeerDevice z) c.device.toNat).setN (Entry.zlinkPeerSerial z) c.serial.toNat else t
    if t.initiates z then t.sendHandshake z else t
  else s.refuseSession z

/-- Whether a link's peer has this device's number, or that of another direct link (R458). -/
def State.duplicate (s : State) (z : Nat) : Bool :=
  let d := (s.zlink z).peerDevice
  d = s.deviceNumber || (List.range 6).any fun y => y ≠ z && s.linkState y = 2 && (s.zlink y).peerDevice = d

/-- The signed exchange (R384 steps 3 to 5): keys and an open session, or a refusal. -/
def State.keyExchange (s : State) (z : Nat) (ok : Bool) : State :=
  if (s.zlink z).session ≠ 2 then s
  else if ok && s.trngHealthy then
    let t := if s.initiates z then s else s.sendHandshake z
    let (key, t) := t.drawFree
    let t := (t.setZlink z { t.zlink z with session := 3, key := key }).makeKey (sessionKey z) 2
    let t := if z < 16 then t.setN (Entry.zlinkLinkState z) (if s.duplicate z then 4 else 2) else t.showUdp
    let t := if z < 16 then t.sendRoutes z else t
    t.updateRoutes
  else s.refuseSession z

/-- A new exchange in band (R384): new keys, and the frame numbers go on; no key is made while the TRNG fails (R379). -/
def State.rekey (s : State) (z : Nat) (ok : Bool) : State :=
  if (s.zlink z).session ≠ 3 || !s.trngHealthy then s
  else if ok then
    let (key, t) := (s.sendHandshake z).drawFree
    (t.setZlink z { t.zlink z with key := key }).makeKey (sessionKey z) 2
  else s.refuseSession z

/-- SESSION_RETRY_TIMER: the handshake of a refused session starts again (R384 step 5). -/
def State.retrySession (s : State) (z : Nat) : State :=
  if 16 ≤ z then
    if (s.zlink z).session = 4 then (s.setZlink z { s.zlink z with session := 0 }).udpBegin (z - 16) else s
  else if s.linkState z = 4 && (s.zlink z).session = 0 then (s.setN (Entry.zlinkLinkState z) 0).linkTrained z else s

/-! Retraining (R465). -/

/-- A link that retrains on its good lanes, or is out of use where fewer than 4 remain. -/
def State.retrain (s : State) (z : Nat) : State :=
  if s.linkState z = 0 || s.linkState z = 3 then s
  else if (lanesUsed (s.goodLanes z)).isEmpty then s.linkFails z 3
  else s.setZlink z { s.zlink z with retraining := true }

/-- ZENNIK_RETRAIN_COMPLETE: the lanes in use, and sending resumes from the oldest frame not acknowledged. -/
def State.retrained (s : State) (z : Nat) : State :=
  let l := s.zlink z
  if !l.retraining then s
  else
    let t := (s.setZlink z { l with retraining := false }).showLanes z (lanesUsed (s.goodLanes z))
    let t := t.resendFrom z 0
    let t := if l.owes = 0 then t else t.sendAnswer z l.owes
    t.sendWaiting

end Sys2Proof.Machine
end

