-- ==== Sys2Proof/Machine/Faults.lean ====
section
/-! DEFINITION. Reports to the fault collector, the fencing of units, quiet periods and recovery (R404 to R421, R283 to R286). -/

namespace Sys2Proof.Machine

open Sys2Proof

/-! Kids and herds (R283 to R286). -/

/-- Spare kids of a herd that work and replace no kid, rising (R12, R283). -/
def State.sparesOf (s : State) (h : Nat) : List Nat :=
  let r := s.herdRt h
  ((List.range 64).map (1024 + ·)).filter fun k => !r.deadKids.contains k && !(r.swaps.any fun e => e.2 = k)

/-- SparesLeft of a herd and SpareKidsLeft. -/
def State.showSpares (s : State) (h : Nat) : State :=
  let t := s.setN (Entry.herdSparesLeft h) (s.sparesOf h).length
  t.setN Entry.faultSpareKidsLeft
    ((List.range t.herdCount).foldl (fun a g => a + t.n (Entry.herdSparesLeft g)) 0)

/-- The logical position that a physical kid holds, if any. -/
def State.logicalKid (s : State) (h k : Nat) : Option Nat :=
  match (s.herdRt h).swaps.find? fun e => e.2 = k with
  | some e => some e.1
  | none => if k < 1024 && (Assoc.find (s.herdRt h).swaps k).isNone then some k else none

/-- Laps of the slots that run on a partition's herds abandoned (R276). -/
def State.abandonLaps (s : State) (p : Nat) : State := s.each (s.slotsOf p) State.abandonLap

/-- A kid out of service: the laps on its herd are abandoned and the lowest spare takes its place (R283). -/
def State.fenceKid (s : State) (h k : Nat) : State :=
  let t := s.markPermanent ⟨.kid, 2048 * h + k⟩
  let t := t.abandonLaps (s.n (Entry.herdPartition h))
  let logical := t.logicalKid h k
  let r := t.herdRt h
  let t := t.setHerdRt h { r with deadKids := r.deadKids ++ [k] }
  match logical, (t.sparesOf h).head? with
  | some l, some spare =>
    let r := t.herdRt h
    let t := t.setHerdRt h { r with
      swaps := Assoc.put r.swaps l spare, acc := r.acc.filter fun e => e.1 % 1024 ≠ l }
    ((t.bump (Entry.herdKidSwaps h)).bump Entry.faultKidSwapsTotal).showSpares h
  | _, _ => t.showSpares h

/-- Whether every logical position of a herd has a kid that works (R421). -/
def State.kidsWhole (s : State) (h : Nat) : Bool :=
  let r := s.herdRt h
  r.deadKids.all fun k => (s.logicalKid h k).isNone

/-- A partition with a herd lost: its slots change to the versions for the herds left, or its laps end (R284, R363). -/
def State.herdLost (s : State) (p : Nat) : State :=
  if s.partOpen p then s.herdsChanged p true else s.abandonLaps p

/-- A herd out of service (R284, R286, R410). -/
def State.fenceHerd (s : State) (h : Nat) : State :=
  let t := ((s.markFenced ⟨.herd, h⟩).setN (Entry.herdState h) 3).herdsMoved
  let t := t.setHerdRt h { t.herdRt h with resetting := false }
  t.herdLost (t.n (Entry.herdPartition h))

/-- A herd back in service, with an empty cache; its partition loads the full versions (R284 step 5, R285). -/
def State.returnHerd (s : State) (h : Nat) : State :=
  let p := s.n (Entry.herdPartition h)
  let r := s.herdRt h
  let t := s.setHerdRt h
    { deadKids := r.deadKids, swaps := r.swaps, satLow := r.satLow, batonsLow := r.batonsLow, reloadsLow := r.reloadsLow }
  let t := (t.setN (Entry.herdState h) (if p = 0 then 0 else 1)).herdsMoved
  if t.partOpen p then t.herdsChanged p false else t

/-! The fence of each unit type (R410). -/

/-- Whether a report of a class fences its suspected unit (R408, R410). -/
def fences (u : UnitCode) (cls : FaultClass) : Bool :=
  match u.kind with
  | .lpddr | .coreSupply | .discreteInput => false
  | .port => cls ≠ .presentation
  | _ => true

/-- A decoder slice fenced: the picture on it is lost, contexts are suspended until the load fits (R88). -/
def State.fenceSlice (s : State) (d : Nat) : State :=
  let t := s.setN (Entry.sliceState d) 2
  let t := match Assoc.find s.slices d with
    | none => t
    | some j =>
      (({ t with slices := Assoc.drop t.slices d }).loseFrame j.stream false true).genLossy j.stream
  t.suspendDecode

/-- The pair frame on an engine abandoned: not offered, not reissued (R120). -/
def State.abandonOn (s : State) (g : Nat) : State :=
  match Assoc.find s.vision.stereo g with
  | none => s
  | some f => ({ s with vision := { s.vision with stereo := Assoc.drop s.vision.stereo g } }).abandonPairFrame f

/-- The frames of engines that have read data with an uncorrectable error abandoned as by a fence (R120). -/
def State.abandonReaders (s : State) (readers : List UnitCode) : State :=
  s.each readers fun t u =>
    match u.kind with
    | .stereo => (t.abandonOn u.inst).showEngine u.inst
    | .flow => if (Assoc.find t.vision.flow u.inst).isSome then (t.flowAbandon u.inst).setN (Entry.flowState u.inst) 0 else t
    | _ => t

/-- A stereo engine fenced (R101). -/
def State.fenceStereo (s : State) (g : Nat) : State :=
  ((s.abandonOn g).showEngine g).suspendStereo

/-- A raster port fenced: SafeCause 9, its lanes in LP-11 until restart (R254 step 8). -/
def State.fencePort (s : State) (n : Nat) : State :=
  let st := s.portState n
  let t := if st = 1 || st = 2 || st = 5 then
      let t := (s.setPortState n 5).setN (Entry.portSafeCause n) 9
      let t := if st = 5 then t else (t.setN (Entry.portSafeKind n) (s.safeKind n false)).bump (Entry.portSafeEntries n)
      (t.setPortRt n { t.portRt n with counting := false, exitCount := 0, acked := false }).dropRatios n
    else s
  t.portFlags n

/-- NoData on all contexts of an Ethernet port that is fenced (R69). -/
def State.portNoData (s : State) (e : Nat) : State :=
  s.each ((List.range 512).filter fun i => s.cfgN i (Entry.streamSource i) = e) fun t i =>
    t.streamFlag i flagNoData true

/-- A CSI-2 port fenced: frames in progress become lossy. -/
def State.fenceCsi (s : State) (c : Nat) : State :=
  let r : CsiPort := Assoc.get s.csi c {}
  let r := { r with frames := r.frames.map fun (f : CsiFrame) => { f with lossy := true } }
  let t := { s with csi := Assoc.put s.csi c r }
  t.setN (Entry.csiState c) 2

/-- COPY jobs with a side in host memory end with cause 9 (R457). -/
def State.endHostCopies (s : State) (f : RingJob → Bool) : State :=
  s.each ((s.jobs.filter fun j => j.kind = 3 && (j.srcPlace = 1 || j.dstPlace = 1) && f j).map RingJob.id) fun t id =>
    (t.endJob id 9).bump Entry.pcieHostTransferFailures

/-- The host link lost (R457). -/
def State.hostLinkLost (s : State) (state : Nat) : State :=
  let t := (s.setN Entry.pcieLinkState state).endHostCopies fun _ => true
  t.bump Entry.pcieLinkDowns

/-- What fencing a unit does beside its mark (R410). -/
def State.fenceEffect (s : State) (u : UnitCode) : State :=
  match u.kind with
  | .kid => s.fenceKid (u.inst / 2048) (u.inst % 2048)
  | .herd => s.fenceHerd u.inst
  | .slice => s.fenceSlice u.inst
  | .stereo => s.fenceStereo u.inst
  | .flow => ((s.setN (Entry.flowState u.inst) 2).flowAbandon u.inst).recomputeServed
  | .anchorStore => s.fenceStore
  | .geometry => s.each s.raster.passes fun t q => t.abandonPass q (t.n (Entry.partRasterAbandonCause q.partition))
  | .tile => (s.setN (Entry.tileState u.inst) 2).tileFenced u.inst
  | .ray => (s.setN (Entry.rayState u.inst) 2).rayFenced u.inst
  | .compositor => s.enterSafe u.inst 8 true
  | .port => s.fencePort u.inst
  | .piu => s.each (List.range s.portCount) fun t n => t.enterSafeOpen n 7
  | .eth => (s.setN (Entry.ethLinkState u.inst) 2).portNoData u.inst
  | .csi => s.fenceCsi u.inst
  | .zennikLane => s.retrain (u.inst / 8)
  | .pcie => s.hostLinkLost 2
  | .rtu | .fc => s.enterHold 1
  | .mgmt => if (List.range 4).all fun m => s.fenced ⟨.mgmt, m⟩ then s.enterHold 1 else s
  | .router | .lpddr | .coreSupply | .discreteInput => s

/-- Whether a user partition uses a unit: its herds, ports and streams' links, and the units that all partitions share (R173; DEDUCED, log
entry 98). -/
def State.usesUnit (s : State) (p : Nat) (u : UnitCode) : Bool :=
  let fed := fun (source : Nat) => (List.range 512).any fun i => s.streamPartition i = p && s.streamOpen i && s.cfgN i (Entry.streamSource i) = source
  match u.kind with
  | .kid => s.n (Entry.herdPartition (u.inst / 2048)) = p
  | .herd => s.n (Entry.herdPartition u.inst) = p
  | .port | .compositor => s.portOwner u.inst = p
  | .eth => fed u.inst
  | .csi => fed (4 + u.inst)
  | _ => s.partOpen p

/-- The FAULT entries of a fault event that fences a unit, in the partitions that use it (R173). -/
def State.logFence (s : State) (u : UnitCode) : State :=
  let number := ((s.eventFor u).map FaultEvent.number).getD 0
  s.each (userPartitions.filter fun p => s.usesUnit p u) fun t p => t.logArrival p arrFault 0 0 (t.anchorFrame p) number

/-- A unit fenced: marked, until restart where its type does not recover, logged by the partitions that use it, with the effect of its type
(DEDUCED, log entry 60). -/
def State.fence (s : State) (u : UnitCode) : State :=
  if s.fenced u then s
  else ((if unitRecovers u.kind then s.markFenced u else s.markPermanent u).logFence u).fenceEffect u

/-- A unit back in service (R419). -/
def State.unfence (s : State) (u : UnitCode) : State :=
  let t := s.markServed u
  match u.kind with
  | .herd => t.returnHerd u.inst
  | .slice => (t.setN (Entry.sliceState u.inst) 0).resumeDecode
  | .stereo => (t.showEngine u.inst).resumeStereo
  | .flow => (t.setN (Entry.flowState u.inst) 0).recomputeServed
  | .geometry => t.each ((List.range 9).filter (· ≠ 0)) State.resumeBins
  | .tile => t.setN (Entry.tileState u.inst) 0
  | .ray => (t.setN (Entry.rayState u.inst) 0).startQueries
  | .eth => t.setN (Entry.ethLinkState u.inst) 0
  | .csi => t.setN (Entry.csiState u.inst) 0
  | .zennikLane => t.retrain (u.inst / 8)
  | .pcie => t.setN Entry.pcieLinkState 0
  | _ => t

/-! Reports (R406 to R416). -/

/-- The reaction that the event's record shows (R417): 0 none, 1 spare swap, 2 fence, 3 fence and ports SAFE, 4 FAULT_HOLD, 6 ports SAFE
without a fence. -/
def State.reactionTo (s : State) (u : UnitCode) (cls : FaultClass) : Nat :=
  if !fences u cls then (if cls = .presentation then 6 else 0)
  else
    match u.kind with
    | .kid => 1
    | .rtu | .fc => 4
    | .port | .compositor | .piu => 3
    | .herd => if s.herdWorks u.inst && s.workingHerds.length ≤ s.herdMinimum then 4 else 2
    | .mgmt => if (List.range 4).all fun m => m = u.inst || s.fenced ⟨.mgmt, m⟩ then 4 else 2
    | _ => if cls = .presentation then 3 else 2

/-- The ports that a report sends to SAFE: those LIVE that it names or that read a unit it fences, and a port that it fences (R254, R417). -/
def State.portsEntering (s : State) (suspect : UnitCode) (cls : FaultClass) (ports : List Nat) : List Nat :=
  let fence := fences suspect cls && !s.fenced suspect
  (List.range s.portCount).filter fun n =>
    (s.portState n = 2 && (ports.contains n || (fence && (suspect = ⟨.compositor, n⟩ || suspect.kind == .piu)))) ||
      (fence && suspect = ⟨.port, n⟩ && (s.portState n = 1 || s.portState n = 2))

/-- A report of class 1, 2 or 3 taken and acted on (R411, R414 to R416): `ports` are those that it names (class 2). -/
def State.actOn (s : State) (reporter suspect : UnitCode) (cls : FaultClass) (detail : Nat) (ports : List Nat) : State :=
  let (t, taken) := s.takeReport reporter suspect cls detail (s.portsEntering suspect cls ports) (s.reactionTo suspect cls)
  let event := s.eventFor suspect
  let alone := match taken, event with
    | .merged, some e => e.unit = suspect
    | .merged, none => false
    | .discarded, _ => false
    | _, _ => true
  let t := if fences suspect cls && alone then t.fence suspect else t
  let t := if taken = .overflowed && t.fenced suspect then t.markPermanent suspect else t
  let t := if taken = .discarded then t else t.each ports fun t n => t.enterSafe n 8 true
  t.settleAll (causeOf suspect)

/-- A herd without a kid for every position is fenced, in an event of its own that takes those of its kids (R283, R414). -/
def State.checkKids (s : State) (reporter suspect : UnitCode) : State :=
  let h := suspect.inst / 2048
  if suspect.kind == .kid && !s.kidsWhole h && !s.fenced ⟨.herd, h⟩ then s.actOn reporter ⟨.herd, h⟩ .uncorrectable 0 [] else s

/-- The stations that fenced track routers leave unreachable fenced as their own units (R410; log entry 109). -/
def State.checkRoutes (s : State) (suspect : UnitCode) : State :=
  if suspect.kind == .router && s.fenced suspect then
    let routers := (s.fc.fenced.filter fun u => u.kind == .router).map UnitCode.inst
    s.each ((Config.cutOff routers).filter fun u => s.hasUnit u && !s.fenced u) fun t u =>
      (t.actOn u u .uncorrectable 0 []).checkKids u u
  else s

/-- Reports of the last second, with one more: those of the FC's oscillator in the 1,000 ms up to now. -/
def lastSecond (l : List Nat) (now : Nat) : List Nat := (l.filter fun t => now < t + 1000) ++ [now]

/-- A correctable report: counted; more than 1,024 on a unit within 1 s are one uncorrectable report of the FC (R408, R409, R413). -/
def State.correctable (s : State) (u : UnitCode) : State :=
  let t := s.bump Entry.faultCorrectableCount
  if u.kind == .lpddr then t
  else
    let mine := lastSecond ((t.fc.correctable.filter fun e => e.1 = u).map (·.2)) t.fc.ms
    let others := t.fc.correctable.filter fun e => e.1 ≠ u
    if 1024 < mine.length then
      let t := { t with fc := { t.fc with correctable := others } }
      ((t.actOn ⟨.fc, 0⟩ u .uncorrectable 0 []).checkKids ⟨.fc, 0⟩ u).checkRoutes u
    else { t with fc := { t.fc with correctable := others ++ mine.map fun m => (u, m) } }

/-- An error of the anchor store reported as correctable: counted in StoreErrors; an uncorrectable word frees its record, and the 17th within 1 s fences the store (R133). -/
def State.anchorError (s : State) (freed : Option Nat) : State :=
  let s := s.bump Entry.genStoreErrors
  match freed with
  | none => s.correctable ⟨.anchorStore, 0⟩
  | some i =>
    let times := lastSecond s.anchors.errorTimes s.fc.ms
    let t := match Assoc.find s.anchors.records i with | none => s | some a => (s.dropAnchor i).countAnchors a.stream
    let t := { t with anchors := { t.anchors with errorTimes := times } }
    let t := t.correctable ⟨.anchorStore, 0⟩
    if 16 < times.length then t.actOn ⟨.anchorStore, 0⟩ ⟨.anchorStore, 0⟩ .uncorrectable 0 [] else t

/-- A row recorded for repair at the next bring-up: the channel of the block; bank and row are not stated (R413, R443)
(DESIGN CHOICE, log entry 61). -/
def State.recordRow (s : State) (block : Nat) : State :=
  let (i, t) := s.drawFree
  let r : MemRow :=
    { channel := block % s.channelCount, bank := (Config.freeValue i 8).toNat, row := (Config.freeValue i 32).toNat
      granule := block / (granuleBytes / blockBytes), repairable := true }
  if 4096 ≤ t.flash.repairs.length then t
  else ({ t with flash := { t.flash with repairs := t.flash.repairs ++ [r] } }).bump Entry.bootRepairListEntries

/-- An uncorrectable error in LPDDR6 (R120, R382, R413): counted, what has read it abandoned, the block unreadable, the row recorded, ports of compose buffers SAFE_BLANK,
and more than 256 in a channel within 1 s FAULT_HOLD. -/
def State.memoryError (s : State) (reporter channel : UnitCode) (block : Nat) (integrity : Bool) (ports : List Nat)
    (hit : DataHit) : State :=
  let t := ((s.bump Entry.faultMemoryUncorrectable).abandonReaders hit.engines).each hit.slots fun t (k : Fin 128) => t.abandonLap k
  let t := t.each hit.weights fun t e => t.weightsLost e.1 e.2
  let t := if integrity then t.bump Entry.secIntegrityErrors else t
  let bad := t.security.badBlocks
  let t := { t with security := { t.security with badBlocks := if bad.contains block then bad else bad ++ [block] } }
  let t := t.recordRow block
  let mine := lastSecond ((t.fc.channelErrors.filter fun e => e.1 = channel.inst).map (·.2)) t.fc.ms
  let others := t.fc.channelErrors.filter fun e => e.1 ≠ channel.inst
  let t := { t with fc := { t.fc with channelErrors := others ++ mine.map fun m => (channel.inst, m) } }
  let t := t.actOn reporter channel (if ports.isEmpty then .uncorrectable else .presentation) block ports
  if 256 < mine.length then t.enterHold 6 else t

/-- A notice on a discrete input (R410, R423): its class is not stated, a free value (DEDUCED, log entry 59). -/
def State.inputNotice (s : State) (u : UnitCode) : State :=
  let (i, t) := s.drawFree
  let cls := ([.correctable, .uncorrectable, .presentation, .wiring] : List FaultClass).getD (Config.freeValue i 2).toNat .correctable
  t.record_ { unit := u, reporter := u, status := 3, cls := cls }

/-- A unit found bad in BOOT or TEST, for reconciliation to take (R421). -/
def State.testsBad (s : State) (u : UnitCode) : State :=
  if s.fc.testBad.contains u then s else { s with fc := { s.fc with testBad := s.fc.testBad ++ [u] } }

/-- A report on the PCIe controller in the counts of its AER (R469; DEDUCED, log entry 110). -/
def State.countAer (s : State) (u : UnitCode) (cls : FaultClass) : State :=
  match u.kind, cls with
  | .pcie, .correctable => s.bump Entry.pcieCorrectableErrors
  | .pcie, _ => s.bump Entry.pcieUncorrectableErrors
  | _, _ => s

/-- A report handled by the fault collector at a count of its oscillator (R408, R411, R421). -/
def State.fcReport (s : State) (r : FaultReport) (ms : Nat) (integrity : Bool) (ports : List Nat) (freed : Option Nat)
    (hit : DataHit) : State :=
  let s := { s with fc := { s.fc with ms := ms } }
  let suspect := if r.cls = .wiring then r.reporter else r.suspect
  let detail := r.detail.toNat
  if s.isOff || !s.hasUnit suspect then s
  else if s.device = 1 || s.device = 2 then
    if r.cls = .correctable then s else s.testsBad suspect
  else
    let s := s.countAer suspect r.cls
    match r.cls, suspect.kind with
    | .correctable, .anchorStore => s.anchorError freed
    | .correctable, _ => s.correctable suspect
    | _, .discreteInput => s.inputNotice suspect
    | _, .lpddr => s.memoryError r.reporter suspect detail integrity ports hit
    | .presentation, .port => s.actOn r.reporter suspect r.cls detail [suspect.inst]
    | .presentation, _ => s.actOn r.reporter suspect r.cls detail ((bitsSet detail 16).filter (· < s.portCount))
    | _, .coreSupply =>
      let t := s.actOn r.reporter suspect r.cls detail []
      { t with pace := { t.pace with fixed := true } }
    | _, _ => ((s.actOn r.reporter suspect r.cls detail []).checkKids r.reporter suspect).checkRoutes suspect

/-- A report of a unit on itself, made by the model's own rules (DEDUCED, log entry 56). -/
def State.selfReport (s : State) (u : UnitCode) : State := (s.actOn u u .uncorrectable 0 []).checkKids u u

/-! Quiet periods and recovery (R418 to R420). -/

/-- The recoveries of a unit in the last 900 s (R420). -/
def State.recoveriesOf (s : State) (u : UnitCode) : Nat :=
  (s.fc.recoveries.filter fun e => e.1 = u && s.fc.ms < e.2 + 900000).length

/-- The core supply's event closes when READ_VOUT agrees again (R410). -/
def State.supplyAgrees (s : State) : Bool := !s.pace.fixed

/-- An event closed with its unit fenced until restart; a PIU that does not return leads to FAULT_HOLD (R410, R420). -/
def State.closeFenced (s : State) (e : FaultEvent) : State :=
  let t := (s.markPermanent e.unit).closeEvent e.number 2
  if e.unit.kind == .piu then t.enterHold 1 else t.settleAll 1

/-- The TRNG's health test repeated (R379). -/
def State.repeatHealthTest (s : State) (healthy : Bool) : State :=
  if s.trngHealthy || !healthy then s else s.setN Entry.secTrngState 0

/-- The end of the quiet period of an event (R419, R420). -/
def State.quietEnds (s : State) (u : UnitCode) (ms : Nat) (healthy : Bool) : State :=
  let s := { s with fc := { s.fc with ms := ms } }
  match s.openEvents.find? fun e => e.unit = u && !e.recovering with
  | none => s
  | some e =>
    if s.held then s
    else
      let s := s.repeatHealthTest healthy
      if !s.fenced u then
        if u.kind == .coreSupply && !s.supplyAgrees then { s with fc := { s.fc with supplyOpen := true } }
        else (s.closeEvent e.number 1).settleAll 1
      else if s.isPermanent u || !unitRecovers u.kind || 3 ≤ s.recoveriesOf u then s.closeFenced e
      else
        let t := s.amend e.number fun e => { e with recovering := true, failed := false }
        { t with fc := { t.fc with recoveries := t.fc.recoveries ++ [(u, ms)] } }

/-- The end of a unit's self-test after its recovery reset (R415, R419). -/
def State.recoveryEnds (s : State) (u : UnitCode) (passed : Bool) (ms : Nat) : State :=
  let s := { s with fc := { s.fc with ms := ms } }
  match s.openEvents.find? fun e => e.unit = u && e.recovering with
  | none => s
  | some e =>
    if s.held then s
    else if !passed then
      let t := (s.mergeInto e.number e.cls []).bump Entry.faultFieldDefects
      (t.notice u 5).closeFenced e
    else if e.failed || (u.kind == .herd && !s.kidsWhole u.inst) then s.closeFenced e
    else ((s.unfence u).closeEvent e.number 1).settleAll 1

end Sys2Proof.Machine
end

