-- ==== Sys2Proof/Machine/Streams.lean ====
section
/-! DEFINITION. Decoding, CSI-2 reception and what a true frame meets: the end of the intake (R77 to R97, R128, R170). -/

namespace Sys2Proof.Machine

open Sys2Proof

/-! Starts and stops (R94, R115, R120, R125, R153). -/

/-- The counters of frame generation that restart with a context (R153). -/
def genCounters (i : Nat) : List Nat :=
  [Entry.streamGenLeadFallbacks i, Entry.streamGenAnchorsRefused i, Entry.streamGenFlowSkipped i,
   Entry.streamGenFramesGenerated i, Entry.streamGenBlocksGated i, Entry.streamGenSceneCuts i, Entry.streamGenJobsLate i]

/-- Whether a context's Ethernet port is fenced, which sets its NoData (R69). -/
def State.onFencedPort (s : State) (i : Nat) : Bool :=
  s.isEthernet i && s.fenced ⟨.eth, s.cfgN i (Entry.streamSource i)⟩

/-- A context that has entered STARTING, as frame generation and the packet engine see it. -/
def State.streamOpened (s : State) (i : Nat) : State :=
  let t := ((s.zero (genCounters i)).setGenStream i {}).genFlagsAt i true
  let t := t.showRatios i
  t.streamFlag i flagNoData (t.onFencedPort i)

/-- STREAM_ENABLE: the start, and what else it resets. -/
def State.streamOn (s : State) (i : Nat) : State :=
  let t := s.streamEnableOn i
  if t.streamState i = 1 && s.streamState i ≠ 1 then t.streamOpened i else t

/-- STREAM_DISABLE: the stop, and what leaves with the stream (R94, R119, R120, R125, R348). -/
def State.streamOff (s : State) (i : Nat) : State :=
  let t := s.streamStopIntake i
  if s.streamOpen i then
    let t := ((t.goIdle i).flowStopStream i).genFlagsAt i false
    let t := (t.streamFlag i flagTainted false).streamFlag i flagClock false
    let t := t.streamFlag i flagNoData (t.onFencedPort i)
    (t.checkPairStreams.recomputeServed).adaptSweepAll
  else t

/-- STREAM_STOP_COMPLETE: the buffers freed, OFF, and a pending start (R94, R348, R425). -/
def State.streamDone (s : State) (i : Nat) : State :=
  if s.streamState i = 3 then
    let t := (s.adaptFree i).streamStopped i
    let t := t.setGenStream i {}
    if t.streamState i = 1 then t.streamOpened i else t
  else s

/-! Decoding (R78, R81 to R86, R88). -/

/-- The frame buffers of a context that a reader, a slice or the converter of a CSI-2 frame holds (R85). -/
def State.buffersHeld (s : State) (i : Nat) : Nat :=
  ((s.ctx i).frames.filter fun f => s.frameHeld i f).length + s.decodingOf i + ofBool (s.csiFrame? i).isSome

/-- A picture dropped for want of a free buffer (R85); a CSI-2 context has no IRAP picture to wait for (DEDUCED, log entry 38). -/
def State.overrun (s : State) (i : Nat) : State :=
  ((s.streamFlag i flagOverrun true).loseFrame i false (s.isEthernet i)).genLossy i

/-- The next released picture on a free slice: a suspended context discards its own, a context without a buffer drops it. -/
def State.decodeNext (s : State) (d : Nat) (l : List SliceJob) : State :=
  match l with
  | [] => { s with released := [] }
  | j :: rest =>
    let i := j.stream
    if s.hasFlag i flagSuspended then s.decodeNext d rest
    else if s.cfgN i (Entry.streamDecodedFrames i) ≤ s.buffersHeld i then (s.overrun i).decodeNext d rest
    else (({ s with released := rest, slices := Assoc.put s.slices d j }).setN (Entry.sliceState d) 1).pruneFrames i

/-- DECODE_START: a free slice takes the next released access unit of any stream (R82). -/
def State.decodeStarts (s : State) (d : Nat) : State :=
  if s.fenced ⟨.slice, d⟩ || s.n (Entry.sliceState d) ≠ 0 then s else s.decodeNext d s.released

/-- The pair whose depth a new frame of a stream waits for: the lowest-numbered LIVE pair with the stream as its left one and
FocalBaseline above 0, unless it misses a stream or is suspended (R128). -/
def State.depthPair (s : State) (i : Nat) : Option Nat :=
  let pairs := (List.range 64).filter fun p =>
    s.pairState p = 2 && s.pairLeft p = i && s.pairCfgN p (Entry.pairFocalBaseline p) % 2 ^ 31 ≠ 0
  match pairs.head? with
  | none => none
  | some p =>
    if s.pairSuspended p || s.streamState i ≠ 2 || s.streamState (s.pairRight p) ≠ 2 then none else some p

/-- A true frame of a context (R86 step 5): counted, and offered to the stereo and flow engines and to frame generation where it has an
arrival time (R77, R109, R119, R128). -/
def State.trueFrame (s : State) (i timestamp : Nat) (arrival : List (Nat × Nat)) (picture : Picture)
    (motion : List MotionRecord) (alone : List Nat) : State :=
  let t := (s.bump (Entry.streamFramesTrue i)).streamFlag i flagLossy false
  let t := if t.streamState i = 1 then t.setN (Entry.streamState i) 2 else t
  let t := t.checkPairStreams.recomputeServed
  let c := t.ctx i
  let t := t.setCtx i { c with lastTrue := true, trueCount := c.trueCount + 1, trueTs := some timestamp }
  if arrival.isEmpty then t
  else
    let f : Frame :=
      { ordinal := c.trueCount + 1, timestamp := timestamp, before := c.trueTs, arrival := arrival, follows := c.lastTrue
        picture := picture, motion := motion, flow := .pending
        depth := match t.depthPair i with | none => .without | some p => .waits p }
    let t := t.setCtx i { t.ctx i with frames := c.frames ++ [f] }
    let t := t.updateRatios i timestamp arrival
    ((((t.offerToPairs i f alone).startPinned).offerToFlow i f.ordinal).pruneFrames i).adaptSweepAll

/-- Whether a picture exceeds the largest size of its context (R83). -/
def State.tooBig (s : State) (i : Nat) (q : Picture) : Bool :=
  s.cfgN i (Entry.streamMaxWidth i) < q.width || s.cfgN i (Entry.streamMaxHeight i) < q.height

/-- A picture as the slice stores it: the 10-bit scale, samples of fewer bits shifted left (R83). -/
def storedPicture (r : DecodeResult) : Picture :=
  let sc := fun (p : List (List Nat)) => p.map fun row => row.map fun v => v * 2 ^ (10 - r.sampleBits)
  { r.picture with luma := sc r.picture.luma, cb := sc r.picture.cb, cr := sc r.picture.cr }

/-- A motion record as the slice stores it: PocDelta within ±127, an intra block without vector (R84). -/
def storedMotion (m : MotionRecord) : MotionRecord :=
  if m.intra then { m with mvX := 0, mvY := 0, pocDelta := 0 } else { m with pocDelta := clampInt (-127) 127 m.pocDelta }

/-- The 64-bit word of a motion record (R84). -/
def motionWord (m : MotionRecord) : Nat :=
  packFields [(16, 0), (1, ofBool m.intra), (1, ofBool m.skip), (1, ofBool m.biPred), (5, 0), (8, unsigned 8 m.pocDelta),
    (16, unsigned 16 m.mvY), (16, unsigned 16 m.mvX)]

/-- The motion records of a picture: one for each 8×8 luma block, in raster order (R84). -/
def motionRecords (r : DecodeResult) : List MotionRecord :=
  (r.motion.take (divCeil r.picture.width 8 * divCeil r.picture.height 8)).map storedMotion

/-- A plane in memory: 16-bit little-endian words in rows of a stride that is a multiple of 256 bytes (R83). -/
def planeBytes (p : List (List Nat)) : Bytes :=
  joinBytes (p.map fun row => fit (to256 (2 * row.length)) (joinBytes (row.map (leBytes 2))))

/-- The bytes of a frame buffer: Y, Cb, Cr, and the motion records (R83 to R85). -/
def Frame.bytes (f : Frame) : Bytes :=
  planeBytes f.picture.luma ++ planeBytes f.picture.cb ++ planeBytes f.picture.cr ++
    joinBytes (f.motion.map fun m => leBytes 8 (motionWord m))

/-- DECODE_COMPLETE: a slice's picture, true or lossy (R78, R81 to R83, R86).  Pictures of a stream complete in decoding order, so one
that another slice still precedes does not complete yet. -/
def State.decodeEnds (s : State) (d : Nat) (r : DecodeResult) : State :=
  match Assoc.find s.slices d with
  | none => s
  | some j =>
    let i := j.stream
    if s.slices.any fun e => e.1 ≠ d && e.2.stream = i && e.2.order < j.order then s
    else
      let t := ({ s with slices := Assoc.drop s.slices d }).setN (Entry.sliceState d) 0
      let t := (t.bump (Entry.slicePicturesDecoded d)).meter (Entry.sliceLumaRate d) (r.picture.width * r.picture.height)
      let t := if r.syntaxError then t.bump (Entry.sliceBitstreamErrors d) else t
      if t.hasFlag i flagSuspended || j.discard then t
      else
        let bad := !r.supported || t.tooBig i r.picture
        let t := if bad then t.streamFlag i flagFormat true else t
        if bad || j.unit.lossy || r.syntaxError || (t.hasFlag i flagTainted && !r.irap) then
          (t.loseFrame i true true).genLossy i
        else
          (t.streamFlag i flagTainted false).trueFrame i j.unit.timestamp j.unit.arrival (storedPicture r) (motionRecords r) []

/-! CSI-2 reception (R89 to R92). -/

/-- The open contexts of a CSI-2 port that name a virtual channel. -/
def State.csiStreams (s : State) (c vc : Nat) : List Nat :=
  (List.range 512).filter fun i =>
    s.streamOpen i && s.cfgN i (Entry.streamSource i) = 4 + c && s.cfgN i (Entry.streamVirtualChannel i) = vc

/-- Those that name a data type too. -/
def State.csiTaken (s : State) (c vc dataType : Nat) : List Nat :=
  (s.csiStreams c vc).filter fun i => s.cfgN i (Entry.streamDataType i) = dataType

/-- The receive side of a port. -/
def State.csiPort (s : State) (c : Nat) : CsiPort := Assoc.get s.csi c {}

/-- A change of the frame in progress of a context. -/
def State.amendCsi (s : State) (c i : Nat) (f : CsiFrame → CsiFrame) : State :=
  let r := s.csiPort c
  { s with csi := Assoc.put s.csi c { r with frames := r.frames.map fun (x : CsiFrame) => if x.stream = i then f x else x } }

/-- A packet dropped and counted. -/
def State.csiDrop (s : State) (c : Nat) : State := s.bump (Entry.csiPacketsDropped c)

/-- A frame of a context that is lost before its end: lossy, without a taint (R90, R92; DEDUCED, log entry 38). -/
def State.csiLost (s : State) (i : Nat) : State := (s.loseFrame i true false).genLossy i

/-- The start of a frame of one context: an unfinished one is lossy, a frame without a free buffer is dropped, and one whose partner's pair
frame was abandoned goes with it (R85, R92, R110). -/
def State.csiBegin (s : State) (c vc i : Nat) : State :=
  let r := s.csiPort c
  let open_ := r.frames.any fun f => f.stream = i
  let t := { s with csi := Assoc.put s.csi c { r with frames := r.frames.filter fun f => f.stream ≠ i } }
  let t := if open_ then t.csiLost i else t
  let t := t.streamFlag i flagNoData false
  let t := t.pruneFrames i
  if t.cfgN i (Entry.streamDecodedFrames i) ≤ t.buffersHeld i then t.overrun i
  else
    let gone := (t.csiPartners i).filter fun e =>
      match t.csiFrame? e.2 with | some g => g.alone.contains e.1 | none => false
    let r := t.csiPort c
    { t with csi := Assoc.put t.csi c { r with frames := r.frames ++ [{ vc := vc, stream := i, alone := gone.map Prod.fst }] } }

/-- The 17th line of a frame whose partner has not started: the streamed pair abandons its pair frame, releases its lines and counts the
frame as unpaired (R110). -/
def State.csiApart (s : State) (c i : Nat) : State :=
  match s.csiFrame? i with
  | none => s
  | some f =>
    if f.lines.length ≠ 17 then s
    else
      s.each ((s.csiPartners i).filter fun e => !f.alone.contains e.1 && (s.csiFrame? e.2).isNone) fun t e =>
        ((t.bump (Entry.pairFramesUnpaired e.1)).amendCsi c i fun g => { g with alone := e.1 :: g.alone })

/-- CSI_PACKET_RECEIVED (R89, R90).  Short packets for a virtual channel that no context names are dropped and counted like long ones
(DEDUCED, log entry 38). -/
def State.csiPacket (s : State) (c : Nat) (q : CsiPacket) : State :=
  let errors := match q with
    | .frameStart _ e => e
    | .lineStart _ e => e
    | .lineEnd _ e => e
    | .longPacket _ _ e _ _ => e
  if s.n (Entry.csiState c) ≠ 1 then s
  else if 2 ≤ errors then s.csiDrop c
  else
    let t := if errors = 1 then s.bump (Entry.csiEccCorrected c) else s
    match q with
    | .frameStart vc _ =>
      let l := t.csiStreams c vc
      if l.isEmpty then t.csiDrop c else t.each l fun t i => t.csiBegin c vc i
    | .lineStart vc _ => if (t.csiStreams c vc).isEmpty then t.csiDrop c else t
    | .lineEnd vc _ => if (t.csiStreams c vc).isEmpty then t.csiDrop c else t
    | .longPacket vc dataType _ crcOk pixels =>
      let l := t.csiTaken c vc dataType
      let lossy := fun (t : State) (i : Nat) => t.amendCsi c i fun f => { f with lossy := true }
      if l.isEmpty then t.csiDrop c
      else if !crcOk then ((t.bump (Entry.csiCrcErrors c)).csiDrop c).each l lossy
      else let t := t.each l fun t i => t.streamFlag i flagNoData false
      if 4096 < pixels then t.each l fun t i => (lossy t i).streamFlag i flagFormat true
      else t

/-- CSI_LINE_RECEIVED: a line of each frame in progress that takes it, or a line dropped because the port's 64 lines are full (R91). -/
def State.csiLine (s : State) (c : Nat) (l : CsiLine) : State :=
  if s.n (Entry.csiState c) ≠ 1 then s
  else
    let r := s.csiPort c
    let taken := (s.csiTaken c l.vc l.dataType).filter fun i => r.frames.any fun f => f.stream = i
    let full := 64 ≤ (r.frames.map s.csiWaiting).foldl (· + ·) 0 + s.csiEndedWaiting c
    if taken.isEmpty then s
    else if full then
      (s.bump (Entry.csiLineBufferOverflows c)).each taken fun t i => t.amendCsi c i fun f => { f with lossy := true }
    else ((s.each taken fun t i => t.streamFlag i flagNoData false).each taken fun t i =>
      if 4096 < linePixels l then (t.amendCsi c i fun f => { f with lossy := true }).streamFlag i flagFormat true
      else (t.amendCsi c i fun f => { f with lines := f.lines ++ [l] }).csiApart c i).showEngines

/-- The end of a frame of one context: true or lossy (R83, R92). -/
def State.csiEnds (s : State) (c i : Nat) (f : CsiFrame) (lines : List Nat) : State :=
  let r := s.csiPort c
  let t := { s with csi := Assoc.put s.csi c { r with frames := r.frames.filter fun g => g.stream ≠ i } }
  let x := t.ctx i
  let t := t.setCtx i { x with csiCount := x.csiCount + 1 }
  let q := convertCsi (t.cfgN i (Entry.streamDataType i)) (t.cfgN i (Entry.streamBayerOrder i))
    (t.cfgB i (Entry.streamColourMatrix i)) (f.lines.map CsiLine.codes)
  let big := t.tooBig i q
  let t := if big then t.streamFlag i flagFormat true else t
  if f.lossy || big then t.csiLost i
  else
    t.trueFrame i (x.csiCount + 1) (t.arrivalNow i lines) q [] f.alone

/-- CSI_FRAME_END (R90, R92). -/
def State.csiFrameEnds (s : State) (c vc errors : Nat) (lines : List Nat) : State :=
  if s.n (Entry.csiState c) ≠ 1 then s
  else if 2 ≤ errors then s.csiDrop c
  else
    let s := if errors = 1 then s.bump (Entry.csiEccCorrected c) else s
    if (s.csiStreams c vc).isEmpty then s.csiDrop c
    else
    let t := s.bump (Entry.csiFramesReceived c)
    (t.each ((s.csiPort c).frames.filter fun f => f.vc = vc) fun t f => t.csiEnds c f.stream f lines).showEngines

/-- CSI_PORT_DOWN: the frames in progress are lost (R97). -/
def State.csiDown (s : State) (c : Nat) : State :=
  if s.n (Entry.csiState c) ≠ 1 then s
  else
    let t := s.setN (Entry.csiState c) 0
    t.each (t.csiPort c).frames fun t f => t.amendCsi c f.stream fun g => { g with lossy := true }

/-- CSI_PORT_ACTIVE: a port in use whose lanes the receiver gains (R97). -/
def State.csiUp (s : State) (c : Nat) : State :=
  if s.n (Entry.csiState c) = 0 && s.inForceN (Entry.csiEnable c) = 1 && !s.fenced ⟨.csi, c⟩ then s.setN (Entry.csiState c) 1
  else s

/-! Frame generation (R128, R170, R174). -/

/-- TRUE_FRAME_READY: the oldest waiting frame becomes ready; in replay it is withheld for its place in the record (R128, R174). -/
def State.frameReady (s : State) (i : Nat) : State :=
  match s.waitingFrame i with
  | none => s
  | some f =>
    let p := s.streamPartition i
    let r := s.partRt p
    if r.arrivalMode = 2 then s.setPartRt p { r with withheld := r.withheld ++ [(i, f.ordinal)] }
    else (s.makeReady i f.ordinal).adaptFrame i f.ordinal

/-- CHOICE_POINT, with the frames that it makes ready in replay also given to adaptation. -/
def State.choicePoint (s : State) (n : Nat) : State :=
  let t := s.choiceAt n
  let p := s.portOwner n
  let gone := (s.partRt p).withheld.filter fun w => !(t.partRt p).withheld.contains w
  t.each gone fun t w => t.adaptFrame w.1 w.2

/-- A change by which the speculative pictures of a stream are retracted at its next choice point (R166). -/
def State.retractsNext (s : State) (i : Nat) (changed : Bool) : State :=
  s.setGenStream i { s.genStream i with pendingRetract := (s.genStream i).pendingRetract || changed }

/-- A write of Mode (R125, R166, R170, R348). -/
def State.modeWritten (s : State) (i mode : Nat) : State :=
  let s := s.retractsNext i (mode ≠ s.n (Entry.streamGenMode i) || s.leadFallback i)
  let t := s.setN (Entry.streamGenMode i) mode
  let t := (t.genFlag i genLeadFallback false).setN (Entry.streamGenLeadError i) 0
  let t := t.setGenStream i { t.genStream i with quiet := 0 }
  let t := if mode = 0 then t.freeAnchors i false else t
  t.adaptMode i mode

end Sys2Proof.Machine
end

