-- ==== Sys2Proof/Machine/Partition.lean ====
section
/-! DEFINITION. User partitions: start, stop and scrub, herd resets, the anchor port and the arrival mode (R358 to R363, R370, R391, R285,
R173). -/

namespace Sys2Proof.Machine

open Sys2Proof

/-! What a partition names and owns (R358, R359). -/

/-- The herds that HerdMask names; bits beyond the part's herds are ignored (R375). -/
def State.maskHerds (s : State) (p : Nat) : List Nat := (bitsSet (s.n (Entry.partHerdMask p)) 8).filter (· < s.herdCount)

/-- The ports that PortMask names. -/
def State.maskPorts (s : State) (p : Nat) : List Nat := (bitsSet (s.n (Entry.partPortMask p)) 16).filter (· < s.portCount)

/-- The entries of a DeviceMap as (device, remote partition) (R459, R469). -/
def deviceMapOf (b : Bytes) : List (Nat × Nat) :=
  (List.range (b.length / 4)).map fun i => (field b (4 * i) 2, field b (4 * i + 2) 1)

/-- What the record of a partition names now (R358). -/
def State.named (s : State) (p : Nat) : Owned :=
  { herds := s.maskHerds p, ports := s.maskPorts p, streams := mapMembers (s.b (Entry.partStreamMap p)) 512
    pairs := bitsSet (s.n (Entry.partPairMask p)) 64, slots := mapMembers (s.b (Entry.partSlotMask p)) 120
    blocks := mapMembers (s.b (Entry.partRingBlocks p)) 512, memBase := s.n (Entry.partMemoryBase p)
    memSize := s.n (Entry.partMemorySize p), hostMiB := s.n (Entry.partHostRegion p)
    deviceMap := deviceMapOf (s.b (Entry.partFabricDeviceMap p)), master := s.n (Entry.partMasterPort p) }

/-- The granules of a range. -/
def Owned.granules (o : Owned) : List Nat := (List.range o.memSize).map (o.memBase + ·)

/-- What a partition that is not OFF owns. -/
def State.owned (s : State) (p : Nat) : Owned := ((s.partRt p).owned).getD {}

/-- The partitions other than `p` that are not OFF. -/
def State.othersOn (s : State) (p : Nat) : List Nat :=
  [1, 2, 3, 4, 5, 6, 7, 8].filter fun q => q ≠ p && s.partState q ≠ 0

/-- Whether two lists share a member. -/
def meetsList (a b : List Nat) : Bool := a.any b.contains

/-- The start checks of R361 in order; 0 none fails.  A granule withheld by screening counts as one that fails its scrub (R442). -/
def State.partStartError (s : State) (p : Nat) : Nat :=
  let o := s.named p
  let others := (s.othersOn p).map s.owned
  if o.herds.isEmpty || o.herds.any fun h => !s.herdWorks h || s.n (Entry.herdState h) = 2 then 1
  else if others.any fun q => meetsList o.herds q.herds || meetsList o.ports q.ports || meetsList o.streams q.streams ||
      meetsList o.pairs q.pairs || meetsList o.slots q.slots || meetsList o.blocks q.blocks then 2
  else if o.memBase < 8 || s.granuleCount < o.memBase + o.memSize ||
      others.any fun q => o.memBase < q.memBase + q.memSize && q.memBase < o.memBase + o.memSize then 3
  else if !(o.ports.contains o.master || (o.master = 255 && o.streams.isEmpty && o.pairs.isEmpty)) then 4
  else if o.granules.any s.security.withheld.contains then 5
  else 0

/-- BlocksFree (R376). -/
def State.showBlocks (s : State) : State :=
  s.setN Entry.ringBlocksBlocksFree (512 - (([1, 2, 3, 4, 5, 6, 7, 8].filter fun q => s.partState q ≠ 0).foldl
    (fun a q => a + (s.owned q).blocks.length) 0))

/-- The Partition entries of what is owned (R358). -/
def State.assign (s : State) (o : Owned) (p : Nat) : State :=
  let t := s.each o.herds fun t h => t.setN (Entry.herdPartition h) p
  let t := t.each o.ports fun t n => t.setN (Entry.portPartition n) p
  let t := t.each o.streams fun t i => t.setN (Entry.streamPartition i) p
  let t := t.each o.pairs fun t i => t.setN (Entry.pairPartition i) p
  t.each o.slots fun t k => t.setN (Entry.slotPartition k) p

/-! Scrubbing (R360, R391). -/

/-- The next granule begun: its key made, unless the RTU makes none (R379, R391 step 3). -/
def State.scrubNext (s : State) (p : Nat) : State :=
  match (s.partRt p).toScrub with
  | [] => s
  | g :: _ => if s.hasKey (.scrub g) || !s.trngHealthy then s else s.makeKey (.scrub g) 1

/-- Granules to scrub, lowest first. -/
def State.scrubBegins (s : State) (p : Nat) (l : List Nat) : State :=
  let t := s.setPartRt p { s.partRt p with toScrub := l, scrubbed := 0 }
  (if l.isEmpty then t else t.setN (Entry.partScrubProgress p) 0).scrubNext p

/-- ScrubProgress after a granule. -/
def State.scrubShown (s : State) (p : Nat) : State :=
  let r := s.partRt p
  s.setN (Entry.partScrubProgress p) (100 * r.scrubbed / max 1 (r.scrubbed + r.toScrub.length))

/-! The compose table (R278). -/

/-- The compose table of the running firmware for a partition's herd count. -/
def State.composeTable (s : State) (p : Nat) : TableImage :=
  let n := (s.positions p).length
  let get := Config.composeField s.security.activeFw n
  { herdsFull := n, lanes := 1 + get 1 % 64, trigger := 3, jobKind := 4, workBytes := get 2 % (herdMemory + 1)
    annexFull := get 3 % 2 ^ 32, annexFallback := get 4 % 2 ^ 32, version := get 0 % 2 ^ 32
    digest := Config.shake256 (s.security.activeFw ++ [BitVec.ofNat 8 n]) }

/-- The compose slot of a partition ACTIVE with that table. -/
def State.placeCompose (s : State) (p : Nat) : State :=
  let k := 119 + p
  ((s.setSlotRt k { s.slotRt k with active := some (s.composeTable p), fallback := false }).showSlot k).showHerds p

/-- The compose table replaced at the next boundary of its slot, at once where no lap runs (R450 step 5). -/
def State.replaceCompose (s : State) (p : Nat) : State :=
  let k := 119 + p
  let r := s.slotRt k
  if r.active.isNone then s
  else if r.lap.isNone then s.placeCompose p
  else s.setSlotRt k { r with staged := some (s.composeTable p) }

/-- A slot emptied now, or at the boundary of its running lap (R362 step 3). -/
def State.unloadOwned (s : State) (k : Nat) : State :=
  let r := s.slotRt k
  if r.lap.isSome then s.setSlotRt k { r with unload := true, staged := none, loading := none } else s.emptySlot k

/-! Starting (R362 steps 1 and 2). -/

/-- Memory keys of a starting partition, where the RTU makes keys (R378, R379). -/
def State.takeKeys (s : State) (p : Nat) : State :=
  if (s.partRt p).keysReady || !s.trngHealthy then s
  else (s.makeKey (.memory p) 3).setPartRt p { s.partRt p with keysReady := true }

/-- The counters that restart with a partition (R228, R315, R375, R376). -/
def partCounters (p : Nat) : List Nat :=
  [Entry.partArrivalCount p, Entry.partReplayDivergences p, Entry.partScrubErrors p, Entry.partRefusedEnables p,
   Entry.partRingSubmitted p, Entry.partRingCompleted p, Entry.partRingAbandoned p, Entry.partRingBadDoorbells p,
   Entry.partRasterPartialRenders p, Entry.partRasterPassesAbandoned p, Entry.partRasterBadCommands p,
   Entry.partArithWidenedJobs p, Entry.partArithWidenDeferred p, Entry.partArithExceedUnwidened p,
   Entry.partArithNanConversions p, Entry.partArithSaturations p]

/-- Step 1 of R362: STARTING. -/
def State.partBegins (s : State) (p : Nat) : State :=
  let o := s.named p
  let old := s.partRt p
  let t := s.setPartRt p { owned := some o, arrivalSeen := 255, held := old.held }
  let t := { t with
    rings := t.rings.filter fun e => !o.blocks.contains (e.1 / 64)
    raster := { t.raster with targets := t.raster.targets.filter fun e => e.1 / 256 ≠ p } }
  let t := t.assign o p
  let t := t.each o.herds fun t h => t.setN (Entry.herdState h) 1
  let t := (t.showPositions p).zero (partCounters p ++ [Entry.partStartError p, Entry.partPendingStart p])
  let t := (t.setN (Entry.partEnable p) 1).setN (Entry.partAnchorPort p) 255
  let t := t.setN (Entry.partState p) 1
  let dirty := o.granules.filter s.security.used.contains
  let clean := o.granules.filter fun g => !s.security.used.contains g
  let t := { t with security := { t.security with used := t.security.used ++ clean } }
  let t := (t.takeKeys p).scrubBegins p dirty
  let t := (t.adaptPartStarts p).placeCompose p
  (t.showBlocks).settleAll (t.n Entry.devStateCause)

/-- A start after its checks (R361, R425). -/
def State.partStart (s : State) (p : Nat) : State :=
  match s.partStartError p with
  | 0 => s.partBegins p
  | e =>
    let t := (s.setN (Entry.partStartError p) e).zero [Entry.partEnable p, Entry.partPendingStart p]
    (t.setN (Entry.partState p) 0).settleAll (t.n Entry.devStateCause)

/-- Enable 1 (R361, R362 step 6). -/
def State.partOn (s : State) (p : Nat) : State :=
  match s.partState p with
  | 0 => s.partStart p
  | 1 => s.setN (Entry.partEnable p) 1
  | 2 => s.setN (Entry.partEnable p) 1
  | _ => (s.setN (Entry.partEnable p) 1).setN (Entry.partPendingStart p) 1

/-- LIVE once the keys are ready and every granule is scrubbed (R362 step 2). -/
def State.partLive (s : State) (p : Nat) : State :=
  let r := s.partRt p
  if s.partState p = 1 && r.keysReady && r.toScrub.isEmpty then s.setN (Entry.partState p) 2 else s

/-! Stopping (R362 steps 3 to 5). -/

/-- Enable 0 (R362 steps 3 and 6) (DEDUCED, log entry 76). -/
def State.partOff (s : State) (p : Nat) : State :=
  if s.partOpen p then
    let o := s.owned p
    let t := (s.setN (Entry.partState p) 3).zero [Entry.partEnable p, Entry.partPendingStart p]
    let running := o.ports.filter fun n => s.portState n ≠ 0 && s.portRuns n
    let t := t.setPartRt p { t.partRt p with portsLeft := running, windows := [], portsDue := [] }
    let t := t.each o.ports State.portEnableOff
    let t := t.each o.pairs State.pairEnableOff
    let t := t.each o.streams State.streamOff
    let t := t.dropPasses p
    let t := t.endJobs (fun j => j.partition = p && !j.inLap) 8
    let t := t.dropQueries p
    t.each (o.slots ++ [119 + p]) State.unloadOwned
  else if s.partState p = 0 then s.setN (Entry.partEnable p) 0
  else s.zero [Entry.partEnable p, Entry.partPendingStart p]

/-- Whether R362 step 4 can be taken. -/
def State.stopped (s : State) (p : Nat) : Bool :=
  let o := s.owned p
  s.partState p = 3 && o.streams.all (fun i => s.streamState i = 0) && o.pairs.all (fun i => s.pairState i = 0) &&
    (s.slotsOf p).all (fun k => (s.slotRt k).lap.isNone) && (s.partRt p).portsLeft.isEmpty

/-- A herd taken out of service by a reset (R285). -/
def State.herdResets (s : State) (h : Nat) : State :=
  if !s.herdWorks h || s.n (Entry.herdState h) = 2 then s
  else
    let t := (s.setHerdRt h { s.herdRt h with resetting := true }).setN (Entry.herdState h) 2
    t.herdLost (t.n (Entry.herdPartition h))

/-- Step 4 of R362: SCRUBBING; keys destroyed, herds reset, granules to scrub. -/
def State.teardown (s : State) (p : Nat) : State :=
  if !s.stopped p then s
  else
    let o := s.owned p
    let t := (s.setN (Entry.partState p) 4).destroyKey (.memory p)
    let t := t.setPartRt p { t.partRt p with keysReady := false }
    let t := t.each o.herds State.herdResets
    let t := t.each o.herds fun t h => t.setHerdRt h { t.herdRt h with banks := [] }
    (t.showReserve).scrubBegins p o.granules

/-- Step 5 of R362: what the partition owned is free, and it is OFF or starts again. -/
def State.scrubEnds (s : State) (p : Nat) : State :=
  let o := s.owned p
  let r := s.partRt p
  let t := s.assign o 0
  let t := t.each o.herds fun t h =>
    let t := t.setN (Entry.herdPosition h) 255
    if t.n (Entry.herdState h) = 1 then t.setN (Entry.herdState h) 0 else t
  let t := t.setPartRt p { held := r.held }
  let t := (t.setN (Entry.partState p) 0).setN (Entry.partAnchorPort p) 255
  let t := { t with
    adapt := t.adapt.filter fun e => e.1 ≠ p
    rings := t.rings.filter fun e => !o.blocks.contains (e.1 / 64)
    raster := { t.raster with targets := t.raster.targets.filter fun e => e.1 / 256 ≠ p } }
  let t := t.showBlocks
  if t.on (Entry.partPendingStart p) then t.partStart p else t.settleAll (t.n Entry.devStateCause)

/-- A granule written, or not (R363, R391 step 4).  A failure while the partition starts stops it with StartError 5 (DEDUCED, log entry
40). -/
def State.scrubDone (s : State) (p g : Nat) (ok : Bool) : State :=
  let r := s.partRt p
  match r.toScrub with
  | [] => s
  | h :: rest =>
    if h ≠ g || !s.hasKey (.scrub g) then s
    else
      let t := s.destroyKey (.scrub g)
      let t := t.setPartRt p { t.partRt p with toScrub := rest, scrubbed := r.scrubbed + 1 }
      let t := t.scrubShown p
      let sec := t.security
      let failed := sec.scrubFailed.filter (· ≠ g)
      if ok then
        -- a granule of a starting partition stays used by it
        let used := if t.partState p = 1 then sec.used else sec.used.filter (· ≠ g)
        let bad := sec.badBlocks.filter fun b => b / (granuleBytes / blockBytes) ≠ g
        let t := { t with
          mem := Memory.blankRange t.mem (g * granuleBytes) ((g + 1) * granuleBytes)
          security := { sec with used := used, scrubFailed := failed, badBlocks := bad } }
        let t := t.bump Entry.secScrubsCompleted
        if rest.isEmpty && t.partState p = 4 then t.scrubEnds p else t.scrubNext p
      else
        let t := { t with security := { sec with scrubFailed := failed ++ [g] } }
        let t := (t.bump (Entry.partScrubErrors p)).bump Entry.faultCorrectableCount
        if t.partState p = 1 then
          ((t.setPartRt p { t.partRt p with toScrub := [] }).partOff p).setN (Entry.partStartError p) 5
        else if rest.isEmpty && t.partState p = 4 then t.scrubEnds p
        else t.scrubNext p

/-- What waited for the TRNG goes on (R379): keys of starting partitions and scrubs. -/
def State.keysReturn (s : State) : State :=
  if !s.trngHealthy then s
  else s.each [1, 2, 3, 4, 5, 6, 7, 8] fun t p =>
    let t := if t.partState p = 1 then t.takeKeys p else t
    t.scrubNext p

/-- The end of a herd's reset (R285, R363): back in service with nothing in it, or fenced where it does not clear. -/
def State.herdCleared (s : State) (h : Nat) (cleared : Bool) : State :=
  if s.n (Entry.herdState h) ≠ 2 then s
  else if !cleared then s.selfReport ⟨.herd, h⟩
  else
    let t := (s.returnHerd h).bump (Entry.herdResetCount h)
    t.adaptDrain (t.n (Entry.herdPartition h))

/-! The anchor port (R370). -/

/-- The lowest-numbered port of a partition that counts. -/
def State.firstCounting (s : State) (p : Nat) : Option Nat := (s.owned p).ports.find? fun n => (s.portRt n).counting

/-- The port that takes the anchor at its frame start: MasterPort, or else the lowest-numbered counting port where none holds it. -/
def State.takesAnchor (s : State) (p n : Nat) : Bool :=
  let o := s.owned p
  (s.portRt n).counting && s.anchorPort p ≠ some n &&
    (o.master = n || (s.anchorPort p = none && o.master < 16 && s.firstCounting p = some n && !(s.portRt o.master).counting))

/-- The ratios of a partition's streams as the anchor moves to a port: one against a display port stays, any other starts at nominal
(R370). -/
def State.moveRatios (s : State) (p n : Nat) : State :=
  s.each ((s.owned p).streams.filter s.streamOpen) fun t i =>
    let c := t.ctx i
    let shown := fun (m : Nat) => (layerStreams (t.portRt m).applied).contains i
    let ratios := c.ratios.filter fun e => shown e.1
    let r := if ratios.any fun e => e.1 = n then ratios else ratios ++ [(n, { ratio := t.nominalRatio i n : Ratio })]
    (t.setCtx i { c with ratios := r }).showRatios i

end Sys2Proof.Machine
end

