-- ==== Sys2Proof/Machine/Firmware.lean ====
section
/-! DEFINITION. Firmware images in the board's flash and their update without a restart (R439, R440, R449 to R452). -/

namespace Sys2Proof.Machine

open Sys2Proof

/-! Images (R440). -/

/-- Bytes of an image area. -/
def areaBytes : Nat := 24 * 2 ^ 20

/-- The header of an image; its structure lies least significant byte first. -/
def fwHeader (area : List Host.Cell) : FwHeader :=
  let h := leNat (Memory.reads area 0 64)
  { magic := bits h 480 32, formatVersion := bits h 464 16, parts := bits h 456 8, version := bits h 424 32
    securityVersion := bits h 408 16, restartRequired := h.testBit 407, length := bits h 352 32 }

/-- What is wrong with an image, in the order of R440: 1 malformed, 3 part or security version, 2 signature, 0 nothing. -/
def State.fwError (s : State) (h : FwHeader) (signatureOk : Bool) : Nat :=
  if h.magic ≠ 0x484B5A46 || h.formatVersion ≠ 1 || areaBytes < 64 + h.length + 3309 then 1
  else if !h.parts.testBit (match s.part with | .hkz8840 => 0 | .hkz8830 => 1) then 3
  else if h.securityVersion < s.fuses.fwSecurityMin then 3
  else if !signatureOk then 2
  else 0

/-- The digest of a firmware image: of its header and body (R395; log entry 44). -/
def fwDigest (area : List Host.Cell) (h : FwHeader) : Bytes :=
  Config.shake256 (Memory.reads area 0 (64 + h.length))

/-- An image area: 0 A, 1 B. -/
def State.fwArea (s : State) (a : Nat) : List Host.Cell := if a = 0 then s.flash.imageA else s.flash.imageB

/-- The image area replaced. -/
def State.setFwArea (s : State) (a : Nat) (l : List Host.Cell) : State :=
  if a = 0 then { s with flash := { s.flash with imageA := l } } else { s with flash := { s.flash with imageB := l } }

/-- The area that was not booted. -/
def State.otherArea (s : State) : Nat := 1 - s.boot.bootedArea

/-! Loading and staging (R449). -/

/-- UpdateState. -/
def State.updateState (s : State) : Nat := s.n Entry.fwUpdateState

/-- A command that meets a verification or a switch, or BOOT or TEST: ignored, with UpdateError 5. -/
def State.fwBusy (s : State) : State := s.setN Entry.fwUpdateError 5

/-- A staged image discarded. -/
def State.fwUnstage (s : State) : State :=
  let t := { s with
    boot := { s.boot with staged := none }
    security := { s.security with stagedFw := [] } }
  ((t.setN Entry.fwUpdateState 0).setN Entry.fwStagedVersion 0).setN Entry.secFirmwareState 0

/-- A write of FirmwareData, at FirmwareOffset without its bits 15:0, into the area that was not booted. -/
def State.fwData (s : State) (b : Bytes) : State :=
  if s.updateState = 1 || s.updateState = 3 then s.fwBusy
  else
    let t := if s.updateState = 2 then s.fwUnstage else s
    let o := t.n Entry.fwFirmwareOffset / 65536 * 65536
    t.setFwArea t.otherArea (Memory.writes (t.fwArea t.otherArea) o b)

/-- FirmwareCommand 1: the verification starts. -/
def State.fwStage (s : State) : State :=
  if s.updateState = 1 || s.updateState = 3 then s.fwBusy
  else
    let t := if s.updateState = 2 then s.fwUnstage else s
    (t.setN Entry.fwUpdateState 1).setN Entry.fwUpdateError 0

/-- The end of the verification. -/
def State.fwVerified (s : State) (signatureOk : Bool) : State :=
  if s.updateState ≠ 1 then s
  else
    let area := s.fwArea s.otherArea
    let h := fwHeader area
    let e := s.fwError h signatureOk
    if e ≠ 0 then (s.setN Entry.fwUpdateState 4).setN Entry.fwUpdateError e
    else
      let t := { s with
        boot := { s.boot with staged := some h }
        security := { s.security with stagedFw := fwDigest area h } }
      ((t.setN Entry.fwUpdateState 2).setN Entry.fwStagedVersion h.version).setN Entry.secFirmwareState 1

/-- FirmwareCommand 3. -/
def State.fwDiscard (s : State) : State :=
  if s.updateState = 1 || s.updateState = 3 then s.fwBusy
  else if s.updateState = 2 then s.fwUnstage.setN Entry.fwUpdateError 0
  else s

/-! The switch (R450). -/

/-- The boot select written. -/
def State.selectArea (s : State) (a : Nat) : State := { s with flash := { s.flash with bootSelect := some a } }

/-- FirmwareCommand 2: steps 1 and 2, or the boot select alone where the image needs a restart (DEDUCED, log entry 74). -/
def State.fwSwitch (s : State) : State :=
  match s.boot.staged with
  | none => s
  | some h =>
    if s.updateState ≠ 2 then s
    else if h.restartRequired then
      ((s.selectArea s.otherArea).setN Entry.dictRestartPending 1).setN Entry.fwUpdateError 4
    else
      let idle := (List.range s.herdCount).filter fun h => s.n (Entry.herdPartition h) = 0 || !s.herdWorks h
      let t := { s with boot := { s.boot with switched := idle } }
      ((t.setN Entry.fwUpdateState 3).setN Entry.secFirmwareState 2).setN Entry.fwUpdateError 0

/-- A partition whose herds have been switched: where it has two or more, each was taken out of service and returned with an empty
cache; its compose table is the new firmware's (R450 steps 3 to 5). -/
def State.fwPartition (s : State) (p : Nat) : State :=
  if !s.partOpen p then s
  else
    let herds := s.positions p
    let t := if 2 ≤ herds.length then (s.herdsChanged p true).each herds State.returnHerd else s
    t.replaceCompose p

/-- The last herd has switched: steps 3 to 6. -/
def State.fwSwitched (s : State) : State :=
  if s.updateState ≠ 3 then s
  else
    let version := (s.boot.staged.map FwHeader.version).getD 0
    let t := (s.selectArea s.otherArea).setN Entry.idFirmwareVersion version
    let t := { t with
      boot := { t.boot with staged := none, switched := [] }
      security := { t.security with activeFw := t.security.stagedFw, stagedFw := [] } }
    let t := ((t.setN Entry.fwUpdateState 0).setN Entry.fwStagedVersion 0).setN Entry.secFirmwareState 0
    t.each userPartitions State.fwPartition

/-- FIRMWARE_VERIFY_COMPLETE. -/
def execFirmwareVerifyComplete (signatureOk : Bool) (s : State) : Answer := s.answer (s.ifRunning (s.fwVerified signatureOk))

/-- FIRMWARE_SWITCH_COMPLETE. -/
def execFirmwareSwitchComplete (s : State) : Answer := s.answer (s.ifRunning s.fwSwitched)

end Sys2Proof.Machine
end

