-- ==== Sys2Proof/Machine/PeerOps.lean ====
section
/-! DEFINITION. Batons sent and taken, frames received from peers, and the link events (R262 to R267, R384, R458 to R468). -/

namespace Sys2Proof.Machine

open Sys2Proof

/-! Device maps (R459). -/

/-- A station of partition 0 (R267). -/
def part0Station (n : Nat) : Bool := n = 0x3090 || (0x30C0 ≤ n && n < 0x30C4)

/-- The device map that a partition started with (R459, R469). -/
def State.deviceMap (s : State) (p : Nat) : List (Nat × Nat) :=
  match (s.partRt p).owned with
  | none => []
  | some o => o.deviceMap

/-- Whether a baton may leave for another device (R459). -/
def State.mayLeave (s : State) (b : Baton) : Bool :=
  let p := b.partition.toNat
  if p = 0 then part0Station b.srcStation.toNat && part0Station b.dstStation.toNat
  else (s.deviceMap p).any fun e => e.1 = b.dstDevice.toNat

/-- The partition that an arriving baton works for here, if the device takes it (R459). -/
def State.admitted (s : State) (b : Baton) : Option Nat :=
  if b.partition = 0 then
    if part0Station b.srcStation.toNat && part0Station b.dstStation.toNat then some 0 else none
  else (List.range' 1 8).find? fun p => (s.deviceMap p).contains (b.srcDevice.toNat, b.partition.toNat)

/-- A baton dropped by the device map: counted, with a correctable report on a unit (R459; log entry 37). -/
def State.batonRefused (s : State) (b : Baton) (u : UnitCode) : State :=
  let p := b.partition.toNat
  let t := s.bump Entry.fabricBatonsRefusedTotal
  let t := if 1 ≤ p && p ≤ 8 then t.bump (Entry.partFabricBatonsRefused p) else t
  t.correctable u

/-- The unit that a link is, for a report: its first lane, or the Ethernet port of a UDP session (log entry 37). -/
def State.linkUnit (s : State) (z : Nat) : UnitCode :=
  if z < 16 then laneUnit z 0 else ⟨.eth, (s.udpPortOf z).getD 0⟩

/-- The link that a baton to a device leaves by. -/
def State.linkTo (s : State) (device : Nat) : Nat :=
  match s.route? device with
  | none => 0
  | some r => routeLink device r.link

/-! Sending (R14, R262, R269). -/

/-- A baton sent by a station of this device, as the table of its lap has it. -/
def State.batonSent (s : State) (b : Baton) : State :=
  match if s.running && !s.sendBlocked b then s.relayed b else none with
  | none => s
  | some b =>
    let t := s.countSend b
    if b.dstDevice.toNat = t.deviceNumber then t.deliver b
    else if t.mayLeave b then t.sendRemote b
    else (t.dropBaton b).batonRefused b (t.linkUnit (t.linkTo b.dstDevice.toNat))

/-- BATON_SEND. -/
def execBatonSend (b : Baton) (s : State) : Answer := s.answer (s.batonSent b)

/-! Arrival (R459 to R464). -/

/-- Frames of a link's receive buffer freed, to be reported to the peer. -/
def State.freeFrames (s : State) (z n : Nat) : State :=
  let l := s.zlink z
  s.setZlink z { l with toReturn := l.toReturn + n }

/-- A baton that has arrived whole on a link: forwarded where its device is another, delivered where a device map admits it, else
dropped. -/
def State.batonArrives (s : State) (z : Nat) (b : Baton) : State :=
  let n := batonFrames b.payloadBytes.toNat
  if b.dstDevice.toNat ≠ s.deviceNumber then
    let t := s.freeFrames z n
    if 16 ≤ z then t.unreachable b else t.sendRemote b
  else
    match s.admitted b with
    | none => (s.freeFrames z n).batonRefused b (s.linkUnit z)
    | some p =>
      let b := { b with partition := BitVec.ofNat 4 p }
      let l := s.zlink z
      (s.setZlink z { l with rxHeld := l.rxHeld ++ [b] }).deliver b

/-- The body of a baton frame put into the receive buffer (R463). -/
def State.batonFrame (s : State) (z : Nat) (body : Bytes) : State :=
  let l := s.zlink z
  let all := l.rxBuffer ++ [fit 224 body]
  let b := batonOf (joinBytes all)
  if all.length < batonFrames b.payloadBytes.toNat then s.setZlink z { l with rxBuffer := all }
  else (s.setZlink z { l with rxBuffer := [] }).batonArrives z b

/-- What a handshake frame brings over UDP (R384, R468). -/
def State.handshakeFrame (s : State) (z : Nat) (h : Handshake) : State :=
  if z < 16 then s
  else
    match h with
    | .none_ => s
    | .chain c =>
      let t := if (s.zlink z).session = 0 then s.udpBegin (z - 16) else s
      t.chainReceived z c
    | .exchange ok => if (s.zlink z).session = 3 then s.rekey z ok else s.keyExchange z ok

/-- A frame whose tag or CRC fails: a negative acknowledgement; in a session it is a tag failure, and one too many within 1 s fences the
link (R384, R464). -/
def State.tagFails (s : State) (z : Nat) (excess : Bool) : State :=
  if (s.zlink z).session = 3 then
    let t := s.bump Entry.peerTagFailures
    if excess then
      if z < 16 then
        let t := t.linkFails z 3
        t.each (List.range 8) fun t l => t.actOn (laneUnit z 0) (laneUnit z l) .uncorrectable 0 []
      else t.linkFails z 0
    else t.sendAnswer z 3
  else s.sendAnswer z 3

/-- An answer that was owed while no frame could be sent. -/
def State.sendOwed (s : State) (z : Nat) : State :=
  let l := s.zlink z
  if l.owes = 0 then s else s.sendAnswer z l.owes

/-- A frame taken in order (R463, R464, R468). -/
def State.frameTaken (s : State) (z : Nat) (f : ZennikFrame) : State :=
  let l := s.zlink z
  let t := s.setZlink z { l with
    nextRx := (l.nextRx + 1) % 2 ^ 64, credits := min frameBuffer (l.credits + f.creditReturn) }
  let t := if z < 16 then t.bump (Entry.zlinkFramesReceived z) else t
  let t := t.takeAck z f.ackNumber.toNat
  let t := match f.type with
    | 1 => (if l.session = 3 then t.batonFrame z f.body else t).sendAnswer z 2
    | 3 => t.resendFrom z 0
    | 4 => (t.handshakeFrame z f.handshake).sendAnswer z 2
    | 5 => t.sendAnswer z 2
    | _ => t.sendOwed z
  t.sendWaiting

/-- A frame received on a link (R464). -/
def State.frameReceived (s : State) (z : Nat) (f : ZennikFrame) : State :=
  if s.isOff || !s.linkRuns z then s
  else if !f.tagOk then s.tagFails z f.excess
  else if f.frameNumber.toNat ≠ (s.zlink z).nextRx then s.sendAnswer z 3
  else s.frameTaken z f

/-- ZENNIK_FRAME_RECEIVED. -/
def execZennikFrameReceived (z : Fin 6) (f : ZennikFrame) (s : State) : Answer := s.answer (s.frameReceived z f)

/-- Frames of a UDP datagram from a peer, in order. -/
def State.framesReceived (s : State) (z : Nat) (l : List ZennikFrame) : State := s.each l fun t f => t.frameReceived z f

/-! Taking batons (R264, R266, R267, R460). -/

/-- The payload of a baton from another device freed by its link station when the destination has taken it (R460). -/
def State.freePayload (s : State) (b : Baton) : State :=
  match s.peers.links.find? fun e => e.2.rxHeld.contains b with
  | none => s
  | some (z, l) =>
    ((s.setZlink z { l with rxHeld := l.rxHeld.erase b }).freeFrames z (batonFrames b.payloadBytes.toNat)).sendAnswer z 2

/-- The unit that sent a baton, for a report: the link station for a baton from another device (R267, R460). -/
def State.senderUnit (s : State) (b : Baton) : UnitCode :=
  if b.srcDevice.toNat = s.deviceNumber then s.stationUnit b.srcStation.toNat b.srcKid.toNat
  else
    match s.peers.links.find? fun e => e.2.rxHeld.contains b with
    | none => s.linkUnit 0
    | some (z, _) => s.linkUnit z

/-- A baton that its station refuses: abandoned, and the sender reported (R267, R276). -/
def State.stationRefuses (s : State) (station : Nat) (b : Baton) (sender : UnitCode) : State :=
  let reporter := s.stationUnit station b.dstKid.toNat
  let t := match s.lapOf b with
    | none => s
    | some _ => s.abandonLap b.slot.toNat
  let t := match stationHerd b.srcStation.toNat with
    | none => t
    | some h => if b.srcDevice.toNat = s.deviceNumber then t.bump (Entry.herdBatonsAbandoned h) else t
  (t.actOn reporter sender .uncorrectable 0 []).checkKids reporter sender

/-- Batons taken from a queue of a station: those that a leg combines, once all are present. -/
def State.batonsTaken (s : State) (station queue count : Nat) : State :=
  let q := s.queue station queue
  if !s.running || q.batons.length < count then s
  else
    let taken := (sortBy batonOrder q.batons).take count
    let (t, refused) := s.takeBatons station queue count
    let named := refused.map fun b => (b, s.senderUnit b)
    let t := t.each (taken.filter fun b => b.srcDevice.toNat ≠ t.deviceNumber) State.freePayload
    t.each named fun t e => t.stationRefuses station e.1 e.2

/-- BATON_RECEIVE. -/
def execBatonReceive (station : BitVec 16) (queue : BitVec 6) (count : Nat) (s : State) : Answer :=
  s.answer (s.batonsTaken station.toNat queue.toNat count)

/-! Link events (R464 to R467). -/

/-- ZENNIK_NAK_RECEIVED: the frames up to the last good one are acknowledged, and those after it resent (R464). -/
def execZennikNakReceived (z : Fin 6) (lastGood : BitVec 64) (s : State) : Answer :=
  s.answer (s.ifOn (if s.linkRuns z then
      ((s.takeAck z (lastGood.toNat % 2 ^ 32)).resendFrom z ((lastGood.toNat + 1) % 2 ^ 64)).sendWaiting else s))

/-- The number of a link. -/
def linkNumber (z : LinkName) : Nat := match z with | .zennik z => z | .udp d => udpLink d.toNat

/-- No acknowledgement in time: a resend from the oldest frame not acknowledged; UdpTimeouts counts those over UDP (R464, R468, R469). -/
def State.ackTimeout (s : State) (z : Nat) : State :=
  if !s.linkRuns z || (s.zlink z).replay.isEmpty then s
  else (if z < 16 then s else s.bump Entry.udpUdpTimeouts).resendFrom z 0

/-- ZENNIK_ACK_TIMEOUT. -/
def execZennikAckTimeout (z : LinkName) (s : State) : Answer := s.answer (s.ifOn (s.ackTimeout (linkNumber z)))

/-- A lane's error counted in LaneErrors; one too many within 1 s fences the lane (R465). -/
def State.laneError (s : State) (z l : Nat) (excess : Bool) : State :=
  if s.isOff || s.linkState z = 0 then s
  else
    let b := fit 32 (s.b (Entry.zlinkLaneErrors z))
    let n := (field b (4 * l) 4 + 1) % 2 ^ 32
    let t := s.setB (Entry.zlinkLaneErrors z) (b.take (4 * l) ++ leBytes 4 n ++ b.drop (4 * l + 4))
    if excess then t.actOn (laneUnit z l) (laneUnit z l) .uncorrectable 0 [] else t

/-- ZENNIK_LANE_ERROR. -/
def execZennikLaneError (z : Fin 6) (lane : Fin 8) (excess : Bool) (s : State) : Answer :=
  s.answer (s.laneError z lane excess)

/-- ZENNIK_RETRAIN_COMPLETE. -/
def execZennikRetrainComplete (z : Fin 6) (s : State) : Answer := s.answer (s.ifOn (s.retrained z))

/-- ZENNIK_ROUTE_FRAME: what the peer of an open session reaches (R466). -/
def execZennikRouteFrame (z : Fin 6) (routes : List RouteEntry) (s : State) : Answer :=
  s.answer (s.ifOn (if (s.zlink z).session = 3 then
      (s.setZlink z { s.zlink z with routes := routes }).updateRoutes else s))

/-- ROUTE_ANNOUNCE_TIMER. -/
def execRouteAnnounceTimer (s : State) : Answer := s.answer (s.ifOn s.announce)

/-- ROUTE_CHANGE_APPLY. -/
def execRouteChangeApply (device : BitVec 16) (s : State) : Answer := s.answer (s.ifOn (s.applyRoute device.toNat))

/-- ZENNIK_LINK_TRAINED. -/
def execZennikLinkTrained (z : Fin 6) (s : State) : Answer := s.answer (s.ifOn (s.linkTrained z))

/-- ZENNIK_CHAIN_RECEIVED. -/
def execZennikChainReceived (z : Fin 6) (c : PeerChain) (s : State) : Answer := s.answer (s.ifOn (s.chainReceived z c))

/-- ZENNIK_KEY_EXCHANGE. -/
def execZennikKeyExchange (z : Fin 6) (signaturesOk : Bool) (s : State) : Answer :=
  s.answer (s.ifOn (s.keyExchange z signaturesOk))

/-- SESSION_RETRY_TIMER. -/
def execSessionRetryTimer (z : LinkName) (s : State) : Answer := s.answer (s.ifOn (s.retrySession (linkNumber z)))

/-- ZENNIK_REKEY. -/
def execZennikRekey (z : LinkName) (signaturesOk : Bool) (s : State) : Answer :=
  s.answer (s.ifOn (s.rekey (linkNumber z) signaturesOk))

end Sys2Proof.Machine
end

