-- ==== Sys2Proof/Machine/Schedule.lean ====
section
/-! DEFINITION. The cyclic schedule and what a frame start of a partition's port brings (R370 to R373, R377, R173). -/

namespace Sys2Proof.Machine

open Sys2Proof

/-! Windows (R371). -/

/-- A window descriptor of R371. -/
structure Window where
  start    : Nat
  length   : Nat
  bound    : Nat
  fallback : Nat
  slots    : List Nat
deriving DecidableEq, Repr

/-- The windows of a Schedule; bytes short of a whole window are ignored. -/
def windowsOf (b : Bytes) : List Window :=
  (List.range (min 64 (b.length / 32))).map fun i =>
    let d := field b (32 * i) 32
    { start := bits d 240 16, length := bits d 224 16, bound := bits d 192 32, fallback := bits d 160 32
      slots := bitsSet (bits d 0 128) 128 }

/-- A bound of 10 ns units in lines of a port (R28). -/
def State.boundLines (s : State) (n bound : Nat) : Nat := (s.timing n).lines bound 100000000

/-- The first window that breaks check 1: ascending, apart, at least 1 line, within the vertical total. -/
def windowsOrdered (total : Nat) (l : List Window) (i last : Nat) : Option Nat :=
  match l with
  | [] => none
  | w :: r =>
    if w.start < last || w.length = 0 || total < w.start + w.length then some i
    else windowsOrdered total r (i + 1) (w.start + w.length)

/-- The first window with which the lengths exceed a limit (check 4). -/
def windowsLoaded (limit : Nat) (l : List Window) (i sum : Nat) : Option Nat :=
  match l with
  | [] => none
  | w :: r => if limit < sum + w.length then some i else windowsLoaded limit r (i + 1) (sum + w.length)

/-- Whether a partition's window may name a slot: its own, EMPTY or with trigger WINDOW or QUEUE (check 2). -/
def State.slotSchedulable (s : State) (p k : Nat) : Bool :=
  k < 120 && s.n (Entry.slotPartition k) = p &&
    match (s.slotRt k).active with | none => true | some t => t.trigger ≤ 1

/-- Position of the first element that fails a test. -/
def firstIndex {α : Type} (f : α → Bool) (l : List α) : Option Nat :=
  let i := l.findIdx f
  if i < l.length then some i else none

/-- ⌊0.9 × vertical total⌋ of a port. -/
def State.limitLines (s : State) (n : Nat) : Nat := (s.timing n).vTotal * 9 / 10

/-- AdmitError of a schedule: check 5 first, then 1 to 4 in order; 0 none fails (R372). -/
def State.admitError (s : State) (p : Nat) (b : Bytes) : Nat :=
  match s.anchorPort p with
  | none => 5
  | some n =>
    let l := windowsOf b
    match windowsOrdered (s.timing n).vTotal l 0 0 with
    | some i => 256 * i + 1
    | none =>
      match firstIndex (fun w => !w.slots.all (s.slotSchedulable p)) l with
      | some i => 256 * i + 2
      | none =>
        match firstIndex (fun w => w.length < s.boundLines n w.bound) l with
        | some i => 256 * i + 3
        | none =>
          match windowsLoaded (s.limitLines n) l 0 0 with
          | some i => 256 * i + 4
          | none => 0

/-- LoadLines, LimitLines and FallbackFits: the sum of the admitted windows, the anchor's limit, and whether every fallback bound fits; 0
where there is nothing to show (R372, R377; DEDUCED, log entry 41). -/
def State.showSchedule (s : State) (p : Nat) (admitted : Bool) : State :=
  let l := windowsOf (s.b (Entry.schedSchedule p))
  let (load, fits, limit) := match s.anchorPort p with
    | none => (0, false, 0)
    | some n =>
      if admitted then (l.foldl (fun a w => a + w.length) 0, l.all fun w => s.boundLines n w.fallback ≤ w.length, s.limitLines n)
      else (0, false, s.limitLines n)
  ((s.setN (Entry.schedLoadLines p) load).setN (Entry.schedLimitLines p) limit).setN (Entry.schedFallbackFits p) (ofBool fits)

/-- ScheduleState and AdmitError. -/
def State.setSchedule (s : State) (p state error : Nat) : State :=
  (s.setN (Entry.schedScheduleState p) state).setN (Entry.schedAdmitError p) error

/-- No window opens; those that are open are forgotten. -/
def State.closeWindows (s : State) (p : Nat) : State :=
  s.setPartRt p { s.partRt p with inUse := none, applyNext := false, windows := [] }

/-- A write of Schedule (R372). -/
def State.scheduleWritten (s : State) (p : Nat) (b : Bytes) : State :=
  let e := s.admitError p b
  if e = 0 then
    let t := s.setB (Entry.schedSchedule p) b
    let t := t.setPartRt p { t.partRt p with held := none, applyNext := true }
    (t.setSchedule p 1 0).showSchedule p true
  else if e = 5 then
    let t := (s.setB (Entry.schedSchedule p) b).closeWindows p
    let t := t.setPartRt p { t.partRt p with held := some b }
    (t.setSchedule p 3 5).showSchedule p false
  else s.setSchedule p 2 e

/-- Whether a schedule has been admitted and stored, in use or held. -/
def State.scheduled (s : State) (p : Nat) : Bool :=
  let r := s.partRt p
  r.inUse.isSome || r.applyNext || s.n (Entry.schedScheduleState p) = 3 || !(s.b (Entry.schedSchedule p)).isEmpty

/-- The check of the stored schedule at a change of anchor port (R372). -/
def State.recheckSchedule (s : State) (p : Nat) : State :=
  let b := s.b (Entry.schedSchedule p)
  let r := s.partRt p
  if r.held.isNone && !s.scheduled p then s.showSchedule p false
  else
    let e := s.admitError p b
    let t := s.closeWindows p
    if e = 0 then
      let t := t.setPartRt p { t.partRt p with held := none, applyNext := true }
      (t.setSchedule p 1 0).showSchedule p true
    else if r.held.isSome && e ≠ 5 then
      let t := (t.setPartRt p { t.partRt p with held := none }).setB (Entry.schedSchedule p) []
      (t.setSchedule p 2 e).showSchedule p false
    else (t.setSchedule p 3 e).showSchedule p false

/-! The anchor port (R370). -/

/-- The anchor on a port at its frame start: ratios carried over, a replay diverges, the schedule checked again. -/
def State.moveAnchor (s : State) (p n : Nat) : State :=
  let t := s.setN (Entry.partAnchorPort p) n
  let t := t.moveRatios p n
  let t := if (t.partRt p).arrivalMode = 2 then t.endReplay p else t
  t.recheckSchedule p

/-- Partitions whose anchor port no longer counts have none until the next frame start that gives one (R77, R370). -/
def State.anchorSweep (s : State) : State :=
  s.each userPartitions fun t p =>
    match t.anchorPort p with
    | none => t
    | some a => if (t.portRt a).counting then t else (t.setN (Entry.partAnchorPort p) 255).recheckSchedule p

/-- An arrival mode that takes effect at a frame start of the anchor: a new record or replay starts at Sequence 0; a replay that is left
makes its withheld frames ready (R173, R174, R375). -/
def State.takeArrivalMode (s : State) (p : Nat) : State :=
  let r := s.partRt p
  let m := s.n (Entry.partArrivalMode p)
  if r.arrivalSeen = m then s
  else
    let t := s.setPartRt p { r with arrivalMode := m, arrivalSeen := m, replayLevel := none, withheld := [] }
    let t := if r.arrivalMode ≠ m && m ≠ 0 then t.setN (Entry.partArrivalCount p) 0 else t
    let t := t.each r.withheld fun t e => (t.makeReady e.1 e.2).adaptFrame e.1 e.2
    t.adaptSweep p

/-- A frame start of a port: the port's own part, the anchor, and what waits for a frame start of the anchor (R28, R362, R370, R372). -/
def State.frameStarts (s : State) (n holdCrc : Nat) : State :=
  let t := s.frameStart n holdCrc
  if !s.portRuns n then t
  else
    let p := t.n (Entry.portPartition n)
    if p = 0 then t.recomputeServed
    else
      let r := t.partRt p
      let t := t.setPartRt p { r with portsLeft := r.portsLeft.filter (· ≠ n) }
      let t := if t.takesAnchor p n then t.moveAnchor p n else t
      let t := if t.anchorPort p = some n then
          let r := t.partRt p
          let t := if r.applyNext then
              t.setPartRt p { r with inUse := some (t.b (Entry.schedSchedule p)), applyNext := false } else t
          t.takeArrivalMode p
        else t
      t.recomputeServed

/-- The compose point of a port's next frame, and the compose lap that it asks for (R236, R278). -/
def State.composePoint (s : State) (n : Nat) : State :=
  let t := s.composeAt n
  let p := t.n (Entry.portPartition n)
  if p = 0 || (t.portRt n).composing = (s.portRt n).composing then t
  else
    let r := t.partRt p
    t.setPartRt p { r with portsDue := r.portsDue.filter (· ≠ n) ++ [n] }

/-! Openings (R373). -/

/-- WindowOverruns, with its event. -/
def State.windowOverrun (s : State) (p : Nat) : State := s.bump (Entry.schedWindowOverruns p)

/-- A window of the schedule in use opens: a WINDOW slot whose lap still runs skips this opening. -/
def State.windowOpens (s : State) (p w : Nat) : State :=
  let r := s.partRt p
  match r.inUse with
  | none => s
  | some b =>
    match (windowsOf b)[w]? with
    | none => s
    | some x =>
      if !s.partOpen p then s
      else
        let skipped := x.slots.filter fun k =>
          (s.slotRt k).lap.isSome && (match (s.slotRt k).active with | some t => t.trigger = 0 | none => false)
        let o : OpenWindow := { number := w, slots := x.slots, done := skipped, late := !skipped.isEmpty }
        let t := s.setPartRt p { r with windows := (r.windows.filter fun y => y.number ≠ w) ++ [o] }
        t.each skipped fun t _ => t.windowOverrun p

/-- A slack reported to pace control (R22). -/
def State.reportSlack (s : State) (p w slack : Nat) : State :=
  { s with pace := { s.pace with slacks := s.pace.slacks ++ [(p, w, slack)] } }

/-- A window closes: laps of this opening that still run overrun, and no longer count as its laps; the slack of the opening
(R22, R373). -/
def State.windowCloses (s : State) (p w : Nat) (lastLines : Option Nat) : State :=
  let r := s.partRt p
  match r.windows.find? fun y => y.number = w with
  | none => s
  | some o =>
    let length := ((r.inUse.bind fun b => (windowsOf b)[w]?).map Window.length).getD 0
    let running := o.slots.filter fun k =>
      s.slotRunner k = p && (match (s.slotRt k).lap with | some l => l.window = some w | none => false)
    let t := s.setPartRt p { r with windows := r.windows.filter fun y => y.number ≠ w }
    let t := t.each running fun t k =>
      (t.windowOverrun p).setSlotRt k { t.slotRt k with lap := (t.slotRt k).lap.map fun l => { l with window := none } }
    if o.laps = 0 then t
    else if o.late || !running.isEmpty then t.reportSlack p w 0
    else
      match lastLines with
      | none => t
      | some l => t.reportSlack p w ((length - l) * 100 / max 1 length)

end Sys2Proof.Machine
end

