-- ==== Sys2Proof/Machine/Security.lean ====
section
/-! DEFINITION. The TRNG, IDE streams and attestation reports (R379, R386, R394 to R399). -/

namespace Sys2Proof.Machine

open Sys2Proof

/-! TRNG and IDE. -/

/-- A failed health test (R379): no new key; an event of the RTU, which stays in service (DEDUCED, log entry 42). -/
def State.trngFails (s : State) : State :=
  if !s.running || !s.trngHealthy then s
  else
    let t := s.setN Entry.secTrngState 1
    let (t, _) := t.takeReport ⟨.rtu, 0⟩ ⟨.rtu, 0⟩ .uncorrectable 0 [] 0
    t.settleAll 1

/-- IdeStreams. -/
def State.showIde (s : State) : State := s.setN Entry.ideIdeStreams s.security.ide.length

/-- The stream of a function out of the Secure state. -/
def State.ideEnds (s : State) (fn : Nat) : State :=
  let t := s.destroyKey (.ide fn)
  { t with security := { t.security with ide := t.security.ide.filter (· ≠ fn) } }.showIde

/-- An IDE_KM message of the secured session: keys programmed, or the stream stopped (R386).  The keys come from the session, so
KeysGenerated does not count them. -/
def State.ideKm (s : State) (fn : Nat) (keys : Bool) : State :=
  if s.isOff then s
  else
    let t := s.ideEnds fn
    if !keys then t
    else
      { t with security := { t.security with ide := t.security.ide ++ [fn], keys := t.security.keys ++ [KeyName.ide fn] } }.showIde

/-- A TLP that fails its check: its stream Insecure, counted, an event, the copies that needed it end (R386). -/
def State.ideFails (s : State) (fn : Nat) : State :=
  if s.isOff || !s.security.ide.contains fn then s
  else
    let t := (s.ideEnds fn).bump Entry.ideIdeErrors
    let t := t.post Entry.ideIdeErrors
    t.endHostCopies fun j => (t.ring j.ring).function = fn

/-! Identity (R61, R62). -/

/-- The part as a number. -/
def State.partCode (s : State) : Nat := match s.part with | .hkz8840 => 0x8840 | .hkz8830 => 0x8830

/-- Herds fused off: by the fuse map, and herds 6 and 7 of the HKZ8830. -/
def State.fusedOff (s : State) : List Nat :=
  (List.range 8).filter fun h => s.herdCount ≤ h || s.fuses.herdsOff.contains h

/-- FuseSummary (R62). -/
def State.fuseSummary (s : State) : Nat :=
  packFields [(6, 1), (8, 0), (10, (s.fuses.kidsOut.filter fun e => !s.fusedOff.contains e.1).length), (8, maskOf s.fusedOff)]

/-! Reports (R394 to R399). -/

/-- Every key that the catalog lists, in ascending order. -/
def State.allKeys (s : State) : List Nat :=
  Catalog.all.flatMap fun r =>
    let count := match s.part with | .hkz8840 => r.count | .hkz8830 => r.count30
    (List.range count).flatMap fun i => r.rows.map fun e => key (r.base + r.first + i) e.sub

/-- ConfigDigest: index, subindex, type code, length and value of every RW and RWP entry that a partition owns (R396). -/
def State.configDigest (s : State) (p : Nat) : Bytes :=
  let keys := s.allKeys.filter fun k => s.digested k && s.ownerOf k = p
  Config.shake256 <| keys.flatMap fun k =>
    match s.row k with
    | none => []
    | some r =>
      let v := r.encode (s.raw k)
      leBytes 2 (k / 256) ++ leBytes 1 (k % 256) ++ leBytes 1 r.ty.code ++ leBytes 4 v.length ++ v

/-- A digest field as a number: its first byte is the least significant (R395). -/
def digestField (b : Bytes) : Nat := leNat (fit 64 b)

/-- A section entry of 80 bytes (R397). -/
def SectionEntry.bytes (e : SectionEntry) : Bytes :=
  leBytes 80 (packFields [(512, digestField e.digest), (64, 0), (32, e.version), (8, 0), (16, e.index), (8, e.kind)])

/-- A section header of 160 bytes (R396). -/
def sectionHeader (p state epoch length count herds ports base size resetting config image : Nat) : Bytes :=
  leBytes 160 (packFields
    [(512, image), (512, config), (96, 0), (8, resetting), (16, size), (16, base), (16, ports), (8, herds), (16, count),
     (32, length), (32, epoch), (8, state), (8, p)])

/-- The section of a partition; `short` for one of a user partition in confidential mode through CAN FD or the physical function (R389,
R396, R401). -/
def State.section_ (s : State) (p : Nat) (short : Bool) : Bytes :=
  let st := s.sectionState p
  if short then sectionHeader p st (s.epochOf p) 0 0 0 0 0 0 0 0 0
  else
    let entries := s.sectionEntries p
    let f := s.sectionFields p
    let hidden := st = 1 || st = 4
    let body := joinBytes (entries.map SectionEntry.bytes)
    let images := joinBytes ((entries.filter fun e => e.kind ≤ 2).map SectionEntry.bytes)
    sectionHeader p st (s.epochOf p) (160 + body.length) entries.length (f.getD 1 0) (f.getD 2 0) (f.getD 3 0) (f.getD 4 0)
      (f.getD 5 0) (if hidden then 0 else digestField (s.configDigest p))
      (if hidden || st = 5 then 0 else digestField (Config.shake256 images)) ++ body

/-- The report header of 256 bytes (R395). -/
def State.reportHeader (s : State) (nonce : Bytes) (sections length : Nat) : Bytes :=
  let f := s.headerFields
  let get := fun (i : Nat) => f.getD i 0
  leBytes 256 (packFields
    [(512, digestField s.security.stagedFw), (512, digestField s.security.activeFw), (512, digestField nonce), (192, 0),
     (8, get 8), (32, length), (16, get 7), (16, get 6), (8, get 5), (32, s.fuseSummary), (32, s.security.epoch),
     (8, sections), (8, get 4), (8, get 3), (4, 0), (1, get 2), (1, get 1), (2, get 0), (64, s.fuses.serial),
     (16, 0x00B0), (16, s.partCode), (16, 1), (32, 0x484B5A52)])

/-- The partitions whose sections a request covers: those named that are not OFF; through a virtual function its own alone (R394). -/
def State.reportParts (s : State) (slot mask : Nat) : List Nat :=
  (List.range 9).filter fun p =>
    mask.testBit p && (slot < 2 || p + 1 = slot) && (p = 0 || s.partState p ≠ 0)

/-- The bytes of a report before its signature, as they stand now (R395 to R399). -/
def State.snapshot (s : State) (slot mask : Nat) (nonce : Bytes) : Bytes :=
  let parts := s.reportParts slot mask
  let body := joinBytes (parts.map fun p => s.section_ p (s.confidential && p ≠ 0 && slot < 2))
  s.reportHeader nonce parts.length (256 + body.length + 3309) ++ body

/-- A write of ReportRequest (R399 steps 1, 2 and 4): the snapshot is taken with the request (DEDUCED, log entry 75). -/
def State.reportRequested (s : State) (slot mask : Nat) : State :=
  let nonce := fit 64 (s.b (Entry.reportReportNonce slot))
  let t := (s.setN (Entry.reportReportState slot) 1).bump (Entry.reportReportsRequested slot)
  { t with security := { t.security with
      reports := Assoc.put t.security.reports slot { mask := mask, nonce := nonce, content := s.snapshot slot mask nonce } } }

/-- The end of a report (R398, R399 step 3): signed, or too large. -/
def State.reportMade (s : State) (slot : Nat) : State :=
  if s.n (Entry.reportReportState slot) ≠ 1 then s
  else
    match Assoc.find s.security.reports slot with
    | none => s
    | some r =>
      let t := { s with security := { s.security with reports := Assoc.drop s.security.reports slot } }
      if 65536 < r.content.length + 3309 then t.setN (Entry.reportReportState slot) 3
      else
        let t := t.setB (Entry.reportReport slot) (r.content ++ fit 3309 (Config.sign r.content))
        (t.setN (Entry.reportReportState slot) 2).bump Entry.secReportsSigned

end Sys2Proof.Machine
end

