-- ==== Sys2Proof/Machine/Net.lean ====
section
/-! DEFINITION. Ethernet ports, MDIO and the PCI Express link (R64 to R70, R438, R453 to R457, R468). -/

namespace Sys2Proof.Machine

open Sys2Proof

/-! Ethernet (R64 to R70). -/

/-- Whether an Ethernet port receives and transmits: in use, its link up, not fenced. -/
def State.ethRuns (s : State) (e : Nat) : Bool :=
  s.inForceN (Entry.ethEnable e) = 1 && s.n (Entry.ethLinkState e) = 1 && !s.fenced ⟨.eth, e⟩

/-- The IPv4 address as 16 bytes of an IPv4-mapped IPv6 address (R70). -/
def mappedV4 (a : Nat) : Bytes :=
  List.replicate 10 0 ++ [0xFF, 0xFF] ++ (leBytes 4 a).reverse

/-- A datagram to UdpPort: its frames go to the session of the peer that UdpPeers names by its address; a datagram that is no
encapsulation of this pair of devices is dropped (R468). -/
def State.datagram (s : State) (u : UdpPacket) : State :=
  match u.content, s.udpPeers.find? fun e => e.2.2 = u.srcAddr with
  | .zennik magic count src dst frames, some peer =>
    if magic = 0x5A4E && count = frames.length && src = peer.1 && dst = s.deviceNumber then
      s.framesReceived (udpLink src) frames
    else s
  | _, _ => s

/-- A UDP packet: the encapsulation takes those to UdpPort ahead of the streams (R468); else it goes to a context or is Unmatched (R70). -/
def State.udpIn (s : State) (e : Nat) (u : UdpPacket) (ms : Nat) (lines : List Nat) : State :=
  if u.dstPort.toNat = s.inForceN Entry.fabricUdpPort then s.datagram u
  else
    match u.content with
    | .rtp r => s.classify e u r ms lines
    | .zennik _ _ _ _ _ => s.bump (Entry.ethUnmatched e)

/-- Whether a port drops a frame by R65. -/
def State.ethDrops (s : State) (e : Nat) (f : EthFrame) : Bool :=
  f.vlanTags = 2 || s.inForceN (Entry.ethMaxFrame e) < f.length ||
    match f.payload with
    | .ipv4Fragment | .ipv6Extension => true
    | .udp u => !u.checksumOk
    | _ => false

/-- What a frame that is not dropped does (R64, R66). -/
def State.ethPayload (s : State) (e : Nat) (p : EthPayload) (ms : Nat) (lines : List Nat) : State :=
  match p with
  | .arpRequest target sender =>
    if target ≠ 0 && target.toNat = s.inForceN (Entry.ethIpv4Address e) then
      s.emit (.ethernet e 1 (leBytes 4 target.toNat ++ leBytes 6 sender.toNat))
    else s
  | .neighbourSolicit target =>
    let own := (s.inForce (Entry.ethIpv6Address e)).toBytes
    if target = own && own.any (· ≠ 0) then s.emit (.ethernet e 2 target) else s
  | .udp u => s.udpIn e u ms lines
  | .icmpEcho | .pause | .other | .ipv4Fragment | .ipv6Extension => s

/-- A frame received at a port (DEDUCED, log entry 79). -/
def State.ethReceived (s : State) (e : Nat) (f : EthFrame) (ms : Nat) (lines : List Nat) : State :=
  if !s.ethRuns e then s
  else
    let t := (s.bump (Entry.ethFramesReceived e)).add (Entry.ethBytesReceived e) f.length
    if !f.fcsOk then t.bump (Entry.ethFcsErrors e)
    else if t.ethDrops e f then t.bump (Entry.ethDroppedOther e)
    else t.ethPayload e f.payload ms lines

/-- ETH_FRAME_RECEIVED. -/
def execEthFrameReceived (e : Fin 4) (f : EthFrame) (ms : Nat) (lines : List Nat) (s : State) : Answer :=
  s.answer (s.ethReceived e f ms lines)

/-- MEMBERSHIP_REPORT_TIMER (R66). -/
def execMembershipReportTimer (e : Fin 4) (s : State) : Answer := s.answer (s.ifRunning (s.reportMembership e))

/-- ETH_LINK_DOWN: the contexts on the port stay in their states (R69). -/
def execEthLinkDown (e : Fin 4) (s : State) : Answer :=
  s.answer (s.ifOn (if s.n (Entry.ethLinkState e) = 1 then s.setN (Entry.ethLinkState e) 0 else s))

/-- ETH_LINK_UP (R69). -/
def execEthLinkUp (e : Fin 4) (s : State) : Answer :=
  s.answer (if 3 ≤ s.device && s.inForceN (Entry.ethEnable e) = 1 && s.n (Entry.ethLinkState e) = 0 then
      (s.setN (Entry.ethLinkState e) 1).sendWaiting else s)

/-! MDIO (R67, R68). -/

/-- The Op of an MDIO command. -/
def mdioOp (command : Nat) : Nat := bits command 62 2

/-- The transaction that a command asks for: Clause 22 ignores Device and uses bits 36:32 of Register (R68); a read carries no data. -/
def mdioFrame (clause45 : Bool) (command : Nat) : Output :=
  let write := mdioOp command = 1
  .mdio clause45 write (bits command 57 5) (if clause45 then bits command 52 5 else 0)
    (bits command 32 (if clause45 then 16 else 5)) (if write then bits command 0 16 else 0)

/-- A write of MdioCommand: a transaction starts unless one is busy; Op 2 and 3 do nothing.  While it is busy the data bits of MdioResult
read 0 (DESIGN CHOICE, log entry 87). -/
def State.mdioCommand (s : State) (command : Nat) : State :=
  if 2 ≤ mdioOp command || bits (s.n Entry.mdioMdioResult) 30 2 = 1 then s
  else
    let t := (s.setN Entry.mdioMdioResult (2 ^ 30)).emit (mdioFrame (s.n Entry.mdioMdioClause = 1) command)
    { t with mdioRead := mdioOp command = 0 }

/-- MDIO_TRANSACTION_DONE: the result, with the data of a read; after a write its data bits read 0 (DESIGN CHOICE, log entry 87). -/
def execMdioTransactionDone (data : BitVec 16) (s : State) : Answer :=
  s.answer (s.ifOn (if bits (s.n Entry.mdioMdioResult) 30 2 = 1 then
      s.setN Entry.mdioMdioResult (2 ^ 31 + if s.mdioRead then data.toNat else 0)
    else s))

/-! PCI Express (R438, R453 to R457). -/

/-- A function reset: its mailbox, its MSI-X table and its IDE stream cleared, its copies ended (R457); the mailbox state of R457 is taken to
include MBX_CLAMPS (DESIGN CHOICE, log entry 88). -/
def State.functionReset (s : State) (fn : Nat) : State :=
  let t := s.setBox fn {}
  let t := if t.security.ide.contains fn then t.ideEnds fn else t
  t.endHostCopies fun j => (t.ring j.ring).function = fn

/-- PCIE_FLR. -/
def execPcieFlr (fn : Fin 9) (s : State) : Answer := s.answer (s.ifOn (s.functionReset fn))

/-- The loss of a host link that is up (R457): width and rate read 0. -/
def State.linkLost (s : State) : State :=
  if s.n Entry.pcieLinkState = 1 then
    ((s.hostLinkLost 0).setN Entry.pcieLinkWidth 0).setN Entry.pcieLinkGeneration 0
  else s

/-- PCIE_LINK_DOWN. -/
def execPcieLinkDown (s : State) : Answer := s.answer (s.ifOn s.linkLost)

/-- PCIE_RESET: PERST_n resets the link and the controller only (R453, R457). -/
def execPcieReset (s : State) : Answer :=
  s.answer (s.ifOn ((s.linkLost.each (List.range 9) State.functionReset).setN Entry.pcieVfsEnabled 0))

/-- PCIE_LINK_UP: the link trains, which is possible from the end of its lane proof on (R438, R469). -/
def execPcieLinkUp (width gen : Nat) (s : State) : Answer :=
  s.answer (if 3 ≤ s.device && s.n Entry.pcieLinkState = 0 then
      ((s.setN Entry.pcieLinkState 1).setN Entry.pcieLinkWidth (min 16 width)).setN Entry.pcieLinkGeneration (min 6 gen)
    else s)

/-- PCIE_CONFIG_REQUEST: Request Retry Status until the link is ready (R438). -/
def execPcieConfigRequest (s : State) : Answer :=
  s.answer (s.ifOn (if s.device = 1 || s.device = 2 then s.emit .pcieRetry else s))

/-- MSIX_HOLDOFF_EXPIRY: changes within the 10 µs are signalled once (R456). -/
def State.holdoffEnds (s : State) (fn vector : Nat) : State :=
  let m := s.box fn
  let t := s.setBox fn { m with vectors := m.vectors.filter (· ≠ vector), again := m.again.filter (· ≠ vector) }
  if m.vectors.contains vector && m.again.contains vector then t.signal fn vector else t

/-- MSIX_HOLDOFF_EXPIRY. -/
def execMsixHoldoffExpiry (fn : Fin 9) (vector : BitVec 11) (s : State) : Answer :=
  s.answer (s.ifOn (s.holdoffEnds fn vector.toNat))

/-- IDE_KM_MESSAGE. -/
def execIdeKmMessage (fn : Fin 9) (keys : Bool) (s : State) : Answer := s.answer (s.ideKm fn keys)

/-- IDE_CHECK_FAILURE. -/
def execIdeCheckFailure (fn : Fin 9) (s : State) : Answer := s.answer (s.ideFails fn)

/-- HOST_TRANSFER_FAILURE (R457). -/
def execHostTransferFailure (job : Nat) (s : State) : Answer := s.answer (s.ifOn (s.copyFails job))

end Sys2Proof.Machine
end

