-- ==== Sys2Proof/Machine/Power.lean ====
section
/-! DEFINITION. OFF, the supply, clock and junction monitors, pace control, station watchdogs and the discrete inputs (R18 to R27, R32,
R422, R423, R475, R479, R485). -/

namespace Sys2Proof.Machine

open Sys2Proof

/-! OFF (R32 step 1). -/

/-- The block in OFF: what is fixed for the unit, the board's flash, what has been driven and the pins stay; every other register is at its
reset value and the external memory is lost. -/
def State.toOff (s : State) : State :=
  { State.reset with
    pending := s.pending, part := s.part, fuses := s.fuses, out := s.out, free := s.free, inputs := s.inputs
    flash := s.flash, tap := s.tap
    boot := { State.reset.boot with suppliesOk := s.boot.suppliesOk } }

/-- RESET_ASSERTED (R32 step 1). -/
def execResetAsserted (s : State) : Answer := s.answer s.toOff

/-! Supplies, clock and junction (R475, R479, R485). -/

/-- The monitor ranges of the rails in the order of SupplyVoltages, in units of 0.5 mV (R474). -/
def railRanges : List (Nat × Nat) :=
  [(1160, 1800), (1552, 1648), (1455, 1545), (2280, 2520), (3420, 3780), (3420, 3780), (1746, 1854), (970, 1030)]

/-- The numbers of the rails, from 1, whose reading meets a condition on its range. -/
def railsWhere (mv : List Nat) (f : Nat → Nat × Nat → Bool) : List Nat :=
  (List.range 8).filterMap fun i =>
    match mv[i]?, railRanges[i]? with
    | some v, some r => if f (2 * v) r then some (i + 1) else none
    | _, _ => none

/-- SupplyVoltages shown (R489). -/
def State.showRails (s : State) : State :=
  if s.pace.rails.isEmpty then s
  else s.setB Entry.supplySupplyVoltages (joinBytes ((List.range 8).map fun i => leBytes 2 (s.pace.rails.getD i 0)))

/-- A sample of the rail monitors (R475). -/
def State.supplySample (s : State) (mv : List Nat) : State :=
  if !(railsWhere mv fun v r => v < r.1).isEmpty then
    let t := s.toOff
    { t with boot := { t.boot with suppliesOk := false } }
  else if s.isOff then { s with boot := { s.boot with suppliesOk := true } }
  else
    let t := { s with pace := { s.pace with rails := mv } }
    let t := if t.confidential then t else t.showRails
    match (railsWhere mv fun v r => r.2 < v).getLast? with
    | none => t
    | some rail => (t.setN Entry.supplySupplyFault rail).enterHold 7

/-- SUPPLY_MONITOR_SAMPLE. -/
def execSupplyMonitorSample (mv : List Nat) (s : State) : Answer := s.answer (s.supplySample mv)

/-- SYSCLK_FAILURE (R479). -/
def execSysclkFailure (s : State) : Answer :=
  s.answer (s.ifOn ((s.setN Entry.supplySysclkState 1).enterHold 8))

/-- The grade's maximum junction temperature in 0.1 °C (R3). -/
def State.gradeMax (s : State) : Int := if s.fuses.extendedGrade then 1050 else 1000

/-- The grade's minimum in 0.1 °C (R3). -/
def State.gradeMin (s : State) : Int := if s.fuses.extendedGrade then -400 else 0

/-- The least and the greatest of a list of readings. -/
def leastOf (l : List Int) : Int := (minBy (fun z : Int => z) l).getD 0
def greatestOf (l : List Int) : Int := (minBy (fun z : Int => -z) l).getD 0

/-- The junction sensors reported. -/
def State.showJunctions (s : State) (l : List Int) : State :=
  let t := (s.setZ Entry.devJunctionMax (greatestOf l)).setZ Entry.supplyJunctionMin (leastOf l)
  t.setB Entry.supplyJunctionSensors (joinBytes ((List.range 24).map fun i => leBytes 2 (unsigned 16 (l.getD i 0))))

/-- A temperature in 0.1 °C as it reads: in confidential mode in 5 °C steps (R389, R489; log entry 43). -/
def State.coarse (s : State) (z : Int) : Int := if s.confidential then z.fdiv 50 * 50 else z

/-- The event of JunctionMax (R485). -/
def State.postJunction (s : State) : State :=
  s.postValue Entry.devJunctionMax EType.i16.code (leBytes 2 (unsigned 16 (s.coarse (s.z Entry.devJunctionMax))))

/-- A read of the 24 junction sensors (R485). -/
def State.junctionRead (s : State) (l : List Int) : State :=
  if s.isOff || l.isEmpty then s
  else
    let before := s.z Entry.devJunctionMax
    let top := greatestOf l
    let t := s.showJunctions l
    let t := if before < s.gradeMax && s.gradeMax ≤ top then (t.bump Entry.supplyThermalWarnings).postJunction else t
    if 1100 ≤ top then t.enterHold 4 else t

/-- JUNCTION_SENSOR_READ. -/
def execJunctionSensorRead (tenths : List Int) (s : State) : Answer := s.answer (s.junctionRead tenths)

/-! Pace control (R18 to R24). -/

/-- VcoreSetpoint, VcoreMeasured, PaceMin, SlackMin and the paces of the herds shown (R35, R389). -/
def State.showPace (s : State) : State :=
  let t := (s.setN Entry.devVcoreSetpoint s.pace.setpoint).setN Entry.devVcoreMeasured s.pace.measured
  let t := (t.setN Entry.devSlackMin s.pace.slackMin).showPaceMin
  t.each (List.range 8) fun t h => t.withSome (Assoc.find s.pace.paces h) fun p => t.setN (Entry.herdPace h) p

/-- They and SupplyVoltages hold their values between 250 ms boundaries in confidential mode (R389, R489). -/
def State.paceMoves (s : State) (quarter : Bool) : State :=
  if !s.confidential then s.showPace else if quarter then s.showPace.showRails else s

/-- The end of a window of herd h's pace monitor (R18, R19, R24); a herd below 0.80 G/s is reported only while pace control runs, since R24
rests on its setpoint or its fixed supply (DESIGN CHOICE, log entry 86). -/
def State.paceMeasured (s : State) (h pace : Nat) : State :=
  if s.isOff then s
  else
    let p := { s.pace with paces := Assoc.put s.pace.paces h pace }
    let p := if pace < 840 && !p.floorAt.contains p.setpoint then { p with floorAt := p.floorAt ++ [p.setpoint] } else p
    let t := ({ s with pace := p }).paceMoves false
    if t.running && !t.fenced ⟨.herd, h⟩ && pace < 800 && (p.setpoint = 850 || p.fixed) then
      (t.bump Entry.devPaceFaultCount).selfReport ⟨.herd, h⟩
    else t

/-- PACE_MONITOR_WINDOW. -/
def execPaceMonitorWindow (h : Fin 8) (pace : Nat) (s : State) : Answer := s.onHerd h (s.paceMeasured h pace)

/-- The core supply's unit. -/
def coreSupplyUnit : UnitCode := ⟨.coreSupply, 0⟩

/-- A transaction with the core regulator's controller (R20): a command with the word that it writes, none for a read. -/
def State.pmbus (s : State) (command : Nat) (word : Option Nat) : State :=
  s.emit (.pmbus (s.n Entry.devPmbusAddress) command word (s.n Entry.devPmbusRate = 1))

/-- VOUT_COMMAND (0x21) with a voltage in LINEAR16 (R20, R22). -/
def State.driveVout (s : State) (mv : Nat) : State := s.pmbus 0x21 (some (Config.linear16 mv).toNat)

/-- READ_VOUT (0x8B). -/
def State.readVout (s : State) : State := s.pmbus 0x8B none

/-- A distance between two readings. -/
def apart (a b : Nat) : Nat := (a - b) + (b - a)

/-- A pace supply fault (R23). -/
def State.supplyFails (s : State) : State :=
  if s.pace.fixed then s
  else
    let t := (s.bump Entry.devPaceFaultCount).actOn coreSupplyUnit coreSupplyUnit .uncorrectable 0 []
    { t with pace := { t.pace with fixed := true } }

/-- A transaction without acknowledge: the second in a row is a pace supply fault (R23). -/
def State.notAcked (s : State) : State :=
  let t := { s with pace := { s.pace with nacks := s.pace.nacks + 1 } }
  if 2 ≤ t.pace.nacks then t.supplyFails else t

/-- A new setpoint written to the controller (R20, R22), and whether it acknowledged; the setpoint is the one written either way
(DEDUCED, log entry 84). -/
def State.writeVout (s : State) (mv : Nat) (acked : Bool) : State :=
  let t := { s with pace := { s.pace with setpoint := mv, quiet := 0 } }.driveVout mv
  if acked then { t with pace := { t.pace with nacks := 0 } } else t.notAcked

/-- A reading of READ_VOUT, or a transaction without acknowledge (R23). -/
def State.voutChecked (s : State) (reading : Option Nat) : State :=
  if s.device < 3 then s
  else
    let s := s.readVout
    match reading with
    | none => s.notAcked
    | some v =>
      let t := ({ s with pace := { s.pace with nacks := 0, measured := v } }).paceMoves false
      if 15 < apart v t.pace.setpoint then t.supplyFails else { t with pace := { t.pace with lastGood := v } }

/-- READ_VOUT_CHECK. -/
def execReadVoutCheck (reading : Option Nat) (s : State) : Answer := s.answer (s.voutChecked reading)

/-- A supply treated as fixed checked once more: stepping resumes where the reading agrees, and an event whose quiet period has ended
closes (R23, R410). -/
def State.fixedChecked (s : State) (readback : Option Nat) : State :=
  if !s.pace.fixed then s
  else
    let s := s.readVout
    match readback with
    | none => s
    | some v =>
      let t := { s with pace := { s.pace with measured := v } }
      if 15 < apart v t.pace.setpoint then t
      else
        let t := { t with pace := { t.pace with fixed := false, lastGood := v, nacks := 0 } }
        match t.fc.supplyOpen, t.openEvents.find? fun e => e.unit = coreSupplyUnit with
        | true, some e => (({ t with fc := { t.fc with supplyOpen := false } }).closeEvent e.number 1).settleAll 1
        | _, _ => t

/-- The lowest slack that windows report in an interval; 100 where none does (R22). -/
def lowestSlack (l : List (Nat × Nat × Nat)) : Nat := l.foldl (fun m e => min m e.2.2) 100

/-- The byte of WindowSlack of a window: the lowest slack of its openings, 255 for none. -/
def windowSlack (l : List (Nat × Nat × Nat)) (p w : Nat) : Nat :=
  (l.filter fun e => e.1 = p && e.2.1 = w).foldl (fun m e => min m e.2.2) 255

/-- SlackMin and the WindowSlack of every user partition taken from an interval. -/
def State.takeSlacks (s : State) : State :=
  let l := s.pace.slacks
  let t := { s with pace := { s.pace with slackMin := lowestSlack l, slacks := [] } }
  t.each userPartitions fun t p =>
    t.setB (Entry.schedWindowSlack p) ((List.range 64).map fun w => BitVec.ofNat 8 (windowSlack l p w))

/-- Whether a partition's herds are at a lap boundary: none of its slots runs a lap. -/
def State.betweenLaps (s : State) (p : Nat) : Bool :=
  (List.range 128).all fun k => s.slotRunner k ≠ p || (s.slotRt k).lap.isNone

/-- ShedLevel given a value, with the arrival entry of each partition whose mode is log; it takes effect on a partition at its next lap
boundary, at once where no lap runs (R22, R171, R173). -/
def State.setShed (s : State) (n : Nat) : State :=
  if n = s.n Entry.devShedLevel then s
  else (s.setN Entry.devShedLevel n).each userPartitions fun t p =>
    let t := t.logArrival p arrShed 0 0 (t.anchorFrame p) n
    if t.betweenLaps p then t.takeShed p else t

/-- The count of qualifying intervals started again. -/
def State.noQuiet (s : State) : State := { s with pace := { s.pace with quiet := 0 } }

/-- The lower threshold of slack (R35). -/
def State.lowerSlack (s : State) : Nat := max (s.n Entry.devPaceLowerSlack) (s.n Entry.devPaceMargin + 6)

/-- What R22's table does in an interval of a given lowest slack; `acked`: whether the controller acknowledges a write of it. -/
def State.paceSteps (s : State) (slack : Nat) (acked : Bool) : State :=
  let below := s.livePaces.any (· < 840)
  let short := slack < s.n Entry.devPaceMargin
  let top := s.pace.setpoint = 850 || s.pace.fixed
  let shed := s.n Entry.devShedLevel
  let s := if below && top then s.bump Entry.devFloorBreaches else s
  if (below || short) && !top then s.writeVout (min 850 (s.pace.setpoint + 10)) acked
  else if below || short then
    let t := s.noQuiet
    if shed < 3 then t.setShed (shed + 1) else if short then t.bump Entry.devSlackShortCount else t
  else if s.lowerSlack ≤ slack && 0 < shed then s.noQuiet.setShed (shed - 1)
  else if s.lowerSlack ≤ slack && shed = 0 then
    let quiet := s.pace.quiet + 1
    let next := max 620 (s.pace.setpoint - 5)
    if 16 ≤ quiet && next < s.pace.setpoint && !s.pace.floorAt.contains next && !s.pace.fixed then s.writeVout next acked
    else { s with pace := { s.pace with quiet := quiet } }
  else s.noQuiet

/-- PackagePower, averaged over the 250 ms that end (R35, R389). -/
def State.showPower (s : State) (watts : Option Nat) : State :=
  s.withSome watts fun w => s.setN Entry.devPackagePower (min 300 w)

/-- The rate entries: LumaRate, PixelRate, SampleRate and QueryRate of the units (R97, R123, R229). -/
def rateKeys : List Nat :=
  (List.range 8).map Entry.sliceLumaRate ++ (List.range 4).map Entry.stereoPixelRate ++ (List.range 4).map Entry.flowPixelRate ++
    (List.range 16).map Entry.tileSampleRate ++ (List.range 4).map Entry.raySlotRate

/-- The rate entries at an interval of the pace controller: millions of units over the last four intervals of 250 ms, rounded down
(DESIGN CHOICE, log entry 104). -/
def State.showMeters (s : State) : State :=
  s.each rateKeys fun t k =>
    match Assoc.get t.meters k [] with
    | [] => t
    | l => { t.setN k ((l.take 4).foldl (· + ·) 0 / 1000000) with meters := Assoc.put t.meters k (0 :: l.take 3) }

/-- One control interval (R22, R23); the rate entries move with PackagePower. -/
def State.paceInterval (s : State) (readback : Option Nat) (acked : Bool) (watts : Option Nat) : State :=
  if !s.running then s
  else
    let t := s.fixedChecked readback
    if !t.running then t
    else
      let t := t.takeSlacks
      ((t.paceSteps t.pace.slackMin acked).paceMoves watts.isSome).showPower watts |> fun t => if watts.isSome then t.showMeters else t

/-- PACE_CONTROL_INTERVAL. -/
def execPaceControlInterval (readback : Option Nat) (q : PaceReadings) (s : State) : Answer :=
  s.answer (s.paceInterval readback q.acked q.watts)

/-! Station watchdogs (R25 to R27). -/

/-- Whether a station's watchdog is disabled: it or its herd is fenced, its herd is under reset, or its partition is SCRUBBING. -/
def State.watchdogOff (s : State) (u : UnitCode) : Bool :=
  let ofHerd (h : Nat) : Bool :=
    s.fenced ⟨.herd, h⟩ || (s.herdRt h).resetting || s.partState (s.n (Entry.herdPartition h)) = 4
  s.fenced u ||
    match u.kind with
    | .herd => ofHerd u.inst
    | .kid => ofHerd (u.inst / 2048)
    | _ => false

/-- A watchdog's expiry (R26): the baton concerned is abandoned, the expiry counted and reported. -/
def State.watchdog (s : State) (reporter suspect : UnitCode) (baton : Option Baton) : State :=
  if s.isOff || s.watchdogOff reporter || !s.hasUnit reporter || !s.hasUnit suspect then s
  else
    let t := (s.bump Entry.devWatchdogCount).withSome baton (s.bump Entry.devWatchdogCount).abandonBaton
    if t.device < 3 then t.testsBad suspect
    else (t.actOn reporter suspect .uncorrectable 0 []).checkKids reporter suspect

/-- WATCHDOG_EXPIRY. -/
def execWatchdogExpiry (reporter suspect : UnitCode) (baton : Option Baton) (s : State) : Answer :=
  s.answer (s.watchdog reporter suspect baton).anchorSweep

/-! The discrete inputs (R422, R423). -/

/-- SAFE_REQ_n as the entries show it (R435, R489). -/
def State.showInputs (s : State) : State :=
  let i := s.inputs
  (s.setN Entry.pinsSafeReqLevel (ofBool i.safeReq)).setN Entry.faultSafeReqState
    (if i.toggling then 2 else ofBool i.safeReq)

/-- A taken edge of SAFE_REQ_n. -/
def State.safeEdge (s : State) (level toggling : Bool) : State :=
  let t := { s with inputs := { safeReq := level, toggling := s.inputs.toggling || toggling } }
  if t.isOff then t
  else
    let t := (t.bump Entry.pinsSafeReqEdges).showInputs
    if t.inputs.safeReq || t.inputs.toggling then t.each (List.range t.portCount) fun t n => t.enterSafe n 5 false else t

/-- SAFE_REQ_ASSERTED. -/
def execSafeReqAsserted (toggling : Bool) (s : State) : Answer := s.answer (s.safeEdge true toggling)

/-- SAFE_REQ_RELEASED. -/
def execSafeReqReleased (toggling : Bool) (s : State) : Answer := s.answer (s.safeEdge false toggling)

/-- SAFE_REQ_HELD: one notice names the input (R423). -/
def execSafeReqHeld (ms : Nat) (s : State) : Answer :=
  s.answer (s.ifOn ({ s with fc := { s.fc with ms := ms } }.inputNotice ⟨.discreteInput, 0⟩))

/-- SAFE_REQ_TOGGLE_QUIET: the input is no longer treated as asserted once it is deasserted (R423). -/
def State.toggleQuiet (s : State) : State :=
  if s.inputs.safeReq then s
  else
    let t := { s with inputs := { s.inputs with toggling := false } }
    t.ifOn t.showInputs

/-- SAFE_REQ_TOGGLE_QUIET. -/
def execSafeReqToggleQuiet (s : State) : Answer := s.answer s.toggleQuiet

/-- INPUT_GLITCH_REJECTED (R422). -/
def execInputGlitchRejected (s : State) : Answer := s.answer (s.ifOn (s.bump Entry.faultInputGlitches))

end Sys2Proof.Machine
end

