-- ==== Sys2Proof/Machine/Read.lean ====
section
/-! DEFINITION. The reading of dictionary entries: the entries that other state gives, and what confidential mode holds back
(R36 to R46, R61, R62, R389, R390, R405, R417, R436). -/

namespace Sys2Proof.Machine

open Sys2Proof

/-! What confidential mode holds back (R389). -/

/-- The entries of partition 0 that count or measure work done for user partitions: the indexes of a group, from first to last, and the
subindexes. -/
def hiddenGroups : List (Nat × Nat × List Nat) :=
  [(0x2240, 0x2247, [0x02, 0x03, 0x04]), (0x2250, 0x2250, [0x01, 0x03]), (0x2480, 0x2483, [0x03, 0x04, 0x05]),
   (0x2484, 0x2487, [0x02, 0x03]), (0x2488, 0x2488, [0x01, 0x03, 0x07, 0x09, 0x0A]), (0x2800, 0x2800, [0x02, 0x03, 0x06, 0x0A]),
   (0x2C00, 0x2C00, [0x02, 0x03, 0x04]), (0x3000, 0x3000, [0x03, 0x04, 0x05, 0x06, 0x07, 0x08]), (0x3010, 0x301F, [0x02, 0x03]),
   (0x3020, 0x3023, [0x02, 0x03]), (0x4180, 0x4187, [0x01, 0x02, 0x03, 0x04, 0x05, 0x06]), (0x4800, 0x4800, [0x04, 0x05, 0x06]),
   (0x4C00, 0x4C00, [0x07, 0x08]), (0x5100, 0x5100, [0x01])]

/-- Whether an entry reads 0 in confidential mode. -/
def hiddenEntry (k : Nat) : Bool :=
  hiddenGroups.any fun g => g.1 ≤ k / 256 && k / 256 ≤ g.2.1 && g.2.2.contains (k % 256)

/-! Entries that other state gives. -/

/-- The name of the part: "HKZ8840" or "HKZ8830". -/
def State.partName (s : State) : Bytes :=
  match s.part with
  | .hkz8840 => [0x48, 0x4B, 0x5A, 0x38, 0x38, 0x34, 0x30]
  | .hkz8830 => [0x48, 0x4B, 0x5A, 0x38, 0x38, 0x33, 0x30]

/-- The junction sensors as they read (R489). -/
def State.sensorsRead (s : State) : Bytes :=
  let b := s.b Entry.supplyJunctionSensors
  if b.isEmpty || !s.confidential then b
  else joinBytes ((List.range 24).map fun i => leBytes 2 (unsigned 16 (s.coarse (signed 16 (field b (2 * i) 2)))))

/-- AnchorRecord: in confidential mode zeros for an anchor of a user partition's stream (R151). -/
def State.anchorRead (s : State) : Bytes :=
  let i := s.n Entry.genAnchorIndex
  match Assoc.find s.anchors.records i with
  | none => zeros 64
  | some a => if s.confidential && s.n (Entry.streamPartition a.stream) ≠ 0 then zeros 64 else s.anchorBytes i

/-- The record of the event that EventIndex names, 0 the newest; zeros where the log does not hold it (R417, R435). -/
def State.eventRead (s : State) : Bytes :=
  let i := s.n Entry.faultEventIndex
  let e := if i = 0 then s.fc.log.getLast? else s.fc.log.find? fun e => e.number = i
  match e with
  | none => zeros 32
  | some e => eventBytes e

/-- Whether the fuses mark a unit bad (R421). -/
def State.fuseBad (s : State) (u : UnitCode) : Bool :=
  s.fuses.unitsBad.contains u ||
    match u.kind with
    | .herd => s.fuses.herdsOff.contains u.inst
    | .kid => s.fuses.herdsOff.contains (u.inst / 2048) || s.fuses.kidsOut.contains (u.inst / 2048, u.inst % 2048)
    | _ => false

/-- UnitStatus of the unit that UnitQuery names (R436). -/
def State.unitStatus (s : State) : Nat :=
  match unitOfCode (s.n Entry.faultUnitQuery) with
  | none => 3 * 2 ^ 30
  | some u =>
    if !s.hasUnit u then 3 * 2 ^ 30
    else
      let state := if s.fuseBad u then 3
        else if !s.fenced u then 0
        else if s.openEvents.any fun e => e.unit = u then 1
        else 2
      let last := match (s.fc.log.filter fun e => e.unit = u).getLast? with
        | none => 0
        | some e => e.number
      packFields [(24, last), (2, 0), (2, min 3 (s.recoveriesOf u)), (1, ofBool (s.fc.testBad.contains u)),
        (1, ofBool (s.fuseBad u)), (2, state)]

/-- The FAULT pair as driven: 1 fault (R405). -/
def State.faultPair (s : State) : Nat := if s.isOff then ofBool s.boot.suppliesOk else ofBool (!s.running)

/-- A count of the ring that RingSelect names, 0 for rings of other partitions. -/
def State.ringRead (s : State) (p : Nat) (f : Ring → Nat) : Nat :=
  let r := s.n (Entry.partRingRingSelect p)
  if s.ringOwner r = some p then f (s.ring r) else 0

/-- Units of a kind that are not fenced. -/
def State.unfenced (s : State) (kind : UnitKind) (n : Nat) : Nat :=
  ((List.range n).filter fun i => !s.fenced ⟨kind, i⟩).length

/-- The entries of one instance that other state gives. -/
def State.derived0 (s : State) (k : Nat) : Option Value :=
  if k = Entry.idPartName then some (.bytes s.partName)
  else if k = Entry.idPartCode || k = Entry.idDeviceId then some (.int s.partCode)
  else if k = Entry.idGrade then some (.int (ofBool s.fuses.extendedGrade))
  else if k = Entry.idSerialNumber then some (.int s.fuses.serial)
  else if k = Entry.idHerdsEnabled then some (.int s.herdCount)
  else if k = Entry.idFuseSummary then some (.int s.fuseSummary)
  else if k = Entry.idRasterPorts then some (.int s.portCount)
  else if k = Entry.idMemoryGiB then some (.int (match s.part with | .hkz8840 => 64 | .hkz8830 => 48))
  else if k = Entry.devJunctionMax || k = Entry.supplyJunctionMin then some (.int (s.coarse (s.z k)))
  else if k = Entry.supplyJunctionSensors then some (.bytes s.sensorsRead)
  else if k = Entry.genAnchorRecord then some (.bytes s.anchorRead)
  else if k = Entry.rasterTileUnitsActive then some (.int (s.unfenced .tile 16))
  else if k = Entry.rasterRayUnitsActive then some (.int (s.unfenced .ray 4))
  else if k = Entry.secCertChain then some (.bytes s.certChain)
  else if k = Entry.secIdentityKeyDigest then some (.bytes (Config.shake256 Config.identityKey))
  else if k = Entry.secDeviceEpoch then some (.int s.security.epoch)
  else if k = Entry.faultFaultPair then some (.int s.faultPair)
  else if k = Entry.faultEventRecord then some (.bytes s.eventRead)
  else if k = Entry.faultUnitStatus then some (.int s.unitStatus)
  else if k = Entry.fwSecurityVersionMin then some (.int s.fuses.fwSecurityMin)
  else none

/-- The entries of records with several instances that other state gives. -/
def State.derivedN (s : State) (k : Nat) : Option Value :=
  let i := k / 256
  let sub := k % 256
  if 0x2200 ≤ i && i < 0x2204 && sub = 0x04 && (Assoc.find s.dict k).isNone then
    some (.int (Config.defaultMac s.fuses.serial (i - 0x2200)).toNat)
  else if 0x3400 ≤ i && i < 0x3410 && sub = 0x14 then some (.int (s.composeBudget (i - 0x3400) / 1000))
  else if 0x3410 ≤ i && i < 0x3420 && sub = 0x0F then some (.int (s.lanesActive (i - 0x3410)))
  else if 0x2000 ≤ i && i < 0x2200 && sub = 0x20 then some (.bytes (s.paceRatios (i - 0x2000)))
  else if 0x2900 ≤ i && i < 0x2B00 && sub = 0x17 then some (.int (s.ratioInUse (i - 0x2900)))
  else if 0x2900 ≤ i && i < 0x2B00 && sub = 0x18 then some (.int (s.horizonInUse (i - 0x2900)))
  else if 0x5101 ≤ i && i ≤ 0x5108 && sub = 0x03 then some (.int (s.ringRead (i - 0x5100) Ring.submitted))
  else if 0x5101 ≤ i && i ≤ 0x5108 && sub = 0x04 then some (.int (s.ringRead (i - 0x5100) Ring.completed))
  else if 0x5101 ≤ i && i ≤ 0x5108 && sub = 0x05 then some (.int (s.ringRead (i - 0x5100) Ring.abandoned))
  else if 0x6010 ≤ i && i < 0x601A && sub = 0x05 then some (.bytes s.certChain)
  else
    match (List.range' 1 8).find? fun p => k = Entry.partAdaptStreamTable p with
    | none => none
    | some p => some (.bytes (s.streamTable p))

/-- The value that a read of an entry returns. -/
def State.readValue (s : State) (k : Nat) : Value :=
  if s.confidential && hiddenEntry k then (match s.raw k with | .int _ => .int 0 | .bytes b => .bytes (zeros b.length))
  else ((s.derived0 k).orElse fun _ => s.derivedN k).getD (s.raw k)

/-- The reserved fields of the entries that hold them: the bytes of a structure and its reserved bits as (lowest, count) (R68, R238, R248,
R371, R407, R459, R471). -/
def reservedFields (k : Nat) : Nat × List (Nat × Nat) :=
  if (instanceOf Entry.portLayerTable 0 16 k).isSome then (32, [(224, 10), (0, 34)])
  else if (instanceOf Entry.rectRectTable 0 16 k).isSome then (32, [(128, 62)])
  else if (instanceOf Entry.schedSchedule 1 8 k).isSome then (32, [(128, 32)])
  else if (instanceOf Entry.partFabricDeviceMap 1 8 k).isSome then (4, [(24, 8)])
  else if k = Entry.udpUdpPeers then (24, [(24, 8), (160, 32)])
  else if k = Entry.faultUnitQuery then (4, [(16, 8)])
  else if k = Entry.mdioMdioCommand then (8, [(48, 4), (16, 16)])
  else (1, [])

/-- Bytes with the reserved bits of each structure returned as 0 (R10). -/
def clearReserved (size : Nat) (fields : List (Nat × Nat)) (b : Bytes) : Bytes :=
  if fields.isEmpty then b
  else
    ((List.range b.length).zip b).map fun e =>
      (List.range 8).foldl (fun (v : BitVec 8) j =>
        let at_ := 8 * (e.1 % size) + j
        if fields.any fun f => f.1 ≤ at_ && at_ < f.1 + f.2 then BitVec.ofNat 8 (withBit v.toNat j false) else v) e.2

/-- The bytes that a read of an entry returns. -/
def State.readBytes (s : State) (k : Nat) : Bytes :=
  match s.row k with
  | none => []
  | some r => let f := reservedFields k; clearReserved f.1 f.2 (r.encode (s.readValue k))

end Sys2Proof.Machine
end

