-- ==== Sys2Proof/Machine/Write.lean ====
section
/-! DEFINITION. The writing of dictionary entries: access checks, clamping, what each write does, and saving (R34, R38 to R42, R45,
R46, R55, R58, R59). -/

namespace Sys2Proof.Machine

open Sys2Proof

/-! Values (R37, R40). -/

/-- Whether a value has a length that fits the type: any up to 65,536 bytes for a VSTR or a DOMAIN (R40, R42). -/
def EType.fits (t : EType) (n : Nat) : Bool :=
  match t with
  | .vstr | .domain => n ≤ 65536
  | _ => n = t.bytes

/-- The nearest value of the listed intervals, the lower of two at the same distance; every value where none is listed. -/
def nearest (range : List (Int × Int)) (z : Int) : Int :=
  if range.isEmpty then z
  else
    let near := range.map fun r : Int × Int => clampInt r.1 r.2 z
    (minBy (fun c : Int => 2 * ((c - z).natAbs : Int) + (if z < c then 1 else 0)) near).getD z

/-- The largest listed code that is not above a value, else the lowest. -/
def codeBelow (range : List (Int × Int)) (z : Int) : Int :=
  let below := range.filterMap fun r : Int × Int => if r.1 ≤ z then some (min r.2 z) else none
  match minBy (fun c : Int => -c) below with
  | some c => c
  | none => (minBy (fun c : Int => c) (range.map fun r : Int × Int => r.1)).getD z

/-- An F32 code clamped to the interval from 0 up to a code: a NaN and a negative value go to the lower bound (R40). -/
def clampF32 (top c : Nat) : Nat :=
  if 2 ^ 31 < c || 0x7F800000 < c % 2 ^ 31 then 0 else if c = 2 ^ 31 then c else min c top

/-- The value that a write stores, for an entry's type and range (R40). -/
def Row.clamp (r : Row) (b : Bytes) : Value :=
  match r.ty with
  | .bool => .int (ofBool (leNat b ≠ 0))
  | .enum => .int (codeBelow r.range (leNat b))
  | .vstr => .bytes ((b.take r.most).map fun c => if 0x20 ≤ c.toNat && c.toNat ≤ 0x7E then c else 0x3F)
  | .domain => .bytes (b.take r.most)
  | .f32 =>
    match r.range with
    | (_, top) :: _ => .int (clampF32 top.toNat (leNat b))
    | [] => .int (leNat b)
  | t => .int (nearest r.range (if t.isSigned then signed (8 * t.bytes) (leNat b) else leNat b))

/-- Whether a write is clamped: what is stored is not what was written. -/
def Row.clamps (r : Row) (b : Bytes) : Bool := r.encode (r.clamp b) ≠ b

/-! Access (R42, R45). -/

/-- The function of a requester, none for CAN FD. -/
def requesterFn (w : Requester) : Option Nat :=
  match w with
  | .can => none
  | .pf => some 0
  | .vf p => some (p + 1)

/-- The checks of R42 on an entry that is named: the abort code, 0 for none. -/
def State.check (s : State) (who : Requester) (k : Nat) (write : Bool) (length : Nat) : Nat :=
  match s.row k with
  | none => 0x0020
  | some r =>
    let fn := (requesterFn who).getD 0
    if !s.reaches fn k then (if fn = 0 then 0x0031 else 0x0030)
    else if write then
      if r.acc = .ro || r.acc = .const || (s.held && k ≠ Entry.devRestart) then 0x0021
      else if !r.ty.fits length then 0x0011
      else 0
    else if r.acc = .wo then 0x0022
    else 0

/-- Whether the management cores answer dictionary requests (R33, R34) (DEDUCED, log entry 54). -/
def State.answers (s : State) : Bool := !s.isOff && s.boot.managing

/-- Whether the virtual function's partition is SCRUBBING (R46). -/
def State.scrubbing (s : State) (who : Requester) : Bool :=
  match requesterFn who with
  | some (p + 1) => s.partState (p + 1) = 4
  | _ => false

/-! Storing (R34, R55, R97, R388, R426, R469). -/

/-- Entries whose value takes effect at the next restart. -/
def restartEntry (k : Nat) : Bool :=
  let i := k / 256
  let sub := k % 256
  (i = 0x1101 && 3 ≤ sub && sub ≤ 6) || (0x2200 ≤ i && i < 0x2204) || (0x2210 ≤ i && i < 0x2214) ||
    k = Entry.secConfidentialAtBoot || k = Entry.faultSafetyAtBoot || k = Entry.fabricDeviceNumber ||
    k = Entry.fabricUdpPort || (0x7C10 ≤ i && i < 0x7C16 && sub = 1)

/-- An entry given a written value; RestartPending where it takes effect at the next restart and has changed, and at every write of
ConfidentialAtBoot and SafetyAtBoot. -/
def State.store (s : State) (k : Nat) (v : Value) : State :=
  let t := s.set k v
  if restartEntry k && (s.raw k ≠ v || k = Entry.secConfidentialAtBoot || k = Entry.faultSafetyAtBoot) then
    t.setN Entry.dictRestartPending 1
  else t

/-- The keys of every entry of a record's instances, with their rows, that have an access right. -/
def State.keysWith (s : State) (acc : Access) : List Nat :=
  Catalog.all.flatMap fun r =>
    let count := match s.part with | .hkz8840 => r.count | .hkz8830 => r.count30
    let subs := (r.rows.filter fun e => e.acc = acc).map Row.sub
    if subs.isEmpty then []
    else (List.range count).flatMap fun i => subs.map fun sub => (r.base + r.first + i) * 256 + sub

/-- EventEnable in force. -/
def State.eventsFollow (s : State) : State := { s with can := { s.can with events := s.on Entry.canEventEnable } }

/-! Saving and restoring (R58, R59). -/

/-- The snapshot of a Save: the RWP entries that differ from their defaults; in confidential mode without those of user partitions. -/
def State.saveSnapshot (s : State) : List (Nat × Value) :=
  s.dict.filter fun e =>
    (match s.row e.1 with | some r => r.acc = .rwp | none => false) && !(s.confidential && s.ownerOf e.1 ≠ 0)

/-- A save begun on a snapshot. -/
def State.beginSave (s : State) (l : List (Nat × Value)) : State :=
  ({ s with boot := { s.boot with saving := some l, saveQueued := none } }).setN Entry.dictSaveStatus 1

/-- A write of 1 to Save: a snapshot at its acceptance; one further save waits while one is busy, with the snapshot of the first write that
asked for it, and later writes add nothing. -/
def State.saves (s : State) : State :=
  match s.boot.saving, s.boot.saveQueued with
  | none, _ => s.beginSave s.saveSnapshot
  | some _, none => { s with boot := { s.boot with saveQueued := some s.saveSnapshot } }
  | some _, some _ => s

/-- The CRC-32 over a copy of a save area, with the IEEE 802.3 polynomial (R58). -/
def SaveArea.check (a : SaveArea) : Nat :=
  crc32 ((Config.saveCopy a.number (a.entries.map fun e => (e.1, e.2.toBytes))).map BitVec.toNat)

/-- Whether the CRC of a save area is valid. -/
def SaveArea.valid (a : SaveArea) : Bool := a.crc = a.check

/-- The block of the QSPI flash that holds save area A (0) or B (1) (R58, R439). -/
def saveOffset (area : Nat) : Nat := if area = 0 then 0x03F80000 else 0x03FC0000

/-- The area that a save goes to: the one that does not hold the newest valid copy, A where neither is valid (DESIGN CHOICE, log entry
85); the running number of the copy. -/
def Flash.saveTarget (f : Flash) : Bool × Nat :=
  let number := fun (a : Option SaveArea) => match a with | some c => if c.valid then c.number else 0 | none => 0
  let na := number f.saveA
  let nb := number f.saveB
  (na ≤ nb, max na nb + 1)

/-- The end of a save, and whether the flash took it: a failed write leaves the new copy with a CRC that is not stated, a free value
(log entry 85).  A Save that waits begins. -/
def State.saveEnds (s : State) (ok : Bool) : State :=
  match s.boot.saving with
  | none => s
  | some l =>
    let (toA, number) := s.flash.saveTarget
    let (i, s) := if ok then (0, s) else s.drawFree
    let copy : SaveArea := { number := number, entries := l }
    let area := { copy with crc := if ok then copy.check else (Config.freeValue i 32).toNat }
    let flash := if toA then { s.flash with saveA := some area } else { s.flash with saveB := some area }
    let again := s.boot.saveQueued
    let t := { s with flash := flash, boot := { s.boot with saving := none, saveQueued := none } }
    let t := if ok then (t.setN Entry.dictSaveStatus 2).bump Entry.dictSaveCount
      else (t.setN Entry.dictSaveStatus 3).bump Entry.dictSaveFailCount
    t.withSome again t.beginSave

/-- A write of 1 to RestoreDefaults: every RWP entry at its default; flash unchanged. -/
def State.restoresDefaults (s : State) : State :=
  let mine := s.dict.filter fun e => match s.row e.1 with | some r => r.acc = .rwp | none => false
  let changed := mine.any fun e => restartEntry e.1 && s.default e.1 ≠ e.2
  let t := { s with
    dict := s.dict.filter fun e => !(mine.any fun m => m.1 = e.1)
    boot := { s.boot with storedWrites := s.boot.storedWrites.filter fun e => !(mine.any fun m => m.1 = e.1) } }
  let t := if changed then t.setN Entry.dictRestartPending 1 else t
  t.eventsFollow.adaptSweepAll

/-! What a write does (R39). -/

/-- Restart: as RESET_n asserted and released; bring-up goes on with what RESET_RELEASED brings (R32 step 13). -/
def State.restarts (s : State) : State :=
  let t := s.toOff
  { t with boot := { t.boot with resetLow := false } }

/-- A write of Enable, State machines of R94, R99, R254 and R361. -/
def State.enableEffect (s : State) (k : Nat) (on : Bool) : Option State :=
  match instanceOf Entry.streamEnable 0 512 k with
  | some i => some (if on then s.streamOn i else s.streamOff i)
  | none =>
    match instanceOf Entry.pairEnable 0 64 k with
    | some p => some (if on then s.pairEnableOn p else s.pairEnableOff p)
    | none =>
      match instanceOf Entry.portEnable 0 16 k with
      | some n => some (if on then s.portEnableOn n else (s.portEnableOff n).anchorSweep)
      | none =>
        match instanceOf Entry.partEnable 1 8 k with
        | some p => some (if on then s.partOn p else s.partOff p)
        | none => none

/-- A write of an entry that is acted on and not stored, of an entry of several instances. -/
def State.actEffect (s : State) (k : Nat) (v : Value) : Option State :=
  let n := v.toInt.toNat
  let once := fun (f : State → Nat → State) (i : Nat) => some (if n = 1 then f s i else s)
  match instanceOf Entry.portUpRenderReset 0 16 k with
  | some i => once State.resetRender i
  | none =>
    match instanceOf Entry.portSafeAck 0 16 k with
    | some i => once State.ackSafe i
    | none =>
      match instanceOf Entry.herdReset 0 8 k with
      | some h => once State.herdResets h
      | none =>
        match instanceOf Entry.slotStage 0 128 k with
        | some i => once State.stageSlot i
        | none =>
          match instanceOf Entry.slotUnload 0 128 k with
          | some i => once State.unloadSlot i
          | none =>
            match instanceOf Entry.partAdaptCommand 1 8 k with
            | some p => some (s.adaptCommand p n)
            | none =>
              match instanceOf Entry.reportReportRequest 0 10 k with
              | some i => some (s.reportRequested i n)
              | none => none

/-- A write of FillAllowed (R166). -/
def State.fillAllowedWritten (s : State) (i k : Nat) (v : Value) : State :=
  let t := s.store k v
  t.retractsNext i (t.n k ≠ s.n k)

/-- A write of a stored entry of several instances that does more than store. -/
def State.tableEffect (s : State) (k : Nat) (v : Value) : Option State :=
  match instanceOf Entry.streamGenMode 0 512 k with
  | some i => some (s.modeWritten i v.toInt.toNat)
  | none =>
    match instanceOf Entry.portLayerTable 0 16 k with
    | some n => some (s.writeLayers n v.toBytes)
    | none =>
      match instanceOf Entry.schedSchedule 1 8 k with
      | some p => some (s.scheduleWritten p v.toBytes)
      | none =>
        match instanceOf Entry.partArrivalMode 1 8 k with
        | some p =>
          let t := s.store k v
          some (t.setPartRt p { t.partRt p with arrivalSeen := 255 })
        | none =>
          match instanceOf Entry.streamDecodePriority 0 512 k with
          | some _ => some (s.store k v).recomputeServed
          | none =>
          match instanceOf Entry.streamGenFillAllowed 0 512 k with
          | some i => some (s.fillAllowedWritten i k v)
          | none => (instanceOf Entry.timingLanes 0 16 k).map fun n => (s.store k v).portFlags n

/-- A write of FirmwareCommand; in BOOT and TEST it is ignored with UpdateError 5 (R448). -/
def State.fwCommand (s : State) (n : Nat) : State :=
  if !s.running then s.fwBusy
  else
    match n with
    | 1 => s.fwStage
    | 2 => s.fwSwitch
    | 3 => s.fwDiscard
    | _ => s

/-- A write of an entry of one instance that does more than store; those of the management cores act in BOOT and TEST too
(DEDUCED, log entry 77). -/
def State.soleEffect (s : State) (k : Nat) (v : Value) : Option State :=
  let n := v.toInt.toNat
  if k = Entry.devRestart then some (if n = 1 then s.restarts else s)
  else if k = Entry.dictSave then some (if n = 1 then s.saves else s)
  else if k = Entry.dictRestoreDefaults then some (if n = 1 then s.restoresDefaults else s)
  else if k = Entry.mdioMdioCommand then some (s.mdioCommand n)
  else if k = Entry.fwFirmwareData then some (s.fwData v.toBytes)
  else if k = Entry.fwFirmwareCommand then some (s.fwCommand n)
  else none

/-- A write of DebugEnable: DebugState follows in standard mode (R390). -/
def State.debugEffect (s : State) (v : Value) : State :=
  (s.store Entry.secDebugEnable v).setN Entry.secDebugState (if s.confidential then 0 else v.toInt.toNat)

/-- Whether a write can change which streams adapt (R350, R351). -/
def adaptEntry (k : Nat) : Bool :=
  0x4C00 ≤ k / 256 && k / 256 ≤ 0x4C08

/-- Whether a write can change which pairs are streamed (R98, R122): the sources of streams, the streams of pairs. -/
def pairStreamEntry (k : Nat) : Bool :=
  (instanceOf Entry.streamSource 0 512 k).isSome || (instanceOf Entry.pairLeftStream 0 64 k).isSome ||
    (instanceOf Entry.pairRightStream 0 64 k).isSome

/-- What an accepted write of a value does while the units work. -/
def State.entryEffect (s : State) (k : Nat) (v : Value) : State :=
  match s.enableEffect k (v.toInt ≠ 0) with
  | some t => t
  | none =>
    match s.actEffect k v with
    | some t => t
    | none =>
      match s.tableEffect k v with
      | some t => t
      | none =>
        match s.soleEffect k v with
        | some t => t
        | none =>
          if k = Entry.secDebugEnable then s.debugEffect v
          else if k = Entry.canEventEnable then (s.store k v).eventsFollow
          else if pairStreamEntry k then (s.store k v).each (List.range 64) State.showPair
          else if adaptEntry k then (s.store k v).adaptSweepAll
          else s.store k v

/-- A write whose value is in range, by the operating state (R33, R34): while the units work it takes effect; in BOOT and TEST the values
of RW and RWP entries are stored, to take effect at the end of TEST, and of the others those of the management cores and the RTU act; in
FAULT_HOLD only Restart acts. -/
def State.written (s : State) (k : Nat) (v : Value) : State :=
  if !s.answers then s
  else if s.held then (if k = Entry.devRestart && v.toInt = 1 then s.restarts else s)
  else if s.running then s.entryEffect k v
  else
    match s.row k with
    | none => s
    | some r =>
      if r.acc = .wo then
        match s.soleEffect k v with
        | some t => t
        | none =>
          match instanceOf Entry.reportReportRequest 0 10 k with
          | some i => s.reportRequested i v.toInt.toNat
          | none => s
      else
        let t := s.store k v
        { t with boot := { t.boot with storedWrites := (t.boot.storedWrites.filter fun e => e.1 ≠ k) ++ [(k, v)] } }

/-! Writes of requesters (R41, R42). -/

/-- A clamp counted for the transport that carried the write. -/
def State.countClamp (s : State) (who : Requester) : State :=
  match requesterFn who with
  | none => s.bump Entry.canClampCount
  | some fn =>
    let m := s.box fn
    (s.setBox fn { m with clamps := (m.clamps + 1) % 2 ^ 32 }).bump Entry.mbxClampCount

/-- A write by a requester that passed the checks. -/
def State.acceptWrite (s : State) (who : Requester) (k : Nat) (b : Bytes) : State :=
  match s.row k with
  | none => s
  | some r =>
    let t := if r.clamps b then s.countClamp who else s
    t.written k (r.clamp b)

/-- A write by a requester, and its abort code, 0 where it is accepted. -/
def State.writeBy (s : State) (who : Requester) (k : Nat) (b : Bytes) : State × Nat :=
  let c := s.check who k true b.length
  if c ≠ 0 then (s, c) else (s.acceptWrite who k b, 0)

/-- ENTRY_WRITE: one that is refused changes nothing; that of a virtual function whose partition is SCRUBBING is discarded (R46). -/
def execEntryWrite (who : Requester) (index : BitVec 16) (sub : BitVec 8) (value : Bytes) (s : State) : Answer :=
  s.answer (if !s.answers || s.scrubbing who then s else (s.writeBy who (index.toNat * 256 + sub.toNat) value).1)

/-! The rows that are writes of one entry. -/

/-- SAVE. -/
def execSave (s : State) : Answer := s.answer (s.written Entry.dictSave (.int 1))

/-- SAVE_COMPLETE. -/
def execSaveComplete (ok : Bool) (s : State) : Answer := s.answer (s.ifOn (s.saveEnds ok))

/-- RESTORE_DEFAULTS. -/
def execRestoreDefaults (s : State) : Answer := s.answer (s.written Entry.dictRestoreDefaults (.int 1))

/-- MDIO_READ. -/
def execMdioRead (command : BitVec 64) (s : State) : Answer :=
  s.answer (if mdioOp command.toNat = 0 then s.written Entry.mdioMdioCommand (.int command.toNat) else s)

/-- MDIO_WRITE. -/
def execMdioWrite (command : BitVec 64) (s : State) : Answer :=
  s.answer (if mdioOp command.toNat = 1 then s.written Entry.mdioMdioCommand (.int command.toNat) else s)

/-- MDIO_NO_OPERATION. -/
def execMdioNoOperation (command : BitVec 64) (s : State) : Answer :=
  s.answer (if 2 ≤ mdioOp command.toNat then s.written Entry.mdioMdioCommand (.int command.toNat) else s)

/-- FIRMWARE_DATA. -/
def execFirmwareData (data : Bytes) (s : State) : Answer :=
  s.answer (s.written Entry.fwFirmwareData (.bytes (data.take 65536)))

/-- FIRMWARE_NO_ACTION. -/
def execFirmwareNoAction (s : State) : Answer := s.answer (s.written Entry.fwFirmwareCommand (.int 0))

/-- FIRMWARE_STAGE. -/
def execFirmwareStage (s : State) : Answer := s.answer (s.written Entry.fwFirmwareCommand (.int 1))

/-- FIRMWARE_SWITCH. -/
def execFirmwareSwitch (s : State) : Answer := s.answer (s.written Entry.fwFirmwareCommand (.int 2))

/-- FIRMWARE_DISCARD. -/
def execFirmwareDiscard (s : State) : Answer := s.answer (s.written Entry.fwFirmwareCommand (.int 3))

/-- STREAM_ENABLE. -/
def execStreamEnable (i : Fin 512) (s : State) : Answer := s.answer (s.written (Entry.streamEnable i) (.int 1))

/-- STREAM_DISABLE. -/
def execStreamDisable (i : Fin 512) (s : State) : Answer := s.answer (s.written (Entry.streamEnable i) (.int 0))

/-- PAIR_ENABLE. -/
def execPairEnable (p : Fin 64) (s : State) : Answer := s.answer (s.written (Entry.pairEnable p) (.int 1))

/-- PAIR_DISABLE. -/
def execPairDisable (p : Fin 64) (s : State) : Answer := s.answer (s.written (Entry.pairEnable p) (.int 0))

/-- GEN_MODE_WRITE: a code above the range is clamped to its largest (R40). -/
def execGenModeWrite (i : Fin 512) (mode : BitVec 8) (s : State) : Answer :=
  s.answer (s.written (Entry.streamGenMode i) (.int (min 2 mode.toNat)))

/-- RENDER_RESET. -/
def execRenderReset (n : Fin 16) (value : Bool) (s : State) : Answer :=
  s.onPort n (s.written (Entry.portUpRenderReset n) (.int (ofBool value)))

/-- PORT_ENABLE. -/
def execPortEnable (n : Fin 16) (s : State) : Answer := s.onPort n (s.written (Entry.portEnable n) (.int 1))

/-- PORT_DISABLE. -/
def execPortDisable (n : Fin 16) (s : State) : Answer := s.onPort n (s.written (Entry.portEnable n) (.int 0))

/-- LAYER_TABLE_WRITE: at most 1,536 bytes are taken (R40). -/
def execLayerTableWrite (n : Fin 16) (table : Bytes) (s : State) : Answer :=
  s.onPort n (s.written (Entry.portLayerTable n) (.bytes (table.take 1536)))

/-- SAFE_ACK. -/
def execSafeAck (n : Fin 16) (value : Bool) (s : State) : Answer :=
  s.onPort n (s.written (Entry.portSafeAck n) (.int (ofBool value)))

/-- STAGE. -/
def execStage (k : Fin 128) (value : Bool) (s : State) : Answer :=
  s.answer (s.written (Entry.slotStage k) (.int (ofBool value)))

/-- UNLOAD. -/
def execUnload (k : Fin 128) (value : Bool) (s : State) : Answer :=
  s.answer (s.written (Entry.slotUnload k) (.int (ofBool value)))

/-- HERD_RESET. -/
def execHerdReset (h : Fin 8) (value : Bool) (s : State) : Answer :=
  s.onHerd h (s.written (Entry.herdReset h) (.int (ofBool value)))

/-- A write of Command of partition p + 1, where its op is one of those that the row stands for. -/
def State.adaptWrite (s : State) (p command : Nat) (ops : Nat → Bool) : State :=
  if ops (commandOp command) then s.written (Entry.partAdaptCommand (p + 1)) (.int command) else s

/-- SELECT_VERSION. -/
def execSelectVersion (p : Fin 8) (command : BitVec 64) (s : State) : Answer :=
  s.answer (s.adaptWrite p command.toNat fun op => op = 0)

/-- DISCARD_CANDIDATE. -/
def execDiscardCandidate (p : Fin 8) (command : BitVec 64) (s : State) : Answer :=
  s.answer (s.adaptWrite p command.toNat fun op => op = 1)

/-- CLEAR_ADAPTED_VERSIONS. -/
def execClearAdaptedVersions (p : Fin 8) (command : BitVec 64) (s : State) : Answer :=
  s.answer (s.adaptWrite p command.toNat fun op => op = 2)

/-- UNKNOWN_ADAPT_OP. -/
def execUnknownAdaptOp (p : Fin 8) (command : BitVec 64) (s : State) : Answer :=
  s.answer (s.adaptWrite p command.toNat fun op => 3 ≤ op)

/-- PARTITION_ENABLE. -/
def execPartitionEnable (p : Fin 8) (s : State) : Answer := s.answer (s.written (Entry.partEnable (p + 1)) (.int 1))

/-- PARTITION_DISABLE. -/
def execPartitionDisable (p : Fin 8) (s : State) : Answer := s.answer (s.written (Entry.partEnable (p + 1)) (.int 0))

/-- SCHEDULE_WRITE: at most 2,048 bytes are taken (R40). -/
def execScheduleWrite (p : Fin 8) (schedule : Bytes) (s : State) : Answer :=
  s.answer (s.written (Entry.schedSchedule (p + 1)) (.bytes (schedule.take 2048)))

/-- REPORT_REQUEST: a mask above the range is clamped to its largest (R40). -/
def execReportRequest (slot : Fin 10) (mask : BitVec 16) (s : State) : Answer :=
  s.answer (s.written (Entry.reportReportRequest slot) (.int (min 0x1FF mask.toNat)))

end Sys2Proof.Machine
end

