-- ==== Sys2Proof/Machine/BringUp.lean ====
section
/-! DEFINITION. Bring-up from OFF to READY, DEGRADED or FAULT_HOLD (R21, R32, R34, R421, R437 to R448, R486). -/

namespace Sys2Proof.Machine

open Sys2Proof

/-- Bring-up that stops in FAULT_HOLD. -/
def State.bootStops (s : State) (cause : Nat) : State := (s.enterHold cause).setN Entry.bootBringUpPhase 7

/-- A step of bring-up, taken unless an earlier one has stopped in FAULT_HOLD. -/
def State.bootStep (s : State) (f : State → State) : State := if s.held then s else f s

/-! Steps 1 to 4 (BOOT). -/

/-- The image areas as the board wrote them while the device was OFF (DEDUCED, log entry 78). -/
def State.boardFlash (s : State) (env : BootEnv) : State :=
  let put := fun (t : State) (a : Nat) (o : Option Bytes) =>
    t.withSome o fun b => t.setFwArea a (Memory.writes [] 0 b)
  put (put s 0 env.imageA) 1 env.imageB

/-- Step 1: BOOT, with the straps sampled and the identity key and the key that signs reports made (R49, R378, R437). -/
def State.bootBegins (s : State) (env : BootEnv) : State :=
  let node := env.node.toNat
  let t := s.boardFlash env
  let t := { t with boot := { t.boot with resetLow := false, suppliesOk := true } }
  let t := (t.put Entry.devDeviceState (.int 1)).put Entry.pinsNodeStrap (.int node)
  let t := t.put Entry.pinsSafetyStrap (.int (ofBool env.safetyEn))
  let t := t.put Entry.canNodeId (.int (if node = 127 then 0 else node))
  let t := t.put Entry.pinsSafeReqLevel (.int (ofBool t.inputs.safeReq))
  let t := t.put Entry.faultSafeReqState (.int (if t.inputs.toggling then 2 else ofBool t.inputs.safeReq))
  (t.makeKey .identity 1).makeKey .signing 1

/-- The order in which the boot ROM tries the image areas (R440). -/
def State.bootOrder (s : State) : List Nat := if s.flash.bootSelect = some 1 then [1, 0] else [0, 1]

/-- The area that boots, if any holds a valid image. -/
def State.bootArea (s : State) (env : BootEnv) : Option Nat :=
  s.bootOrder.find? fun a => s.fwError (fwHeader (s.fwArea a)) (if a = 0 then env.signatureA else env.signatureB) = 0

/-- The save area restored: the newest with a valid CRC (R59). -/
def State.newestSave (s : State) : Option (Nat × SaveArea) :=
  match s.flash.saveA.filter SaveArea.valid, s.flash.saveB.filter SaveArea.valid with
  | some a, some b => if a.number < b.number then some (1, b) else some (0, a)
  | some a, none => some (0, a)
  | none, some b => some (1, b)
  | none, none => none

/-- The RWP entries restored; those that take effect at restart, and QuickStart, are in force with these values, whatever is stored in BOOT
(R34). -/
def State.restores (s : State) : State :=
  match s.newestSave with
  | none => s.setN Entry.dictRestoreSource 2
  | some (area, a) =>
    let t := a.entries.foldl (fun (t : State) e => t.put e.1 e.2) s
    let t := { t with boot := { t.boot with inForce := a.entries.filter fun e => restartEntry e.1 || e.1 = Entry.bootQuickStart } }
    t.setN Entry.dictRestoreSource area

/-- The write of 0.75 V and its check: a supply that fails it is treated as fixed from the start of pace control (R21). -/
def State.bootSupply (s : State) (vout : Option Nat) : State :=
  let t := (s.driveVout 750).readVout
  match vout with
  | none => ({ t with pace := { t.pace with fixed := true } }).bump Entry.devPaceFaultCount
  | some v =>
    let t := { t with pace := { t.pace with measured := v, lastGood := v } }
    let t := t.setN Entry.devVcoreMeasured v
    if 15 < apart v 750 then ({ t with pace := { t.pace with fixed := true } }).bump Entry.devPaceFaultCount else t

/-- Steps 2 to 4: the image, the management cores, the restored entries, the core supply, the keys of partition 0. -/
def State.bootFirmware (s : State) (env : BootEnv) : State :=
  match s.bootArea env with
  | none => s.bootStops 3
  | some a =>
    let h := fwHeader (s.fwArea a)
    let t := { s with
      boot := { s.boot with managing := true, bootedArea := a }
      security := { s.security with activeFw := fwDigest (s.fwArea a) h, bootFw := fwDigest (s.fwArea a) h } }
    let t := (t.setN Entry.bootBootImage a).setN Entry.idFirmwareVersion h.version
    let t := (t.restores.eventsFollow.bootSupply env.vout).setN Entry.bootRepairListEntries t.flash.repairs.length
    (t.makeKey .clear 1).makeKey (.memory 0) 3

/-! Steps 5 to 7 (memory and lanes). -/

/-- The modes, which hold from the end of BOOT to the next restart (R388, R426). -/
def State.bootModes (s : State) : State :=
  let t := s.setN Entry.secSecurityMode (s.inForceN Entry.secConfidentialAtBoot)
  let t := t.setN Entry.faultSafetyMode
    (ofBool (s.inForceN Entry.faultSafetyAtBoot = 1 || s.n Entry.pinsSafetyStrap = 1))
  t.destroyKey .identity

/-- Step 5: the channels train, and TEST begins; a channel that fails is FAULT_HOLD (R442). -/
def State.bootMemory (s : State) (env : BootEnv) : State :=
  let t := { s with boot := { s.boot with waitingHeat := false } }
  let t := t.setN Entry.bootBringUpPhase 1
  if env.channelsBad.any (· < s.channelCount) then t.bootStops 6
  else (t.bootModes.setN Entry.devDeviceState 2).setN Entry.bootBringUpPhase 2

/-- Step 6: rows of the repair list and rows that fail a test are repaired, or their granules withheld (R441 to R443, R447). -/
def State.bootScreen (s : State) (env : BootEnv) : State :=
  let quick := s.inForceN Entry.bootQuickStart = 1 && !s.safetyMode
  let listed := s.flash.repairs.map fun (r : MemRow) =>
    { r with repairable := !(env.rowsBad.any fun x => !x.repairable && x.channel = r.channel && x.bank = r.bank && x.row = r.row) }
  let other := env.rowsBad.filter fun x =>
    !(listed.any fun r => x.channel = r.channel && x.bank = r.bank && x.row = r.row)
  let all := listed ++ other
  let bad := all.filter fun r => !r.repairable
  let withheld := (bad.map MemRow.granule).eraseDups
  let t := { s with flash := { s.flash with repairs := listed.filter fun r => !r.repairable } }
  let t := t.setN Entry.bootRepairListEntries t.flash.repairs.length
  let t := { t with security := { t.security with withheld := withheld, used := withheld, scrubFailed := withheld } }
  let t := (t.setN Entry.bootScreeningMode (ofBool quick)).setN Entry.bootScreenProgress 100
  let t := (t.setN Entry.bootRowsRepaired (all.length - bad.length)).setN Entry.bootRowsUnrepairable (min 65535 bad.length)
  let t := t.setB Entry.bootGranulesWithheld ((List.range 32).map fun b =>
    BitVec.ofNat 8 (maskOf ((withheld.filter fun g => g / 8 = b).map (· % 8))))
  if withheld.any (· < 8) then t.bootStops 6 else t

/-- Lanes of a mask of `n` that did not pass. -/
def lanesLost (n mask : Nat) : Nat := n - (bitsSet mask n).length

/-- A unit fenced until restart by what bring-up found. -/
def State.bootFence (s : State) (u : UnitCode) : State :=
  if s.isPermanent u then s
  else if u.kind == .pcie then
    (((s.markPermanent u).setN Entry.pcieLinkState 2).setN Entry.pcieLinkWidth 0).setN Entry.pcieLinkGeneration 0
  else ((s.markFenced u).fenceEffect u).markPermanent u

/-- Zennik link z by its proven lanes (R445). -/
def State.bootZennik (s : State) (z mask : Nat) : State :=
  let bad := (List.range 8).filter fun l => !mask.testBit l
  let t := s.setZlink z { s.zlink z with badLanes := bad }
  if s.inForceN (Entry.zlinkEnable z) = 1 && 8 - bad.length < 4 then
    (t.each (List.range 8) fun t l => t.bootFence (laneUnit z l)).setN (Entry.zlinkLinkState z) 3
  else t

/-- CSI-2 port c: its good lanes where 2 or 4 contiguous ones from lane 0 remain, else fenced (R445). -/
def State.bootCsi (s : State) (c mask : Nat) : State :=
  let wanted := s.inForceN (Entry.csiLanes c)
  let good := if mask % 16 = 15 then 4 else if mask % 4 = 3 then 2 else 0
  if good = 0 then (s.bootFence ⟨.csi, c⟩).setN (Entry.csiLanesActive c) 0 else s.setN (Entry.csiLanesActive c) (min wanted good)

/-- DSI-2 port n: all its lanes, lanes 0 and 1, or fenced (R445). -/
def State.bootDsi (s : State) (n mask : Nat) : State :=
  if mask % 4 = 3 then s.portFlags n else s.bootFence ⟨.port, n⟩

/-- Step 7: the proofs of the serial lanes; a Zennik link that is not in use is not proven (R444, R445, R473). -/
def State.bootLanes (s : State) (env : BootEnv) : State :=
  let width := min 16 env.pcieWidth
  let gen := min 6 env.pcieGen
  let z := fun i => if s.inForceN (Entry.zlinkEnable i) = 1 then env.zennikLanes.getD i 0 % 256 else 0
  let c := fun i => env.csiLanes.getD i 0 % 16
  let d := fun i => env.dsiLanes.getD i 0 % 16
  let e := env.ethLanes % 16
  let bytes := fun (n : Nat) (f : Nat → Nat) => (List.range n).map fun i => BitVec.ofNat 8 (f i)
  let lost := 16 - width + lanesLost 4 e + ((List.range 6).map fun i => if s.inForceN (Entry.zlinkEnable i) = 1 then lanesLost 8 (z i) else 0).foldl (· + ·) 0 +
    ((List.range 4).map fun i => lanesLost 4 (c i)).foldl (· + ·) 0 +
    ((List.range s.portCount).map fun i => lanesLost 4 (d i)).foldl (· + ·) 0
  let t := (s.setN Entry.proofProofLevel (s.n Entry.bootScreeningMode)).setN Entry.proofPcieResult (256 * width + gen)
  let t := (t.setB Entry.proofZennikLanes (bytes 6 z)).setN Entry.proofEthernetProven e
  let t := (t.setB Entry.proofCsiLanes (bytes 4 c)).setB Entry.proofDsiLanes
    (bytes 16 fun i => if i < s.portCount then d i else 0)
  let t := t.setN Entry.proofLanesFailed lost
  let t := if width = 0 then t
    else ((t.setN Entry.pcieLinkState 1).setN Entry.pcieLinkWidth width).setN Entry.pcieLinkGeneration gen
  let t := t.each (List.range 6) fun t i => t.bootZennik i (z i)
  let t := t.each ((List.range 4).filter fun i => !e.testBit i) fun t i => t.bootFence ⟨.eth, i⟩
  let t := t.each (List.range 4) fun t i => t.bootCsi i (c i)
  t.each (List.range t.portCount) fun t i => t.bootDsi i (d i)

/-! Steps 8 to 10 (self-test, reconciliation, kid firmware). -/

/-- The bad kids of a herd, by fuse or by test. -/
def badKids (fuses : Fuses) (test : List UnitCode) (h : Nat) : List Nat :=
  let fused := (fuses.kidsOut.filter fun e => e.1 = h).map (·.2)
  let tested := (test.filter fun u => u.kind == .kid && u.inst / 2048 = h).map fun u => u.inst % 2048
  (sortBy (fun k : Nat => (k : Int)) (fused ++ tested)).eraseDups

/-- The bad kids of a herd fenced and replaced from its spares, lowest first (R12, R421). -/
def State.bootKids (s : State) (test : List UnitCode) (h : Nat) : State :=
  let bad := badKids s.fuses test h
  let t := s.each bad fun t k => t.markPermanent ⟨.kid, 2048 * h + k⟩
  let spares := ((List.range 64).map (1024 + ·)).filter fun k => !bad.contains k
  let swaps := (bad.filter (· < 1024)).zip spares
  (t.setHerdRt h { t.herdRt h with deadKids := bad, swaps := swaps }).showSpares h

/-- Units, other than kids, that the fuses or the tests find bad, a herd without 1,024 working kids among them. -/
def State.bootBad (s : State) (test : List UnitCode) : List UnitCode :=
  let units := s.fuses.unitsBad ++ (s.fuses.herdsOff.map fun h => ⟨.herd, h⟩) ++ test
  let short := ((List.range s.herdCount).filter fun h => !s.kidsWhole h).map fun h => (⟨.herd, h⟩ : UnitCode)
  ((units ++ short).filter fun u => u.kind ≠ .kid && u.kind ≠ .lpddr && u.kind ≠ .coreSupply && u.kind ≠ .discreteInput &&
    s.hasUnit u).eraseDups

/-- Steps 8 to 10: the union of fuses and tests (R421, R446). -/
def State.bootReconcile (s : State) (env : BootEnv) : State :=
  let crc := env.kidCrcBad.map fun e => (⟨.kid, 2048 * e.1 + e.2⟩ : UnitCode)
  let test := ((s.fc.testBad ++ env.testBad ++ crc).filter s.hasUnit).eraseDups
  let t := { s with fc := { s.fc with testBad := test } }
  let t := (t.setN Entry.bootSelfTestFailures (min 2048 test.length)).setN Entry.bootBringUpPhase 4
  let t := t.each (List.range t.herdCount) fun t h => t.bootKids test h
  let t := t.each (t.bootBad test) State.bootFence
  let defects := test.filter fun u => !s.fuseBad u
  let t := t.each defects fun t u => (t.notice u 5).bump Entry.faultFieldDefects
  let mgmt := (List.range 4).all fun m => t.fenced ⟨.mgmt, m⟩
  if t.held then t.bootStops 1
  else if t.workingHerds.length < t.herdMinimum then t.bootStops 2
  else if mgmt || t.fenced ⟨.rtu, 0⟩ || t.fenced ⟨.fc, 0⟩ || t.fenced piuUnit then t.bootStops 1
  else t.setN Entry.bootBringUpPhase 5

/-! Step 11. -/

/-- The stored writes take effect, in the order in which they were written (R34). -/
def State.applyStored (s : State) : State :=
  let l := s.boot.storedWrites
  let t := { s with boot := { s.boot with storedWrites := [] } }
  t.each l fun t e => t.entryEffect e.1 e.2

/-- Partition 0 starts: READY, or DEGRADED with a unit other than a kid fenced. -/
def State.bootReady (s : State) (env : BootEnv) : State :=
  let t := (s.setN Entry.sysState 2).setN Entry.bootBringUpPhase 6
  let t := t.setN Entry.bootBringUpTime (env.bringUpMs % 2 ^ 32)
  let t := if t.degraded then (t.setN Entry.devStateCause 1).setN Entry.devDeviceState 5 else t.setN Entry.devDeviceState 3
  t.applyStored

/-- Steps 5 to 11. -/
def State.bootOn (s : State) (env : BootEnv) : State :=
  let t := s.bootStep fun t => t.bootMemory env
  let t := t.bootStep fun t => t.bootScreen env
  let t := t.bootStep fun t => t.bootLanes env
  let t := t.bootStep fun t => t.bootReconcile env
  t.bootStep fun t => t.bootReady env

/-- The sensors as bring-up finds them: 110 °C is FAULT_HOLD; below the grade's minimum the device waits before training (R448, R486). -/
def State.bootHeat (s : State) (env : BootEnv) : State :=
  let t := if env.junctions.isEmpty then s else s.showJunctions env.junctions
  if env.junctions.any (1100 ≤ ·) then t.bootStops 4
  else if env.junctions.any (· < t.gradeMin) then
    { t with boot := { t.boot with waitingHeat := true } }.setN Entry.bootBringUpPhase 1
  else t.bootOn env

/-- Bring-up from the release of RESET_n with the supplies in range. -/
def State.bringUp (s : State) (env : BootEnv) : State :=
  if !s.isOff || !env.suppliesOk then s
  else
    let t := (s.bootBegins env).bootStep fun t => t.bootFirmware env
    t.bootStep fun t => t.bootHeat env

/-- RESET_RELEASED. -/
def execResetReleased (env : BootEnv) (s : State) : Answer := s.answer (s.bringUp env)

/-- JUNCTION_MIN_REACHED: bring-up goes on with the training (R486). -/
def execJunctionMinReached (env : BootEnv) (s : State) : Answer :=
  s.answer (if s.device = 1 && s.boot.waitingHeat then
      (if env.junctions.isEmpty then s else s.showJunctions env.junctions).bootOn env
    else s)

/-- RESTART: a write of 1 to Restart, and the bring-up after it (R32 step 13). -/
def execRestart (env : BootEnv) (s : State) : Answer :=
  s.answer (if s.answers then s.restarts.bringUp env else s)

end Sys2Proof.Machine
end

