-- ==== Sys2Proof/Machine/Can.lean ====
section
/-! DEFINITION. The Jalmon dictionary protocol over CAN FD (R47 to R54). -/

namespace Sys2Proof.Machine

open Sys2Proof

/-! Frames (R48 to R53). -/

/-- Whether CAN FD carries frames: a node number, no bus-off, SYSCLK running, the management cores running (R34, R47, R49, R479). -/
def State.canAlive (s : State) : Bool :=
  s.answers && s.on Entry.canNodeId && !s.can.busOff && !s.on Entry.supplySysclkState

/-- Whether a request is taken: of class 0x0C and addressed to this node (R47). -/
def State.canTakes (s : State) (cls node : Nat) : Bool :=
  s.canAlive && cls = 0x0C && node = s.n Entry.canNodeId

/-- The header of R50, first byte first. -/
def jalmonHeader (cmd status key length type : Nat) : Bytes :=
  [cmd, status, key / 65536, key / 256, key, length, type, 0].map fun (b : Nat) => BitVec.ofNat 8 b

/-- Whether the CAN FD controller receives: bus monitoring without a node number receives too (R47, R49, R479). -/
def State.canListens (s : State) : Bool := s.answers && !s.can.busOff && !s.on Entry.supplySysclkState

/-- The error counters shown, with the states of ISO 11898-1 that they give: error passive from 128, bus-off above 255
(PRESUMED, log entry 50). -/
def State.canCounts (s : State) (rx tx : Nat) : State :=
  let t := (s.setN Entry.canRxErrorCount (min 255 rx)).setN Entry.canTxErrorCount (min 255 tx)
  { t with can := { t.can with transmitErrors := min 256 tx, errorPassive := 128 ≤ rx || 128 ≤ tx, busOff := 255 < tx } }

/-- A frame received without error: the receive counter falls by 1, from above 127 to between 119 and 127, which the standard leaves open
(PRESUMED, log entry 50). -/
def State.canHeard (s : State) : State :=
  let rx := s.n Entry.canRxErrorCount
  if !s.canListens || rx = 0 then s
  else if rx < 128 then s.canCounts (rx - 1) s.can.transmitErrors
  else
    let (i, t) := s.drawFree
    t.canCounts (119 + (Config.freeValue i 8).toNat % 9) t.can.transmitErrors

/-- The next length that a CAN FD frame can have (R50). -/
def canLength (n : Nat) : Nat := ([8, 12, 16, 20, 24, 32, 48, 64].find? fun l => n ≤ l).getD 64

/-- A frame sent: the identifier of R48 with this node's number, the data filled up with 0 to a CAN FD length (R50); a frame sent without
error lowers the transmit error counter (PRESUMED, log entry 50). -/
def State.jalmonSend (s : State) (cls seq : Nat) (data : Bytes) : State :=
  let id := packFields [(16, seq), (7, s.n Entry.canNodeId), (1, 0), (5, cls)]
  let t := s.emit (.can id (fit (canLength data.length) data))
  if t.can.transmitErrors = 0 then t else t.canCounts (t.n Entry.canRxErrorCount) (t.can.transmitErrors - 1)

/-- A response frame. -/
def State.canTransmit (s : State) (seq : Nat) (data : Bytes) : State := s.jalmonSend 0x0D seq data

/-- A response with the header of R50 and a value. -/
def State.canReply (s : State) (seq cmd key type : Nat) (value : Bytes) : State :=
  s.canTransmit seq (jalmonHeader cmd 0 key value.length type ++ value)

/-- An abort in place of the response, counted in AbortCount (R50, R51, R63). -/
def State.canAbort (s : State) (seq key code : Nat) : State :=
  (s.canTransmit seq (jalmonHeader 0x8F 0x80 key 2 0 ++ leBytes 2 code)).bump Entry.canAbortCount

/-- A response to a data segment, with its data (R53). -/
def State.canSegment (s : State) (seq : Nat) (last : Bool) (segment : Nat) (data : Bytes) : State :=
  let h := packFields [(6, 0), (6, data.length), (11, segment), (1, ofBool last), (8, 0x85)]
  s.canTransmit seq ((leBytes 4 h).reverse ++ data)

/-- The key that a frame names. -/
def frameKey (f : JalmonFrame) : Nat := f.index.toNat * 256 + f.sub.toNat

/-- The value that a frame carries. -/
def frameValue (f : JalmonFrame) : Bytes := f.data.take f.length.toNat

/-- Whether a frame is well formed: its value has at most 56 bytes and is all there (R42, R50). -/
def frameSound (f : JalmonFrame) : Bool := f.length.toNat ≤ 56 && f.length.toNat ≤ f.data.length

/-- What a request with the header of R50 leads to: nothing where it is not for this node, an abort where it is malformed or its command is
none of R51; a frame with another row's command is not this row's event. -/
def State.canRequest (s : State) (f : JalmonFrame) (command : Nat) (act : State → State) : State :=
  let t := s.canHeard
  let c := f.command.toNat
  if !t.canTakes f.cls.toNat f.node.toNat then t
  else if c ≠ command && 1 ≤ c && c ≤ 6 then s
  else if c ≠ command || !frameSound f then t.canAbort f.seq.toNat (frameKey f) 0x0010
  else act t

/-! Expedited transfers (R51, R52). -/

/-- An expedited read, answered with 0x81 and the value. -/
def State.canRead (s : State) (f : JalmonFrame) : State :=
  let seq := f.seq.toNat
  let c := s.check .can (frameKey f) false 0
  let b := s.readBytes (frameKey f)
  if c ≠ 0 then s.canAbort seq (frameKey f) c
  else if 56 < b.length then s.canAbort seq (frameKey f) 0x0016
  else s.canReply seq 0x81 (frameKey f) (((s.row (frameKey f)).map fun r => r.ty.code).getD 0) b

/-- An expedited write, answered with 0x82 once the value is taken. -/
def State.canWrite (s : State) (f : JalmonFrame) : State :=
  let seq := f.seq.toNat
  let c := s.check .can (frameKey f) true (frameValue f).length
  if c ≠ 0 then s.canAbort seq (frameKey f) c
  else (s.canReply seq 0x82 (frameKey f) 0 []).acceptWrite .can (frameKey f) (frameValue f)

/-! Segmented transfers (R53). -/

/-- The CAN FD side with a transfer open; the sequence numbers of ended transfers are forgotten. -/
def State.opensTransfer (s : State) (x : Transfer) : State :=
  { s with can := { s.can with transfer := some x, lastCancelled := none, lastTimedOut := none } }

/-- The CAN FD side with no transfer open. -/
def State.closesTransfer (s : State) : State := { s with can := { s.can with transfer := none } }

/-- Initiate of a segmented read: the value as it stands is what the segments carry. -/
def State.canReadStart (s : State) (f : JalmonFrame) : State :=
  let seq := f.seq.toNat
  let c := s.check .can (frameKey f) false 0
  if s.can.transfer.isSome then s.canAbort seq (frameKey f) 0x0014
  else if c ≠ 0 then s.canAbort seq (frameKey f) c
  else
    let b := s.readBytes (frameKey f)
    (s.opensTransfer { write := false, seq := seq, key := (frameKey f), total := b.length, data := b }).canReply seq 0x83 (frameKey f) 0
      (leBytes 4 b.length)

/-- The abort code of a declared total: exactly 4 bytes, at most 65,536, and fitting the entry's type. -/
def State.totalCode (s : State) (k : Nat) (value : Bytes) : Nat :=
  match s.row k with
  | none => 0x0020
  | some r => if value.length = 4 && leNat value ≤ 65536 && r.ty.fits (leNat value) then 0 else 0x0011

/-- The checks of R42 on a write other than that of its length. -/
def State.checkUnsized (s : State) (who : Requester) (k : Nat) : Nat :=
  match s.row k with
  | none => 0x0020
  | some r => s.check who k true r.ty.bytes

/-- Initiate of a segmented write. -/
def State.canWriteStart (s : State) (f : JalmonFrame) : State :=
  let seq := f.seq.toNat
  let c := s.checkUnsized .can (frameKey f)
  let d := s.totalCode (frameKey f) (frameValue f)
  if s.can.transfer.isSome then s.canAbort seq (frameKey f) 0x0014
  else if c ≠ 0 then s.canAbort seq (frameKey f) c
  else if d ≠ 0 then s.canAbort seq (frameKey f) d
  else
    (s.opensTransfer { write := true, seq := seq, key := (frameKey f), total := leNat (frameValue f) }).canReply seq 0x84 (frameKey f) 0 []

/-- The abort code for a segment of no open transfer. -/
def State.strayCode (s : State) (seq : Nat) : Nat :=
  if s.can.lastCancelled = some seq then 0x0015 else if s.can.lastTimedOut = some seq then 0x0013 else 0x0010

/-- The bytes of segment i of a value. -/
def segmentOf (b : Bytes) (i : Nat) : Bytes := (b.drop (60 * i)).take 60

/-- A segment asked for in a read; the one that holds the value's last byte ends the transfer. -/
def State.readSegment (s : State) (x : Transfer) : State :=
  let last := x.data.length ≤ 60 * (x.next + 1)
  let t := if last then s.closesTransfer
    else { s with can := { s.can with transfer := some { x with next := x.next + 1 } } }
  t.canSegment x.seq last x.next (segmentOf x.data x.next)

/-- A segment of a write: acknowledged; the last one ends the transfer, and the value is written where its total is the declared one and the
access checks still pass then (DESIGN CHOICE, log entry 51). -/
def State.writeSegment (s : State) (x : Transfer) (last : Bool) (data : Bytes) : State :=
  let all := x.data ++ data
  if !last then
    { s with can := { s.can with transfer := some { x with next := x.next + 1, data := all } } }.canSegment x.seq false x.next []
  else if all.length ≠ x.total then s.closesTransfer.canAbort x.seq x.key 0x0011
  else
    let t := s.closesTransfer
    let c := t.check .can x.key true all.length
    if c ≠ 0 then t.canAbort x.seq x.key c
    else (t.canSegment x.seq true x.next []).acceptWrite .can x.key all

/-- A data segment.  Its header names no entry, so the abort of a stray one carries index 0 and subindex 0 (DESIGN CHOICE, log entry 51). -/
def State.canData (s : State) (g : JalmonSegment) : State :=
  let seq := g.seq.toNat
  let stray := s.canAbort seq 0 (s.strayCode seq)
  match s.can.transfer with
  | none => stray
  | some x =>
    if x.seq ≠ seq then stray
    else if g.segment.toNat ≠ x.next then s.closesTransfer.canAbort seq x.key 0x0012
    else if !x.write then s.readSegment x
    else if 60 < g.dataLen.toNat || g.data.length < g.dataLen.toNat then s.closesTransfer.canAbort seq x.key 0x0010
    else s.writeSegment x g.last (g.data.take g.dataLen.toNat)

/-- A cancel: it ends the open transfer and writes nothing (DEDUCED, log entry 51). -/
def State.canCancels (s : State) (f : JalmonFrame) : State :=
  match s.can.transfer with
  | none => s.canAbort f.seq.toNat (frameKey f) 0x0010
  | some x =>
    let t := s.closesTransfer
    { t with can := { t.can with lastCancelled := some x.seq } }.canReply f.seq.toNat 0x86 x.key 0 []

/-- SegmentTimeout has passed since the last response: the open transfer ends in silence. -/
def State.segmentLate (s : State) : State :=
  match s.can.transfer with
  | none => s
  | some x =>
    let t := s.closesTransfer
    { t with can := { t.can with lastTimedOut := some x.seq } }

/-- CAN_EXPEDITED_READ. -/
def execCanExpeditedRead (f : JalmonFrame) (s : State) : Answer := s.answer (s.canRequest f 0x01 fun t => t.canRead f)

/-- CAN_EXPEDITED_WRITE. -/
def execCanExpeditedWrite (f : JalmonFrame) (s : State) : Answer := s.answer (s.canRequest f 0x02 fun t => t.canWrite f)

/-- CAN_INITIATE_SEGMENTED_READ. -/
def execCanInitiateSegmentedRead (f : JalmonFrame) (s : State) : Answer := s.answer (s.canRequest f 0x03 fun t => t.canReadStart f)

/-- CAN_INITIATE_SEGMENTED_WRITE. -/
def execCanInitiateSegmentedWrite (f : JalmonFrame) (s : State) : Answer := s.answer (s.canRequest f 0x04 fun t => t.canWriteStart f)

/-- CAN_DATA_SEGMENT. -/
def execCanDataSegment (g : JalmonSegment) (s : State) : Answer :=
  let t := s.canHeard
  s.answer (if t.canTakes g.cls.toNat g.node.toNat then t.canData g else t)

/-- CAN_CANCEL. -/
def execCanCancel (f : JalmonFrame) (s : State) : Answer := s.answer (s.canRequest f 0x06 fun t => t.canCancels f)

/-- CAN_FRAME_IGNORED. -/
def execCanFrameIgnored (_why : IgnoredFrame) (s : State) : Answer := s.answer s.canHeard

/-- SEGMENT_TIMEOUT. -/
def execSegmentTimeout (s : State) : Answer := s.answer s.segmentLate

/-! Fault confinement (R47). -/

/-- A bus error: 1 for an error while receiving, 8 for a dominant bit after the error flag, 8 while transmitting. -/
def State.busError (s : State) (e : CanBusError) : State :=
  let rx := s.n Entry.canRxErrorCount
  let tx := s.can.transmitErrors
  if !s.canListens then s
  else
    match e with
    | .receive => s.canCounts (rx + 1) tx
    | .receiveDominant => s.canCounts (rx + 8) tx
    | .transmit => if s.canAlive then s.canCounts rx (tx + 8) else s

/-- The end of the recovery sequence: both counters at 0, and BusOffCount. -/
def State.rejoinsBus (s : State) : State :=
  if s.can.busOff && !s.on Entry.supplySysclkState then (s.canCounts 0 0).bump Entry.canBusOffCount else s

/-- CAN_BUS_ERROR. -/
def execCanBusError (e : CanBusError) (s : State) : Answer := s.answer (s.busError e)

/-- CAN_BUS_OFF_RECOVERY. -/
def execCanBusOffRecovery (s : State) : Answer := s.answer s.rejoinsBus

/-! Events (R54). -/

/-- The frame of an event: 0xE3 for lost events, else 0xE1. -/
def JEvent.frame (e : JEvent) : Bytes :=
  jalmonHeader (if e.key = Entry.canEventsLost then 0xE3 else 0xE1) 0 e.key e.value.length e.type ++ e.value

/-- The 0xE3 event of the events dropped since the last one, queued as soon as there is room. -/
def State.queueLost (s : State) : State :=
  if s.can.droppedSince = 0 then s
  else
    let e : JEvent := { key := Entry.canEventsLost, type := 4, value := leBytes 4 s.can.droppedSince }
    { s with can := { s.can with queue := s.can.queue ++ [e], droppedSince := 0 } }

/-- The oldest queued event sent, with the event counter as its sequence number; while EventEnable is 0 the queue waits (DESIGN CHOICE, log
entry 52). -/
def State.sendEvent (s : State) : State :=
  if !s.canAlive || !s.can.events then s
  else
    match s.can.queue with
    | [] => s
    | e :: r =>
      let t := s.jalmonSend 0x0E s.can.eventCounter e.frame
      { t with can := { t.can with queue := r, eventCounter := (s.can.eventCounter + 1) % 2 ^ 16 } }.queueLost

/-- JALMON_EVENT_SEND. -/
def execJalmonEventSend (s : State) : Answer := s.answer s.sendEvent

end Sys2Proof.Machine
end

