-- ==== Sys2Proof/Machine/IntakeCommands.lean ====
section
/-! DEFINITION. The commands of the stream intake, of the stereo and flow engines and of frame generation (R75, R80, R82, R86, R89 to
R99, R111, R119, R128, R135). -/

namespace Sys2Proof.Machine

open Sys2Proof

/-- The oldest access unit that a context holds, complete or not. -/
def State.oldestIs (s : State) (i : Nat) (complete : Bool) : Bool :=
  match (s.ctx i).units with
  | [] => false
  | u :: _ => u.complete == complete

/-- ACCESS_UNIT_RELEASE: a complete access unit, all earlier ones of its context released. -/
def execAccessUnitRelease (i : Fin 512) (s : State) : Answer :=
  s.answer (if s.oldestIs i true then s.releases i else s)

/-- JITTER_TIMEOUT: the time limit of an incomplete access unit, which is released as lossy. -/
def execJitterTimeout (i : Fin 512) (s : State) : Answer :=
  s.answer (if s.oldestIs i false then s.releases i else s)

/-- DECODE_START. -/
def execDecodeStart (d : Fin 8) (s : State) : Answer := s.answer (s.decodeStarts d)

/-- DECODE_COMPLETE. -/
def execDecodeComplete (d : Fin 8) (r : DecodeResult) (s : State) : Answer := s.answer (s.decodeEnds d r)

/-- NO_DATA_TIMEOUT (R80). -/
def execNoDataTimeout (i : Fin 512) (s : State) : Answer :=
  s.answer (if s.streamOpen i then s.streamFlag i flagNoData true else s)

/-- STREAM_STOP_COMPLETE. -/
def execStreamStopComplete (i : Fin 512) (s : State) : Answer := s.answer (s.streamDone i)

/-- CSI_PACKET_RECEIVED. -/
def execCsiPacketReceived (c : Fin 4) (p : CsiPacket) (s : State) : Answer := s.answer (s.csiPacket c p)

/-- CSI_LINE_RECEIVED. -/
def execCsiLineReceived (c : Fin 4) (l : CsiLine) (s : State) : Answer := s.answer (s.csiLine c l)

/-- CSI_FRAME_END. -/
def execCsiFrameEnd (c : Fin 4) (vc : BitVec 4) (e : CsiEnd) (s : State) : Answer :=
  s.answer (s.csiFrameEnds c vc.toNat e.eccErrors e.lines)

/-- CSI_PORT_ACTIVE. -/
def execCsiPortActive (c : Fin 4) (s : State) : Answer := s.answer (s.ifRunning (s.csiUp c))

/-- CSI_PORT_DOWN. -/
def execCsiPortDown (c : Fin 4) (s : State) : Answer := s.answer (s.csiDown c)

/-- PAIR_STOP_COMPLETE. -/
def execPairStopComplete (p : Fin 64) (s : State) : Answer := s.answer (s.pairStopped p)

/-- STEREO_PASS_START. -/
def execStereoPassStart (g : Fin 4) (s : State) : Answer := s.answer (s.stereoStart g)

/-- STEREO_FRAME_COMPLETE. -/
def execStereoFrameComplete (g : Fin 4) (s : State) : Answer := s.answer (s.stereoComplete g)

/-- FLOW_FRAME_START. -/
def execFlowFrameStart (f : Fin 4) (s : State) : Answer := s.answer (s.flowStart f)

/-- FLOW_FRAME_COMPLETE. -/
def execFlowFrameComplete (f : Fin 4) (s : State) : Answer := s.answer (s.flowComplete f)

/-- TRUE_FRAME_READY. -/
def execTrueFrameReady (i : Fin 512) (s : State) : Answer := s.answer (s.frameReady i)

/-- CHOICE_POINT. -/
def execChoicePoint (n : Fin 16) (s : State) : Answer := s.onPort n (s.choicePoint n)

end Sys2Proof.Machine
end

