-- ==== Sys2Proof/Machine/Mailbox.lean ====
section
/-! DEFINITION. The mailbox in BAR2 of every PCI Express function (R46, R56, R57). -/

namespace Sys2Proof.Machine

open Sys2Proof

/-- The requester behind a function. -/
def requesterOf (fn : Nat) : Requester := if fn = 0 then .pf else .vf (Fin.ofNat 8 (fn - 1))

/-- Whether a mailbox works: the link is up and the management cores run (R34, R457). -/
def State.mailboxAlive (s : State) : Bool := s.answers && s.n Entry.pcieLinkState = 1

/-- The first byte of the value buffer in the window (R56). -/
def bufferOffset : Nat := 0x10000

/-- Bytes put over a buffer from an offset on. -/
def overlay (b : Bytes) (o : Nat) (d : Bytes) : Bytes := fit o b ++ d ++ b.drop (o + d.length)

/-- A write of the host to the window beside those of MBX_CMD and MBX_ACK (R56): MBX_LEN, MBX_CTRL and the value buffer hold what is written;
a register write that is not a whole, aligned dword, or to a reserved or read-only offset, is ignored.  While a request is busy MBX_LEN and
the buffer are the device's (log entry 53). -/
def Mailbox.barWrite (m : Mailbox) (w : BarWrite) : Mailbox :=
  let o := w.offset.toNat
  if bufferOffset ≤ o then
    if m.state = 1 then m else { m with buffer := overlay m.buffer (o - bufferOffset) (w.data.take (0x20000 - o)) }
  else if w.data.length ≠ 4 then m
  else if o = 0x0004 then (if m.state = 1 then m else { m with length := leNat w.data })
  else if o = 0x0014 then { m with irq := (leNat w.data).testBit 0 }
  else m

/-- The writes of a host, in order. -/
def Mailbox.barWrites (m : Mailbox) (l : List BarWrite) : Mailbox := l.foldl Mailbox.barWrite m

/-- MBX_STATUS (R56). -/
def Mailbox.status (m : Mailbox) : Nat := packFields [(8, m.state), (1, ofBool m.lost), (7, 0), (16, m.abort)]

/-- The register at an offset of the window, 0 where it is reserved or write-only (R56). -/
def Mailbox.register (m : Mailbox) (o : Nat) : Nat :=
  match o with
  | 0x00 => m.command | 0x04 => m.length | 0x08 => m.status | 0x0C => m.type | 0x14 => ofBool m.irq | 0x18 => m.clamps
  | _ => 0

/-- The bytes of BAR0 from an offset on: the MSI-X table, its unwritten entries 0, and the pending bits (R454; log entry 88). -/
def Mailbox.bar0 (m : Mailbox) (o n : Nat) : Bytes :=
  (List.range n).map fun i =>
    let a := o + i
    if a < 0x8000 then BitVec.ofNat 8 (((Assoc.find m.table (a / 16)).getD 0) >>> (8 * (a % 16)))
    else if a < 0x8100 then BitVec.ofNat 8 (maskOf ((List.range 8).filter fun b => m.pendingBits.contains (8 * (a - 0x8000) + b)))
    else 0

/-- The bytes of BAR4 from an offset on: Head of ring r at 8r, all else 0 (R365; log entry 53). -/
def State.bar4 (s : State) (o n : Nat) : Bytes :=
  (List.range n).map fun i =>
    let a := o + i
    if a % 8 < 4 then BitVec.ofNat 8 ((s.ring (a / 8)).head >>> (8 * (a % 8))) else 0

/-- What a read of `n` bytes at an offset of BAR 0, 2 or 4 of function `fn` returns (R46, R56, R454): all ones for a register of the mailbox
that is not read as a whole, aligned dword, and for everything but those registers while the function's partition is SCRUBBING. -/
def State.barRead (s : State) (fn bar o n : Nat) : Bytes :=
  let ones := List.replicate n 0xFF
  if bar = 2 && o < bufferOffset then
    if n = 4 && o % 4 = 0 then leBytes 4 ((s.box fn).register o) else ones
  else if s.scrubbing (requesterOf fn) then ones
  else
    match bar with
    | 0 => (s.box fn).bar0 o n
    | 2 => slice (fit 0x10000 (s.box fn).buffer) (o - bufferOffset) n
    | _ => s.bar4 o n

/-- A mailbox with a request started; `outcome`: the state that the request will reach. -/
def Mailbox.starts (m : Mailbox) (command outcome abort : Nat) : Mailbox :=
  { m with command := command, state := 1, outcome := outcome, abort := abort }

/-- A request taken up after the writes of the host: not while another one is in progress or unacknowledged, which sets Lost; through a
virtual function whose partition is SCRUBBING it ends in SCRUBBING, and a read returns all ones (R46, R57) (DEDUCED, log entry 53). -/
def State.mailboxRequest (s : State) (fn : Nat) (writes : List BarWrite) (command : Nat) (read : Bool) (act : State → State) : State :=
  if !s.mailboxAlive then s
  else
    let m := (s.box fn).barWrites writes
    let s := s.setBox fn m
    if m.state ≠ 0 then s.setBox fn { m with lost := true }
    else
      let t := s.bump Entry.mbxMailboxRequests
      if s.scrubbing (requesterOf fn) then
        let b := m.starts command 3 0
        t.setBox fn (if read then { b with buffer := List.replicate 65536 0xFF } else b)
      else act t

/-- A request that is aborted (R43, R57). -/
def State.mailboxAbort (s : State) (fn command code : Nat) : State :=
  (s.setBox fn ((s.box fn).starts command 4 code)).bump Entry.mbxAbortCount

/-- The MBX_CMD word of a command. -/
def mailboxWord (op k : Nat) : Nat := packFields [(16, k / 256), (8, k % 256), (8, op)]

/-- A read: the value in the buffer, its length and its type. -/
def State.mailboxRead (s : State) (fn k : Nat) : State :=
  let w := mailboxWord 1 k
  let c := s.check (requesterOf fn) k false 0
  if c ≠ 0 then s.mailboxAbort fn w c
  else
    let b := s.readBytes k
    let m := (s.box fn).starts w 2 0
    s.setBox fn { m with
      buffer := overlay m.buffer 0 b, length := b.length, type := ((s.row k).map fun r => r.ty.code).getD 0 }

/-- A write of MBX_LEN bytes from the buffer. -/
def State.mailboxWrite (s : State) (fn k : Nat) : State :=
  let w := mailboxWord 2 k
  let m := s.box fn
  let c := s.check (requesterOf fn) k true m.length
  if c ≠ 0 then s.mailboxAbort fn w c
  else (s.setBox fn (m.starts w 2 0)).acceptWrite (requesterOf fn) k (fit m.length m.buffer)

/-- The request of a function finishes, and vector 0 signals it where IrqEnable is set (R56). -/
def State.mailboxDone (s : State) (fn : Nat) : State :=
  let m := s.box fn
  if m.state ≠ 1 then s
  else
    let t := s.setBox fn { m with state := m.outcome }
    if m.irq then t.signal fn 0 else t

/-- A write of MBX_ACK. -/
def State.mailboxAck (s : State) (fn value : Nat) : State :=
  let m := s.box fn
  if value ≠ 1 || m.state = 1 then s else s.setBox fn { m with state := 0, lost := false }

/-- MBX_READ. -/
def execMbxRead (fn : Fin 9) (writes : List BarWrite) (index : BitVec 16) (sub : BitVec 8) (s : State) : Answer :=
  let k := index.toNat * 256 + sub.toNat
  s.answer (s.mailboxRequest fn writes (mailboxWord 1 k) true fun t => t.mailboxRead fn k)

/-- MBX_WRITE. -/
def execMbxWrite (fn : Fin 9) (writes : List BarWrite) (index : BitVec 16) (sub : BitVec 8) (s : State) : Answer :=
  let k := index.toNat * 256 + sub.toNat
  s.answer (s.mailboxRequest fn writes (mailboxWord 2 k) false fun t => t.mailboxWrite fn k)

/-- MBX_UNKNOWN_COMMAND. -/
def execMbxUnknownCommand (fn : Fin 9) (writes : List BarWrite) (c : MbxCommand) (s : State) : Answer :=
  let w := mailboxWord c.command.toNat (c.index.toNat * 256 + c.sub.toNat)
  s.answer (s.mailboxRequest fn writes w false fun t => t.mailboxAbort fn w 0x0010)

/-- MBX_REQUEST_COMPLETE. -/
def execMbxRequestComplete (fn : Fin 9) (s : State) : Answer := s.answer (if s.mailboxAlive then s.mailboxDone fn else s)

/-- MBX_ACK. -/
def execMbxAck (fn : Fin 9) (value : BitVec 32) (s : State) : Answer :=
  s.answer (if s.mailboxAlive then s.mailboxAck fn value.toNat else s)

end Sys2Proof.Machine
end

