-- ==== Sys2Proof/Machine/RenderCommands.lean ====
section
/-! DEFINITION. The commands of the rings, of the raster pipeline, of the ray units and of the raster ports (R28, R30, R203 to R225,
R235 to R254, R365 to R368). -/

namespace Sys2Proof.Machine

open Sys2Proof

/-! Rings. -/

/-- DOORBELL: lost while the host link is down (R457). -/
def execDoorbell (fn : Fin 9) (ring : BitVec 15) (tail : BitVec 32) (s : State) : Answer :=
  s.answer (if s.n Entry.pcieLinkState = 1 then s.ringBell fn ring.toNat tail.toNat else s)

/-- RING_NOP. -/
def execRingNop (ring : BitVec 15) (s : State) : Answer := s.answer (s.ringNop ring.toNat)

/-- RING_COMPUTE. -/
def execRingCompute (ring : BitVec 15) (s : State) : Answer := s.answer (s.ringCompute ring.toNat)

/-- RING_COPY. -/
def execRingCopy (ring : BitVec 15) (s : State) : Answer := s.answer (s.ringCopy ring.toNat)

/-- RING_FENCE. -/
def execRingFence (ring : BitVec 15) (s : State) : Answer := s.answer (s.ringFence ring.toNat)

/-- RING_MALFORMED_ENTRY. -/
def execRingMalformedEntry (ring : BitVec 15) (s : State) : Answer := s.answer (s.ringMalformed ring.toNat)

/-- COPY_COMPLETE. -/
def execCopyComplete (job : Nat) (hostData : Bytes) (s : State) : Answer := s.answer (s.copyDone job hostData)

/-! Raster and rays. -/

/-- PASS_OPEN. -/
def execPassOpen (ring : BitVec 15) (s : State) : Answer := s.answer (s.passOpens ring.toNat)

/-- BATCH_BIN. -/
def execBatchBin (ring : BitVec 15) (s : State) : Answer := s.answer (s.batchBins ring.toNat)

/-- PARTIAL_RENDER_DONE. -/
def execPartialRenderDone (p : Fin 8) (s : State) : Answer := s.answer (s.partialDone (p + 1))

/-- QUERY_BATCH. -/
def execQueryBatch (ring : BitVec 15) (s : State) : Answer := s.answer (s.queryTaken ring.toNat)

/-- RAY_BATCH_COMPLETE. -/
def execRayBatchComplete (u : Fin 4) (s : State) : Answer := s.answer (s.queryEnds u)

/-- TILE_START. -/
def execTileStart (t : TileFree) (s : State) : Answer := s.answer (s.tileStarts t.unit t.left)

/-- TILE_FINISHED. -/
def execTileFinished (t : Fin 16) (shaded : List (List Nat)) (s : State) : Answer := s.answer (s.tileEnds t shaded)

/-- PASS_COMPLETE. -/
def execPassComplete (p : Fin 8) (s : State) : Answer := s.answer (s.passEnds (p + 1))

/-- PASS_TIMEOUT. -/
def execPassTimeout (p : Fin 8) (s : State) : Answer := s.answer (s.passLate (p + 1))

/-! Ports. -/

/-- PORT_STOP_COMPLETE. -/
def execPortStopComplete (n : Fin 16) (s : State) : Answer := s.onPort n (s.portStopped n).anchorSweep

/-- PORT_FRAME_START. -/
def execPortFrameStart (f : FrameStart) (s : State) : Answer := s.onPort f.port (s.frameStarts f.port f.holdCrc.toNat)

/-- COMPOSE_POINT. -/
def execComposePoint (n : Fin 16) (s : State) : Answer := s.onPort n (s.composePoint n)

/-- COMPOSITION_COMPLETE. -/
def execCompositionComplete (n : Fin 16) (crc : BitVec 32) (s : State) : Answer := s.onPort n (s.composeDone n crc.toNat)

/-- COMPOSE_LATE. -/
def execComposeLate (n : Fin 16) (s : State) : Answer := s.onPort n (s.composeIsLate n)

/-- ROUTE_TAG_CHECK. -/
def execRouteTagCheck (n : Fin 16) (layer : Fin 48) (crcA crcB : BitVec 32) (s : State) : Answer :=
  s.onPort n (s.checkTag n layer crcA.toNat crcB.toNat)

/-- CRC_RECTANGLE_CHECK. -/
def execCrcRectangleCheck (n : Fin 16) (rect : Fin 32) (crcA crcB : BitVec 32) (s : State) : Answer :=
  s.onPort n (s.checkRect n rect crcA.toNat crcB.toNat)

/-- PIU_DISAGREEMENT. -/
def execPiuDisagreement (s : State) : Answer := s.answer (s.ifRunning s.piuDisagrees)

/-- FSYNC_EDGE. -/
def execFsyncEdge (n : Fin 16) (rising : Bool) (p : SyncPhase) (s : State) : Answer :=
  s.onPort n (s.fsyncTaken n rising p.e p.periodTenths)

/-- GENLOCK_LOST. -/
def execGenlockLost (n : Fin 16) (s : State) : Answer := s.onPort n (s.genlockGone n)

/-- RCLK_FAULT: a port that counted no longer does. -/
def execRclkFault (n : Fin 16) (s : State) : Answer := s.onPort n (s.rclkFails n).anchorSweep

/-- RCLK_RECOVERED. -/
def execRclkRecovered (n : Fin 16) (s : State) : Answer := s.onPort n (s.rclkReturns n)

end Sys2Proof.Machine
end

