-- ==== Sys2Proof/Machine/SystemCommands.lean ====
section
/-! DEFINITION. The commands of slots and herds, partitions, the schedule, keys and reports, and the fault collector (R280 to R285, R362,
R363, R373, R379, R391, R399, R404, R411, R418, R419). -/

namespace Sys2Proof.Machine

open Sys2Proof

/-! Slots and herds. -/

/-- STAGE_LOAD_COMPLETE. -/
def execStageLoadComplete (k : Fin 128) (s : State) : Answer := s.answer (s.stageLoaded k)

/-- FALLBACK_LOAD_COMPLETE. -/
def execFallbackLoadComplete (p : Fin 8) (s : State) : Answer := s.answer (s.reloadDone (p + 1))

/-- HERD_RESET_COMPLETE. -/
def execHerdResetComplete (h : Fin 8) (cleared : Bool) (s : State) : Answer := s.onHerd h (s.herdCleared h cleared)

/-! Partitions and the schedule. -/

/-- PARTITION_LIVE. -/
def execPartitionLive (p : Fin 8) (s : State) : Answer := s.answer (s.partLive (p + 1))

/-- PARTITION_TEARDOWN_DONE. -/
def execPartitionTeardownDone (p : Fin 8) (s : State) : Answer := s.answer (s.teardown (p + 1))

/-- SCRUB_GRANULE_DONE. -/
def execScrubGranuleDone (p : Fin 8) (granule : Nat) (ok : Bool) (s : State) : Answer := s.answer (s.scrubDone (p + 1) granule ok)

/-- WINDOW_OPEN. -/
def execWindowOpen (p : Fin 8) (w : Fin 64) (s : State) : Answer := s.answer (s.windowOpens (p + 1) w)

/-- WINDOW_CLOSE. -/
def execWindowClose (p : Fin 8) (w : Fin 64) (lastLines : Option Nat) (s : State) : Answer :=
  s.answer (s.windowCloses (p + 1) w lastLines)

/-! Keys and reports. -/

/-- TRNG_HEALTH_FAILURE. -/
def execTrngHealthFailure (s : State) : Answer := s.answer s.trngFails

/-- REPORT_COMPLETE. -/
def execReportComplete (slot : Fin 10) (s : State) : Answer := s.answer (s.reportMade slot)

/-! The fault collector. -/

/-- FAULT_REPORT. -/
def execFaultReport (r : FaultReport) (ms : Nat) (integrity : Bool) (hit : DataHit) (freed : Option (Fin 262144)) (s : State) : Answer :=
  s.answer (s.fcReport r ms integrity (bitsSet hit.ports.toNat 16) (freed.map fun (i : Fin 262144) => i.val) hit).anchorSweep

/-- WIRING_FAULT: the unit whose pair reads 00 or 11 is named by its own wiring fault (R404, R408). -/
def execWiringFault (u : UnitCode) (ms : Nat) (s : State) : Answer :=
  s.answer (s.fcReport { reporter := u, suspect := u, cls := .wiring, detail := 0 } ms false [] none {}).anchorSweep

/-- QUIET_PERIOD_END: where the TRNG's health test has passed again, what waited for keys goes on (R379). -/
def execQuietPeriodEnd (u : UnitCode) (ms : Nat) (healthy : Bool) (s : State) : Answer :=
  let t := s.quietEnds u ms healthy
  s.answer (if s.trngHealthy then t else t.keysReturn)

/-- RECOVERY_TEST_COMPLETE. -/
def execRecoveryTestComplete (u : UnitCode) (passed : Bool) (ms : Nat) (s : State) : Answer :=
  s.answer (s.recoveryEnds u passed ms)

end Sys2Proof.Machine
end

