-- ==== Sys2Proof/Machine/Dispatch.lean ====
section
/-! DEFINITION. The effect of every command on everything but the queue: one direct call of its meaning. -/

namespace Sys2Proof.Machine

open Sys2Proof

def exec (i : Instr) (s : State) : Host.Outcome State Fault Refusal :=
  match i with
  | .supplyMonitorSample mv => Sys2Proof.Machine.execSupplyMonitorSample mv s
  | .resetAsserted => Sys2Proof.Machine.execResetAsserted s
  | .resetReleased env => Sys2Proof.Machine.execResetReleased env s
  | .junctionMinReached env => Sys2Proof.Machine.execJunctionMinReached env s
  | .restart env => Sys2Proof.Machine.execRestart env s
  | .sysclkFailure => Sys2Proof.Machine.execSysclkFailure s
  | .junctionSensorRead tenths => Sys2Proof.Machine.execJunctionSensorRead tenths s
  | .paceMonitorWindow h pace => Sys2Proof.Machine.execPaceMonitorWindow h pace s
  | .paceControlInterval readback q => Sys2Proof.Machine.execPaceControlInterval readback q s
  | .readVoutCheck reading => Sys2Proof.Machine.execReadVoutCheck reading s
  | .watchdogExpiry reporter suspect baton => Sys2Proof.Machine.execWatchdogExpiry reporter suspect baton s
  | .rclkFault n => Sys2Proof.Machine.execRclkFault n s
  | .rclkRecovered n => Sys2Proof.Machine.execRclkRecovered n s
  | .batonSend b => Sys2Proof.Machine.execBatonSend b s
  | .batonReceive station queue count => Sys2Proof.Machine.execBatonReceive station queue count s
  | .canExpeditedRead f => Sys2Proof.Machine.execCanExpeditedRead f s
  | .canExpeditedWrite f => Sys2Proof.Machine.execCanExpeditedWrite f s
  | .canInitiateSegmentedRead f => Sys2Proof.Machine.execCanInitiateSegmentedRead f s
  | .canInitiateSegmentedWrite f => Sys2Proof.Machine.execCanInitiateSegmentedWrite f s
  | .canDataSegment g => Sys2Proof.Machine.execCanDataSegment g s
  | .canCancel f => Sys2Proof.Machine.execCanCancel f s
  | .canFrameIgnored why => Sys2Proof.Machine.execCanFrameIgnored why s
  | .segmentTimeout => Sys2Proof.Machine.execSegmentTimeout s
  | .canBusOffRecovery => Sys2Proof.Machine.execCanBusOffRecovery s
  | .jalmonEventSend => Sys2Proof.Machine.execJalmonEventSend s
  | .mbxRead fn writes index sub => Sys2Proof.Machine.execMbxRead fn writes index sub s
  | .mbxWrite fn writes index sub => Sys2Proof.Machine.execMbxWrite fn writes index sub s
  | .mbxUnknownCommand fn writes c => Sys2Proof.Machine.execMbxUnknownCommand fn writes c s
  | .mbxRequestComplete fn => Sys2Proof.Machine.execMbxRequestComplete fn s
  | .mbxAck fn value => Sys2Proof.Machine.execMbxAck fn value s
  | .entryWrite who index sub value => Sys2Proof.Machine.execEntryWrite who index sub value s
  | .save => Sys2Proof.Machine.execSave s
  | .saveComplete ok => Sys2Proof.Machine.execSaveComplete ok s
  | .restoreDefaults => Sys2Proof.Machine.execRestoreDefaults s
  | .ethFrameReceived e f ms lines => Sys2Proof.Machine.execEthFrameReceived e f ms lines s
  | .membershipReportTimer e => Sys2Proof.Machine.execMembershipReportTimer e s
  | .ethLinkDown e => Sys2Proof.Machine.execEthLinkDown e s
  | .ethLinkUp e => Sys2Proof.Machine.execEthLinkUp e s
  | .mdioRead command => Sys2Proof.Machine.execMdioRead command s
  | .mdioWrite command => Sys2Proof.Machine.execMdioWrite command s
  | .mdioNoOperation command => Sys2Proof.Machine.execMdioNoOperation command s
  | .mdioTransactionDone data => Sys2Proof.Machine.execMdioTransactionDone data s
  | .accessUnitRelease j => Sys2Proof.Machine.execAccessUnitRelease j s
  | .jitterTimeout j => Sys2Proof.Machine.execJitterTimeout j s
  | .decodeStart d => Sys2Proof.Machine.execDecodeStart d s
  | .decodeComplete d r => Sys2Proof.Machine.execDecodeComplete d r s
  | .noDataTimeout j => Sys2Proof.Machine.execNoDataTimeout j s
  | .streamEnable j => Sys2Proof.Machine.execStreamEnable j s
  | .streamDisable j => Sys2Proof.Machine.execStreamDisable j s
  | .streamStopComplete j => Sys2Proof.Machine.execStreamStopComplete j s
  | .csiPacketReceived c p => Sys2Proof.Machine.execCsiPacketReceived c p s
  | .csiLineReceived c l => Sys2Proof.Machine.execCsiLineReceived c l s
  | .csiFrameEnd c vc e => Sys2Proof.Machine.execCsiFrameEnd c vc e s
  | .pairEnable p => Sys2Proof.Machine.execPairEnable p s
  | .pairDisable p => Sys2Proof.Machine.execPairDisable p s
  | .pairStopComplete p => Sys2Proof.Machine.execPairStopComplete p s
  | .stereoPassStart g => Sys2Proof.Machine.execStereoPassStart g s
  | .stereoFrameComplete g => Sys2Proof.Machine.execStereoFrameComplete g s
  | .flowFrameStart f => Sys2Proof.Machine.execFlowFrameStart f s
  | .flowFrameComplete f => Sys2Proof.Machine.execFlowFrameComplete f s
  | .trueFrameReady j => Sys2Proof.Machine.execTrueFrameReady j s
  | .choicePoint n => Sys2Proof.Machine.execChoicePoint n s
  | .genModeWrite j mode => Sys2Proof.Machine.execGenModeWrite j mode s
  | .renderReset n value => Sys2Proof.Machine.execRenderReset n value s
  | .doorbell fn ring tail => Sys2Proof.Machine.execDoorbell fn ring tail s
  | .ringNop ring => Sys2Proof.Machine.execRingNop ring s
  | .ringCompute ring => Sys2Proof.Machine.execRingCompute ring s
  | .ringCopy ring => Sys2Proof.Machine.execRingCopy ring s
  | .copyComplete job hostData => Sys2Proof.Machine.execCopyComplete job hostData s
  | .hostTransferFailure job => Sys2Proof.Machine.execHostTransferFailure job s
  | .ringFence ring => Sys2Proof.Machine.execRingFence ring s
  | .ringMalformedEntry ring => Sys2Proof.Machine.execRingMalformedEntry ring s
  | .passOpen ring => Sys2Proof.Machine.execPassOpen ring s
  | .batchBin ring => Sys2Proof.Machine.execBatchBin ring s
  | .partialRenderDone p => Sys2Proof.Machine.execPartialRenderDone p s
  | .queryBatch ring => Sys2Proof.Machine.execQueryBatch ring s
  | .rayBatchComplete u => Sys2Proof.Machine.execRayBatchComplete u s
  | .tileStart t => Sys2Proof.Machine.execTileStart t s
  | .tileFinished t shaded => Sys2Proof.Machine.execTileFinished t shaded s
  | .passComplete p => Sys2Proof.Machine.execPassComplete p s
  | .passTimeout p => Sys2Proof.Machine.execPassTimeout p s
  | .portEnable n => Sys2Proof.Machine.execPortEnable n s
  | .portDisable n => Sys2Proof.Machine.execPortDisable n s
  | .portStopComplete n => Sys2Proof.Machine.execPortStopComplete n s
  | .portFrameStart f => Sys2Proof.Machine.execPortFrameStart f s
  | .composePoint n => Sys2Proof.Machine.execComposePoint n s
  | .compositionComplete n crc => Sys2Proof.Machine.execCompositionComplete n crc s
  | .composeLate n => Sys2Proof.Machine.execComposeLate n s
  | .routeTagCheck n layer crcA crcB => Sys2Proof.Machine.execRouteTagCheck n layer crcA crcB s
  | .crcRectangleCheck n rect crcA crcB => Sys2Proof.Machine.execCrcRectangleCheck n rect crcA crcB s
  | .piuDisagreement => Sys2Proof.Machine.execPiuDisagreement s
  | .layerTableWrite n table => Sys2Proof.Machine.execLayerTableWrite n table s
  | .safeAck n value => Sys2Proof.Machine.execSafeAck n value s
  | .fsyncEdge n rising p => Sys2Proof.Machine.execFsyncEdge n rising p s
  | .genlockLost n => Sys2Proof.Machine.execGenlockLost n s
  | .lapStart l => Sys2Proof.Machine.execLapStart l s
  | .lapBoundary k tenNs => Sys2Proof.Machine.execLapBoundary k tenNs s
  | .nop k h => Sys2Proof.Machine.execNop k h s
  | .barrier k h => Sys2Proof.Machine.execBarrier k h s
  | .model k h number => Sys2Proof.Machine.execModel k h number s
  | .complete k h lane => Sys2Proof.Machine.execComplete k h lane s
  | .endLegs k h => Sys2Proof.Machine.execEndLegs k h s
  | .convert u c rows mask => Sys2Proof.Machine.execConvert u c rows mask s
  | .mma u fmtA fmtW steps => Sys2Proof.Machine.execMma u fmtA fmtW steps s
  | .rescale u c job => Sys2Proof.Machine.execRescale u c job s
  | .outlier u acts weights => Sys2Proof.Machine.execOutlier u acts weights s
  | .wide u c acts weights job => Sys2Proof.Machine.execWide u c acts weights job s
  | .gradconv u rows => Sys2Proof.Machine.execGradconv u rows s
  | .mompack u second rows => Sys2Proof.Machine.execMompack u second rows s
  | .momunpack u second rows exps => Sys2Proof.Machine.execMomunpack u second rows exps s
  | .masterupd u masters updates => Sys2Proof.Machine.execMasterupd u masters updates s
  | .stats u c source codes exps mask => Sys2Proof.Machine.execStats u c source codes exps mask s
  | .convwin u g fmtW x w => Sys2Proof.Machine.execConvwin u g fmtW x w s
  | .expand u g x firstRow => Sys2Proof.Machine.execExpand u g x firstRow s
  | .groupconv u g c x w job => Sys2Proof.Machine.execGroupconv u g c x w job s
  | .blockconv u g c x w job => Sys2Proof.Machine.execBlockconv u g c x w job s
  | .pool u g c x => Sys2Proof.Machine.execPool u g c x s
  | .rescaleRelu u c job => Sys2Proof.Machine.execRescaleRelu u c job s
  | .wideRelu u c acts weights job => Sys2Proof.Machine.execWideRelu u c acts weights job s
  | .planarise u g rows => Sys2Proof.Machine.execPlanarise u g rows s
  | .stage k value => Sys2Proof.Machine.execStage k value s
  | .stageLoadComplete k => Sys2Proof.Machine.execStageLoadComplete k s
  | .unload k value => Sys2Proof.Machine.execUnload k value s
  | .fallbackLoadComplete p => Sys2Proof.Machine.execFallbackLoadComplete p s
  | .herdReset h value => Sys2Proof.Machine.execHerdReset h value s
  | .herdResetComplete h cleared => Sys2Proof.Machine.execHerdResetComplete h cleared s
  | .adaptBudgetPeriod p => Sys2Proof.Machine.execAdaptBudgetPeriod p s
  | .selectVersion p command => Sys2Proof.Machine.execSelectVersion p command s
  | .discardCandidate p command => Sys2Proof.Machine.execDiscardCandidate p command s
  | .clearAdaptedVersions p command => Sys2Proof.Machine.execClearAdaptedVersions p command s
  | .unknownAdaptOp p command => Sys2Proof.Machine.execUnknownAdaptOp p command s
  | .partitionEnable p => Sys2Proof.Machine.execPartitionEnable p s
  | .partitionLive p => Sys2Proof.Machine.execPartitionLive p s
  | .partitionDisable p => Sys2Proof.Machine.execPartitionDisable p s
  | .partitionTeardownDone p => Sys2Proof.Machine.execPartitionTeardownDone p s
  | .scrubGranuleDone p granule ok => Sys2Proof.Machine.execScrubGranuleDone p granule ok s
  | .scheduleWrite p schedule => Sys2Proof.Machine.execScheduleWrite p schedule s
  | .windowOpen p w => Sys2Proof.Machine.execWindowOpen p w s
  | .windowClose p w lastLines => Sys2Proof.Machine.execWindowClose p w lastLines s
  | .zennikLinkTrained z => Sys2Proof.Machine.execZennikLinkTrained z s
  | .zennikChainReceived z c => Sys2Proof.Machine.execZennikChainReceived z c s
  | .zennikKeyExchange z signaturesOk => Sys2Proof.Machine.execZennikKeyExchange z signaturesOk s
  | .sessionRetryTimer z => Sys2Proof.Machine.execSessionRetryTimer z s
  | .zennikRekey z signaturesOk => Sys2Proof.Machine.execZennikRekey z signaturesOk s
  | .trngHealthFailure => Sys2Proof.Machine.execTrngHealthFailure s
  | .ideKmMessage fn keys => Sys2Proof.Machine.execIdeKmMessage fn keys s
  | .ideCheckFailure fn => Sys2Proof.Machine.execIdeCheckFailure fn s
  | .reportRequest slot mask => Sys2Proof.Machine.execReportRequest slot mask s
  | .reportComplete slot => Sys2Proof.Machine.execReportComplete slot s
  | .faultReport r ms integrity hit freed => Sys2Proof.Machine.execFaultReport r ms integrity hit freed s
  | .wiringFault u ms => Sys2Proof.Machine.execWiringFault u ms s
  | .quietPeriodEnd u ms healthy => Sys2Proof.Machine.execQuietPeriodEnd u ms healthy s
  | .recoveryTestComplete u passed ms => Sys2Proof.Machine.execRecoveryTestComplete u passed ms s
  | .safeReqAsserted toggling => Sys2Proof.Machine.execSafeReqAsserted toggling s
  | .safeReqReleased toggling => Sys2Proof.Machine.execSafeReqReleased toggling s
  | .safeReqHeld ms => Sys2Proof.Machine.execSafeReqHeld ms s
  | .safeReqToggleQuiet => Sys2Proof.Machine.execSafeReqToggleQuiet s
  | .inputGlitchRejected => Sys2Proof.Machine.execInputGlitchRejected s
  | .firmwareData data => Sys2Proof.Machine.execFirmwareData data s
  | .firmwareNoAction => Sys2Proof.Machine.execFirmwareNoAction s
  | .firmwareStage => Sys2Proof.Machine.execFirmwareStage s
  | .firmwareVerifyComplete signatureOk => Sys2Proof.Machine.execFirmwareVerifyComplete signatureOk s
  | .firmwareSwitch => Sys2Proof.Machine.execFirmwareSwitch s
  | .firmwareDiscard => Sys2Proof.Machine.execFirmwareDiscard s
  | .firmwareSwitchComplete => Sys2Proof.Machine.execFirmwareSwitchComplete s
  | .pcieReset => Sys2Proof.Machine.execPcieReset s
  | .pcieLinkDown => Sys2Proof.Machine.execPcieLinkDown s
  | .pcieFlr fn => Sys2Proof.Machine.execPcieFlr fn s
  | .pcieConfigRequest => Sys2Proof.Machine.execPcieConfigRequest s
  | .msixHoldoffExpiry fn vector => Sys2Proof.Machine.execMsixHoldoffExpiry fn vector s
  | .zennikFrameReceived z f => Sys2Proof.Machine.execZennikFrameReceived z f s
  | .zennikRetrainComplete z => Sys2Proof.Machine.execZennikRetrainComplete z s
  | .zennikNakReceived z lastGood => Sys2Proof.Machine.execZennikNakReceived z lastGood s
  | .zennikAckTimeout z => Sys2Proof.Machine.execZennikAckTimeout z s
  | .zennikRouteFrame z routes => Sys2Proof.Machine.execZennikRouteFrame z routes s
  | .routeAnnounceTimer => Sys2Proof.Machine.execRouteAnnounceTimer s
  | .routeChangeApply device => Sys2Proof.Machine.execRouteChangeApply device s
  | .canBusError e => Sys2Proof.Machine.execCanBusError e s
  | .zennikLaneError z lane excess => Sys2Proof.Machine.execZennikLaneError z lane excess s
  | .pcieLinkUp width gen => Sys2Proof.Machine.execPcieLinkUp width gen s
  | .csiPortActive c => Sys2Proof.Machine.execCsiPortActive c s
  | .csiPortDown c => Sys2Proof.Machine.execCsiPortDown c s

end Sys2Proof.Machine
end

