-- ==== Sys2Proof/Safety.lean ====
section
/-! DEFINITION. What counts as a safe state, and what a command leaves as it was, in the terms that claims use. -/

namespace Sys2Proof.Machine

open Sys2Proof

/-- The canonical form that every operation keeps: external memory lists no blank byte and rises by address. -/
def State.canonical (s : State) : Prop := Memory.wf s.mem = true

/-- The herd or the raster port that a command is for (R2). -/
def unitNamed (c : Instr) : Option UnitCode :=
  match c with
  | .convert u .. | .mma u .. | .rescale u .. | .outlier u .. | .wide u .. | .gradconv u .. | .mompack u .. | .momunpack u ..
  | .masterupd u .. | .stats u .. | .convwin u .. | .expand u .. | .groupconv u .. | .blockconv u .. | .pool u .. | .rescaleRelu u ..
  | .wideRelu u .. | .planarise u .. => some ⟨.herd, u.herd⟩
  | .paceMonitorWindow h _ | .herdReset h _ | .herdResetComplete h _ => some ⟨.herd, h⟩
  | .rclkFault n | .rclkRecovered n | .choicePoint n | .renderReset n _ | .portEnable n | .portDisable n | .portStopComplete n
  | .composePoint n | .compositionComplete n _ | .composeLate n | .routeTagCheck n .. | .crcRectangleCheck n ..
  | .layerTableWrite n _ | .safeAck n _ | .fsyncEdge n .. | .genlockLost n => some ⟨.port, n⟩
  | .portFrameStart f => some ⟨.port, f.port⟩
  | _ => none

/-- The state without its entries, its external memory, its outputs, its waiting events, its mailboxes and its epochs: what the units, the
queue, the pins and the fuses hold. -/
def State.rest (s : State) : State :=
  { s with
    dict := [], mem := [], out := [], boxes := []
    can := { s.can with queue := [], droppedSince := 0 }
    security := { s.security with epoch := 0, partEpochs := [] } }

/-- A mailbox without its interrupts. -/
def mailboxRest (m : Mailbox) : Mailbox := { m with vectors := [], again := [], pendingBits := [] }

/-- Whether an output is an interrupt of a function. -/
def isInterrupt (o : Output) : Prop := ∃ fn v, o = Output.msix fn v

/-- `t` is `u` but for the entries that `keys` lists, and for what a change of an entry always brings: events (with the count of those
lost), interrupts and epochs.  Every other entry, every byte of external memory, every mailbox, every output so far and every unit is
that of `u`. -/
def Keeps (u t : State) (keys : List Nat) : Prop :=
  (∀ k, k ∉ keys → k ≠ Entry.canEventsLost → t.raw k = u.raw k) ∧
  (∀ a, Memory.read t.mem a = Memory.read u.mem a) ∧
  (∀ fn, mailboxRest (t.box fn) = mailboxRest (u.box fn)) ∧
  (∃ l, t.out = u.out ++ l ∧ ∀ o ∈ l, isInterrupt o) ∧
  State.rest t = State.rest u

/-- Every entry of `t` but those that `keys` lists is that of `s` (the count of lost events aside, which any event may raise). -/
def EntriesKept (s t : State) (keys : List Nat) : Prop := ∀ k, k ∉ keys → k ≠ Entry.canEventsLost → t.raw k = s.raw k

/-- Every byte of external memory of `t` is that of `s`. -/
def MemoryKept (s t : State) : Prop := ∀ a, Memory.read t.mem a = Memory.read s.mem a

/-- Every partition's anchor port counts frames (R77, R370): what each command that could end this restores before it ends. -/
def State.anchored (s : State) : Prop := ∀ p a, s.anchorPort p = some a → (s.portRt a).counting = true

/-- No partition writes an arrival record (R173). -/
def State.unrecorded (s : State) : Prop := ∀ p, (s.partRt p).arrivalMode ≠ 1

/-- The entry to FAULT_HOLD from `s`, with a cause (R33): every port that is not OFF is SAFE with SafeCause 8 and SAFE_BLANK, no PV pair is
asserted, and every running lap is abandoned; no other entry, no byte of external memory and no other unit changes. -/
def State.entersHold (s t : State) (cause : Nat) : Prop :=
  t.device = 6 ∧ t.n Entry.devStateCause = cause ∧
  (∀ n, n < s.portCount → t.vouched n = false ∧ t.portState n = (if s.portState n = 0 then 0 else 5) ∧
    (s.portState n ≠ 0 → t.n (Entry.portSafeCause n) = 8 ∧ t.n (Entry.portSafeKind n) = 2)) ∧
  (∀ k, t.slotRt k = if k < 128 then { s.slotRt k with lap := (s.slotRt k).lap.map fun l => { l with abandoned := true } } else s.slotRt k)

/-- The addresses that `n` bytes at an offset of a partition's range take; none where they do not fit in it (R17). -/
def State.stores (s : State) (p o n a : Nat) : Prop := s.inRange p o n = true ∧ s.memBase p + o ≤ a ∧ a < s.memBase p + o + n

/-- The offset at which a ring's next completion goes (R364). -/
def State.completionAt (s : State) (r : Nat) : Nat :=
  (s.ring r).completeBase + 16 * ((s.ring r).completions % 2 ^ (s.ring r).slotsLog)

/-- The bytes of a completion (R364). -/
def State.completionBytes (s : State) (r index tag cause : Nat) : Bytes :=
  leBytes 16 (packFields [(1, ((s.ring r).completions / 2 ^ (s.ring r).slotsLog + 1) % 2), (15, 0), (8, cause),
    (8, if cause = 0 then 1 else 2), (32, index), (64, tag)])

/-- What the end of entry `e` of a ring when it is taken, with a cause, leads to (R364, R368, R369). -/
def State.entryEnds (s t : State) (p r e cause : Nat) : Prop :=
  (t.ring r).head = ((s.ring r).head + 1) % 2 ^ 32 ∧ (t.ring r).completions = ((s.ring r).completions + 1) % 2 ^ 32 ∧
  t.n (Entry.partRingSubmitted p) = (s.n (Entry.partRingSubmitted p) + 1) % 2 ^ 64 ∧
  t.n (Entry.partRingCompleted p) = (if cause = 0 then (s.n (Entry.partRingCompleted p) + 1) % 2 ^ 64 else s.n (Entry.partRingCompleted p)) ∧
  (cause ≠ 0 → t.n (Entry.partRingLastCause p) = cause ∧
    t.n (Entry.partRingAbandoned p) = (s.n (Entry.partRingAbandoned p) + 1) % 2 ^ 64) ∧
  s.completionBytes r (s.ring r).head (entryTag e) cause = t.readMem p (s.completionAt r) 16 ∧
  (∀ a, ¬ s.stores p (s.completionAt r) 16 a → ¬ s.stores p (s.ringDescAt p r + 32) 4 a → ¬ s.stores p (s.ringDescAt p r + 36) 4 a →
    Memory.read t.mem a = Memory.read s.mem a) ∧
  t.jobs = s.jobs ∧
  EntriesKept s t ([Entry.partRingSubmitted p] ++
    if cause = 0 then [Entry.partRingCompleted p] else [Entry.partRingAbandoned p, Entry.partRingLastCause p])

/-- A stream's adaptation after a command (R349): a held candidate is replaced by a new one from a master with the next test after `first`
samples, and a test whose lap runs is discarded at its boundary. -/
def AdaptStream.commanded (a : AdaptStream) (first : Nat) (master : Bytes) : AdaptStream :=
  { a with
    discardTest := a.testing.isSome, passed := false
    state := if a.state = 3 ∧ a.testing = none then 2 else a.state
    master := if a.candidate then master else a.master
    era := if a.candidate then a.era + 1 else a.era
    steps := if a.candidate then 0 else a.steps
    nextTest := if a.candidate then first else a.nextTest }

/-- The entries of a slot that its version gives (R289). -/
def slotKeys (k : Nat) : List Nat :=
  [Entry.slotState k, Entry.slotActiveVersion k, Entry.slotTableDigest k, Entry.slotLanes k, Entry.slotTrigger k, Entry.slotFallback k,
    Entry.slotAnnexBound k, Entry.slotJobKind k, Entry.slotStageState k, Entry.slotStageError k, Entry.slotLaps k,
    Entry.slotLapsAbandoned k, Entry.slotLapMax k, Entry.slotLapOverruns k]

/-- The entries of the herds that the active versions and the caches give (R281, R288, R314). -/
def loadKeys : List Nat :=
  (List.range 8).flatMap fun h => [Entry.herdWorkBytes h, Entry.cacheCacheBytes h, Entry.herdArithStatsChannelsUsed h,
    Entry.cachePinnedBytes h, Entry.cacheResidentBytes h, Entry.cacheResidentModels h]

/-- The entries that name the partition of what is owned (R358). -/
def Owned.keys (o : Owned) : List Nat :=
  o.herds.map Entry.herdPartition ++ o.ports.map Entry.portPartition ++ o.streams.map Entry.streamPartition ++
    o.pairs.map Entry.pairPartition ++ o.slots.map Entry.slotPartition

/-- Whether a position of a slot's version may have a leg with an opcode, of which `fits` holds: its legs are not known, or one is. -/
def SlotRt.hasLeg (r : SlotRt) (pos op : Nat) (fits : Nat → Prop) : Prop := r.legs pos = [] ∨ ∃ x ∈ r.legs pos, legOp x = op ∧ fits x

/-- The operation runs: its herd exists and is in service, the units work (R31, R263), and its partition exists. -/
def State.opRuns (s : State) (u : OpUnit) : Prop := u.herd.val < s.herdCount ∧ s.opActs u = true ∧ s.opPart u < 9

/-- The source of an operation can be read (R276, R336). -/
def State.sourceReadable (s : State) (u : OpUnit) (g : AddrConfig) (x : Tensor) : Prop :=
  readsMemory g = true → ∀ e ∈ sourceReads g x, s.readFails (s.opPart u) e.1 e.2 = false

/-- The bytes of external memory that output rows of `channels` planes of `ho` rows take, and their exponents (R316). -/
def State.rowsStored (s : State) (u : OpUnit) (g : AddrConfig) (f mode channels ho : Nat) (rows : List (List Nat)) (a : Nat) : Prop :=
  g.dstPlace = 1 ∧
    ∃ e ∈ ((List.range channels).flatMap fun c => (stripeRows g ho).map fun y => (c, y)).zip rows,
      s.stores (s.opPart u) (g.dstOffset + e.1.1 * (g.dstRowPitch * ho) + e.1.2 * g.dstRowPitch) (rowBytes f e.2).length a ∨
      ((qmaxOf f).isSome = true ∧ mode = 0 ∧
        s.stores (s.opPart u) (g.dstOffset + channels * (g.dstRowPitch * ho) + e.1.1 * ho + e.1.2) 1 a)

/-- What an operation that sends rows leaves as it was: every entry but the NaN counters, every byte of memory but those that `stored` tells,
every unit but the herds and the counts of the partitions. -/
def State.opKeeps (s t : State) (u : OpUnit) (stored : Nat → Prop) : Prop :=
  Keeps { s with herds := t.herds, parts := t.parts, mem := t.mem } t
    [Entry.partArithNanConversions (s.opPart u), Entry.arithNanConversionsTotal] ∧
  ∀ a, ¬ stored a → Memory.read t.mem a = Memory.read s.mem a

/-- What is owned lies within the device. -/
def Owned.fits (o : Owned) : Prop :=
  (∀ h ∈ o.herds, h < 8) ∧ (∀ n ∈ o.ports, n < 16) ∧ (∀ i ∈ o.streams, i < 512) ∧ (∀ i ∈ o.pairs, i < 64) ∧ (∀ k ∈ o.slots, k < 120)

/-- A counter of `w` bits after `n` more counts. -/
def countedUp (w before n : Nat) : Nat := if n = 0 then before else (before + n) % 2 ^ w

/-- Every unit of `o` names partition `p` in its Partition entry. -/
def State.assigned (t : State) (o : Owned) (p : Nat) : Prop := ∀ k ∈ o.keys, t.n k = p

/-- The counters of adaptation that restart with a partition (R356). -/
def adaptKeys (p : Nat) : List Nat :=
  [Entry.partAdaptSamples p, Entry.partAdaptSamplesDropped p, Entry.partAdaptPromotions p, Entry.partAdaptRejections p,
    Entry.partAdaptRollbacks p, Entry.partAdaptCorruptVersions p]

/-- An entry of which a write stores the value and does nothing more (R39). -/
def plainEntry (k : Nat) : Prop := ∀ (s : State) (v : Value), s.entryEffect k v = s.store k v

/-- The frame asks with a command, and its value is all there (R50). -/
def asks (f : JalmonFrame) (command : Nat) : Prop := f.command.toNat = command ∧ frameSound f = true

/-- The answer that an aborted request over CAN FD gets, and nothing more (R43, R50, R51). -/
def State.aborts (s t : State) (seq k code : Nat) : Prop :=
  t.n Entry.canAbortCount = (s.n Entry.canAbortCount + 1) % 2 ^ 32 ∧
  Keeps (s.canTransmit seq (jalmonHeader 0x8F 0x80 k 2 0 ++ leBytes 2 code)) t [Entry.canAbortCount]

/-- The totals of the stereo engines (R123). -/
def stereoKeys : List Nat :=
  [Entry.visionStereoMemoryLoad, Entry.visionStereoMemoryCapacity, Entry.visionSuspendedPairs] ++
    (List.range 4).map Entry.stereoMode ++ (List.range 4).map Entry.stereoPinnedLoad

/-- A bring-up in which every part of the device is found good. -/
def cleanBoot (env : BootEnv) : Prop :=
  env.suppliesOk = true ∧ env.channelsBad = [] ∧ env.rowsBad = [] ∧ env.testBad = [] ∧ env.kidCrcBad = [] ∧ env.pcieWidth = 16 ∧
  env.pcieGen = 6 ∧ env.zennikLanes = List.replicate 6 255 ∧ env.ethLanes = 15 ∧ env.csiLanes = List.replicate 4 15 ∧
  env.dsiLanes = List.replicate 16 15 ∧ (∃ v, env.vout = some v ∧ 735 ≤ v ∧ v ≤ 765) ∧ ∀ z ∈ env.junctions, z < 1100

/-- The entries that a bring-up without a restored copy gives values of its own. -/
def bootKeys : List Nat :=
  [Entry.devDeviceState, Entry.pinsNodeStrap, Entry.pinsSafetyStrap, Entry.canNodeId, Entry.pinsSafeReqLevel, Entry.faultSafeReqState,
    Entry.bootBootImage, Entry.idFirmwareVersion, Entry.dictRestoreSource, Entry.devVcoreMeasured, Entry.bootRepairListEntries,
    Entry.secKeysGenerated, Entry.devJunctionMax, Entry.supplyJunctionMin, Entry.supplyJunctionSensors, Entry.bootBringUpPhase,
    Entry.secSecurityMode, Entry.faultSafetyMode, Entry.bootScreeningMode, Entry.bootScreenProgress, Entry.bootRowsRepaired,
    Entry.bootRowsUnrepairable, Entry.bootGranulesWithheld, Entry.proofProofLevel, Entry.proofPcieResult, Entry.proofZennikLanes,
    Entry.proofEthernetProven, Entry.proofCsiLanes, Entry.proofDsiLanes, Entry.proofLanesFailed, Entry.pcieLinkState,
    Entry.pcieLinkWidth, Entry.pcieLinkGeneration, Entry.bootSelfTestFailures, Entry.sysState, Entry.bootBringUpTime] ++
  (List.range 4).map Entry.csiLanesActive ++ (List.range 16).map Entry.portFlags ++ (List.range 8).map Entry.herdSparesLeft

/-- READY after a bring-up that booted an area (R32 step 7, R448): partition 0 runs, nothing is fenced, and every entry that bring-up
does not name is at its default. -/
def State.isReady (t : State) (env : BootEnv) (area : Nat) : Prop :=
  t.device = 3 ∧ t.n Entry.sysState = 2 ∧ t.n Entry.bootBringUpPhase = 6 ∧ t.n Entry.bootBringUpTime = env.bringUpMs % 2 ^ 32 ∧
  t.n Entry.bootBootImage = area ∧ t.boot.managing = true ∧ t.n Entry.pcieLinkState = 1 ∧
  t.n Entry.faultSafetyMode = ofBool env.safetyEn ∧ t.n Entry.secSecurityMode = 0 ∧ (∀ u, t.fenced u = false) ∧ t.mem = [] ∧
  ∀ k, k ∉ bootKeys → k ≠ Entry.canEventsLost → t.raw k = t.default k

/-- Whether an address lies in `n` bytes at an offset of a partition's range. -/
def State.within (s : State) (p o n a : Nat) : Prop := s.memBase p + o ≤ a ∧ a < s.memBase p + o + n

/-- The device takes entry `e` of a ring as a job (R365 to R367, R369): Head advances, and Submitted counts it. -/
def State.takesJob (s t : State) (p r e : Nat) : Prop :=
  t.jobs = s.jobs ++ [ringJobOf p r (s.ring r).head e] ∧
  t.ring r = { s.ring r with
    head := ((s.ring r).head + 1) % 2 ^ 32, submitted := ((s.ring r).submitted + 1) % 2 ^ 32 } ∧
  t.n (Entry.partRingSubmitted p) = (s.n (Entry.partRingSubmitted p) + 1) % 2 ^ 64

/-- A header is refused (R202): its entry ends when taken with cause 4, and BadCommands counts it. -/
def State.refusesHeader (s t : State) (p r e : Nat) : Prop :=
  t.n (Entry.partRasterBadCommands p) = (s.n (Entry.partRasterBadCommands p) + 1) % 2 ^ 32 ∧
  ∃ u, s.entryEnds u p r e 4 ∧ Keeps u t [Entry.partRasterBadCommands p]

/-- The triangles that a batch gives from one of its primitives on (R201, R205), in order, each with the number under which a pass keeps
it. -/
def State.newTris (s : State) (q : Pass) (h first : Nat) : List (Nat × Tri) :=
  let l := (List.range (batchPrims h - first)).flatMap fun i => s.setUp q h (first + i)
  (List.range l.length).zip l |>.map fun e => (q.nextTri + e.1, e.2)

/-- The list entries of triangles: each tile that their edges reach, with the triangle's number (R215). -/
def newEntries (d : Nat) (l : List (Nat × Tri)) : List (Nat × Nat) := l.flatMap fun e => (e.2.tiles d).map fun k => (k, e.1)

/-- A pass after the triangles of its next batch, from `first` on, have all been binned (R201, R203, R215): with the last batch, every
tile of the target is ready. -/
def State.binnedWith (s : State) (q : Pass) (h first : Nat) : Pass :=
  let l := s.newTris q h first
  let last := q.nextBatch + 1 = bits q.header 96 16 ∧ q.final = false
  { q with
    tris := q.tris ++ l, nextTri := q.nextTri + l.length, setup := q.setup + (48 + 12 * batchAttrs h) * l.length
    entries := q.entries ++ newEntries q.desc l, nextBatch := q.nextBatch + 1, nextPrim := 0, waiting := false
    final := if last then true else q.final, due := if last then List.range (tileCount q.desc) else q.due }

/-- The batch's triangles from `first` on can be read, and the pool has room for all of them (R215). -/
def State.roomFor (s : State) (q : Pass) (h first : Nat) : Prop :=
  (∀ i, first ≤ i → i < batchPrims h → ∀ x ∈ s.triangleReads q.partition q.desc h i, s.readFails q.partition x.1 x.2 = false) ∧
  s.poolBefore q + (s.binnedWith q h first).poolUsed ≤ q.poolSize

/-- The bytes of a plane that a tile's pixels and their blocks' metadata take (R198, R212). -/
def State.planeBytes (s : State) (p d k base bytes a : Nat) : Prop :=
  (∃ e ∈ tilePixels d k, s.within p (base + (e.2 * (descSize d).1 + e.1) * bytes) bytes a) ∨
  ∃ b ∈ tileBlocks d k, s.within p (base + descPixels d * bytes + b) 1 a

/-- The bytes that the end of a job may write: its ring's completions and the count of them in the ring's descriptor (R364). -/
def State.endBytes (s : State) (id a : Nat) : Prop :=
  ∃ j, s.ringJob? id = some j ∧
    (s.within j.partition (s.ring j.ring).completeBase (16 * 2 ^ (s.ring j.ring).slotsLog) a ∨
      s.stores j.partition (s.ringDescAt j.partition j.ring + 32) 4 a)

/-- The jobs of a pass: of its header and of its batches. -/
def Pass.jobs (q : Pass) : List Nat := q.job :: q.batches.map fun b => b.2.1

/-- The end of a pass (R203): it is no longer open, its jobs end, the descriptor's Status shows it, and jobs that no open pass holds are
released (R210). -/
def State.closesPass (s t : State) (q : Pass) : Prop :=
  t.raster.passes = s.raster.passes.filter (fun x => x.id ≠ q.id) ∧
  t.jobs.map (fun j => { j with held := false }) =
    (s.jobs.filter fun j => j.id ∉ q.jobs).map (fun j => { j with held := false }) ∧
  (∀ j ∈ t.jobs, j.held = true → t.outputHeld j.partition j.slot j.param j.b = true) ∧
  t.n Entry.rasterReserveFree = 2 ^ 24 - t.reserveUsed

/-- Units and partitions that a pass and the jobs name exist, and no other pass of its partition waits to bin. -/
def State.plainPass (s : State) (q : Pass) : Prop :=
  q.partition < 9 ∧ (∀ r ∈ q.running, r.unit < 16) ∧ (∀ j ∈ s.jobs, j.partition < 9) ∧ q.jobs.Nodup ∧
  ∀ x ∈ s.raster.passes, x.partition = q.partition → x.id ≠ q.id → x.waiting = false

/-- A report by `reporter` on `u` opens an event (R414, R416): the unit exists and is in service, no open event takes the report, the log
has room, and enough herds work for the device to go on. -/
def State.takesFault (s : State) (reporter u : UnitCode) : Prop :=
  s.hasUnit u = true ∧ s.fenced u = false ∧ s.isPermanent u = false ∧ s.eventFor u = none ∧ s.eventOfReporter reporter u = none ∧
  s.openEvents.length < 256 ∧ s.herdMinimum ≤ s.workingHerds.length ∧ s.anchored ∧ (s.running = true ∨ s.held = true)

/-- An event is opened with the next number, in a log that keeps the last 1,024 records (R414, R416, R417). -/
def State.opensEvent (s t : State) (e : FaultEvent) : Prop :=
  (let l := s.fc.log ++ [{ e with number := (s.n Entry.faultEventsTotal + 1) % 2 ^ 32, openedAt := t.fc.ms }]
   t.fc.log = l.drop (l.length - 1024)) ∧
  t.n Entry.faultEventsTotal = (s.n Entry.faultEventsTotal + 1) % 2 ^ 32 ∧
  t.n Entry.faultOpenEvents = t.openEvents.length ∧ t.n Entry.faultLastEventUnit = unitCode e.unit

/-- A device whose units work is DEGRADED afterwards with a cause, unless it was before (R32 step 9). -/
def State.degrades (s t : State) (cause : Nat) : Prop :=
  t.device = (if s.running = true then 5 else s.device) ∧
  (s.running = true → s.device ≠ 5 → t.n Entry.devStateCause = cause)

/-- The entries that the opening of an event changes. -/
def eventKeys : List Nat :=
  [Entry.faultEventsTotal, Entry.faultOpenEvents, Entry.faultLastEventUnit, Entry.devStateCause, Entry.devDeviceState]

/-- A router, a tile unit or a ray unit is fenced by an event of its own (R207, R226, R410, R411): its State says so, its tiles are due again
and pass to the other units, and its query batch waits for another unit.  Where no partition records, no byte of memory and no other entry
changes. -/
def State.fencesPlain (s t : State) (e : FaultEvent) : Prop :=
  s.opensEvent t { e with reaction := 2 } ∧ s.degrades t 1 ∧ (∀ v, t.fenced v = (s.fenced v || decide (v = e.unit))) ∧
  (e.unit.kind = .tile → t.n (Entry.tileState e.unit.inst) = 2 ∧
    t.raster.passes = s.raster.passes.map fun q => { q with
      units := if q.units.contains e.unit.inst then s.tileUnits.filter (fun v => v ≠ e.unit.inst) else q.units
      due := q.due ++ (q.running.filter fun r => r.unit = e.unit.inst).map TileRun.tile
      running := q.running.filter fun r => r.unit ≠ e.unit.inst }) ∧
  (e.unit.kind = .ray → t.n (Entry.rayState e.unit.inst) = 2 ∧ (∀ q ∈ t.raster.queries, q.unit ≠ some e.unit.inst) ∧
    t.raster.queries.map QueryJob.job = s.raster.queries.map QueryJob.job) ∧
  (s.unrecorded → MemoryKept s t ∧
    EntriesKept s t (eventKeys ++ match e.unit.kind with
      | .tile => [Entry.tileState e.unit.inst]
      | .ray => (List.range 4).map Entry.rayState
      | _ => []))

/-- Whether a job is a COPY with a side in host memory. -/
def RingJob.hostCopy (j : RingJob) : Bool := j.kind = 3 && (j.srcPlace = 1 || j.dstPlace = 1)

/-- The host copies that `f` picks end with cause 9 (R457): they leave, and HostTransferFailures counts them. -/
def State.endsCopies (s t : State) (f : RingJob → Bool) : Prop :=
  t.jobs = s.jobs.filter (fun j => !(j.hostCopy && f j)) ∧
  t.n Entry.pcieHostTransferFailures =
    countedUp 32 (s.n Entry.pcieHostTransferFailures) (s.jobs.filter fun j => j.hostCopy && f j).length ∧
  (∀ j ∈ s.jobs, j.hostCopy = true → f j = true → t.n (Entry.partRingLastCause j.partition) = 9) ∧
  ∀ a, (∀ j ∈ s.jobs, j.hostCopy = true → f j = true → ¬ s.endBytes j.id a) → Memory.read t.mem a = Memory.read s.mem a

/-- The entries that the end of host copies changes. -/
def State.copyKeys (s : State) : List Nat :=
  Entry.pcieHostTransferFailures :: s.jobs.flatMap fun j => [Entry.partRingAbandoned j.partition, Entry.partRingLastCause j.partition]

/-- Ring jobs have numbers of their own and exist in a partition. -/
def State.plainJobs (s : State) : Prop := (s.jobs.map RingJob.id).Nodup ∧ ∀ j ∈ s.jobs, j.partition < 9

/-- What a frame driven on a Zennik link shows: the link, its type, its number and its body. -/
def zennikShown (o : Output) : Option (Nat × Nat × Nat × Bytes) :=
  match o with
  | .zennik z type number _ _ body _ => some (z, type, number, body)
  | _ => none

/-- The frames driven on the links so far. -/
def State.framesOut (s : State) : List (Nat × Nat × Nat × Bytes) := s.out.filterMap zennikShown

/-- FramesSent of the links. -/
def sentKeys : List Nat := (List.range 6).map Entry.zlinkFramesSent

/-- A link that starts its handshake (R384 step 1, R461, R462): on 8 lanes or the 4 lowest good ones, with full credit, and frames from
number 0 that carry the device's own chain. -/
def State.beginsLink (s t : State) (z : Nat) : Prop :=
  t.linkState z = 1 ∧ t.n (Entry.zlinkLanesActive z) = (lanesUsed (s.goodLanes z)).length ∧
  t.n (Entry.zlinkLaneMask z) = maskOf (lanesUsed (s.goodLanes z)) ∧
  (t.zlink z).session = 1 ∧ (t.zlink z).credits = 512 ∧ (t.zlink z).nextRx = 0 ∧
  (let l := pieces 224 s.certChain.length s.certChain
   t.framesOut = s.framesOut ++ ((List.range l.length).zip l).map fun e => (z, 4, e.1 % 2 ^ 64, fit 224 e.2)) ∧
  MemoryKept s t ∧
  EntriesKept s t [Entry.zlinkLinkState z, Entry.zlinkLanesActive z, Entry.zlinkLaneMask z, Entry.zlinkFramesSent z]

/-- A session refused (R384 step 5): it is counted, the link reads 4, and there is no session and no key. -/
def State.refusesLink (s t : State) (z : Nat) : Prop :=
  t.n Entry.peerSessionsRefused = (s.n Entry.peerSessionsRefused + 1) % 2 ^ 32 ∧ t.linkState z = 4 ∧ (t.zlink z).session = 0 ∧
  t.hasKey (.session z) = false ∧
  (s.peers.waiting = [] → (s.zlink z).sent = [] → MemoryKept s t ∧
    EntriesKept s t ([Entry.peerSessionsRefused, Entry.zlinkLinkState z, Entry.udpUdpSessions, Entry.fabricReachable,
      Entry.fabricRouteChanges] ++ sentKeys))

/-- No stream adapts and no sample waits for training (R337, R341). -/
def State.unadapting (s : State) : Prop :=
  ∀ p, (s.adaptPart p).queue = [] ∧ ∀ e ∈ (s.adaptPart p).streams, e.2.state = adaptOff

/-- A view that waits for no generation job at its compose point (R138, R159): it shows a true frame, a held one or none. -/
def ViewChoice.settled (v : ViewChoice) : Prop :=
  v.code ≠ provFill ∧ v.code ≠ provLead ∧ ∀ i src ts target, v.pic ≠ some (.lead i src ts target)

/-- A view as its compose point finds it: whether a block of its layer meets a region without synthesis (R146). -/
def State.metView (s : State) (n : Nat) (v : ViewChoice) : ViewChoice :=
  match (s.cameraLayers n).find? fun l => l.index = v.layer, v.pic with
  | some l, some _ => { v with plain := s.showsPlain n l }
  | _, _ => v

/-- The camera views of a port in frame F, in layer order, as its choice gives them (R137, R244). -/
def State.cameraViews (s : State) (n F : Nat) : List ViewChoice :=
  let views := (((s.portRt n).choiceOf F).map FrameChoice.views).getD []
  let views := if ((s.portRt n).chosen.head?.map FrameChoice.frame) = some F then views.map (s.metView n) else views
  (s.cameraLayers n).map fun l => (views.find? fun v => v.layer = l.index).getD { layer := l.index }

/-- A view whose frame is younger than the freshness limit at the compose point of F (R244). -/
def State.fresh (s : State) (n F : Nat) (v : ViewChoice) : Prop :=
  ∃ a, s.sourceAge n F v = some a ∧ a ≤ (s.timing n).lines (s.n (Entry.portFreshnessLimit n)) 1000

end Sys2Proof.Machine
end

