-- ==== Sys2Proof/Certificates/Slice0/Obligations.lean ====
section
/-! DEFINITION. The statements for the provers, one proposition each. What they share (what a step keeps, what a command leaves unchanged,
what an entry into a state is) is defined in Safety.  Each docstring names the rules of spec/ that the statement rests on. -/

open Sys2Proof Sys2Proof.Machine

/-- A step takes the command at the front of the queue and is its effect on the rest; with no command waiting the block idles (the model's
choice, log entry 1). -/
def Obligations.CommandsInOrder : Prop :=
  ∀ (s : State) (c : Instr) (rest : List Instr),
    (s.pending = c :: rest → step s = exec c { s with pending := rest }) ∧ (s.pending = [] → step s = .next s)

/-- R31, R32, R39: right after reset the device is OFF, every entry reads its default, external memory is blank and in its canonical form,
nothing is fenced, nothing runs and no command waits. That unwritten memory reads 0 follows R381; the values of entries without a stated
default are the model's (log entry 3). -/
def Obligations.ResetState : Prop :=
  State.reset.device = 0 ∧ (∀ k, State.reset.raw k = State.reset.default k) ∧ (∀ a, Memory.read State.reset.mem a = 0) ∧
  State.reset.canonical ∧ State.reset.pending = [] ∧ State.reset.out = [] ∧ (∀ u, State.reset.fenced u = false) ∧
  State.reset.openEvents = [] ∧ State.reset.jobs = [] ∧ State.reset.raster = {} ∧ State.reset.gen.jobs = [] ∧
  (∀ n, n < 16 → State.reset.portState n = 0 ∧ State.reset.vouched n = false) ∧ (∀ p, p < 9 → State.reset.partState p = 0) ∧
  ∀ i, i < 512 → State.reset.streamState i = 0

/-- R17, R381: external memory keeps its canonical form in every step: its cells rise by address, and no cell lists what an unlisted address
reads as, so that equal memories are equal data. -/
def Obligations.StepsKeepCanonicalMemory : Prop := ∀ s t : State, s.canonical → step s = .next t → t.canonical

/-- R1, R2: in every state every command leads to a next state: none stops the machine. One that names a herd or a raster port that the part
does not have changes nothing (DEDUCED, log entry 83). -/
def Obligations.CommandsAnswer : Prop :=
  ∀ (c : Instr) (s : State), (∃ t, exec c s = .next t) ∧
    ∀ u, unitNamed c = some u → s.hasUnit u = false → ∃ t, exec c s = .next t ∧ Keeps s t []

/-- R395, R396: what a command leads to carries the epochs of what it changed: DeviceEpoch advances by 1 where a field of the report header
differs, and a partition's epoch where its section differs; nothing else of the state depends on the epochs, and a device that is OFF has
none. That one command advances an epoch by 1 is the model's choice (log entry 35). -/
def Obligations.EpochsFollow : Prop :=
  (∀ (c : Instr) (s t : State), exec c s = .next t → ∃ u, t = s.seal u) ∧
  ∀ s t : State, Keeps t (s.seal t) [] ∧
    (t.device = 0 → (s.seal t).security.epoch = t.security.epoch ∧ ∀ p, (s.seal t).epochOf p = t.epochOf p) ∧
    (t.device ≠ 0 →
      (s.seal t).security.epoch = (if s.headerFields ≠ t.headerFields ∨ s.headerDigests ≠ t.headerDigests then
        (t.security.epoch + 1) % 2 ^ 32 else t.security.epoch) ∧
      ∀ p, p < 9 → (s.seal t).epochOf p = if s.sectionChanged t p then (t.epochOf p + 1) % 2 ^ 32 else t.epochOf p)

/-- R32 step 1, R475: RESET_n asserted, and a rail below its monitor range, lead to OFF: every entry is at its default, the external memory is
lost, and only what is fixed for the unit, the board's flash, the TAP, the pins, the outputs so far and the queue stay. R33, R34, R475,
R479, R485: a SYSCLK failure, a junction at 110 °C and a rail above its range lead to FAULT_HOLD with causes 8, 4 and 7; a device that is
OFF or in FAULT_HOLD already does not enter it again, and of these only cause 4 then replaces the cause. Each of these completes where its
conditions hold (the next state is a conclusion): SUPPLY_MONITOR_SAMPLE, RESET_ASSERTED, SYSCLK_FAILURE, JUNCTION_SENSOR_READ. -/
def Obligations.PowerLossAndHold : Prop :=
  (∀ (s : State) (mv : List Nat),
     (∃ t, exec .resetAsserted s = .next t ∧ (∀ k, t.raw k = t.default k) ∧ (∀ a, Memory.read t.mem a = 0) ∧
       State.rest t = State.rest { State.reset with
         pending := s.pending, part := s.part, fuses := s.fuses, free := s.free, inputs := s.inputs, flash := s.flash, tap := s.tap
         boot := { State.reset.boot with suppliesOk := s.boot.suppliesOk } } ∧ t.out = s.out) ∧
     ((∃ i v r, i < 8 ∧ mv[i]? = some v ∧ railRanges[i]? = some r ∧ 2 * v < r.1) →
       ∃ t, exec (.supplyMonitorSample mv) s = .next t ∧ (∀ k, t.raw k = t.default k) ∧ (∀ a, Memory.read t.mem a = 0) ∧
         State.rest t = State.rest { State.reset with
           pending := s.pending, part := s.part, fuses := s.fuses, free := s.free, inputs := s.inputs, flash := s.flash, tap := s.tap
           boot := { State.reset.boot with suppliesOk := false } } ∧ t.out = s.out)) ∧
  ((∀ s : State, ∃ t, exec .sysclkFailure s = .next t ∧ MemoryKept s t ∧
     (s.device = 0 → Keeps s t []) ∧
     (s.device ≠ 0 → t.n Entry.supplySysclkState = 1) ∧
     (s.device ≠ 0 → s.device ≠ 6 → s.entersHold t 8) ∧
     (s.device = 6 → Keeps s t [Entry.supplySysclkState])) ∧
   (∀ (s : State) (l : List Int), s.device ≠ 0 → (∃ z ∈ l, 1100 ≤ z) →
     ∃ t, exec (.junctionSensorRead l) s = .next t ∧ MemoryKept s t ∧ t.n Entry.devStateCause = 4 ∧
       (s.device ≠ 6 → s.entersHold t 4) ∧
       (s.device = 6 → Keeps s t [Entry.devJunctionMax, Entry.supplyJunctionMin, Entry.supplyJunctionSensors,
         Entry.supplyThermalWarnings, Entry.devStateCause])) ∧
   ∀ (s : State) (mv : List Nat), s.device ≠ 0 →
     (∀ (i v : Nat) (r : Nat × Nat), mv[i]? = some v → railRanges[i]? = some r → r.1 ≤ 2 * v) →
     (∃ (i v : Nat) (r : Nat × Nat), mv[i]? = some v ∧ railRanges[i]? = some r ∧ r.2 < 2 * v) →
     ∃ t, exec (.supplyMonitorSample mv) s = .next t ∧ MemoryKept s t ∧
       (∃ (i v : Nat) (r : Nat × Nat), mv[i]? = some v ∧ railRanges[i]? = some r ∧ r.2 < 2 * v ∧ t.n Entry.supplySupplyFault = i + 1) ∧
       (s.device ≠ 6 → s.entersHold t 7) ∧
       (s.device = 6 → Keeps { s with pace := { s.pace with rails := mv } } t [Entry.supplySupplyVoltages, Entry.supplySupplyFault]))

/-- R475, R489: a sample of the rail monitors with every rail in its range. In OFF it says that the supplies are in range; otherwise the eight
readings are held, and outside confidential mode SupplyVoltages shows them. R485, R489: a read of the 24 junction sensors below 110 °C:
JunctionMax and JunctionMin show the greatest and the least, JunctionSensors each of them; ThermalWarnings counts when the greatest rises
to the grade's maximum. Each of these completes where its conditions hold (the next state is a conclusion): SUPPLY_MONITOR_SAMPLE,
JUNCTION_SENSOR_READ. -/
def Obligations.SensorsShown : Prop :=
  (∀ (s : State) (mv : List Nat), mv.length = 8 →
     (∀ (i v : Nat) (r : Nat × Nat), mv[i]? = some v → railRanges[i]? = some r → r.1 ≤ 2 * v ∧ 2 * v ≤ r.2) →
     ∃ t, exec (.supplyMonitorSample mv) s = .next t ∧
       (s.device = 0 → Keeps { s with boot := { s.boot with suppliesOk := true } } t []) ∧
       (s.device ≠ 0 → Keeps { s with pace := { s.pace with rails := mv } } t [Entry.supplySupplyVoltages] ∧
         (s.confidential = true → t.raw Entry.supplySupplyVoltages = s.raw Entry.supplySupplyVoltages) ∧
         (s.confidential = false → t.b Entry.supplySupplyVoltages = mv.flatMap (leBytes 2)))) ∧
  (∀ (s : State) (l : List Int), s.device ≠ 0 → l.length = 24 → (∀ z ∈ l, z < 1100) →
     ∃ t, exec (.junctionSensorRead l) s = .next t ∧
       t.z Entry.devJunctionMax ∈ l ∧ (∀ z ∈ l, z ≤ t.z Entry.devJunctionMax) ∧
       t.z Entry.supplyJunctionMin ∈ l ∧ (∀ z ∈ l, t.z Entry.supplyJunctionMin ≤ z) ∧
       t.b Entry.supplyJunctionSensors = l.flatMap (fun z => leBytes 2 (unsigned 16 z)) ∧
       t.n Entry.supplyThermalWarnings =
         (if s.z Entry.devJunctionMax < s.gradeMax ∧ s.gradeMax ≤ t.z Entry.devJunctionMax
           then (s.n Entry.supplyThermalWarnings + 1) % 2 ^ 32 else s.n Entry.supplyThermalWarnings) ∧
       Keeps s t [Entry.devJunctionMax, Entry.supplyJunctionMin, Entry.supplyJunctionSensors, Entry.supplyThermalWarnings])

/-- R18, R19, R22, R35, R389: the end of a window of herd h's pace monitor that makes no pace fault. The pace is held; a pace under 840 adds
the supply voltage in force to the floor of failed voltages; outside confidential mode HerdPace of the herd shows it and PaceMin is the
least pace of the herds in service. R20, R23: each check reads READ_VOUT. A reading within 15 mV of the voltage in force is the last good
one; a first transaction without acknowledge is remembered; a reading further away, and a second transaction without acknowledge, make the
supply treated as fixed. R26, R414: the expiry of a station's watchdog whose suspect is fenced under an open event: it is counted, the
baton concerned is abandoned, and the report merges into that event. Each of these completes where its conditions hold (the next state is
a conclusion): PACE_MONITOR_WINDOW, READ_VOUT_CHECK, WATCHDOG_EXPIRY. -/
def Obligations.PaceMeasured : Prop :=
  (∀ (s : State) (h : Fin 8) (pace : Nat), h.val < s.herdCount → s.device ≠ 0 →
     (800 ≤ pace ∨ (s.pace.setpoint ≠ 850 ∧ s.pace.fixed = false)) →
     ∃ t, exec (.paceMonitorWindow h pace) s = .next t ∧
       Assoc.find t.pace.paces h = some pace ∧
       (∀ g, g ≠ h.val → Assoc.find t.pace.paces g = Assoc.find s.pace.paces g) ∧
       (∀ v, v ∈ t.pace.floorAt ↔ v ∈ s.pace.floorAt ∨ (pace < 840 ∧ v = s.pace.setpoint)) ∧
       (s.confidential = false →
         t.n (Entry.herdPace h) = pace ∧
         (t.livePaces ≠ [] → t.n Entry.devPaceMin ∈ t.livePaces ∧ ∀ m ∈ t.livePaces, t.n Entry.devPaceMin ≤ m) ∧
         t.n Entry.devVcoreSetpoint = s.pace.setpoint ∧ t.n Entry.devSlackMin = s.pace.slackMin) ∧
       (s.confidential = true → Keeps { s with pace := t.pace } t []) ∧
       Keeps { s with pace := t.pace } t ([Entry.devVcoreSetpoint, Entry.devVcoreMeasured, Entry.devSlackMin, Entry.devPaceMin] ++
         (List.range 8).map Entry.herdPace)) ∧
  (∀ s : State, 3 ≤ s.device →
     (∀ v : Nat, v ≤ s.pace.setpoint + 15 → s.pace.setpoint ≤ v + 15 →
       ∃ t, exec (.readVoutCheck (some v)) s = .next t ∧
         t.pace = { s.pace with nacks := 0, measured := v, lastGood := v } ∧
         (s.confidential = false → t.n Entry.devVcoreMeasured = v) ∧
         Keeps { s.emit (.pmbus (s.n Entry.devPmbusAddress) 0x8B none (s.n Entry.devPmbusRate = 1)) with pace := t.pace } t
           ([Entry.devVcoreSetpoint, Entry.devVcoreMeasured, Entry.devSlackMin, Entry.devPaceMin] ++ (List.range 8).map Entry.herdPace)) ∧
     (s.pace.nacks = 0 → ∃ t, exec (.readVoutCheck none) s = .next t ∧
       Keeps { s.emit (.pmbus (s.n Entry.devPmbusAddress) 0x8B none (s.n Entry.devPmbusRate = 1)) with
         pace := { s.pace with nacks := 1 } } t []) ∧
     (s.pace.nacks ≠ 0 → ∃ t, exec (.readVoutCheck none) s = .next t ∧ t.pace.fixed = true) ∧
     ∀ v : Nat, s.pace.setpoint + 15 < v ∨ v + 15 < s.pace.setpoint →
       ∃ t, exec (.readVoutCheck (some v)) s = .next t ∧ t.pace.fixed = true) ∧
  (∀ (s : State) (reporter suspect : UnitCode) (e : FaultEvent) (baton : Option Baton),
     3 ≤ s.device → s.device ≠ 6 → s.watchdogOff reporter = false → s.hasUnit reporter = true → s.hasUnit suspect = true →
     s.isPermanent suspect = false → s.eventFor suspect = some e → e.unit = suspect → s.fenced suspect = true → suspect.kind ≠ .kid →
     s.herdMinimum ≤ s.workingHerds.length → s.anchored →
     let u := (s.bump Entry.devWatchdogCount).withSome baton (s.bump Entry.devWatchdogCount).abandonBaton
     ∃ t, exec (.watchdogExpiry reporter suspect baton) s = .next t ∧
       t.n Entry.devWatchdogCount = (s.n Entry.devWatchdogCount + 1) % 2 ^ 32 ∧
       t.n Entry.faultReportsMerged = (s.n Entry.faultReportsMerged + 1) % 2 ^ 64 ∧
       t.fc.log = s.fc.log.map (fun x => if x.number = e.number then
         { x with merged := x.merged + 1, cls := if x.cls = .correctable then .uncorrectable else x.cls, failed := x.failed || x.recovering }
         else x) ∧
       Keeps { u with fc := { u.fc with log := t.fc.log } } t [Entry.faultReportsMerged, Entry.devDeviceState, Entry.devStateCause])

/-- R20, R22, R35: what a control interval does while the supply is not treated as fixed and no partition records arrivals, and whose write of
the voltage is not the second in a row without acknowledge: a pace under 840 or a slack under PaceMargin raises the voltage by 10 mV, at
850 mV one more level is shed, and at level 3 a short slack is counted. R22: a control interval whose slack reaches the lower threshold
with every pace at 840 or more: a shed level is given back, else a quiet interval is counted, and the sixteenth lowers the voltage by 5 mV
unless a pace failed there before or it is the least. Each of these completes where its conditions hold (the next state is a conclusion):
PACE_CONTROL_INTERVAL. -/
def Obligations.PaceControlSteps : Prop :=
  (∀ (s : State) (r w : Option Nat) (q : Bool), s.running = true → s.pace.fixed = false → s.unrecorded → (q = true ∨ s.pace.nacks = 0) →
     ((∃ m ∈ s.livePaces, m < 840) ∨ lowestSlack s.pace.slacks < s.n Entry.devPaceMargin) →
     ∃ t, exec (.paceControlInterval r ⟨q, w⟩) s = .next t ∧ t.pace.slackMin = lowestSlack s.pace.slacks ∧ t.pace.slacks = [] ∧
       (s.pace.setpoint ≠ 850 →
         t.pace.setpoint = min 850 (s.pace.setpoint + 10) ∧ t.pace.quiet = 0 ∧
         Output.pmbus (s.n Entry.devPmbusAddress) 0x21 (some (Config.linear16 (min 850 (s.pace.setpoint + 10))).toNat)
           (s.n Entry.devPmbusRate = 1) ∈ t.out ∧
         t.n Entry.devShedLevel = s.n Entry.devShedLevel ∧ t.n Entry.devFloorBreaches = s.n Entry.devFloorBreaches) ∧
       (s.pace.setpoint = 850 →
         t.pace.setpoint = 850 ∧ t.pace.quiet = 0 ∧
         (s.n Entry.devShedLevel < 3 → t.n Entry.devShedLevel = s.n Entry.devShedLevel + 1 ∧
           t.n Entry.devSlackShortCount = s.n Entry.devSlackShortCount) ∧
         (3 ≤ s.n Entry.devShedLevel → t.n Entry.devShedLevel = s.n Entry.devShedLevel ∧
           t.n Entry.devSlackShortCount = (if lowestSlack s.pace.slacks < s.n Entry.devPaceMargin
             then (s.n Entry.devSlackShortCount + 1) % 2 ^ 32 else s.n Entry.devSlackShortCount)) ∧
         ((∃ m ∈ s.livePaces, m < 840) → t.n Entry.devFloorBreaches = (s.n Entry.devFloorBreaches + 1) % 2 ^ 32)) ∧
       MemoryKept s t ∧
       EntriesKept s t ([Entry.devVcoreSetpoint, Entry.devVcoreMeasured, Entry.devSlackMin, Entry.devPaceMin, Entry.devShedLevel,
           Entry.devFloorBreaches, Entry.devSlackShortCount, Entry.supplySupplyVoltages, Entry.devPackagePower] ++ rateKeys ++
         (List.range 8).map Entry.herdPace ++ userPartitions.map Entry.schedWindowSlack)) ∧
  (∀ (s : State) (r w : Option Nat) (q : Bool), s.running = true → s.pace.fixed = false → s.unrecorded → (q = true ∨ s.pace.nacks = 0) →
     (∀ m ∈ s.livePaces, 840 ≤ m) → s.n Entry.devPaceMargin ≤ lowestSlack s.pace.slacks →
     ∃ t, exec (.paceControlInterval r ⟨q, w⟩) s = .next t ∧ t.pace.slackMin = lowestSlack s.pace.slacks ∧
       t.n Entry.devFloorBreaches = s.n Entry.devFloorBreaches ∧ t.n Entry.devSlackShortCount = s.n Entry.devSlackShortCount ∧
       (lowestSlack s.pace.slacks < s.lowerSlack → t.pace.setpoint = s.pace.setpoint ∧ t.pace.quiet = 0 ∧
         t.n Entry.devShedLevel = s.n Entry.devShedLevel) ∧
       (s.lowerSlack ≤ lowestSlack s.pace.slacks → 0 < s.n Entry.devShedLevel → t.pace.setpoint = s.pace.setpoint ∧ t.pace.quiet = 0 ∧
         t.n Entry.devShedLevel = s.n Entry.devShedLevel - 1) ∧
       (s.lowerSlack ≤ lowestSlack s.pace.slacks → s.n Entry.devShedLevel = 0 →
         t.n Entry.devShedLevel = 0 ∧
         (if 16 ≤ s.pace.quiet + 1 ∧ max 620 (s.pace.setpoint - 5) < s.pace.setpoint ∧ max 620 (s.pace.setpoint - 5) ∉ s.pace.floorAt
           then t.pace.setpoint = max 620 (s.pace.setpoint - 5) ∧ t.pace.quiet = 0 ∧
             Output.pmbus (s.n Entry.devPmbusAddress) 0x21 (some (Config.linear16 (max 620 (s.pace.setpoint - 5))).toNat)
               (s.n Entry.devPmbusRate = 1) ∈ t.out
           else t.pace.setpoint = s.pace.setpoint ∧ t.pace.quiet = s.pace.quiet + 1)) ∧
       MemoryKept s t ∧
       EntriesKept s t ([Entry.devVcoreSetpoint, Entry.devVcoreMeasured, Entry.devSlackMin, Entry.devPaceMin, Entry.devShedLevel,
           Entry.supplySupplyVoltages, Entry.devPackagePower] ++ rateKeys ++ (List.range 8).map Entry.herdPace ++
         userPartitions.map Entry.schedWindowSlack))

/-- R32 steps 1 to 7, R34, R448, R486: a device that power left in OFF, of which every part is good and which holds no saved entries, comes up
to READY when RESET_n is released; one that is colder than its grade allows waits in BOOT and comes up when the warmth is reached; a
Restart of a device whose management cores run leads to the same. Each of these completes where its conditions hold (the next state is a
conclusion): RESET_RELEASED, JUNCTION_MIN_REACHED, RESTART. -/
def Obligations.BringUpReachesReady : Prop :=
  ∀ (u : State) (env cold : BootEnv) (a : Nat), cleanBoot env → cleanBoot cold → u.fuses.herdsOff = [] → u.fuses.kidsOut = [] →
    u.fuses.unitsBad = [] → u.flash.saveA = none → u.flash.saveB = none → u.flash.repairs = [] →
    (∀ z ∈ env.junctions, u.gradeMin ≤ z) → (∃ z ∈ cold.junctions, z < u.gradeMin) →
    ((u.toOff.bootBegins env).bootArea env = some a →
      (∃ t, exec (.resetReleased env) u.toOff = .next t ∧ t.isReady env a) ∧
      (u.answers = true → ∃ t, exec (.restart env) u = .next t ∧ t.isReady env a)) ∧
    ((u.toOff.bootBegins cold).bootArea cold = some a →
      (∃ t, exec (.resetReleased cold) u.toOff = .next t ∧ t.device = 1 ∧ t.n Entry.bootBringUpPhase = 1 ∧ t.boot.waitingHeat = true) ∧
      ∀ t, exec (.resetReleased cold) u.toOff = .next t →
        ∃ w, exec (.junctionMinReached env) t = .next w ∧ w.isReady { env with safetyEn := cold.safetyEn } a)

/-- R34, R39 to R42, R45, R46: a write of an entry that passes the access checks stores the clamped value, and sets RestartPending where the
value takes effect at a restart and changes; a write that fails a check, that of a virtual function whose partition is SCRUBBING, and one
in FAULT_HOLD of another entry than Restart change nothing. Storing is stated of an entry of which a write does nothing more. R58, R59:
Save takes a snapshot of the RWP entries that differ from their defaults and shows that it runs; another one waits with its snapshot for
its end. At the end the snapshot is the copy in the area that did not hold the newest valid copy, which stays. RestoreDefaults gives every
RWP entry its default and leaves the others and the flash; stated of a device on which nothing adapts. Each of these completes where its
conditions hold (the next state is a conclusion): ENTRY_WRITE, SAVE, SAVE_COMPLETE, RESTORE_DEFAULTS. -/
def Obligations.EntriesWrittenAndSaved : Prop :=
  (∀ (s : State) (who : Requester) (index : BitVec 16) (sub : BitVec 8) (b : Bytes) (k : Nat),
     k = index.toNat * 256 + sub.toNat →
     (∀ r, s.row k = some r → s.check who k true b.length = 0 → s.running = true → s.boot.managing = true → s.scrubbing who = false →
       plainEntry k → r.clamps b = false →
       ∃ t, exec (.entryWrite who index sub b) s = .next t ∧ t.raw k = r.clamp b ∧
         (restartEntry k = true → s.raw k ≠ r.clamp b → t.n Entry.dictRestartPending = 1) ∧
         (restartEntry k = false → t.n Entry.dictRestartPending = s.n Entry.dictRestartPending) ∧
         Keeps s t [k, Entry.dictRestartPending]) ∧
     (∀ r, s.row k = some r → s.check .can k true b.length = 0 → s.running = true → s.boot.managing = true →
       plainEntry k → r.clamps b = true →
       ∃ t, exec (.entryWrite .can index sub b) s = .next t ∧ t.raw k = r.clamp b ∧
         t.n Entry.canClampCount = (s.n Entry.canClampCount + 1) % 2 ^ 32 ∧
         Keeps s t [k, Entry.dictRestartPending, Entry.canClampCount]) ∧
     (s.check who k true b.length ≠ 0 ∨ s.scrubbing who = true ∨ (s.held = true ∧ k ≠ Entry.devRestart) →
       ∃ t, exec (.entryWrite who index sub b) s = .next t ∧ Keeps s t [])) ∧
  (∀ (s : State), s.running = true → s.boot.managing = true →
     (s.boot.saving = none → ∃ t, exec .save s = .next t ∧ t.n Entry.dictSaveStatus = 1 ∧
       Keeps { s with boot := { s.boot with saving := some s.saveSnapshot } } t [Entry.dictSaveStatus]) ∧
     (∀ l, s.boot.saving = some l → ∃ t, exec .save s = .next t ∧
       Keeps { s with boot := { s.boot with saveQueued := some (s.boot.saveQueued.getD s.saveSnapshot) } } t []) ∧
     (∀ l ok, s.boot.saving = some l → s.boot.saveQueued = none → ∃ t, exec (.saveComplete ok) s = .next t ∧
       (ok = true → t.n Entry.dictSaveStatus = 2 ∧ t.n Entry.dictSaveCount = (s.n Entry.dictSaveCount + 1) % 2 ^ 32 ∧
         t.newestSave.map (fun c => c.2.entries) = some l) ∧
       (ok = false → t.n Entry.dictSaveStatus = 3 ∧ t.n Entry.dictSaveFailCount = (s.n Entry.dictSaveFailCount + 1) % 2 ^ 32) ∧
       (∀ c, s.flash.saveA = some c → c.valid = true → (∀ d, s.flash.saveB = some d → d.valid = true → d.number < c.number) →
         0 < c.number → t.flash.saveA = some c) ∧
       (∀ c, s.flash.saveB = some c → c.valid = true → (∀ d, s.flash.saveA = some d → d.valid = true → d.number ≤ c.number) →
         t.flash.saveB = some c) ∧
       Keeps { s with flash := t.flash, boot := { s.boot with saving := none }, free := t.free } t
         [Entry.dictSaveStatus, if ok then Entry.dictSaveCount else Entry.dictSaveFailCount]) ∧
     (s.unadapting → ∃ t, exec .restoreDefaults s = .next t ∧
       (∀ k r, s.row k = some r → r.acc = .rwp → t.raw k = s.default k) ∧
       (∀ k, (∀ r, s.row k = some r → r.acc ≠ .rwp) → k ≠ Entry.dictRestartPending → k ≠ Entry.canEventsLost → t.raw k = s.raw k) ∧
       t.flash = s.flash ∧ MemoryKept s t))

/-- R42, R43, R47, R48, R50 to R52: an expedited read of an entry that passes the access checks is answered with its value of at most 56
bytes, an expedited write is answered and its clamped value is stored (stated of an entry of which a write only stores); a request that
fails a check, and one with an unknown command, are answered with an abort and change no other entry; a frame that is not for this node is
ignored. A frame that is received is one heard without error. R47, R48, R50, R54: the error counters with what they lead to, the recovery
from bus-off, which BusOffCount counts, and the sending of the oldest queued event in a frame of this node with the event counter as its
sequence number, filled up to a CAN FD length; where events were dropped, their number is queued next. The steps of the error counters are
the model's choice (PRESUMED, log entry 50). Each of these completes where its conditions hold (the next state is a conclusion):
CAN_EXPEDITED_READ, CAN_EXPEDITED_WRITE, CAN_FRAME_IGNORED, CAN_BUS_OFF_RECOVERY, JALMON_EVENT_SEND, CAN_BUS_ERROR. -/
def Obligations.CanTransfersAndEvents : Prop :=
  (∀ (s : State) (f : JalmonFrame) (k : Nat), k = frameKey f →
     let u := s.canHeard
     (u.canTakes f.cls.toNat f.node.toNat = true → asks f 1 →
       (∀ r, u.row k = some r → u.check .can k false 0 = 0 → (u.readBytes k).length ≤ 56 →
         ∃ t, exec (.canExpeditedRead f) s = .next t ∧
           Keeps (u.canTransmit f.seq.toNat (jalmonHeader 0x81 0 k (u.readBytes k).length r.ty.code ++ u.readBytes k)) t []) ∧
       (u.check .can k false 0 = 0 → 56 < (u.readBytes k).length →
         ∃ t, exec (.canExpeditedRead f) s = .next t ∧ u.aborts t f.seq.toNat k 0x0016) ∧
       (u.check .can k false 0 ≠ 0 →
         ∃ t, exec (.canExpeditedRead f) s = .next t ∧ u.aborts t f.seq.toNat k (u.check .can k false 0))) ∧
     (u.canTakes f.cls.toNat f.node.toNat = true → asks f 2 →
       (∀ r, u.row k = some r → u.check .can k true f.length.toNat = 0 → s.running = true → plainEntry k →
         ∃ t, exec (.canExpeditedWrite f) s = .next t ∧ t.raw k = r.clamp (frameValue f) ∧
           (r.clamps (frameValue f) = true → t.n Entry.canClampCount = (s.n Entry.canClampCount + 1) % 2 ^ 32) ∧
           (r.clamps (frameValue f) = false → t.n Entry.canClampCount = s.n Entry.canClampCount) ∧
           Keeps (u.canTransmit f.seq.toNat (jalmonHeader 0x82 0 k 0 0)) t [k, Entry.dictRestartPending, Entry.canClampCount]) ∧
       (u.check .can k true f.length.toNat ≠ 0 →
         ∃ t, exec (.canExpeditedWrite f) s = .next t ∧ u.aborts t f.seq.toNat k (u.check .can k true f.length.toNat))) ∧
     (u.canTakes f.cls.toNat f.node.toNat = true → f.command.toNat = 0 ∨ 6 < f.command.toNat →
       ∃ t, exec (.canExpeditedRead f) s = .next t ∧ u.aborts t f.seq.toNat k 0x0010) ∧
     (u.canTakes f.cls.toNat f.node.toNat = false →
       (∃ t, exec (.canExpeditedRead f) s = .next t ∧ Keeps u t []) ∧ ∃ t, exec (.canExpeditedWrite f) s = .next t ∧ Keeps u t []) ∧
     ∀ why : IgnoredFrame, ∃ t, exec (.canFrameIgnored why) s = .next t ∧ Keeps u t []) ∧
  (∀ s : State,
     (∀ e, s.canListens = true → e = .receive ∨ e = .receiveDominant ∨ s.canAlive = true →
       ∃ t, exec (.canBusError e) s = .next t ∧
         t.n Entry.canRxErrorCount = min 255 (s.n Entry.canRxErrorCount + match e with | .receive => 1 | .receiveDominant => 8 | .transmit => 0) ∧
         t.n Entry.canTxErrorCount = min 255 (s.can.transmitErrors + if e = .transmit then 8 else 0) ∧
         t.can.busOff = decide (255 < s.can.transmitErrors + if e = .transmit then 8 else 0) ∧
         Keeps { s with can := { s.can with
             transmitErrors := t.can.transmitErrors, errorPassive := t.can.errorPassive, busOff := t.can.busOff } } t
           [Entry.canRxErrorCount, Entry.canTxErrorCount]) ∧
     (s.can.busOff = true → s.on Entry.supplySysclkState = false → ∃ t, exec .canBusOffRecovery s = .next t ∧
       t.n Entry.canRxErrorCount = 0 ∧ t.n Entry.canTxErrorCount = 0 ∧
       t.n Entry.canBusOffCount = (s.n Entry.canBusOffCount + 1) % 2 ^ 32 ∧
       Keeps { s with can := { s.can with transmitErrors := 0, errorPassive := false, busOff := false } } t
         [Entry.canRxErrorCount, Entry.canTxErrorCount, Entry.canBusOffCount]) ∧
     (∀ e r, s.canAlive = true → s.can.events = true → s.can.queue = e :: r →
       ∃ t, exec .jalmonEventSend s = .next t ∧
         (let data := jalmonHeader (if e.key = Entry.canEventsLost then 0xE3 else 0xE1) 0 e.key e.value.length e.type ++ e.value
          Output.can (packFields [(16, s.can.eventCounter), (7, s.n Entry.canNodeId), (1, 0), (5, 0x0E)])
            (fit (canLength data.length) data) ∈ t.out) ∧
         t.can.queue = r ++ (if s.can.droppedSince = 0 then []
           else [{ key := Entry.canEventsLost, type := 4, value := leBytes 4 s.can.droppedSince }]) ∧
         t.can.eventCounter = (s.can.eventCounter + 1) % 2 ^ 16 ∧ t.can.droppedSince = 0 ∧
         MemoryKept s t ∧ EntriesKept s t [Entry.canRxErrorCount, Entry.canTxErrorCount] ∧
         State.rest { t with can := s.can } = State.rest s))

/-- R53: a segmented transfer is opened with the total that the answer or the request gives; its segments come in order, with 60 bytes each
but for the last, which closes it; the value of a write is written once its last segment is there, where it has the length declared; a
cancel and the passing of SegmentTimeout close the transfer and write nothing. Each of these completes where its conditions hold (the next
state is a conclusion): CAN_INITIATE_SEGMENTED_READ, CAN_INITIATE_SEGMENTED_WRITE, CAN_DATA_SEGMENT, CAN_CANCEL, SEGMENT_TIMEOUT. -/
def Obligations.CanSegmentedTransfers : Prop :=
  ∀ (s : State) (f : JalmonFrame) (g : JalmonSegment) (k : Nat), k = frameKey f →
    let u := s.canHeard
    (u.canTakes f.cls.toNat f.node.toNat = true → u.can.transfer = none →
      (asks f 3 → u.check .can k false 0 = 0 → ∃ t, exec (.canInitiateSegmentedRead f) s = .next t ∧
        Keeps ({ u with can := { u.can with
            transfer := some { write := false, seq := f.seq.toNat, key := k, total := (u.readBytes k).length, data := u.readBytes k }
            lastCancelled := none, lastTimedOut := none } }.canTransmit
          f.seq.toNat (jalmonHeader 0x83 0 k 4 0 ++ leBytes 4 (u.readBytes k).length)) t []) ∧
      (∀ r total, asks f 4 → u.row k = some r → r.acc ≠ .ro → r.acc ≠ .const → u.reaches 0 k = true → u.held = false →
        frameValue f = leBytes 4 total → total ≤ 65536 → r.ty.fits total = true →
        ∃ t, exec (.canInitiateSegmentedWrite f) s = .next t ∧
          Keeps ({ u with can := { u.can with
              transfer := some { write := true, seq := f.seq.toNat, key := k, total := total }
              lastCancelled := none, lastTimedOut := none } }.canTransmit f.seq.toNat (jalmonHeader 0x84 0 k 0 0)) t [])) ∧
    (∀ x, u.canTakes g.cls.toNat g.node.toNat = true → u.can.transfer = some x → x.seq = g.seq.toNat → x.next = g.segment.toNat →
      (x.write = false → ∃ t, exec (.canDataSegment g) s = .next t ∧
        Keeps ({ u with can := { u.can with
            transfer := if x.data.length ≤ 60 * (x.next + 1) then none else some { x with next := x.next + 1 } } }.canTransmit x.seq
          ((leBytes 4 (0x85 * 2 ^ 24 + (if x.data.length ≤ 60 * (x.next + 1) then 2 ^ 23 else 0) + x.next * 2 ^ 12 +
            ((x.data.drop (60 * x.next)).take 60).length * 2 ^ 6)).reverse ++ (x.data.drop (60 * x.next)).take 60)) t []) ∧
      (x.write = true → g.dataLen.toNat ≤ 60 → g.dataLen.toNat ≤ g.data.length →
        (g.last = false → ∃ t, exec (.canDataSegment g) s = .next t ∧
          Keeps ({ u with can := { u.can with
              transfer := some { x with next := x.next + 1, data := x.data ++ g.data.take g.dataLen.toNat } } }.canTransmit x.seq
            (leBytes 4 (0x85 * 2 ^ 24 + x.next * 2 ^ 12)).reverse) t []) ∧
        (∀ r, g.last = true → u.row x.key = some r → (x.data ++ g.data.take g.dataLen.toNat).length = x.total →
          u.check .can x.key true x.total = 0 → s.running = true → plainEntry x.key →
          ∃ t, exec (.canDataSegment g) s = .next t ∧ t.raw x.key = r.clamp (x.data ++ g.data.take g.dataLen.toNat) ∧
            Keeps ({ u with can := { u.can with transfer := none } }.canTransmit x.seq
              (leBytes 4 (0x85 * 2 ^ 24 + 2 ^ 23 + x.next * 2 ^ 12)).reverse) t
              [x.key, Entry.dictRestartPending, Entry.canClampCount]))) ∧
    (∀ x, u.canTakes f.cls.toNat f.node.toNat = true → asks f 6 → u.can.transfer = some x →
      ∃ t, exec (.canCancel f) s = .next t ∧
        Keeps ({ u with can := { u.can with transfer := none, lastCancelled := some x.seq } }.canTransmit
          f.seq.toNat (jalmonHeader 0x86 0 x.key 0 0)) t []) ∧
    (∀ x, s.can.transfer = some x → ∃ t, exec .segmentTimeout s = .next t ∧
      Keeps { s with can := { s.can with transfer := none, lastTimedOut := some x.seq } } t [])

/-- R42, R43, R46, R56, R57, R59: a mailbox that is idle takes a request after the host's writes, counts it, and reaches DONE with the value
read or the value stored, or ABORT with the code of the check that failed, which leaves every entry as it was; a request on a mailbox that
is not idle sets Lost; the state is shown when the request completes, and an acknowledgement makes the mailbox idle. Each of these
completes where its conditions hold (the next state is a conclusion): MBX_READ, MBX_WRITE, MBX_UNKNOWN_COMMAND, MBX_REQUEST_COMPLETE,
MBX_ACK. -/
def Obligations.MailboxRequests : Prop :=
  ∀ (s : State) (fn : Fin 9) (writes : List BarWrite) (index : BitVec 16) (sub cmd : BitVec 8) (k : Nat),
    k = index.toNat * 256 + sub.toNat → s.mailboxAlive = true →
    let m := (s.box fn).barWrites writes
    let word := fun op : Nat => op * 2 ^ 24 + sub.toNat * 2 ^ 16 + index.toNat
    ((s.box fn).state = 0 → s.scrubbing (requesterOf fn) = false →
      (∀ r, s.row k = some r → s.check (requesterOf fn) k false 0 = 0 →
        let b := ((s.setBox fn m).bump Entry.mbxMailboxRequests).readBytes k
        ∃ t, exec (.mbxRead fn writes index sub) s = .next t ∧
          t.n Entry.mbxMailboxRequests = (s.n Entry.mbxMailboxRequests + 1) % 2 ^ 32 ∧
          Keeps (s.setBox fn { m with
            command := word 1, state := 1, outcome := 2, abort := 0, length := b.length
            buffer := b ++ m.buffer.drop b.length, type := r.ty.code }) t [Entry.mbxMailboxRequests]) ∧
      (∀ r, s.row k = some r → s.check (requesterOf fn) k true m.length = 0 → s.running = true → plainEntry k →
        r.clamps (fit m.length m.buffer) = false →
        ∃ t, exec (.mbxWrite fn writes index sub) s = .next t ∧ t.raw k = r.clamp (fit m.length m.buffer) ∧
          t.n Entry.mbxMailboxRequests = (s.n Entry.mbxMailboxRequests + 1) % 2 ^ 32 ∧
          Keeps (s.setBox fn { m with command := word 2, state := 1, outcome := 2, abort := 0 }) t
            [k, Entry.dictRestartPending, Entry.mbxMailboxRequests]) ∧
      (s.check (requesterOf fn) k false 0 ≠ 0 → ∃ t, exec (.mbxRead fn writes index sub) s = .next t ∧
        t.n Entry.mbxAbortCount = (s.n Entry.mbxAbortCount + 1) % 2 ^ 32 ∧
        Keeps (s.setBox fn { m with command := word 1, state := 1, outcome := 4, abort := s.check (requesterOf fn) k false 0 }) t
          [Entry.mbxMailboxRequests, Entry.mbxAbortCount]) ∧
      (s.check (requesterOf fn) k true m.length ≠ 0 → ∃ t, exec (.mbxWrite fn writes index sub) s = .next t ∧
        t.n Entry.mbxAbortCount = (s.n Entry.mbxAbortCount + 1) % 2 ^ 32 ∧
        Keeps (s.setBox fn { m with command := word 2, state := 1, outcome := 4, abort := s.check (requesterOf fn) k true m.length }) t
          [Entry.mbxMailboxRequests, Entry.mbxAbortCount]) ∧
      (∃ t, exec (.mbxUnknownCommand fn writes ⟨cmd, index, sub⟩) s = .next t ∧
        t.n Entry.mbxAbortCount = (s.n Entry.mbxAbortCount + 1) % 2 ^ 32 ∧
        Keeps (s.setBox fn { m with command := word cmd.toNat, state := 1, outcome := 4, abort := 0x0010 }) t
          [Entry.mbxMailboxRequests, Entry.mbxAbortCount])) ∧
    ((s.box fn).state = 0 → s.scrubbing (requesterOf fn) = true → ∃ t, exec (.mbxRead fn writes index sub) s = .next t ∧
      Keeps (s.setBox fn { m with
        command := word 1, state := 1, outcome := 3, abort := 0, buffer := List.replicate 65536 0xFF }) t [Entry.mbxMailboxRequests]) ∧
    ((s.box fn).state ≠ 0 → ∀ c ∈ [Instr.mbxRead fn writes index sub, .mbxWrite fn writes index sub, .mbxUnknownCommand fn writes ⟨cmd, index, sub⟩],
      ∃ t, exec c s = .next t ∧ Keeps (s.setBox fn { m with lost := true }) t []) ∧
    ((s.box fn).state = 1 → ∃ t, exec (.mbxRequestComplete fn) s = .next t ∧
      Keeps (s.setBox fn { s.box fn with state := (s.box fn).outcome }) t [] ∧
      ((s.box fn).irq = true → 0 ∉ (s.box fn).vectors → (s.box fn).vectorMasked 0 = false → t.out = s.out ++ [.msix fn 0])) ∧
    ((s.box fn).state ≠ 1 → ∃ t, exec (.mbxAck fn 1) s = .next t ∧ Keeps (s.setBox fn { s.box fn with state := 0, lost := false }) t []) ∧
    (∀ v : BitVec 32, v ≠ 1 ∨ (s.box fn).state = 1 → ∃ t, exec (.mbxAck fn v) s = .next t ∧ Keeps s t [])

/-- R400, R440, R448 to R451: data go into the area that was not booted and discard a staged image; a verification stages the image or tells
what is wrong with it; a staged image is discarded, or switched in, or, where it needs a restart, selected for the next one; during a
verification or a switch, and in BOOT and TEST, commands give UpdateError 5. Each of these completes where its conditions hold (the next
state is a conclusion): FIRMWARE_DATA, FIRMWARE_NO_ACTION, FIRMWARE_STAGE, FIRMWARE_VERIFY_COMPLETE, FIRMWARE_SWITCH, FIRMWARE_DISCARD,
FIRMWARE_SWITCH_COMPLETE. -/
def Obligations.FirmwareUpdates : Prop :=
  ∀ (s : State) (data : Bytes) (ok : Bool), s.answers = true →
    (s.device = 1 ∨ s.device = 2 → ∀ c ∈ [Instr.firmwareStage, .firmwareSwitch, .firmwareDiscard],
      ∃ t, exec c s = .next t ∧ t.n Entry.fwUpdateError = 5 ∧ Keeps s t [Entry.fwUpdateError]) ∧
    (s.running = true →
      (∃ t, exec .firmwareNoAction s = .next t ∧ Keeps s t []) ∧
      (s.updateState = 1 ∨ s.updateState = 3 → ∀ c ∈ [Instr.firmwareStage, .firmwareDiscard, .firmwareData data],
        ∃ t, exec c s = .next t ∧ t.n Entry.fwUpdateError = 5 ∧ Keeps s t [Entry.fwUpdateError]) ∧
      (s.updateState ≠ 1 → s.updateState ≠ 3 →
        (Memory.wf (s.fwArea s.otherArea) = true → ∃ t, exec (.firmwareData data) s = .next t ∧
          (let o := s.n Entry.fwFirmwareOffset / 65536 * 65536
           let b := data.take 65536
           Memory.reads (t.fwArea s.otherArea) o b.length = b ∧
           ∀ x, ¬ (o ≤ x ∧ x < o + b.length) → Memory.read (t.fwArea s.otherArea) x = Memory.read (s.fwArea s.otherArea) x) ∧
          t.fwArea s.boot.bootedArea = s.fwArea s.boot.bootedArea ∧
          (s.updateState = 2 → t.updateState = 0 ∧ t.boot.staged = none ∧ t.n Entry.secFirmwareState = 0 ∧
            Keeps { s with flash := t.flash, boot := t.boot, security := { s.security with stagedFw := [] } } t
              [Entry.fwUpdateState, Entry.fwStagedVersion, Entry.secFirmwareState]) ∧
          (s.updateState ≠ 2 → Keeps { s with flash := t.flash } t [])) ∧
        (∃ t, exec .firmwareStage s = .next t ∧ t.updateState = 1 ∧ t.n Entry.fwUpdateError = 0 ∧
          (s.updateState ≠ 2 → Keeps s t [Entry.fwUpdateState, Entry.fwUpdateError]))) ∧
      (s.updateState = 1 →
        (let h := fwHeader (s.fwArea s.otherArea)
         (s.fwError h ok ≠ 0 → ∃ t, exec (.firmwareVerifyComplete ok) s = .next t ∧ t.updateState = 4 ∧
           t.n Entry.fwUpdateError = s.fwError h ok ∧ Keeps s t [Entry.fwUpdateState, Entry.fwUpdateError]) ∧
         (s.fwError h ok = 0 → ∃ t, exec (.firmwareVerifyComplete ok) s = .next t ∧ t.updateState = 2 ∧
           t.n Entry.fwStagedVersion = h.version ∧ t.n Entry.secFirmwareState = 1 ∧
           Keeps { s with boot := { s.boot with staged := some h }
                          security := { s.security with stagedFw := fwDigest (s.fwArea s.otherArea) h } } t
             [Entry.fwUpdateState, Entry.fwStagedVersion, Entry.secFirmwareState]))) ∧
      (∀ h, s.updateState = 2 → s.boot.staged = some h →
        (∃ t, exec .firmwareDiscard s = .next t ∧ t.updateState = 0 ∧ t.n Entry.fwStagedVersion = 0 ∧ t.n Entry.fwUpdateError = 0 ∧
          t.n Entry.secFirmwareState = 0 ∧
          Keeps { s with boot := { s.boot with staged := none }, security := { s.security with stagedFw := [] } } t
            [Entry.fwUpdateState, Entry.fwStagedVersion, Entry.fwUpdateError, Entry.secFirmwareState]) ∧
        (h.restartRequired = true → ∃ t, exec .firmwareSwitch s = .next t ∧ t.n Entry.dictRestartPending = 1 ∧
          t.n Entry.fwUpdateError = 4 ∧
          Keeps { s with flash := { s.flash with bootSelect := some s.otherArea } } t
            [Entry.dictRestartPending, Entry.fwUpdateError]) ∧
        (h.restartRequired = false → ∃ t, exec .firmwareSwitch s = .next t ∧ t.updateState = 3 ∧ t.n Entry.secFirmwareState = 2 ∧
          t.n Entry.fwUpdateError = 0 ∧
          Keeps { s with boot := t.boot } t [Entry.fwUpdateState, Entry.secFirmwareState, Entry.fwUpdateError])) ∧
      (∀ h, s.updateState = 3 → s.boot.staged = some h →
        ∃ t, exec .firmwareSwitchComplete s = .next t ∧ t.updateState = 0 ∧ t.n Entry.idFirmwareVersion = h.version ∧
          t.n Entry.secFirmwareState = 0 ∧ t.flash.bootSelect = some s.otherArea ∧ t.boot.staged = none ∧
          t.security.activeFw = s.security.stagedFw ∧ t.security.stagedFw = [] ∧
          ((∀ p ∈ userPartitions, s.partOpen p = false) →
            Keeps { s with flash := t.flash, boot := t.boot, security := t.security } t
              [Entry.fwUpdateState, Entry.idFirmwareVersion, Entry.fwStagedVersion, Entry.secFirmwareState])))

/-- R386, R438, R453, R456, R457: the host link that goes down, and PERST_n, are counted and end the copies that reach host memory with cause
9; PERST_n and a function reset clear mailboxes and IDE streams; the link comes up at no more than 16 lanes of generation 6; configuration
requests before readiness are retried; changes within a vector's 10 µs are signalled once more at its end, by its pending bit where the
host has masked it. Each of these completes where its conditions hold (the next state is a conclusion): PCIE_RESET, PCIE_LINK_DOWN,
PCIE_FLR, PCIE_CONFIG_REQUEST, MSIX_HOLDOFF_EXPIRY, PCIE_LINK_UP. -/
def Obligations.HostLink : Prop :=
  ∀ (s : State) (fn : Fin 9) (width gen : Nat) (vector : BitVec 11), s.device ≠ 0 →
    (s.plainJobs → s.n Entry.pcieLinkState = 1 →
      ∃ t, exec .pcieLinkDown s = .next t ∧ t.n Entry.pcieLinkState = 0 ∧ t.n Entry.pcieLinkWidth = 0 ∧
        t.n Entry.pcieLinkGeneration = 0 ∧ t.n Entry.pcieLinkDowns = (s.n Entry.pcieLinkDowns + 1) % 2 ^ 32 ∧
        s.endsCopies t (fun _ => true) ∧
        EntriesKept s t ([Entry.pcieLinkState, Entry.pcieLinkWidth, Entry.pcieLinkGeneration, Entry.pcieLinkDowns] ++ s.copyKeys)) ∧
    (s.plainJobs → (∀ r, (s.ring r).function < 9) →
      ∃ t, exec .pcieReset s = .next t ∧ (∀ f, f < 9 → mailboxRest (t.box f) = {} ∧ f ∉ t.security.ide) ∧
        t.n Entry.pcieVfsEnabled = 0 ∧
        (s.n Entry.pcieLinkState = 1 → t.n Entry.pcieLinkState = 0 ∧
          t.n Entry.pcieLinkDowns = (s.n Entry.pcieLinkDowns + 1) % 2 ^ 32) ∧
        (s.n Entry.pcieLinkState ≠ 1 → t.n Entry.pcieLinkState = s.n Entry.pcieLinkState ∧
          t.n Entry.pcieLinkDowns = s.n Entry.pcieLinkDowns) ∧
        s.endsCopies t (fun _ => true) ∧ t.device = s.device ∧
        EntriesKept s t ([Entry.pcieLinkState, Entry.pcieLinkWidth, Entry.pcieLinkGeneration, Entry.pcieLinkDowns, Entry.pcieVfsEnabled,
          Entry.ideIdeStreams] ++ s.copyKeys)) ∧
    (s.plainJobs →
      ∃ t, exec (.pcieFlr fn) s = .next t ∧ mailboxRest (t.box fn) = {} ∧
        t.security.ide = s.security.ide.filter (fun x => x ≠ fn.val) ∧
        (∀ f, f ≠ fn.val → mailboxRest (t.box f) = mailboxRest (s.box f)) ∧
        s.endsCopies t (fun j => (s.ring j.ring).function = fn) ∧ EntriesKept s t (Entry.ideIdeStreams :: s.copyKeys)) ∧
    (3 ≤ s.device → s.n Entry.pcieLinkState = 0 →
      ∃ t, exec (.pcieLinkUp width gen) s = .next t ∧ t.n Entry.pcieLinkState = 1 ∧ t.n Entry.pcieLinkWidth = min 16 width ∧
        t.n Entry.pcieLinkGeneration = min 6 gen ∧
        Keeps s t [Entry.pcieLinkState, Entry.pcieLinkWidth, Entry.pcieLinkGeneration]) ∧
    (∃ t, exec .pcieConfigRequest s = .next t ∧
      (s.device = 1 ∨ s.device = 2 → Keeps (s.emit .pcieRetry) t []) ∧ (3 ≤ s.device → Keeps s t [])) ∧
    ∃ t, exec (.msixHoldoffExpiry fn vector) s = .next t ∧
      (t.out = s.out ++
        if vector.toNat ∈ (s.box fn).vectors ∧ vector.toNat ∈ (s.box fn).again ∧ (s.box fn).vectorMasked vector.toNat = false then
          [.msix fn vector.toNat] else []) ∧
      (vector.toNat ∈ (t.box fn).pendingBits ↔ vector.toNat ∈ (s.box fn).pendingBits ∨
        (vector.toNat ∈ (s.box fn).vectors ∧ vector.toNat ∈ (s.box fn).again ∧ (s.box fn).vectorMasked vector.toNat = true)) ∧
      (vector.toNat ∈ (t.box fn).vectors ↔ vector.toNat ∈ (s.box fn).vectors ∧ vector.toNat ∈ (s.box fn).again) ∧
      vector.toNat ∉ (t.box fn).again ∧ Keeps s t []

/-- R379, R384, R458, R461, R462: a link in use with enough good lanes starts its handshake when it trains, and again 10 s after a refusal; a
chain that checks makes the peer known; the signed exchange makes two keys and opens the session, whose link is up, or a duplicate; a
failed check opens none and is counted; a new exchange in band makes new keys and the frame numbers go on. R468: the same holds of a
session over UDP. Each of these completes where its conditions hold (the next state is a conclusion): ZENNIK_LINK_TRAINED,
ZENNIK_CHAIN_RECEIVED, ZENNIK_KEY_EXCHANGE, SESSION_RETRY_TIMER, ZENNIK_REKEY. -/
def Obligations.SessionsOpen : Prop :=
  ∀ (s : State) (z : Fin 6) (c : PeerChain), s.device ≠ 0 →
    (s.inForceN (Entry.zlinkEnable z) ≠ 0 → 4 ≤ (s.goodLanes z).length →
      (s.linkState z = 0 ∨ s.linkState z = 3 → ∃ t, exec (.zennikLinkTrained z) s = .next t ∧ s.beginsLink t z) ∧
      (s.linkState z = 4 → (s.zlink z).session = 0 → ∃ t, exec (.sessionRetryTimer (.zennik z)) s = .next t ∧ s.beginsLink t z)) ∧
    ((s.zlink z).session = 1 →
      (c.chainOk = true → s.peersAllowed = [] ∨ c.serial.toNat ∈ s.peersAllowed → s.trngHealthy = true →
        ∃ t, exec (.zennikChainReceived z c) s = .next t ∧ (t.zlink z).session = 2 ∧
          t.n (Entry.zlinkPeerDevice z) = c.device.toNat ∧ t.n (Entry.zlinkPeerSerial z) = c.serial.toNat ∧
          (c.serial.toNat ≤ s.fuses.serial → t.framesOut = s.framesOut) ∧ MemoryKept s t ∧
          EntriesKept s t [Entry.zlinkPeerDevice z, Entry.zlinkPeerSerial z, Entry.zlinkFramesSent z]) ∧
      (c.chainOk = false ∨ (s.peersAllowed ≠ [] ∧ c.serial.toNat ∉ s.peersAllowed) →
        ∃ t, exec (.zennikChainReceived z c) s = .next t ∧ s.refusesLink t z)) ∧
    ((s.zlink z).session = 2 → 
      (s.trngHealthy = true →
        ∃ t, exec (.zennikKeyExchange z true) s = .next t ∧ (t.zlink z).session = 3 ∧ t.hasKey (.session z) = true ∧
          t.linkState z = (if s.duplicate z then 4 else 2) ∧
          t.n Entry.secKeysGenerated = (s.n Entry.secKeysGenerated + 2) % 2 ^ 32 ∧
          (s.peers.waiting = [] → MemoryKept s t ∧
            EntriesKept s t ([Entry.zlinkLinkState z, Entry.secKeysGenerated, Entry.fabricReachable, Entry.fabricRouteChanges] ++
              sentKeys))) ∧
      (∃ t, exec (.zennikKeyExchange z false) s = .next t ∧ s.refusesLink t z)) ∧
    ((s.zlink z).session = 3 → s.trngHealthy = true →
      (∃ t, exec (.zennikRekey (.zennik z) true) s = .next t ∧ (t.zlink z).session = 3 ∧ t.hasKey (.session z) = true ∧
        (t.zlink z).nextRx = (s.zlink z).nextRx ∧ t.n Entry.secKeysGenerated = (s.n Entry.secKeysGenerated + 2) % 2 ^ 32 ∧
        (∀ f ∈ t.framesOut.drop s.framesOut.length, f.1 = z ∧ f.2.1 = 4) ∧ MemoryKept s t ∧
        EntriesKept s t [Entry.secKeysGenerated, Entry.zlinkFramesSent z]) ∧
      (∃ t, exec (.zennikRekey (.zennik z) false) s = .next t ∧ s.refusesLink t z)) ∧
    ∀ d : BitVec 16, let y := udpLink d.toNat
      ((s.zlink y).session = 4 → (s.udpPort? d.toNat).any (fun e => s.n (Entry.ethLinkState e) = 1) = true →
        ∃ t, exec (.sessionRetryTimer (.udp d)) s = .next t ∧ (t.zlink y).session = 1 ∧ (t.zlink y).peerDevice = d.toNat ∧
          (let l := pieces 224 s.certChain.length s.certChain
           t.framesOut = s.framesOut ++ ((List.range l.length).zip l).map fun e => (y, 4, e.1 % 2 ^ 64, fit 224 e.2)) ∧
          MemoryKept s t ∧ EntriesKept s t []) ∧
      ((s.zlink y).session = 3 → s.trngHealthy = true →
        (∃ t, exec (.zennikRekey (.udp d) true) s = .next t ∧ (t.zlink y).session = 3 ∧ t.hasKey (.udpSession d.toNat) = true ∧
          (t.zlink y).nextRx = (s.zlink y).nextRx ∧ t.n Entry.secKeysGenerated = (s.n Entry.secKeysGenerated + 2) % 2 ^ 32 ∧
          MemoryKept s t ∧ EntriesKept s t [Entry.secKeysGenerated]) ∧
        ∃ t, exec (.zennikRekey (.udp d) false) s = .next t ∧ (t.zlink y).session = 4 ∧ t.hasKey (.udpSession d.toNat) = false ∧
          t.n Entry.peerSessionsRefused = (s.n Entry.peerSessionsRefused + 1) % 2 ^ 32)

/-- R384, R459, R462 to R465: a frame that fails its tag, or comes out of order, is discarded and answered by a negative acknowledgement, and
one failure too many fences the link and destroys its key; a frame in order is accepted, with its credit; a baton that a device map admits
is delivered with the local partition's number, and acknowledged. A timeout over UDP is counted too (R469). A negative acknowledgement, a
timeout and the end of a retraining resend in order what is not acknowledged; a lane's error is counted, and one too many fences the lane.
Each of these completes where its conditions hold (the next state is a conclusion): ZENNIK_FRAME_RECEIVED, ZENNIK_RETRAIN_COMPLETE,
ZENNIK_NAK_RECEIVED, ZENNIK_ACK_TIMEOUT, ZENNIK_LANE_ERROR. -/
def Obligations.LinkFrames : Prop :=
  ∀ (s : State) (z : Fin 6) (f : ZennikFrame) (lastGood : BitVec 64) (lane : Fin 8), s.device ≠ 0 →
    let l := s.zlink z
    let again := fun (t : State) (frames : List ZFrame) =>
      t.framesOut = s.framesOut ++ frames.map (fun x => (z.val, x.type, x.number, x.body)) ∧
      t.n (Entry.zlinkResends z) = countedUp 32 (s.n (Entry.zlinkResends z)) frames.length ∧
      t.n (Entry.zlinkFramesSent z) = countedUp 64 (s.n (Entry.zlinkFramesSent z)) frames.length ∧ MemoryKept s t
    let answers := fun (t : State) (type : Nat) =>
      t.framesOut = s.framesOut ++ [(z.val, type, l.nextTx, fit 224 [])] ∧ (t.zlink z).nextTx = (l.nextTx + 1) % 2 ^ 64
    (s.linkRuns z = true → l.room 1 = true →
      (f.tagOk = false → l.session = 3 → f.excess = true →
        ∃ t, exec (.zennikFrameReceived z f) s = .next t ∧ t.linkState z = 3 ∧ (t.zlink z).session = 0 ∧
          t.hasKey (.session z) = false ∧ t.n Entry.peerTagFailures = (s.n Entry.peerTagFailures + 1) % 2 ^ 32) ∧
      (f.tagOk = false → (l.session ≠ 3 ∨ f.excess = false) →
        ∃ t, exec (.zennikFrameReceived z f) s = .next t ∧ answers t 3 ∧ (t.zlink z).nextRx = l.nextRx ∧
          t.n Entry.peerTagFailures =
            (if l.session = 3 then (s.n Entry.peerTagFailures + 1) % 2 ^ 32 else s.n Entry.peerTagFailures) ∧ MemoryKept s t ∧
          EntriesKept s t [Entry.peerTagFailures, Entry.zlinkFramesSent z]) ∧
      (f.tagOk = true → f.frameNumber.toNat ≠ l.nextRx →
        ∃ t, exec (.zennikFrameReceived z f) s = .next t ∧ answers t 3 ∧ (t.zlink z).nextRx = l.nextRx ∧ MemoryKept s t ∧
          EntriesKept s t [Entry.zlinkFramesSent z]) ∧
      (f.tagOk = true → f.frameNumber.toNat = l.nextRx → l.sent = [] → s.peers.waiting = [] → l.owes = 0 →
        (f.type = 0 → ∃ t, exec (.zennikFrameReceived z f) s = .next t ∧ (t.zlink z).nextRx = (l.nextRx + 1) % 2 ^ 64 ∧
          (t.zlink z).credits = min 512 (l.credits + f.creditReturn) ∧
          t.n (Entry.zlinkFramesReceived z) = (s.n (Entry.zlinkFramesReceived z) + 1) % 2 ^ 64 ∧ t.out = s.out ∧ MemoryKept s t ∧
          EntriesKept s t [Entry.zlinkFramesReceived z]) ∧
        (let b := batonOf (fit 224 f.body)
         ∀ p, f.type = 1 → l.session = 3 → l.rxBuffer = [] → batonFrames b.payloadBytes.toNat ≤ 1 →
          b.dstDevice.toNat = s.deviceNumber → s.admitted b = some p →
          s.stationExists b.dstStation.toNat = true → (s.queue b.dstStation.toNat b.dstQueue.toNat).batons.length < 2 →
          (s.queue b.dstStation.toNat b.dstQueue.toNat).waiting = [] →
          ∃ t, exec (.zennikFrameReceived z f) s = .next t ∧
            (t.queue b.dstStation.toNat b.dstQueue.toNat).batons =
              (s.queue b.dstStation.toNat b.dstQueue.toNat).batons ++ [{ b with partition := BitVec.ofNat 4 p }] ∧
            (t.zlink z).rxHeld = l.rxHeld ++ [{ b with partition := BitVec.ofNat 4 p }] ∧
            t.framesOut = s.framesOut ++ [(z.val, 2, l.nextTx, fit 224 [])] ∧ MemoryKept s t ∧
            EntriesKept s t [Entry.zlinkFramesReceived z, Entry.zlinkFramesSent z]))) ∧
    (s.linkRuns z = true → l.sent = [] → s.peers.waiting = [] → l.replay.length ≤ 512 → l.replay.length ≤ l.nextTx →
      l.replay.map ZFrame.number = List.range' (l.nextTx - l.replay.length) l.replay.length →
      l.nextTx - l.replay.length ≤ lastGood.toNat + 1 → lastGood.toNat < l.nextTx → l.nextTx < 2 ^ 64 →
      let after := l.replay.filter fun x => lastGood.toNat < x.number
      ∃ t, exec (.zennikNakReceived z lastGood) s = .next t ∧ (t.zlink z).replay = after ∧ again t after ∧
        EntriesKept s t [Entry.zlinkResends z, Entry.zlinkFramesSent z]) ∧
    (s.linkRuns z = true →
      ∃ t, exec (.zennikAckTimeout (.zennik z)) s = .next t ∧ again t l.replay ∧
        EntriesKept s t [Entry.zlinkResends z, Entry.zlinkFramesSent z]) ∧
    (∀ d : BitVec 16, s.linkRuns (udpLink d.toNat) = true → (s.zlink (udpLink d.toNat)).replay ≠ [] →
      ∃ t, exec (.zennikAckTimeout (.udp d)) s = .next t ∧
        t.framesOut = s.framesOut ++ (s.zlink (udpLink d.toNat)).replay.map (fun x => (udpLink d.toNat, x.type, x.number, x.body)) ∧
        t.n Entry.udpUdpTimeouts = (s.n Entry.udpUdpTimeouts + 1) % 2 ^ 32 ∧ MemoryKept s t ∧ EntriesKept s t [Entry.udpUdpTimeouts]) ∧
    (l.retraining = true → l.owes = 0 → s.peers.waiting = [] →
      ∃ t, exec (.zennikRetrainComplete z) s = .next t ∧ (t.zlink z).retraining = false ∧ again t l.replay ∧
        t.n (Entry.zlinkLanesActive z) = (lanesUsed (s.goodLanes z)).length ∧
        t.n (Entry.zlinkLaneMask z) = maskOf (lanesUsed (s.goodLanes z)) ∧ (t.zlink z).session = l.session ∧
        (t.zlink z).nextTx = l.nextTx ∧ (t.zlink z).replay = l.replay ∧
        EntriesKept s t [Entry.zlinkResends z, Entry.zlinkFramesSent z, Entry.zlinkLanesActive z, Entry.zlinkLaneMask z]) ∧
    (s.linkState z ≠ 0 →
      (∃ t, exec (.zennikLaneError z lane false) s = .next t ∧
        (∀ i, i < 8 → field (t.b (Entry.zlinkLaneErrors z)) (4 * i) 4 =
          if i = lane.val then (field (fit 32 (s.b (Entry.zlinkLaneErrors z))) (4 * i) 4 + 1) % 2 ^ 32
          else field (fit 32 (s.b (Entry.zlinkLaneErrors z))) (4 * i) 4) ∧
        Keeps s t [Entry.zlinkLaneErrors z]) ∧
      (s.takesFault (laneUnit z lane) (laneUnit z lane) →
        ∃ t, exec (.zennikLaneError z lane true) s = .next t ∧ t.fenced (laneUnit z lane) = true))

/-- R466, R467, R469: a route frame of an open session changes what its link offers; with no baton unacknowledged, each device is then reached
by the offer of fewest hops, ties to the lower link, and Reachable lists them; a route that waits takes effect once no baton is
unacknowledged on the old one; every 100 ms each open session gets a route frame. Each of these completes where its conditions hold (the
next state is a conclusion): ZENNIK_ROUTE_FRAME, ROUTE_ANNOUNCE_TIMER, ROUTE_CHANGE_APPLY. -/
def Obligations.RoutesFollow : Prop :=
  ∀ (s : State) (z : Fin 6) (routes : List RouteEntry) (device : BitVec 16), s.device ≠ 0 → s.peers.waiting = [] →
    ((s.zlink z).session = 3 → (∀ y, (s.zlink y).sent = []) →
      ∃ t, exec (.zennikRouteFrame z routes) s = .next t ∧ (t.zlink z).routes = routes ∧
        (∀ d, (t.route? d).map (fun r => (r.hops, r.link)) = bestOffer t.offers d) ∧
        (∀ d h k, bestOffer t.offers d = some (h, k) → (d, h, k) ∈ t.offers ∧
          ∀ o ∈ t.offers, o.1 = d → h < o.2.1 ∨ h = o.2.1 ∧ k ≤ o.2.2) ∧
        t.b Entry.fabricReachable = reachable t.peers.routes ∧ MemoryKept s t ∧
        EntriesKept s t ([Entry.fabricReachable, Entry.fabricRouteChanges] ++ sentKeys)) ∧
    (∃ t, exec .routeAnnounceTimer s = .next t ∧
      t.framesOut = s.framesOut ++ ((List.range 6).filter fun y =>
          s.linkRuns y && (s.zlink y).session = 3 && (s.zlink y).room 1).map (fun y =>
        (y, 5, (s.zlink y).nextTx, fit 224 (Config.routeBody ((s.peers.routes.filter fun r => r.link ≠ 255).map fun r =>
          (r.device, r.hops))))) ∧
      MemoryKept s t ∧ EntriesKept s t sentKeys) ∧
    (∀ r h k, s.route? device.toNat = some r → r.pending = some (h, k) →
      (s.unacked (routeLink device.toNat r.link) device.toNat = true →
        ∃ t, exec (.routeChangeApply device) s = .next t ∧ Keeps s t []) ∧
      (s.unacked (routeLink device.toNat r.link) device.toNat = false →
        ∃ t, exec (.routeChangeApply device) s = .next t ∧
          t.route? device.toNat = some { device := device.toNat, hops := h, link := k } ∧
          (∀ d, d ≠ device.toNat → t.route? d = s.route? d) ∧
          t.n Entry.fabricRouteChanges =
            (if r.link = k then s.n Entry.fabricRouteChanges else (s.n Entry.fabricRouteChanges + 1) % 2 ^ 32) ∧
          t.b Entry.fabricReachable = reachable t.peers.routes ∧ MemoryKept s t ∧
          EntriesKept s t ([Entry.fabricReachable, Entry.fabricRouteChanges] ++ sentKeys)))

/-- R64 to R66, R69, R70 to R73: a frame that a running Ethernet port receives is counted with its bytes; one with a bad FCS and one that R65
drops are counted and change nothing else; an ARP request for the port's address is answered; an RTP packet that a running context takes
is counted there, one for a context that does not run is counted as dropped there, and one that no context names is counted as Unmatched.
The link's changes and the membership report follow. R67, R68: an MDIO read or write starts a transaction of the clause in force and shows
that it is busy; with an operation of 2 or 3, and while one is busy, nothing happens; the end of the transaction shows the result, with
the data of a read. That the data bits read 0 while one is busy and after a write is the model's choice (log entry 87). Each of these
completes where its conditions hold (the next state is a conclusion): ETH_FRAME_RECEIVED, MEMBERSHIP_REPORT_TIMER, ETH_LINK_DOWN,
ETH_LINK_UP, MDIO_READ, MDIO_WRITE, MDIO_NO_OPERATION, MDIO_TRANSACTION_DONE. -/
def Obligations.EthernetAndMdio : Prop :=
  (∀ (s : State) (e : Fin 4) (f : EthFrame) (ms : Nat) (lines : List Nat),
     (s.ethRuns e = false → ∃ t, exec (.ethFrameReceived e f ms lines) s = .next t ∧ Keeps s t []) ∧
     (s.ethRuns e = true → ∃ t, exec (.ethFrameReceived e f ms lines) s = .next t ∧
       (f.fcsOk = false → t.n (Entry.ethFcsErrors e) = (s.n (Entry.ethFcsErrors e) + 1) % 2 ^ 32 ∧
         t.n (Entry.ethFramesReceived e) = (s.n (Entry.ethFramesReceived e) + 1) % 2 ^ 64 ∧
         t.n (Entry.ethBytesReceived e) = (s.n (Entry.ethBytesReceived e) + f.length) % 2 ^ 64 ∧
         Keeps s t [Entry.ethFramesReceived e, Entry.ethBytesReceived e, Entry.ethFcsErrors e]) ∧
       (f.fcsOk = true → s.ethDrops e f = true →
         t.n (Entry.ethDroppedOther e) = (s.n (Entry.ethDroppedOther e) + 1) % 2 ^ 32 ∧
         Keeps s t [Entry.ethFramesReceived e, Entry.ethBytesReceived e, Entry.ethDroppedOther e]) ∧
       (f.fcsOk = true → s.ethDrops e f = false →
         (∀ target sender, f.payload = .arpRequest target sender → target ≠ 0 →
           target.toNat = s.inForceN (Entry.ethIpv4Address e) →
           Keeps (s.emit (.ethernet e 1 (leBytes 4 target.toNat ++ leBytes 6 sender.toNat))) t
             [Entry.ethFramesReceived e, Entry.ethBytesReceived e]) ∧
         (f.payload = .icmpEcho ∨ f.payload = .pause ∨ f.payload = .other →
           Keeps s t [Entry.ethFramesReceived e, Entry.ethBytesReceived e]) ∧
         (∀ u r, f.payload = .udp u → u.content = .rtp r → u.dstPort.toNat ≠ s.inForceN Entry.fabricUdpPort →
           (∀ i, i < 512 → s.addressed i e u r = false) →
           t.n (Entry.ethUnmatched e) = (s.n (Entry.ethUnmatched e) + 1) % 2 ^ 32 ∧
           Keeps s t [Entry.ethFramesReceived e, Entry.ethBytesReceived e, Entry.ethUnmatched e]) ∧
         (∀ u r i x, f.payload = .udp u → u.content = .rtp r → u.dstPort.toNat ≠ s.inForceN Entry.fabricUdpPort → i < 512 →
           s.addressed i e u r = true → s.streamOpen i = true → s.ssrcFits i r.ssrc.toNat ms = true →
           (∀ j, j < i → s.addressed j e u r = false) → pieceOf r.payload = some x →
           t.n (Entry.streamPacketsReceived i) = (s.n (Entry.streamPacketsReceived i) + 1) % 2 ^ 32 ∧
           (t.ctx i).lastMs = ms ∧ (t.ctx i).ssrc = some r.ssrc.toNat ∧ t.hasFlag i flagNoData = false ∧
           (∀ j, j ≠ i → t.ctx j = s.ctx j) ∧ MemoryKept s t ∧
           EntriesKept s t [Entry.ethFramesReceived e, Entry.ethBytesReceived e, Entry.streamPacketsReceived i,
             Entry.streamPacketsDropped i, Entry.streamSsrc i, Entry.streamFlags i, Entry.streamPaceRatio i, Entry.streamPaceRatios i,
             Entry.streamRatioState i]) ∧
         (∀ u r i, f.payload = .udp u → u.content = .rtp r → u.dstPort.toNat ≠ s.inForceN Entry.fabricUdpPort → i < 512 →
           s.addressed i e u r = true → s.ssrcFits i r.ssrc.toNat ms = true → s.streamOpen i = false →
           (∀ j, j ≠ i → s.addressed j e u r = false) →
           t.n (Entry.streamPacketsDropped i) = (s.n (Entry.streamPacketsDropped i) + 1) % 2 ^ 32 ∧
           Keeps s t [Entry.ethFramesReceived e, Entry.ethBytesReceived e, Entry.streamPacketsDropped i]))) ∧
     (s.running = true → ∃ t, exec (.membershipReportTimer e) s = .next t ∧
       Keeps (if s.inForceN (Entry.ethIgmpEnable e) = 1 ∧ s.n (Entry.ethLinkState e) = 1 then
         s.emit (.ethernet e 3 (joinBytes (s.membership e))) else s) t []) ∧
     (s.isOff = false → ∃ t, exec (.ethLinkDown e) s = .next t ∧
       t.n (Entry.ethLinkState e) = (if s.n (Entry.ethLinkState e) = 1 then 0 else s.n (Entry.ethLinkState e)) ∧
       Keeps s t [Entry.ethLinkState e]) ∧
     (3 ≤ s.device → s.inForceN (Entry.ethEnable e) = 1 → s.n (Entry.ethLinkState e) = 0 → s.peers.waiting = [] →
       ∃ t, exec (.ethLinkUp e) s = .next t ∧ t.n (Entry.ethLinkState e) = 1 ∧ Keeps s t [Entry.ethLinkState e])) ∧
  (∀ (s : State) (c : BitVec 64) (data : BitVec 16), s.running = true → s.boot.managing = true →
     (bits c.toNat 62 2 = 0 → ∃ t, exec (.mdioRead c) s = .next t ∧
       (bits (s.n Entry.mdioMdioResult) 30 2 ≠ 1 → t.n Entry.mdioMdioResult = 2 ^ 30 ∧
         Keeps ({ s with mdioRead := true }.emit (mdioFrame (s.n Entry.mdioMdioClause = 1) c.toNat)) t [Entry.mdioMdioResult]) ∧
       (bits (s.n Entry.mdioMdioResult) 30 2 = 1 → Keeps s t [])) ∧
     (bits c.toNat 62 2 = 1 → ∃ t, exec (.mdioWrite c) s = .next t ∧
       (bits (s.n Entry.mdioMdioResult) 30 2 ≠ 1 → t.n Entry.mdioMdioResult = 2 ^ 30 ∧
         Keeps ({ s with mdioRead := false }.emit (mdioFrame (s.n Entry.mdioMdioClause = 1) c.toNat)) t [Entry.mdioMdioResult]) ∧
       (bits (s.n Entry.mdioMdioResult) 30 2 = 1 → Keeps s t [])) ∧
     (bits (s.n Entry.mdioMdioResult) 30 2 = 1 → ∃ t, exec (.mdioTransactionDone data) s = .next t ∧
       t.n Entry.mdioMdioResult = 2 ^ 31 + (if s.mdioRead then data.toNat else 0) ∧ Keeps s t [Entry.mdioMdioResult]) ∧
     (bits (s.n Entry.mdioMdioResult) 30 2 ≠ 1 → ∃ t, exec (.mdioTransactionDone data) s = .next t ∧ Keeps s t []) ∧
     (2 ≤ bits c.toNat 62 2 → ∃ t, exec (.mdioNoOperation c) s = .next t ∧ Keeps s t []))

/-- R74, R75, R81 to R83, R86: the oldest access unit of a context is released to the decoder as complete, or as lossy at its time-out; a free
slice takes the next released one; a picture that is decoded without loss is a true frame and makes a STARTING stream LIVE, one that is
lossy is counted as such and taints the stream; one whose earlier picture another slice still decodes waits. The end of decoding is stated
of a device without pairs and adaptation, and for a true frame without an arrival time. Each of these completes where its conditions hold
(the next state is a conclusion): ACCESS_UNIT_RELEASE, JITTER_TIMEOUT, DECODE_START, DECODE_COMPLETE. -/
def Obligations.AccessUnitsDecoded : Prop :=
  ∀ (s : State) (i : Fin 512) (d : Fin 8) (u : AccessUnit) (rest : List AccessUnit) (r : DecodeResult),
    ((s.ctx i).units = u :: rest → s.hasFlag i flagSuspended = false → (s.ctx i).sawIrap = true →
      (∀ v, rest.head? = some v → v.complete = true ∨ (v.lossy = false ∧ rest.length ≤ s.cfgN i (Entry.streamJitterDepth i))) →
      (let left := s.setCtx i { s.ctx i with
          units := rest, marker := u.markerSeq, releasedTs := some u.timestamp, unitCount := (s.ctx i).unitCount + 1 }
       let job : SliceJob := { stream := i, order := (s.ctx i).unitCount, unit := { u with lossy := !u.complete } }
       (∃ t, exec (.accessUnitRelease i) s = .next t ∧
         (u.complete = true → Keeps { left with released := s.released ++ [job] } t []) ∧ (u.complete = false → Keeps s t [])) ∧
       ∃ t, exec (.jitterTimeout i) s = .next t ∧
         (u.complete = false → Keeps { left with released := s.released ++ [job] } t []) ∧ (u.complete = true → Keeps s t []))) ∧
    (∀ j l, s.released = j :: l → s.fenced ⟨.slice, d⟩ = false → s.n (Entry.sliceState d) = 0 →
      s.hasFlag j.stream flagSuspended = false →
      s.buffersHeld j.stream < s.cfgN j.stream (Entry.streamDecodedFrames j.stream) →
      ∃ t, exec (.decodeStart d) s = .next t ∧ t.released = l ∧ Assoc.find t.slices d = some j ∧ t.n (Entry.sliceState d) = 1 ∧
        (∀ x, x ≠ j.stream → t.ctx x = s.ctx x) ∧ (t.ctx j.stream).units = (s.ctx j.stream).units ∧ MemoryKept s t ∧
        EntriesKept s t [Entry.sliceState d]) ∧
    (∀ j, Assoc.find s.slices d = some j → (∃ e ∈ s.slices, e.1 ≠ d.val ∧ e.2.stream = j.stream ∧ e.2.order < j.order) →
      ∃ t, exec (.decodeComplete d r) s = .next t ∧ Keeps s t []) ∧
    (∀ j, Assoc.find s.slices d = some j → j.stream = i.val → (∀ e ∈ s.slices, e.1 ≠ d.val → e.2.stream = i.val → j.order ≤ e.2.order) →
      s.hasFlag i flagSuspended = false → j.discard = false → s.activePairs = [] → s.unadapting →
      ∃ t, exec (.decodeComplete d r) s = .next t ∧ t.n (Entry.sliceState d) = 0 ∧
        t.n (Entry.slicePicturesDecoded d) = (s.n (Entry.slicePicturesDecoded d) + 1) % 2 ^ 32 ∧ MemoryKept s t ∧
        (r.supported = true → s.tooBig i r.picture = false → j.unit.lossy = false → r.syntaxError = false →
          (s.hasFlag i flagTainted = false ∨ r.irap = true) → j.unit.arrival = [] →
          t.n (Entry.streamFramesTrue i) = (s.n (Entry.streamFramesTrue i) + 1) % 2 ^ 32 ∧
          t.streamState i = (if s.streamState i = 1 then 2 else s.streamState i) ∧ t.hasFlag i flagTainted = false ∧
          t.hasFlag i flagLossy = false ∧
          EntriesKept s t ([Entry.sliceState d, Entry.slicePicturesDecoded d, Entry.streamFramesTrue i, Entry.streamFlags i,
            Entry.streamState i, Entry.visionFlowDemand, Entry.visionFlowCapacity, Entry.visionFlowServedLoad,
            Entry.visionFlowServedMap] ++ (List.range 4).map Entry.stereoState)) ∧
        (j.unit.lossy = true ∨ r.syntaxError = true ∨ r.supported = false →
          t.n (Entry.streamFramesLossy i) = (s.n (Entry.streamFramesLossy i) + 1) % 2 ^ 32 ∧ t.hasFlag i flagTainted = true ∧
          t.hasFlag i flagLossy = true ∧ t.n (Entry.streamFramesTrue i) = s.n (Entry.streamFramesTrue i) ∧
          (r.supported = false → t.hasFlag i flagFormat = true) ∧
          EntriesKept s t ([Entry.sliceState d, Entry.slicePicturesDecoded d, Entry.sliceBitstreamErrors d, Entry.streamFramesLossy i,
            Entry.streamFlags i] ++ (List.range 16).map Entry.portUpHistoryResets)))

/-- R80, R87, R94, R425: a stream of a LIVE or STARTING partition that passes its start checks is STARTING with its counters at 0 and holds
its buffers; one that fails them stays OFF with its StartError, and the start of a stream of another partition is refused and counted; a
stream that is disabled is STOPPING and OFF when it has stopped, with its buffers given back, and suspended streams may resume; a time
without data sets NoData. Stopping is stated of a device without pairs, generation jobs and adaptation. Each of these completes where its
conditions hold (the next state is a conclusion): NO_DATA_TIMEOUT, STREAM_ENABLE, STREAM_DISABLE, STREAM_STOP_COMPLETE. -/
def Obligations.StreamsStartAndStop : Prop :=
  ∀ (s : State) (i : Fin 512), s.running = true → s.boot.managing = true →
    (s.streamState i = 0 →
      ∃ t, exec (.streamEnable i) s = .next t ∧ MemoryKept s t ∧
        (s.partOpen (s.streamPartition i) = true → s.streamStartError i = 0 →
          t.streamState i = 1 ∧ t.n (Entry.streamEnable i) = 1 ∧
          (∀ k ∈ genCounters i ++ [Entry.streamPacketsReceived i, Entry.streamPacketsDropped i, Entry.streamFramesTrue i,
            Entry.streamFramesLossy i, Entry.streamStartError i, Entry.streamPendingStart i], t.n k = 0) ∧
          Assoc.find (t.partRt (s.streamPartition i)).deviceUse (tagStream i) = some (s.streamBytes i) ∧
          (∀ k ∈ streamConfigKeys i, t.cfg i k = s.raw k) ∧ (∀ j, j ≠ i.val → t.ctx j = s.ctx j)) ∧
        (s.partOpen (s.streamPartition i) = true → s.streamStartError i ≠ 0 →
          t.streamState i = 0 ∧ t.n (Entry.streamEnable i) = 0 ∧ t.n (Entry.streamStartError i) = s.streamStartError i ∧
          Keeps s t [Entry.streamState i, Entry.streamEnable i, Entry.streamStartError i, Entry.streamPendingStart i]) ∧
        (s.partOpen (s.streamPartition i) = false → t.streamState i = 0 ∧ t.n (Entry.streamEnable i) = 0 ∧
          Keeps s t [Entry.streamEnable i, Entry.partRefusedEnables (s.streamPartition i)]) ∧
        EntriesKept s t (genCounters i ++ [Entry.streamGenGenFlags i, Entry.streamState i, Entry.streamEnable i, Entry.streamPacketsReceived i,
          Entry.streamPacketsDropped i, Entry.streamFramesTrue i, Entry.streamFramesLossy i, Entry.streamFlags i,
          Entry.streamStartError i, Entry.streamPaceRatio i, Entry.streamRatioState i, Entry.streamPaceRatios i,
          Entry.streamPendingStart i, Entry.decodeDeclaredLoad, Entry.decodeCapacity, Entry.decodeSuspendedStreams,
          Entry.partRefusedEnables (s.streamPartition i)])) ∧
    (s.streamOpen i = true → s.activePairs = [] → s.gen.jobs = [] → s.unadapting →
      ∃ t, exec (.streamDisable i) s = .next t ∧ t.streamState i = 3 ∧ t.n (Entry.streamEnable i) = 0 ∧
        t.n (Entry.streamPaceRatio i) = 0 ∧ t.n (Entry.streamRatioState i) = 0 ∧ t.n (Entry.streamGenGenState i) = 0 ∧
        t.hasFlag i flagSuspended = false ∧ t.hasFlag i flagTainted = false ∧ t.hasFlag i flagNoData = s.onFencedPort i ∧
        (t.ctx i).units = [] ∧ t.released = s.released.filter (fun j => j.stream ≠ i.val) ∧
        t.slices = s.slices.filter (fun e => e.2.stream ≠ i.val) ∧ (∀ j, j ≠ i.val → t.ctx j = s.ctx j) ∧ MemoryKept s t ∧
        EntriesKept s t ([Entry.streamState i, Entry.streamEnable i, Entry.streamPaceRatio i, Entry.streamRatioState i,
          Entry.streamPaceRatios i, Entry.streamFlags i, Entry.decodeDeclaredLoad, Entry.decodeCapacity,
          Entry.decodeSuspendedStreams, Entry.streamGenGenState i, Entry.streamGenGenFlags i, Entry.streamGenAnchorsInUse i,
          Entry.genAnchorsFree, Entry.genAnchorsShadow, Entry.visionFlowDemand, Entry.visionFlowCapacity,
          Entry.visionFlowServedLoad, Entry.visionFlowServedMap] ++ (List.range 8).map Entry.sliceState ++
          (List.range 4).map Entry.flowState ++ (List.range 4).map Entry.stereoState)) ∧
    (s.streamState i = 3 → s.on (Entry.streamPendingStart i) = false → s.unadapting → s.unrecorded →
      ∃ t, exec (.streamStopComplete i) s = .next t ∧ t.streamState i = 0 ∧ t.ctx i = {} ∧
        Assoc.find (t.partRt (s.streamPartition i)).deviceUse (tagStream i) = none ∧ (∀ j, j ≠ i.val → t.ctx j = s.ctx j) ∧
        MemoryKept s t ∧
        EntriesKept s t ([Entry.streamState i, Entry.decodeDeclaredLoad, Entry.decodeCapacity, Entry.decodeSuspendedStreams] ++
          (List.range 512).map Entry.streamFlags)) ∧
    (s.streamOpen i = true → ∃ t, exec (.noDataTimeout i) s = .next t ∧ t.hasFlag i flagNoData = true ∧
      Keeps s t [Entry.streamFlags i])

/-- R89 to R92, R97: a packet at a CSI-2 port that is not active changes nothing; one with an uncorrectable header, for no context or with a
bad checksum is dropped and counted; a frame start begins a frame of its context, a line is added to it, and its end makes it a true
frame, or a lossy one where a line is missing. A lost port's frames are lossy. The port's own changes follow. Frames are stated of a
device without pairs and adaptation, the true frame of a context whose partition no port anchors. Each of these completes where its
conditions hold (the next state is a conclusion): CSI_PACKET_RECEIVED, CSI_LINE_RECEIVED, CSI_FRAME_END, CSI_PORT_ACTIVE, CSI_PORT_DOWN. -/
def Obligations.CsiReception : Prop :=
  ∀ (s : State) (c : Fin 4) (vc : BitVec 4) (q : CsiPacket) (l : CsiLine) (errors : Nat) (lines : List Nat) (i : Nat),
    (s.n (Entry.csiState c) ≠ 1 → (∃ t, exec (.csiPacketReceived c q) s = .next t ∧ Keeps s t []) ∧
      (∃ t, exec (.csiLineReceived c l) s = .next t ∧ Keeps s t []) ∧
      (∃ t, exec (.csiFrameEnd c vc ⟨errors, lines⟩) s = .next t ∧ Keeps s t []) ∧
      ∃ t, exec (.csiPortDown c) s = .next t ∧ Keeps s t []) ∧
    (s.running = true → s.n (Entry.csiState c) = 0 → s.inForceN (Entry.csiEnable c) = 1 → s.fenced ⟨.csi, c⟩ = false →
      ∃ t, exec (.csiPortActive c) s = .next t ∧ t.n (Entry.csiState c) = 1 ∧ Keeps s t [Entry.csiState c]) ∧
    (s.n (Entry.csiState c) = 1 →
      (∃ t, exec (.csiPortDown c) s = .next t ∧ t.n (Entry.csiState c) = 0 ∧
        (t.csiPort c).frames = (s.csiPort c).frames.map (fun f => { f with lossy := true }) ∧
        Keeps { s with csi := t.csi } t [Entry.csiState c]) ∧
      (∃ t, exec (.csiPacketReceived c (.lineStart vc.toNat 2)) s = .next t ∧
        t.n (Entry.csiPacketsDropped c) = (s.n (Entry.csiPacketsDropped c) + 1) % 2 ^ 32 ∧ Keeps s t [Entry.csiPacketsDropped c]) ∧
      (2 ≤ errors → ∃ t, exec (.csiFrameEnd c vc ⟨errors, lines⟩) s = .next t ∧
        t.n (Entry.csiPacketsDropped c) = (s.n (Entry.csiPacketsDropped c) + 1) % 2 ^ 32 ∧ Keeps s t [Entry.csiPacketsDropped c]) ∧
      (∀ ty pixels crcOk, s.csiTaken c vc.toNat ty = [] →
        ∃ t, exec (.csiPacketReceived c (.longPacket vc.toNat ty 1 crcOk pixels)) s = .next t ∧
          t.n (Entry.csiPacketsDropped c) = (s.n (Entry.csiPacketsDropped c) + 1) % 2 ^ 32 ∧
          t.n (Entry.csiEccCorrected c) = (s.n (Entry.csiEccCorrected c) + 1) % 2 ^ 32 ∧
          Keeps s t [Entry.csiPacketsDropped c, Entry.csiEccCorrected c]) ∧
      (∀ ty pixels, s.csiTaken c vc.toNat ty = [i] →
        ∃ t, exec (.csiPacketReceived c (.longPacket vc.toNat ty 0 false pixels)) s = .next t ∧
          t.n (Entry.csiCrcErrors c) = (s.n (Entry.csiCrcErrors c) + 1) % 2 ^ 32 ∧
          t.n (Entry.csiPacketsDropped c) = (s.n (Entry.csiPacketsDropped c) + 1) % 2 ^ 32 ∧
          (t.csiPort c).frames = (s.csiPort c).frames.map (fun f => if f.stream = i then { f with lossy := true } else f) ∧
          Keeps { s with csi := t.csi } t [Entry.csiCrcErrors c, Entry.csiPacketsDropped c]) ∧
      (s.csiStreams c vc.toNat = [i] → i < 512 → s.activePairs = [] →
        ((∀ f ∈ (s.csiPort c).frames, f.stream ≠ i) → s.buffersHeld i < s.cfgN i (Entry.streamDecodedFrames i) →
          ∃ t, exec (.csiPacketReceived c (.frameStart vc.toNat 0)) s = .next t ∧
            (t.csiPort c).frames = (s.csiPort c).frames ++ [{ vc := vc.toNat, stream := i }] ∧
            t.hasFlag i flagNoData = false ∧ (∀ j, j ≠ i → t.ctx j = s.ctx j) ∧
            t.ctx i = { s.ctx i with frames := (t.ctx i).frames } ∧ (∀ f ∈ (t.ctx i).frames, f ∈ (s.ctx i).frames) ∧
            Keeps { s with csi := t.csi, streams := t.streams } t [Entry.streamFlags i]) ∧
        (l.vc = vc.toNat → s.csiTaken c l.vc l.dataType = [i] → (∃ f ∈ (s.csiPort c).frames, f.stream = i) → linePixels l ≤ 4096 →
          ((s.csiPort c).frames.map s.csiWaiting).foldl (· + ·) 0 + s.csiEndedWaiting c < 64 →
          ∃ t, exec (.csiLineReceived c l) s = .next t ∧
            (t.csiPort c).frames =
              (s.csiPort c).frames.map (fun f => if f.stream = i then { f with lines := f.lines ++ [l] } else f) ∧
            t.hasFlag i flagNoData = false ∧
            Keeps { s with csi := t.csi } t (Entry.streamFlags i :: (List.range 4).map Entry.stereoState)) ∧
        (∀ f, (s.csiPort c).frames.filter (fun g => g.vc = vc.toNat) = [f] → f.stream = i → s.unadapting → errors < 2 →
          ∃ t, exec (.csiFrameEnd c vc ⟨errors, lines⟩) s = .next t ∧
            t.n (Entry.csiFramesReceived c) = (s.n (Entry.csiFramesReceived c) + 1) % 2 ^ 32 ∧
            t.n (Entry.csiEccCorrected c) = (if errors = 1 then (s.n (Entry.csiEccCorrected c) + 1) % 2 ^ 32
              else s.n (Entry.csiEccCorrected c)) ∧
            (t.csiPort c).frames = (s.csiPort c).frames.filter (fun g => g.stream ≠ i) ∧ MemoryKept s t ∧
            (f.lossy = true → t.n (Entry.streamFramesLossy i) = (s.n (Entry.streamFramesLossy i) + 1) % 2 ^ 32 ∧
              t.hasFlag i flagLossy = true ∧ t.hasFlag i flagTainted = s.hasFlag i flagTainted ∧
              t.n (Entry.streamFramesTrue i) = s.n (Entry.streamFramesTrue i) ∧
              EntriesKept s t ([Entry.csiFramesReceived c, Entry.csiEccCorrected c, Entry.streamFramesLossy i, Entry.streamFlags i] ++
                (List.range 16).map Entry.portUpHistoryResets ++ (List.range 4).map Entry.stereoState)) ∧
            (f.lossy = false → s.anchorPort (s.streamPartition i) = none →
              s.tooBig i (convertCsi (s.cfgN i (Entry.streamDataType i)) (s.cfgN i (Entry.streamBayerOrder i))
                (s.cfgB i (Entry.streamColourMatrix i)) (f.lines.map CsiLine.codes)) = false →
              t.n (Entry.streamFramesTrue i) = (s.n (Entry.streamFramesTrue i) + 1) % 2 ^ 32 ∧ t.streamState i = 2 ∧
              EntriesKept s t ([Entry.csiFramesReceived c, Entry.csiEccCorrected c, Entry.streamFramesTrue i, Entry.streamFlags i,
                Entry.streamState i, Entry.visionFlowDemand, Entry.visionFlowCapacity, Entry.visionFlowServedLoad,
                Entry.visionFlowServedMap] ++ (List.range 4).map Entry.stereoState)))))

/-- R99, R100, R109, R112, R425: a pair that passes its start checks is STARTING with its counters at 0 and holds its buffers; one that fails
them stays OFF with its StartError, and the start of a pair of another partition is refused; a pair that is disabled is STOPPING, with its
waiting frames and its pair frames gone, and OFF when it has stopped, which may resume suspended pairs. Each of these completes where its
conditions hold (the next state is a conclusion): PAIR_ENABLE, PAIR_DISABLE, PAIR_STOP_COMPLETE. -/
def Obligations.PairsStartAndStop : Prop :=
  ∀ (s : State) (p : Fin 64), s.running = true → s.boot.managing = true → (∀ e ∈ s.vision.stereo, e.1 < 4) →
    (s.pairState p = 0 → s.partOpen (s.pairPartition p) = true →
      ∃ t, exec (.pairEnable p) s = .next t ∧ t.n (Entry.pairStartError p) = s.pairStartError p ∧ MemoryKept s t ∧
        (s.pairStartError p = 0 → t.pairState p = 1 ∧ t.n (Entry.pairEnable p) = 1 ∧ t.n (Entry.pairFramesOut p) = 0 ∧
          t.n (Entry.pairFramesUnpaired p) = 0 ∧ t.n (Entry.pairFramesAbandoned p) = 0 ∧ t.n (Entry.pairPendingStart p) = 0 ∧
          (t.n (Entry.pairFlags p)).testBit 0 = t.streamed p ∧ (∀ k ∈ pairConfigKeys p, t.pairCfg p k = s.raw k) ∧
          Assoc.find (t.partRt (s.pairPartition p)).deviceUse (tagPair p) = some (s.pairBytes p) ∧
          EntriesKept s t ([Entry.pairState p, Entry.pairEnable p, Entry.pairFramesOut p, Entry.pairFramesUnpaired p,
            Entry.pairFramesAbandoned p, Entry.pairFlags p, Entry.pairStartError p, Entry.pairPendingStart p] ++ stereoKeys)) ∧
        (s.pairStartError p ≠ 0 → t.pairState p = 0 ∧ t.n (Entry.pairEnable p) = 0 ∧
          Keeps s t [Entry.pairState p, Entry.pairEnable p, Entry.pairStartError p, Entry.pairPendingStart p])) ∧
    (s.pairState p = 0 → s.partOpen (s.pairPartition p) = false →
      ∃ t, exec (.pairEnable p) s = .next t ∧ t.n (Entry.pairEnable p) = 0 ∧
        Keeps s t [Entry.pairEnable p, Entry.partRefusedEnables (s.pairPartition p)]) ∧
    (s.pairOpen p = true →
      ∃ t, exec (.pairDisable p) s = .next t ∧ t.pairState p = 3 ∧ t.n (Entry.pairEnable p) = 0 ∧
        (t.pairSt p).waitLeft = none ∧ (t.pairSt p).waitRight = none ∧
        t.vision.queued = s.vision.queued.filter (fun f => f.pair ≠ p.val) ∧
        t.vision.stereo = s.vision.stereo.filter (fun e => e.2.pair ≠ p.val) ∧
        t.n (Entry.pairFramesAbandoned p) = countedUp 32 (s.n (Entry.pairFramesAbandoned p))
          ((s.vision.queued.filter fun f => f.pair = p.val).length + (s.vision.stereo.filter fun e => e.2.pair = p.val).length) ∧
        MemoryKept s t ∧
        EntriesKept s t ([Entry.pairState p, Entry.pairEnable p, Entry.pairFlags p, Entry.pairFramesUnpaired p,
          Entry.pairFramesAbandoned p] ++ stereoKeys ++ (List.range 4).map Entry.stereoState)) ∧
    (s.pairState p = 3 → s.on (Entry.pairPendingStart p) = false →
      ∃ t, exec (.pairStopComplete p) s = .next t ∧ t.pairState p = 0 ∧ t.pairSt p = {} ∧
        Assoc.find (t.partRt (s.pairPartition p)).deviceUse (tagPair p) = none ∧ MemoryKept s t ∧
        EntriesKept s t ([Entry.pairState p] ++ (List.range 64).map Entry.pairFlags ++ stereoKeys))

/-- R111, R112, R116, R119: a free stereo engine takes the queued pair frame with the earliest mapped time, and a free flow engine a waiting
frame; at its end a pair frame is counted, makes a STARTING pair LIVE, and gives the frame its depth map; a flow frame gives its frame the
flow records against the frame before it, or invalid ones where that one is missing. Each of these completes where its conditions hold
(the next state is a conclusion): STEREO_PASS_START, STEREO_FRAME_COMPLETE, FLOW_FRAME_START, FLOW_FRAME_COMPLETE. -/
def Obligations.VisionEnginesServe : Prop :=
  ∀ (s : State) (g : Fin 4),
    (s.fenced ⟨.stereo, g⟩ = false → Assoc.find s.vision.stereo g = none →
      (let mine := s.vision.queued.filter fun f =>
        if s.pinned g = [] then !s.streamed f.pair else decide (f.pair ∈ s.pinned g)
       mine ≠ [] → (∀ f ∈ mine, s.outputFree f.pair = true) →
       ∃ t f, exec (.stereoPassStart g) s = .next t ∧ f ∈ mine ∧
         (∀ x ∈ mine, max f.left.mapped f.right.mapped ≤ max x.left.mapped x.right.mapped ∨ 64 ≤ x.pair ∨ 64 ≤ f.pair) ∧
         Assoc.find t.vision.stereo g = some f ∧ t.vision.queued = s.vision.queued.filter (fun x => x ≠ f) ∧
         t.n (Entry.stereoState g) = 1 ∧ MemoryKept s t ∧ EntriesKept s t [Entry.stereoState g])) ∧
    (∀ f, Assoc.find s.vision.stereo g = some f → f.pair < 64 →
      ∃ t, exec (.stereoFrameComplete g) s = .next t ∧
        t.n (Entry.stereoState g) = (if s.fenced ⟨.stereo, g⟩ then 2 else ofBool (s.forward g)) ∧
        t.vision.stereo = Assoc.drop s.vision.stereo g ∧
        t.n (Entry.stereoPairFrames g) = (s.n (Entry.stereoPairFrames g) + 1) % 2 ^ 32 ∧
        t.n (Entry.pairFramesOut f.pair) = (s.n (Entry.pairFramesOut f.pair) + 1) % 2 ^ 32 ∧
        t.pairState f.pair = (if s.pairState f.pair = 1 then 2 else s.pairState f.pair) ∧
        (let d := stereoMatch (s.stereoConfig f.pair)
            (divCeil (s.cfgN (s.pairLeft f.pair) (Entry.streamMaxWidth (s.pairLeft f.pair))) 64 + 1) f.left.picture f.right.picture
            (s.pairCfg f.pair (Entry.pairRectifyLeft f.pair)).toBytes (s.pairCfg f.pair (Entry.pairRectifyRight f.pair)).toBytes
         (t.pairSt f.pair).outputs = (s.pairSt f.pair).outputs ++ [(f.left.ordinal, d)] ∧
         (s.pairState f.pair ≠ 1 → (t.ctx (s.pairLeft f.pair)).frames = (s.ctx (s.pairLeft f.pair)).frames.map (fun x =>
          if x.ordinal = f.left.ordinal ∧ x.depth = .waits f.pair then
            { x with depth := if s.pairCfgN f.pair (Entry.pairFocalBaseline f.pair) % 2 ^ 31 = 0 then .without else .have_ d }
          else x))) ∧
        MemoryKept s t ∧
        EntriesKept s t ([Entry.stereoState g, Entry.stereoPairFrames g, Entry.pairFramesOut f.pair, Entry.pairState f.pair] ++
          if s.pairState f.pair = 1 then
            (List.range 4).map Entry.stereoState ++ (List.range 64).flatMap fun p => [Entry.pairFlags p, Entry.pairFramesUnpaired p]
          else [])) ∧
    (s.fenced ⟨.flow, g⟩ = false → s.n (Entry.flowState g) = 0 → s.vision.flowQueue ≠ [] →
      ∃ t e, exec (.flowFrameStart g) s = .next t ∧ e ∈ s.vision.flowQueue ∧
        t.n (Entry.flowState g) = 1 ∧
        Keeps { s with vision := { s.vision with
          flowQueue := s.vision.flowQueue.filter (fun x => x ≠ e)
          flow := Assoc.put s.vision.flow g
            { stream := e.1, ordinal := e.2, levels := s.n Entry.visionFlowLevels, search := s.n Entry.visionFlowSearch
              seeding := s.on Entry.visionFlowSeeding } } } t [Entry.flowState g]) ∧
    (∀ j x, Assoc.find s.vision.flow g = some j → (s.ctx j.stream).frames.find? (fun y => y.ordinal = j.ordinal) = some x →
      ∃ t, exec (.flowFrameComplete g) s = .next t ∧ t.n (Entry.flowState g) = 0 ∧
        t.n (Entry.flowFlowFrames g) = (s.n (Entry.flowFlowFrames g) + 1) % 2 ^ 32 ∧ t.vision.flow = Assoc.drop s.vision.flow g ∧
        (∀ y, x.follows = true → (s.ctx j.stream).frames.find? (fun z => z.ordinal + 1 = j.ordinal) = some y →
          (t.ctx j.stream).frames = (s.ctx j.stream).frames.map (fun z => if z.ordinal = j.ordinal then
            { z with flow := .have_ (flowRecords x.picture y.picture x.motion j.levels j.search j.seeding) } else z)) ∧
        (x.follows = false → (t.ctx j.stream).frames = (s.ctx j.stream).frames.map (fun z => if z.ordinal = j.ordinal then
            { z with flow := .have_ (flowInvalid x.picture) } else z)) ∧
        MemoryKept s t ∧ EntriesKept s t [Entry.flowState g, Entry.flowFlowFrames g])

/-- R128, R134, R135, R137, R139, R170, R174: the oldest waiting frame whose flow and depth are settled becomes ready (in replay it is
withheld); at the choice point of a port whose streams are in PASS every camera view shows the newest ready frame of its stream, with code
TRUE; a write of Mode ends the fallback of Lead and, with 0, frees the stream's anchors. The frame is stated of an IDLE stream of Mode 0
that no port shows and whose frame buffers are not full. Each of these completes where its conditions hold (the next state is a
conclusion): TRUE_FRAME_READY, CHOICE_POINT, GEN_MODE_WRITE. -/
def Obligations.GenerationFollows : Prop :=
  ∀ (s : State) (i : Fin 512) (n : Fin 16) (mode : BitVec 8), s.unrecorded →
    (∀ f, s.waitingFrame i = some f →
      ((s.partRt (s.streamPartition i)).arrivalMode = 2 → ∃ t, exec (.trueFrameReady i) s = .next t ∧
        Keeps (s.setPartRt (s.streamPartition i) { s.partRt (s.streamPartition i) with
          withheld := (s.partRt (s.streamPartition i)).withheld ++ [(i.val, f.ordinal)] }) t []) ∧
      ((s.partRt (s.streamPartition i)).arrivalMode = 0 → s.genState i = 0 → s.n (Entry.streamGenMode i) = 0 →
        s.leadFallback i = false → s.showingPorts i = [] →
        (s.ctx i).frames.length + s.decodingOf i + ofBool (s.csiFrame? i).isSome ≤ s.cfgN i (Entry.streamDecodedFrames i) →
        ∃ t, exec (.trueFrameReady i) s = .next t ∧
          (t.ctx i).frames = (s.ctx i).frames.map (fun x => if x.ordinal = f.ordinal then { x with ready := true } else x) ∧
          ((s.ctx i).frames.find? (fun x => x.ordinal = f.ordinal) = some f → (t.genStream i).diffs = (match f.before with
              | none => (s.genStream i).diffs
              | some b => ((f.timestamp - b) :: (s.genStream i).diffs).take 16) ∧
            t.n (Entry.streamGenFlowSkipped i) = (if f.noFlow then (s.n (Entry.streamGenFlowSkipped i) + 1) % 2 ^ 32
              else s.n (Entry.streamGenFlowSkipped i))) ∧
          (∀ j, j ≠ i.val → t.ctx j = s.ctx j) ∧ MemoryKept s t ∧
          EntriesKept s t [Entry.streamGenGenFlags i, Entry.streamGenFlowSkipped i])) ∧
    (n.val < s.portCount → s.portRuns n = true → s.shows n = true → (s.portRt n).counting = true →
      ((s.portRt n).chosen.head?.map FrameChoice.frame) ≠ some ((s.portRt n).frames + 1) →
      (s.partRt (s.portOwner n)).arrivalMode ≠ 2 →
      (∀ l ∈ s.layers n, l.kind = 1 ∧ s.neural n l = false ∧ l.source ∈ layerStreams (s.portRt n).applied) →
      (∀ j ∈ layerStreams (s.portRt n).applied, s.streamState j = 2 ∧ s.genState j = 2 ∧ s.modeInEffect j = 2 ∧
        (s.genStream j).pendingCuts = 0 ∧ (s.genStream j).pendingRetract = false ∧ ∀ m ∈ s.showingPorts j, s.genBuffers j m ≠ 0) →
      (∀ j, j < 512 → s.genState j ≠ 0 → j ∉ layerStreams (s.portRt n).applied → s.showingPorts j ≠ []) →
      ∃ t c, exec (.choicePoint n) s = .next t ∧ (t.portRt n).chosen = (c :: (s.portRt n).chosen).take 2 ∧
        c.frame = (s.portRt n).frames + 1 ∧
        c.views.map (fun v => (v.layer, v.stream, v.pic, v.code)) = (s.layers n).map (fun l =>
          (l.index, l.source, (s.newestReady l.source).map (fun f => f.pic l.source),
            if s.newestReady l.source = none then noFrameCode else 0)) ∧
        MemoryKept s t ∧
        EntriesKept s t ([Entry.portUpQualityInUse n] ++
          (layerStreams (s.portRt n).applied).map Entry.streamGenGenState)) ∧
    (s.running = true → s.boot.managing = true → s.unadapting →
      ∃ t, exec (.genModeWrite i mode) s = .next t ∧ t.n (Entry.streamGenMode i) = min 2 mode.toNat ∧
        t.leadFallback i = false ∧ t.n (Entry.streamGenLeadError i) = 0 ∧
        (mode = 0 → t.anchors.records = s.anchors.records.filter (fun e => e.2.stream ≠ i.val) ∧
          t.n (Entry.streamGenAnchorsInUse i) = 0) ∧
        (mode ≠ 0 → t.anchors = s.anchors) ∧ MemoryKept s t ∧
        EntriesKept s t [Entry.streamGenMode i, Entry.streamGenGenFlags i, Entry.streamGenLeadError i, Entry.streamGenAnchorsInUse i,
          Entry.genAnchorsFree, Entry.genAnchorsShadow])

/-- R254 step 1, R257: Enable 1 of a port that is OFF and passes the start checks makes it STARTING: its timing is taken, its compose buffers
are reserved in partition 0, its counters and StartError are 0, LastFailedRect is 255, and its PV pair stays deasserted. R254 steps 5 and
6, R255: Enable 0 of a port that is STARTING, LIVE or SAFE makes it STOPPING with its PV pair deasserted; at the end of the stop it is
OFF, its compose buffers are given back and it counts no frames. Stated of a port without a generation or up-scaling job of its own. Each
of these completes where its conditions hold (the next state is a conclusion): PORT_ENABLE, PORT_DISABLE, PORT_STOP_COMPLETE. -/
def Obligations.PortsStartAndStop : Prop :=
  (∀ (s : State) (n : Fin 16), n.val < s.portCount → s.running = true → s.boot.managing = true → s.portState n = 0 →
     s.portStartError n = 0 →
     ∃ t, exec (.portEnable n) s = .next t ∧ t.portState n = 1 ∧ t.vouched n = false ∧ t.n (Entry.portEnable n) = 1 ∧
       (∀ k ∈ portCounters n, t.n k = 0) ∧ t.n (Entry.portStartError n) = 0 ∧ t.n (Entry.rectLastFailedRect n) = 255 ∧
       (t.portRt n).timing = some (s.timingEntries n) ∧ (t.portRt n).counting = false ∧
       Assoc.find (t.partRt 0).deviceUse (tagCompose n) = some (s.timingEntries n).composeBytes ∧
       MemoryKept s t ∧
       EntriesKept s t (portCounters n ++ [Entry.portState n, Entry.portEnable n, Entry.portStartError n, Entry.portPendingStart n,
         Entry.rectLastFailedRect n, Entry.timingGenlockState n, Entry.pvPvPairs, Entry.portComposeCost n, Entry.portFlags n,
         Entry.visionFlowDemand, Entry.visionFlowCapacity, Entry.visionFlowServedLoad, Entry.visionFlowServedMap])) ∧
  (∀ (s : State) (n : Fin 16), n.val < s.portCount → (∀ j ∈ s.gen.jobs, j.port ≠ n.val) →
     (s.running = true → s.boot.managing = true → s.shows n = true → s.anchored →
       ∃ t, exec (.portDisable n) s = .next t ∧ t.portState n = 3 ∧ t.vouched n = false ∧ t.n (Entry.portEnable n) = 0 ∧
         t.n (Entry.portSafeCause n) = 0 ∧ t.n (Entry.portSafeKind n) = 0 ∧ t.portRt n =
           { s.portRt n with black := true, carrying := false, waitRclk := false } ∧ MemoryKept s t ∧
         EntriesKept s t [Entry.portState n, Entry.portEnable n, Entry.portSafeCause n, Entry.portSafeKind n, Entry.pvPvPairs,
           Entry.portFlags n, Entry.visionFlowDemand, Entry.visionFlowCapacity, Entry.visionFlowServedLoad,
           Entry.visionFlowServedMap]) ∧
     (s.portState n = 3 → s.partState (s.portOwner n) ≠ 3 → s.partState (s.portOwner n) ≠ 4 →
       (∀ b ∈ s.gen.buffers, b.2.1 ≠ n.val) → (s.portRt n).nextTable = none → s.n (Entry.portPendingStart n) = 0 →
       (∀ i, i < 512 → s.genState i = genIdle) → (∀ p, s.anchorPort p ≠ some n.val) → s.anchored →
       ∃ t, exec (.portStopComplete n) s = .next t ∧ t.portState n = 0 ∧ t.vouched n = false ∧
         Assoc.find (t.partRt 0).deviceUse (tagCompose n) = none ∧ (t.portRt n).counting = false ∧ (t.portRt n).timing = none ∧
         MemoryKept s t ∧ EntriesKept s t [Entry.portState n, Entry.pvPvPairs, Entry.portFlags n]))

/-- R28, R237, R243, R254 steps 2 and 4: a frame start of a port whose clock runs counts the frame, from 0; the port frames shown are those of
the composition that was due; a STARTING port whose frame passed its checks becomes LIVE; the PV pair is asserted exactly while the port
is LIVE. Stated of a port that belongs to no partition, anchors its own, or leaves the anchor with another port. Each of these completes
where its conditions hold (the next state is a conclusion): PORT_FRAME_START. -/
def Obligations.FrameStartCounts : Prop :=
  ∀ (s : State) (n : Fin 16) (crc : BitVec 32), n.val < s.portCount → s.portRuns n = true →
    s.vouched n = decide (s.portState n = 2) → (s.portRt n).recordRing = none →
    (s.n (Entry.portPartition n) = 0 ∨
      (s.anchorPort (s.n (Entry.portPartition n)) = some n.val ∧
        (s.partRt (s.n (Entry.portPartition n))).arrivalSeen = s.n (Entry.partArrivalMode (s.n (Entry.portPartition n)))) ∨
      ((s.owned (s.n (Entry.portPartition n))).master ≠ n.val ∧
        ∃ m, s.anchorPort (s.n (Entry.portPartition n)) = some m ∧ m ≠ n.val)) →
    ∃ t, exec (.portFrameStart ⟨n, crc⟩) s = .next t ∧
      (t.portRt n).counting = true ∧
      (t.portRt n).frames = (if (s.portRt n).counting then (s.portRt n).frames + 1 else 0) ∧
      t.n (Entry.portFrameCount n) = (t.portRt n).frames % 2 ^ 32 ∧
      (t.portRt n).failed = (s.portRt n).failedNext ∧ (t.portRt n).failedNext = false ∧
      (∀ c, (t.portRt n).scan = some c → (s.portRt n).composed = some c ∧ c.frame = (t.portRt n).frames) ∧
      t.vouched n = decide (t.portState n = 2) ∧
      (s.portState n = 2 → t.portState n = 2) ∧
      (s.portState n = 1 → (s.portRt n).counting = true → (s.portRt n).failed = false → (s.portRt n).failedNext = false →
        ((s.portRt n).scan.map Composed.frame) = some (s.portRt n).frames → s.safeReqOn = false → s.held = false →
        s.unitsFenced n = false → t.portState n = 2) ∧
      MemoryKept s t ∧
      EntriesKept s t ([Entry.portFrameCount n, Entry.portState n, Entry.portSafeCause n, Entry.portSafeKind n, Entry.portFlags n,
        Entry.pvPvPairs, Entry.safeHoldIntegrityFailures n, Entry.safeHoldFrameCount n, Entry.safeHoldAge n, Entry.visionFlowDemand, Entry.visionFlowCapacity,
        Entry.visionFlowServedLoad, Entry.visionFlowServedMap] ++ (List.range 5).map (codeCounter n))

/-- R236, R244, R248: the compose point of the next frame of a port whose rectangles need no prediction and whose views wait for no job: the
composition of that frame begins with the symbols and rectangles in force and the age of the oldest camera view; a view that is not fresh
makes the frame fail with SafeCause 1 and is counted in FreshnessFailures. R236, R237, R250, R256: a composition that is in its buffer
before its frame starts waits for that frame; one that is complete in time after the frame start is shown in that frame; at the first
active line of a frame whose composition is unfinished, ComposeLate counts and the frame fails with SafeCause 4 (the event on the port is
the Presentation Integrity Unit's). Stated of a port without a generation or up-scaling job or buffer to give back. Each of these
completes where its conditions hold (the next state is a conclusion): COMPOSE_POINT, COMPOSITION_COMPLETE, COMPOSE_LATE. -/
def Obligations.CompositionsServed : Prop :=
  (∀ (s : State) (n : Fin 16), n.val < s.portCount → s.portRuns n = true → s.shows n = true → (s.portRt n).counting = true →
     (s.portRt n).nextTable = none →
     ((s.portRt n).composing.map Composed.frame) ≠ some ((s.portRt n).frames + 1) →
     ((s.portRt n).composed.map Composed.frame) ≠ some ((s.portRt n).frames + 1) →
     (∀ e ∈ activeRects (s.b (Entry.rectRectTable n)), e.2.mode ≠ 2) →
     (∀ j ∈ s.gen.jobs, j.port ≠ n.val) → (∀ c ∈ (s.portRt n).chosen, ∀ v ∈ c.views, v.settled) →
     let F := (s.portRt n).frames + 1
     let cams := s.cameraViews n F
     let begun : Composed := {
       frame := F, age := (cams.filterMap (s.sourceAge n F)).foldl max 0
       plain := cams.all fun v => decide (v.code = provTrue) || decide (v.code = provHold)
       rects := s.b (Entry.rectRectTable n), symbols := s.n (Entry.rectSymbolSelect n) }
     let counted := [Entry.portUpFixedScalerViews n, Entry.upFixedScalerViews] ++
       (s.portRt n).chosen.flatMap fun c => c.views.map fun v => Entry.streamGenBlocksGated v.stream
     ((∀ v ∈ cams, s.fresh n F v) →
       ∃ t, exec (.composePoint n) s = .next t ∧
         (t.portRt n).composing.map (fun c => { c with content := {} }) = some begun ∧
         t.portRt n = { s.portRt n with
           rects := s.b (Entry.rectRectTable n), chosen := (t.portRt n).chosen, composing := (t.portRt n).composing } ∧
         (s.n (Entry.portPartition n) ≠ 0 → n.val ∈ (t.partRt (s.n (Entry.portPartition n))).portsDue) ∧
         MemoryKept s t ∧ EntriesKept s t counted) ∧
     ((∃ v ∈ cams, ¬ s.fresh n F v) →
       ∃ t, exec (.composePoint n) s = .next t ∧
         (t.portRt n).composing.map (fun c => { c with content := {} }) = some begun ∧ (t.portRt n).failedNext = true ∧
         t.n (Entry.safeFreshnessFailures n) = (s.n (Entry.safeFreshnessFailures n) + 1) % 2 ^ 32 ∧
         (s.portState n = 2 → t.portState n = 5 ∧ t.n (Entry.portSafeCause n) = 1) ∧ MemoryKept s t ∧
         EntriesKept s t (counted ++ [Entry.safeFreshnessFailures n, Entry.portState n, Entry.pvPvPairs, Entry.portSafeCause n,
           Entry.portSafeKind n, Entry.portSafeEntries n, Entry.faultEventsTotal, Entry.faultOpenEvents, Entry.faultLastEventUnit,
           Entry.faultReportsMerged, Entry.faultEventsOverflowed, Entry.devDeviceState, Entry.devStateCause]))) ∧
  (∀ (s : State) (n : Fin 16) (crc : BitVec 32) (c : Composed), n.val < s.portCount → (s.portRt n).composing = some c →
     (s.portRt n).recordRing = none → (s.portRt n).upOld = 0 → (∀ j ∈ s.gen.jobs, j.port ≠ n.val) →
     (∀ b ∈ s.gen.buffers, b.2.1 ≠ n.val) →
     ((s.portRt n).frames < c.frame → ∃ t, exec (.compositionComplete n crc) s = .next t ∧
       Keeps (s.setPortRt n { s.portRt n with composing := none, composed := some { c with crc := crc.toNat } }) t []) ∧
     (c.frame = (s.portRt n).frames → ∃ t, exec (.compositionComplete n crc) s = .next t ∧
       Keeps (s.setPortRt n { s.portRt n with
         composing := none, scan := some { c with crc := crc.toNat }, black := false, active := (t.portRt n).active }) t [] ∧
       (s.portState n = 2 → (s.portRt n).carrying = false → (t.portRt n).active = .composed c.content)) ∧
     (c.frame ≠ (s.portRt n).frames → ∃ t, exec (.composeLate n) s = .next t ∧ Keeps s t []) ∧
     (c.frame = (s.portRt n).frames → s.portState n = 2 → s.isPermanent ⟨.port, n⟩ = false → s.eventFor ⟨.port, n⟩ = none →
       s.eventOfReporter piuUnit ⟨.port, n⟩ = none → s.openEvents.length < 256 → s.running = true →
       ∃ t, exec (.composeLate n) s = .next t ∧
         t.n (Entry.portComposeLate n) = (s.n (Entry.portComposeLate n) + 1) % 2 ^ 32 ∧
         t.portState n = 5 ∧ t.vouched n = false ∧ t.n (Entry.portSafeCause n) = 4 ∧ (t.portRt n).failed = true ∧
         (t.portRt n).composing = none ∧
         t.device = 5 ∧ t.n Entry.faultEventsTotal = (s.n Entry.faultEventsTotal + 1) % 2 ^ 32 ∧
         MemoryKept s t ∧
         EntriesKept s t [Entry.portComposeLate n, Entry.portState n, Entry.pvPvPairs, Entry.portSafeCause n, Entry.portSafeKind n,
           Entry.portSafeEntries n, Entry.faultEventsTotal, Entry.faultOpenEvents, Entry.faultLastEventUnit, Entry.devDeviceState,
           Entry.devStateCause]))

/-- R242, R245 to R249: where both copies find what a tag or a rectangle must hold, the checks change nothing; a failed one counts in
TagFailures or RectFailures, and the frame in scan-out has failed; where the copies disagree, the unit is fenced. R242, R250, R410: a
disagreement of the Presentation Integrity Unit's copies fences the unit; every port that is STARTING, LIVE or SAFE is then SAFE, no PV
pair is asserted, and a port that was STARTING or LIVE has SafeCause 7 and SAFE_BLANK. Each of these completes where its conditions hold
(the next state is a conclusion): ROUTE_TAG_CHECK, CRC_RECTANGLE_CHECK, PIU_DISAGREEMENT. -/
def Obligations.PresentationChecked : Prop :=
  (∀ (s : State) (n : Fin 16) (layer : Fin 48) (rect : Fin 32) (a b : BitVec 32), n.val < s.portCount → s.portRuns n = true →
     s.shows n = true →
     (∀ payload, s.expectedTag n layer = some payload →
       (a.toNat = crc32 (tagBytes payload) → s.tagAhead n layer = false →
         ∃ t, exec (.routeTagCheck n layer a a) s = .next t ∧ Keeps s t []) ∧
       (a.toNat ≠ crc32 (tagBytes payload) →
         ∃ t, exec (.routeTagCheck n layer a a) s = .next t ∧
           t.n (Entry.safeTagFailures n) = (s.n (Entry.safeTagFailures n) + 1) % 2 ^ 32 ∧ (t.portRt n).failed = true ∧
           (s.portState n = 2 → t.portState n = 5 ∧ t.n (Entry.portSafeCause n) = 2 ∧ t.n (Entry.portSafeKind n) = 2) ∧
           MemoryKept s t ∧ EntriesKept s t [Entry.safeTagFailures n, Entry.portState n, Entry.pvPvPairs, Entry.portSafeCause n,
             Entry.portSafeKind n, Entry.portSafeEntries n, Entry.faultEventsTotal, Entry.faultOpenEvents, Entry.faultLastEventUnit,
             Entry.faultReportsMerged, Entry.faultEventsOverflowed, Entry.devDeviceState, Entry.devStateCause]) ∧
       (copiesDiffer (crc32 (tagBytes payload)) a.toNat b.toNat = true →
         ∃ t, exec (.routeTagCheck n layer a b) s = .next t ∧ t.fenced piuUnit = true ∧
           t.n (Entry.safeTagFailures n) = (s.n (Entry.safeTagFailures n) + 1) % 2 ^ 32)) ∧
     (∀ c r e, (s.portRt n).scan = some c → (activeRects c.rects).find? (fun e => e.1 = rect.val) = some (rect.val, r) →
       s.expectedRect n c rect r = some e →
       (copiesDiffer e a.toNat b.toNat = true →
         ∃ t, exec (.crcRectangleCheck n rect a b) s = .next t ∧ t.fenced piuUnit = true ∧
           t.n (Entry.rectRectFailures n) = (s.n (Entry.rectRectFailures n) + 1) % 2 ^ 32) ∧
       (a.toNat = e → ∃ t, exec (.crcRectangleCheck n rect a a) s = .next t ∧ Keeps s t []) ∧
       (a.toNat ≠ e →
         ∃ t, exec (.crcRectangleCheck n rect a a) s = .next t ∧
           t.n (Entry.rectRectFailures n) = (s.n (Entry.rectRectFailures n) + 1) % 2 ^ 32 ∧
           t.n (Entry.rectLastFailedRect n) = rect.val ∧ (t.portRt n).failed = true ∧
           (s.portState n = 2 → t.portState n = 5 ∧ t.n (Entry.portSafeCause n) = 3 ∧ t.n (Entry.portSafeKind n) = 2) ∧
           MemoryKept s t ∧ EntriesKept s t [Entry.rectRectFailures n, Entry.rectLastFailedRect n, Entry.portState n, Entry.pvPvPairs,
             Entry.portSafeCause n, Entry.portSafeKind n, Entry.portSafeEntries n, Entry.faultEventsTotal, Entry.faultOpenEvents,
             Entry.faultLastEventUnit, Entry.faultReportsMerged, Entry.faultEventsOverflowed, Entry.devDeviceState,
             Entry.devStateCause]))) ∧
  (∀ (s : State), s.running = true → (∀ n, n < 16 → s.vouched n = decide (s.portState n = 2)) →
     (∀ n, s.portCount ≤ n → n < 16 → s.portState n = 0) →
     ∃ t, exec .piuDisagreement s = .next t ∧ t.fenced piuUnit = true ∧ t.device = 5 ∧
       (∀ n, n < 16 → t.vouched n = false ∧ t.portState n = (if s.portState n = 1 ∨ s.portState n = 2 then 5 else s.portState n) ∧
         (s.portState n = 1 ∨ s.portState n = 2 → t.n (Entry.portSafeCause n) = 7 ∧ t.n (Entry.portSafeKind n) = 2)) ∧
       MemoryKept s t ∧
       EntriesKept s t ([Entry.pvPvPairs, Entry.faultEventsTotal, Entry.faultOpenEvents, Entry.faultLastEventUnit,
         Entry.faultReportsMerged, Entry.faultEventsOverflowed, Entry.devDeviceState, Entry.devStateCause] ++
         (List.range 16).flatMap fun n => [Entry.portState n, Entry.portSafeCause n, Entry.portSafeKind n, Entry.portSafeEntries n]))

/-- R239, R241, R253, R186: a table that passes the checks of R239 is stored, and applied from the next compose point of a port that is not
OFF; one that fails them leaves the applied table in force; SafeAck counts once the exit count is reached; RenderReset marks the rendered
views; a 0 written to SafeAck or RenderReset does nothing. Each of these completes where its conditions hold (the next state is a
conclusion): RENDER_RESET, LAYER_TABLE_WRITE, SAFE_ACK. -/
def Obligations.PortEntriesWritten : Prop :=
  ∀ (s : State) (n : Fin 16), n.val < s.portCount → s.running = true → s.boot.managing = true →
    (∀ table : Bytes, table.length ≤ 1536 → s.portState n ≠ 0 →
      ∃ t, exec (.layerTableWrite n table) s = .next t ∧
        t.b (Entry.portLayerTable n) = table ∧
        t.n (Entry.portLayerState n) = (if s.tableError n [] (enabledLayers table) = 0 then 1 else 2) ∧
        t.n (Entry.portLayerError n) = s.tableError n [] (enabledLayers table) ∧
        Keeps (if s.tableError n [] (enabledLayers table) = 0 then s.setPortRt n { s.portRt n with nextTable := some table } else s) t
          [Entry.portLayerTable n, Entry.portLayerState n, Entry.portLayerError n]) ∧
    (∃ t, exec (.safeAck n true) s = .next t ∧
      Keeps (if s.portState n = 5 ∧ s.n (Entry.portSafeExitFrames n) ≤ (s.portRt n).exitCount then
        s.setPortRt n { s.portRt n with acked := true } else s) t []) ∧
    (∃ t, exec (.safeAck n false) s = .next t ∧ Keeps s t []) ∧
    (∃ t, exec (.renderReset n true) s = .next t ∧
      Keeps (s.setPortRt n { s.portRt n with
        renderReset := ((s.layers n).filter fun l => l.kind = 2).map fun l => (l.index, none) }) t []) ∧
    ∃ t, exec (.renderReset n false) s = .next t ∧ Keeps s t []

/-- R235, R258, R489: FsyncLevels shows the level of an edge. With frame synchronisation on, a rising edge within one line of the frame start
counts towards the lock, eight in a row lock the port, another edge starts the count again, and each moves the next frame start by at most
eight lines; an edge more than a tenth of a frame early, and the loss of the edges, let the port run free. R30, R254 step 7: a port whose
reference clock leaves its range is SAFE with cause 6 and waits; when the clock is back and no FAULT_HOLD is in force it is STARTING with
its counters from 0. The fault is stated of a port that anchors no partition. Each of these completes where its conditions hold (the next
state is a conclusion): RCLK_FAULT, RCLK_RECOVERED, FSYNC_EDGE, GENLOCK_LOST. -/
def Obligations.PortClocksFollow : Prop :=
  (∀ (s : State) (n : Fin 16), n.val < s.portCount → s.device ≠ 0 →
     (∀ (e : Int) (period : Nat), ∃ t, exec (.fsyncEdge n false ⟨e, period⟩) s = .next t ∧
       (t.n Entry.pinsFsyncLevels).testBit n = false ∧ Keeps s t [Entry.pinsFsyncLevels]) ∧
     (∀ (e : Int) (period : Nat), s.portRuns n = true → (s.timing n).sync = true →
       ∃ t, exec (.fsyncEdge n true ⟨e, period⟩) s = .next t ∧ (t.n Entry.pinsFsyncLevels).testBit n = true ∧
         (9 ≤ period →
           (t.portRt n).lockRun = (if e.natAbs ≤ 1 then min 8 ((s.portRt n).lockRun + 1) else 0) ∧
           (t.portRt n).frontAdjust = max (1 - ((s.timing n).vFront : Int)) (clampInt (-8) 8 e) ∧
           t.n (Entry.timingGenlockState n) = (if 8 ≤ (t.portRt n).lockRun then 2 else 1) ∧
           (t.n (Entry.portFlags n)).testBit 0 = false) ∧
         (period < 9 → t.n (Entry.timingGenlockState n) = 3 ∧ (t.portRt n).lockRun = 0 ∧ (t.n (Entry.portFlags n)).testBit 0 = true) ∧
         Keeps (s.setPortRt n (t.portRt n)) t
           [Entry.timingGenlockState n, Entry.portFlags n, Entry.pinsFsyncLost, Entry.pinsFsyncLevels]) ∧
     (s.portRuns n = true → (s.timing n).sync = true →
       ∃ t, exec (.genlockLost n) s = .next t ∧
         t.n (Entry.timingGenlockState n) = 3 ∧ (t.portRt n).lockRun = 0 ∧ (t.n (Entry.portFlags n)).testBit 0 = true ∧
         t.n Entry.pinsFsyncLost = (if s.n (Entry.timingGenlockState n) = 3 then s.n Entry.pinsFsyncLost
           else (s.n Entry.pinsFsyncLost + 1) % 2 ^ 32) ∧
         Keeps (s.setPortRt n (t.portRt n)) t [Entry.timingGenlockState n, Entry.portFlags n, Entry.pinsFsyncLost])) ∧
  (∀ (s : State) (n : Fin 16), n.val < s.portCount →
     (s.shows n = true → s.running = true → (∀ p, s.anchorPort p ≠ some n.val) → s.anchored →
       ∃ t, exec (.rclkFault n) s = .next t ∧ t.portState n = 5 ∧ t.n (Entry.portSafeCause n) = 6 ∧
         (t.portRt n).waitRclk = true ∧ (t.portRt n).counting = false ∧
         (s.portState n ≠ 5 → t.vouched n = false) ∧ MemoryKept s t ∧
         EntriesKept s t [Entry.portState n, Entry.pvPvPairs, Entry.portSafeCause n, Entry.portSafeKind n, Entry.portSafeEntries n,
           Entry.portFlags n, Entry.faultEventsTotal, Entry.faultOpenEvents, Entry.faultLastEventUnit, Entry.faultReportsMerged,
           Entry.faultEventsOverflowed, Entry.devDeviceState, Entry.devStateCause]) ∧
     (s.portState n = 5 → (s.portRt n).waitRclk = true → s.held = false →
       ∃ t, exec (.rclkRecovered n) s = .next t ∧ t.portState n = 1 ∧ t.vouched n = false ∧ t.n (Entry.portFrameCount n) = 0 ∧
         t.n (Entry.portSafeCause n) = 0 ∧ t.n (Entry.portSafeKind n) = 0 ∧ (t.portRt n).waitRclk = false ∧
         (t.portRt n).counting = false ∧ (t.portRt n).timing = (s.portRt n).timing ∧ MemoryKept s t ∧
         EntriesKept s t [Entry.portState n, Entry.pvPvPairs, Entry.portFrameCount n, Entry.portSafeCause n, Entry.portSafeKind n,
           Entry.portFlags n]))

/-- R198, R199, R202, R203: a pass header that R202 refuses ends its job and is counted in BadCommands; one whose target has a pass open, or
no free frame buffer, waits; otherwise the pass opens on a frame buffer that is not Newest, FrameCount advances, and the descriptor's
Status shows the drawn buffer. Each of these completes where its conditions hold (the next state is a conclusion): PASS_OPEN. -/
def Obligations.PassesOpen : Prop :=
  ∀ (s : State) (r : BitVec 15) (p e h : Nat), s.canonical → s.nextEntry r.toNat = some (p, (some e, 0)) → p < 9 → entryKind e = 2 →
    s.rasterHeader p (bits e 320 64) = (1, h) → s.headerCause p (bits e 320 64) 1 = 0 →
    (s.passRefused p h = true →
      (∀ a, s.stores p (s.completionAt r.toNat) 16 a → ¬ s.stores p (s.ringDescAt p r.toNat + 32) 4 a ∧
        ¬ s.stores p (s.ringDescAt p r.toNat + 36) 4 a) →
      s.inRange p (s.completionAt r.toNat) 16 = true →
      ∃ t, exec (.passOpen r) s = .next t ∧ s.refusesHeader t p r.toNat e) ∧
    (∀ d, s.passRefused p h = false → s.targetDesc p (bits h 112 8) = some d →
      (s.passOn p (bits h 112 8) ≠ none ∨ s.freeTargetBuffer p (bits h 112 8) d = none →
        ∃ t, exec (.passOpen r) s = .next t ∧ Keeps s t []) ∧
      (∀ b, s.passOn p (bits h 112 8) = none → s.freeTargetBuffer p (bits h 112 8) d = some b →
        (b < descBuffers d ∧ ((s.target p (bits h 112 8)).shown.isSome = true → b ≠ (s.target p (bits h 112 8)).newest)) ∧
        ∃ t, exec (.passOpen r) s = .next t ∧ s.takesJob t p r.toNat e ∧
          t.raster.passes = s.raster.passes ++ [{
            id := s.raster.nextPass, partition := p, target := bits h 112 8, job := ringJobId r.toNat (s.ring r.toNat).head
            header := h, desc := d, buffer := b, frameCount := ((s.target p (bits h 112 8)).passes + 1) % 2 ^ 32
            poolSize := s.poolSize p, limit := s.n (Entry.partRasterReserveLimit p), units := s.tileUnits }] ∧
          t.target p (bits h 112 8) = { s.target p (bits h 112 8) with
            passes := ((s.target p (bits h 112 8)).passes + 1) % 2 ^ 32
            buffers := (s.target p (bits h 112 8)).buffers.filter (fun x => x.1 ≠ b), size := bits d 480 32 } ∧
          t.readMem p (s.targetAt p (bits h 112 8) + 16) 8 = leBytes 8 (packFields
            [(32, (t.target p (bits h 112 8)).status (some b)), (32, (t.target p (bits h 112 8)).passes)]) ∧
          (∀ a, ¬ s.stores p (s.ringDescAt p r.toNat + 36) 4 a → ¬ s.stores p (s.targetAt p (bits h 112 8) + 16) 8 a →
            Memory.read t.mem a = Memory.read s.mem a) ∧
          EntriesKept s t [Entry.partRingSubmitted p]))

/-- R200 to R202, R215: a batch that R202 refuses ends its job and is counted; one that is not its pass's next waits; the next one is taken,
and its triangles are binned in order; where the pool has no room for its first triangle and no earlier pass holds chunks, a partial
render starts. The end of a partial render frees the pool and binning resumes at the triangle where it stopped. Each of these completes
where its conditions hold (the next state is a conclusion): BATCH_BIN, PARTIAL_RENDER_DONE. -/
def Obligations.BatchesBin : Prop :=
  (∀ (s : State) (r : BitVec 15) (p e h : Nat) (q : Pass), s.canonical → s.nextEntry r.toNat = some (p, (some e, 0)) → p < 9 → entryKind e = 2 →
    s.rasterHeader p (bits e 320 64) = (2, h) → s.headerCause p (bits e 320 64) 2 = 0 → (s.targetDesc p (bits h 304 8)).isSome = true →
    s.passOn p (bits h 304 8) = some q →
    (s.batchRefused q h = true ∨ (∃ d ∈ s.textureDescs p h, textureLegal d = false) →
      (∀ a, s.stores p (s.completionAt r.toNat) 16 a → ¬ s.stores p (s.ringDescAt p r.toNat + 32) 4 a ∧
        ¬ s.stores p (s.ringDescAt p r.toNat + 36) 4 a) →
      s.inRange p (s.completionAt r.toNat) 16 = true →
      ∃ t, exec (.batchBin r) s = .next t ∧ s.refusesHeader t p r.toNat e) ∧
    (s.batchRefused q h = false → (∀ d ∈ s.textureDescs p h, textureLegal d = true) → s.batchOutside q h = false →
      (batchIndex h ≠ q.nextBatch ∨ q.partial_ = true ∨ q.waiting = true ∨ s.binsNow q = false → ∃ t, exec (.batchBin r) s = .next t ∧ Keeps s t []) ∧
      (batchIndex h = q.nextBatch → q.partial_ = false → q.waiting = false → s.binsNow q = true →
        let u := s.takeJob p r.toNat e id
        let x : Pass := { q with
          batches := q.batches ++ [(batchIndex h, ringJobId r.toNat (s.ring r.toNat).head, h)], nextPrim := 0
          textures := q.textures ++ ((s.textureDescs p h).map fun d =>
              (d, s.readMem p (bits d 64 64 / 4096 * 4096) (textureBytes d))).filter fun y => !q.textures.any fun z => z.1 = y.1 }
        (u.roomFor x h 0 →
          ∃ t, exec (.batchBin r) s = .next t ∧ s.takesJob t p r.toNat e ∧
            Keeps (u.setPasses (s.raster.passes.map fun y => if y.id = q.id then u.binnedWith x h 0 else y)) t
              [Entry.partRingSubmitted p]) ∧
        (u.poolBefore q = 0 → (∀ y ∈ u.triangleReads p q.desc h 0, u.readFails p y.1 y.2 = false) →
          q.poolSize < ((u.setUp q h 0).foldl (fun (y : Pass) t => y.bin (batchAttrs h) t) q).poolUsed →
          ∃ t, exec (.batchBin r) s = .next t ∧ s.takesJob t p r.toNat e ∧
            t.n Entry.rasterOverflows = (s.n Entry.rasterOverflows + 1) % 2 ^ 32 ∧
            t.n (Entry.partRasterPartialRenders p) = (s.n (Entry.partRasterPartialRenders p) + 1) % 2 ^ 32 ∧
            Keeps (u.setPasses (s.raster.passes.map fun y =>
                if y.id = q.id then { x with partial_ := true, due := (q.entries.map Prod.fst).eraseDups } else y)) t
              [Entry.partRingSubmitted p, Entry.rasterOverflows, Entry.partRasterPartialRenders p])))) ∧
  ∀ (s : State) (p : Fin 8) (q : Pass) (n j h : Nat),
    s.raster.passes.find? (fun x => x.partition = p.val + 1 && x.partial_ && x.due.isEmpty && x.running.isEmpty) = some q →
    q.batches.find? (fun b => b.1 = q.nextBatch) = some (n, j, h) →
    let x : Pass := { q with partial_ := false, tris := [], entries := [], setup := 0 }
    s.roomFor x h q.nextPrim →
    ∃ t, exec (.partialRenderDone p) s = .next t ∧
      Keeps (s.setPasses (s.raster.passes.map fun y => if y.id = q.id then s.binnedWith x h q.nextPrim else y)) t []

/-- R206 to R209, R226: a free unfenced tile unit takes a tile that it owns, of the first pass that has one ready in the order of the time
left in its partition's window, of partitions and of passes, and sends its pixels to shading; where the tile's data cannot be read the
pass is abandoned with cause 3. Each of these completes where its conditions hold (the next state is a conclusion): TILE_START. -/
def Obligations.TilesStart : Prop :=
  ∀ (s : State) (u : Fin 16) (left : List Nat) (q : Pass) (k : Nat) (rest : List (Pass × Nat)), s.fenced ⟨.tile, u⟩ = false →
    (∀ x ∈ s.raster.passes, ∀ r ∈ x.running, r.unit ≠ u.val) → s.tileChoices u left = (q, k) :: rest →
    q ∈ s.raster.passes ∧ k ∈ q.due ∧
    q.units[(k % tileCols q.desc + 5 * (k / tileCols q.desc)) % q.units.length]? = some u.val ∧
    (let window := fun (x : Pass) => left.getD (x.partition - 1) (2 ^ 64)
     (∀ x ∈ s.raster.passes, x.id < 2 ^ 32 ∧ x.partition < 9) →
      ∀ x ∈ s.raster.passes, (∃ j ∈ x.due, x.tileOwner j = some u.val) → window q < window x ∨
        (window q = window x ∧ (q.partition < x.partition ∨ q.partition = x.partition ∧ q.id ≤ x.id))) ∧
    ((∀ x ∈ s.tileReads q k, s.readFails q.partition x.1 x.2 = false) →
      (∀ t ∈ q.tileTris k, ∀ d ∈ s.textureDescs q.partition (q.batchOf t.seq),
        s.readFails q.partition (bits d 64 64 / 4096 * 4096) (textureBytes d) = false) →
      ∃ t, exec (.tileStart ⟨u, left⟩) s = .next t ∧ t.n (Entry.tileState u) = 1 ∧
        Keeps { s with raster := { s.raster with
          passes := s.raster.passes.map fun x =>
            if x.id = q.id then { q with
              due := q.due.filter (fun j => j ≠ k), running := q.running ++ [{ unit := u, tile := k, pixels := s.shadePixels q k }] }
            else x
          lastPart := Assoc.put s.raster.lastPart u q.partition } } t [Entry.tileState u]) ∧
    ((∃ x ∈ s.tileReads q k, s.readFails q.partition x.1 x.2 = true) → s.plainPass q →
      ∃ t, exec (.tileStart ⟨u, left⟩) s = .next t ∧ s.closesPass t q ∧ t.n (Entry.partRasterAbandonCause q.partition) = 3)

/-- R207, R208, R213, R215, R216: a finished tile's samples are written, each with the colour that its triangles leave in order, with one
metadata byte a block, and nothing else; the unit is idle and counts it. During a partial render tile-local depth goes to the reserve, or
the pass is abandoned with cause 1 where the partition may hold none. Each of these completes where its conditions hold (the next state is
a conclusion): TILE_FINISHED. -/
def Obligations.TilesFinish : Prop :=
  ∀ (s : State) (u : Fin 16) (shaded : List (List Nat)) (q : Pass) (run : TileRun), s.canonical →
    s.raster.passes.find? (fun x => x.running.any fun r => r.unit = u.val) = some q →
    q.running.find? (fun r => r.unit = u.val) = some run → s.plainPass q → q.waiting = false → (s.raster.passes.map Pass.id).Nodup →
    let d := q.desc
    let k := run.tile
    let n := (tilePixels d k).length
    let m := (q.tileTris k).foldl
      (q.apply (tilePixels d k) ((run.pixels.zip (List.range run.pixels.length)).map fun e => (e.1, shaded.getD e.2 [])))
      (s.tileBefore q k)
    let left : Pass := { q with
      running := q.running.filter (fun r => r.unit ≠ u.val), rendered := (k :: q.rendered).eraseDups
      entries := q.entries.filter (fun e => e.1 ≠ k), reserve := q.reserve.filter (fun r => r.tile ≠ k)
      motion := if descUpscale d then Assoc.put q.motion k m.motion else q.motion }
    (q.partial_ = false ∨ descExternal d = true →
      ∃ t, exec (.tileFinished u shaded) s = .next t ∧ t.n (Entry.tileState u) = 0 ∧
        t.n (Entry.tileTilesRendered u) = (s.n (Entry.tileTilesRendered u) + 1) % 2 ^ 64 ∧
        t.raster.passes = s.raster.passes.map (fun x => if x.id = q.id then left else x) ∧
        (descExternal d = false → ∀ j i e, j < descSamples d → (tilePixels d k)[i]? = some e →
          s.inRange q.partition (q.colourAt q.buffer (descSamples d - 1) (0, 0)) (descSamplePlane d) = true →
          t.readMem q.partition (q.colourAt q.buffer j e) (descBytes d) = leBytes (descBytes d) (m.colour.getD (j * n + i) 0)) ∧
        (∀ a, (∀ j, j < descSamples d → ¬ s.planeBytes q.partition d k (q.colourAt q.buffer j (0, 0)) (descBytes d) a ∧
            (descExternal d = true → ¬ s.planeBytes q.partition d k (bits d 320 64 + j * descDepthPlane d) 4 a)) →
          Memory.read t.mem a = Memory.read s.mem a) ∧
        t.jobs = s.jobs ∧
        EntriesKept s t [Entry.tileState u, Entry.tileTilesRendered u, Entry.rasterReserveFree, Entry.rasterReserveHighWater]) ∧
    (q.partial_ = true → descExternal d = false →
      (let most := to256 (4 * m.depth.length + descSamples d * (tileBlocks d k).length)
       0 < most → s.reserveOf q.partition + most ≤ q.limit → s.reserveUsed + most ≤ 2 ^ 24 →
       ∃ t x, exec (.tileFinished u shaded) s = .next t ∧ x.tile = k ∧ x.codes = m.depth ∧ 256 ∣ x.bytes ∧ 0 < x.bytes ∧ x.bytes ≤ most ∧
         t.raster.passes = s.raster.passes.map (fun y => if y.id = q.id then { left with reserve := left.reserve ++ [x] } else y) ∧
         t.n Entry.rasterReserveFree = 2 ^ 24 - t.reserveUsed ∧
         EntriesKept s t [Entry.tileState u, Entry.tileTilesRendered u, Entry.rasterReserveFree, Entry.rasterReserveHighWater]) ∧
      (q.limit < 256 → ∃ t, exec (.tileFinished u shaded) s = .next t ∧ s.closesPass t q ∧
        t.n (Entry.partRasterAbandonCause q.partition) = 1))

/-- R203, R210, R213, R228: the oldest pass of a partition whose last tile is finished completes: its target shows the drawn buffer, its jobs
complete and it is counted; the oldest, when it is late, is abandoned with cause 2: Newest stays, the target is Stale, its jobs end with
cause 5. Each of these completes where its conditions hold (the next state is a conclusion): PASS_COMPLETE, PASS_TIMEOUT. -/
def Obligations.PassesEnd : Prop :=
  ∀ (s : State) (p : Fin 8) (q : Pass), s.plainPass q →
    let d := q.desc
    let g := s.target (p.val + 1) q.target
    (s.raster.passes.find? (fun x => x.partition = p.val + 1 && x.ready) = some q →
      ∃ t, exec (.passComplete p) s = .next t ∧ s.closesPass t q ∧
        t.target (p.val + 1) q.target = { g with
          newest := q.buffer, shown := some (q.frameCount, descExternal d), stale := false
          buffers := g.buffers ++ [(q.buffer, q.frameCount)] } ∧
        t.n Entry.rasterPassesCompleted = (s.n Entry.rasterPassesCompleted + 1) % 2 ^ 64 ∧
        t.n (Entry.partRingCompleted (p.val + 1)) = countedUp 64 (s.n (Entry.partRingCompleted (p.val + 1)))
          (q.jobs.filter fun i => (s.ringJob? i).any fun j => j.partition = p.val + 1).length ∧
        (∀ a, (∀ i ∈ q.jobs, ¬ s.endBytes i a) → ¬ s.stores (p.val + 1) (s.targetAt (p.val + 1) q.target + 16) 8 a →
          (∀ k, k < tileCount d → (descSamples d ≠ 1 →
              ¬ s.planeBytes (p.val + 1) d k (bits d 384 64 + q.buffer * descFrame d) (descBytes d) a) ∧
            (descUpscale d = true → ∀ e ∈ tilePixels d k,
              ¬ s.within (p.val + 1) (bits d 192 64 + q.buffer * descMotion d + (e.2 * (descSize d).1 + e.1) * 4) 4 a)) →
          Memory.read t.mem a = Memory.read s.mem a) ∧
        EntriesKept s t ([Entry.rasterPassesCompleted, Entry.rasterReserveFree, Entry.rasterReserveHighWater] ++
          s.jobs.map fun j => Entry.partRingCompleted j.partition)) ∧
    (s.raster.passes.find? (fun x => x.partition = p.val + 1) = some q →
      ∃ t, exec (.passTimeout p) s = .next t ∧ s.closesPass t q ∧ t.target (p.val + 1) q.target = { g with stale := true } ∧
      t.n Entry.rasterPassesAbandoned = (s.n Entry.rasterPassesAbandoned + 1) % 2 ^ 32 ∧
      t.n (Entry.partRasterPassesAbandoned (p.val + 1)) = (s.n (Entry.partRasterPassesAbandoned (p.val + 1)) + 1) % 2 ^ 32 ∧
      t.n (Entry.partRasterAbandonCause (p.val + 1)) = 2 ∧
      (∀ i ∈ q.jobs, ∀ j, s.ringJob? i = some j → t.n (Entry.partRingLastCause j.partition) = 5) ∧
      (∀ r ∈ q.running, s.n (Entry.tileState r.unit) = 1 → t.n (Entry.tileState r.unit) = 0) ∧
      (∀ a, (∀ i ∈ q.jobs, ¬ s.endBytes i a) → ¬ s.stores (p.val + 1) (s.targetAt (p.val + 1) q.target + 16) 8 a →
        Memory.read t.mem a = Memory.read s.mem a) ∧
      EntriesKept s t ([Entry.rasterPassesAbandoned, Entry.partRasterPassesAbandoned (p.val + 1), Entry.partRasterAbandonCause (p.val + 1),
        Entry.rasterReserveFree, Entry.rasterReserveHighWater] ++ (q.running.map fun r => Entry.tileState r.unit) ++
        s.jobs.flatMap fun j => [Entry.partRingAbandoned j.partition, Entry.partRingLastCause j.partition]))

/-- R220, R222, R224 to R226: a query batch within the range is taken and starts on the lowest free unfenced ray unit; when it is done its
results are written in query order, its queries are counted and its job completes; one whose data cannot be read writes no result and its
job is abandoned. A query whose budget is used up answers Incomplete alone, and one without a hit answers zeros. Each of these completes
where its conditions hold (the next state is a conclusion): QUERY_BATCH, RAY_BATCH_COMPLETE. -/
def Obligations.QueriesServed : Prop :=
  (∀ (s : State) (r : BitVec 15) (p e h : Nat), s.nextEntry r.toNat = some (p, (some e, 0)) → p < 9 → entryKind e = 2 →
    s.rasterHeader p (bits e 320 64) = (3, h) → s.headerCause p (bits e 320 64) 3 = 0 →
    s.inRange p (bits h 64 64) (40 * queryCount h) = true → s.inRange p (bits h 0 64) (16 * queryCount h) = true →
    (∀ x ∈ s.raster.queries, x.unit.isSome = true ∧ x.job ≠ ringJobId r.toNat (s.ring r.toNat).head) →
    let free := (List.range 4).filter fun u => !s.fenced ⟨.ray, u⟩ && !s.raster.queries.any fun x => x.unit = some u
    ∃ t, exec (.queryBatch r) s = .next t ∧ s.takesJob t p r.toNat e ∧
      t.raster.queries = s.raster.queries ++
        [{ partition := p, job := ringJobId r.toNat (s.ring r.toNat).head, header := h, unit := free.head? }] ∧
      (∀ u, free.head? = some u → t.n (Entry.rayState u) = 1) ∧
      (∀ a, ¬ s.stores p (s.ringDescAt p r.toNat + 36) 4 a → Memory.read t.mem a = Memory.read s.mem a) ∧
      EntriesKept s t (Entry.partRingSubmitted p :: (free.take 1).map Entry.rayState)) ∧
  (∀ (s : State) (u : Fin 4) (q : QueryJob) (j : RingJob) (results : List (Option Nat)), s.canonical →
    s.raster.queries.find? (fun x => x.unit = some u.val) = some q → s.ringJob? q.job = some j → j.partition < 9 →
    (∀ x ∈ s.raster.queries, x.unit.isSome = true) →
    (∀ visits, s.queryAnswer q.partition q.header = (0, results, visits) →
      ∃ t, exec (.rayBatchComplete u) s = .next t ∧
        t.raster.queries = s.raster.queries.filter (fun x => x.job ≠ q.job) ∧ t.jobs = s.jobs.filter (fun x => x.id ≠ q.job) ∧
        t.n (Entry.rayState u) = 0 ∧
        t.n (Entry.rayQueries u) = (s.n (Entry.rayQueries u) + queryCount q.header) % 2 ^ 64 ∧
        t.n Entry.rasterRayQueries = (s.n Entry.rasterRayQueries + queryCount q.header) % 2 ^ 64 ∧
        t.n (Entry.partRingCompleted j.partition) = (s.n (Entry.partRingCompleted j.partition) + 1) % 2 ^ 64 ∧
        (s.inRange q.partition (bits q.header 0 64) (16 * queryCount q.header) = true →
          (∀ a, s.within q.partition (bits q.header 0 64) (16 * queryCount q.header) a →
            ¬ s.within j.partition (s.completionAt j.ring) 16 a ∧
            ¬ s.within j.partition (s.ringDescAt j.partition j.ring + 32) 4 a) →
          ∀ i v, results[i]? = some (some v) → t.readMem q.partition (bits q.header 0 64 + 16 * i) 16 = leBytes 16 v) ∧
        (∀ a, ¬ s.within q.partition (bits q.header 0 64) (16 * queryCount q.header) a →
          ¬ s.stores j.partition (s.completionAt j.ring) 16 a →
          ¬ s.stores j.partition (s.ringDescAt j.partition j.ring + 32) 4 a → Memory.read t.mem a = Memory.read s.mem a) ∧
        EntriesKept s t [Entry.rayState u, Entry.rayQueries u, Entry.rasterRayQueries, Entry.partRingCompleted j.partition]) ∧
    (∀ c visits, c ≠ 0 → s.queryAnswer q.partition q.header = (c, results, visits) →
      ∃ t, exec (.rayBatchComplete u) s = .next t ∧
        t.raster.queries = s.raster.queries.filter (fun x => x.job ≠ q.job) ∧ t.jobs = s.jobs.filter (fun x => x.id ≠ q.job) ∧
        t.n (Entry.rayState u) = 0 ∧ t.n (Entry.partRingLastCause j.partition) = c ∧
        t.n (Entry.partRingAbandoned j.partition) = (s.n (Entry.partRingAbandoned j.partition) + 1) % 2 ^ 64 ∧
        (∀ a, ¬ s.stores j.partition (s.completionAt j.ring) 16 a →
          ¬ s.stores j.partition (s.ringDescAt j.partition j.ring + 32) 4 a → Memory.read t.mem a = Memory.read s.mem a) ∧
        EntriesKept s t [Entry.rayState u, Entry.partRingAbandoned j.partition, Entry.partRingLastCause j.partition])) ∧
  ∀ (q : Query) (t : Traversal), q.kind < 3 → t.open_ = false →
    (t.spent = true → q.result t = some (2 ^ 126)) ∧ (t.spent = false → t.best = none → q.result t = some 0)

/-- R185: the jitter phase of a rendered frame is its FrameCount modulo 16; its offset is that of the phase, in units of 1/256 pixel, where
bitrev4 reverses the four low bits; each axis takes each of its 16 values once per cycle of 16 frames. -/
def Obligations.JitterPhases : Prop :=
  (∀ q : Pass, descUpscale q.desc = true →
    let i := q.frameCount % 16
    q.offset.1 * 32 = (2 * (bitrev4 i : Int) - 15) * 256 ∧ q.offset.2 * 32 = (2 * (((7 * i + 5) % 16 : Nat) : Int) - 15) * 256 ∧
    bitrev4 i < 16 ∧ ∀ k, k < 4 → (bitrev4 i).testBit k = i.testBit (3 - k)) ∧
  ∀ q r : Pass, descUpscale q.desc = true → descUpscale r.desc = true →
    q.offset.1 = r.offset.1 ∨ q.offset.2 = r.offset.2 → q.frameCount % 16 = r.frameCount % 16

/-- R218: a texture lies in pages of 4 KiB of 32×32 texels of 4 bytes, in row order over a grid of ⌈Width / 32⌉ pages per row; within its page
a texel's place interleaves the five low bits of x mod 32 and y mod 32. The texel that a tile unit reads is the one there. -/
def Obligations.TexelAddresses : Prop :=
  (∀ width x y : Nat, ∃ z, z < 1024 ∧ texelOffset width x y = (y / 32 * divCeil width 32 + x / 32) * 4096 + 4 * z ∧
    ∀ i, i < 5 → z.testBit (2 * i) = (x % 32).testBit i ∧ z.testBit (2 * i + 1) = (y % 32).testBit i) ∧
  ∀ (s : State) (p d x y : Nat), x < bits d 48 16 → y < bits d 32 16 →
    s.texel p d x y = unpackColour (bits d 28 4)
      (leNat (s.readMem p (bits d 64 64 / 4096 * 4096 + texelOffset (bits d 48 16) x y) 4))

/-- R365, R457: a doorbell of a function that may ring it, on an enabled ring of a LIVE partition, within the ring, is taken with what the
descriptor holds; one that is further ahead than the ring is long is ignored and counted; one while the link is down is lost. R364, R366
to R369: a NOP, a FENCE whose earlier entries have ended, an entry of an unknown kind and one that cannot be read end when taken: Head and
Completions advance, the counters count, and a completion that tells the phase, the status, the index and the tag is written; no other
byte of memory changes. Each of these completes where its conditions hold (the next state is a conclusion): DOORBELL, RING_NOP,
RING_FENCE, RING_MALFORMED_ENTRY. -/
def Obligations.EntriesTaken : Prop :=
  (∀ (s : State) (fn : Fin 9) (r : BitVec 15) (tail : BitVec 32),
     (s.n Entry.pcieLinkState ≠ 1 → ∃ t, exec (.doorbell fn r tail) s = .next t ∧ Keeps s t []) ∧
     ∀ p d : Nat, s.n Entry.pcieLinkState = 1 → s.ringOwner r.toNat = some p → s.ringDesc p r.toNat = some d →
       (fn.val = p ∨ (fn.val = 0 ∧ s.confidential = false)) → s.partState p = 2 → d.testBit 378 = true →
       4 ≤ bits d 379 5 → bits d 379 5 ≤ 16 →
       ((tail.toNat + 2 ^ 32 - (s.ring r.toNat).head) % 2 ^ 32 ≤ 2 ^ bits d 379 5 →
         ∃ t, exec (.doorbell fn r tail) s = .next t ∧
           Keeps (s.setRing r.toNat { s.ring r.toNat with
             tail := tail.toNat, function := fn, slotsLog := bits d 379 5, submitBase := bits d 448 64
             completeBase := bits d 384 64, irq := d.testBit 377, vector := bits d 366 11, completeRead := bits d 224 32 }) t []) ∧
       (2 ^ bits d 379 5 < (tail.toNat + 2 ^ 32 - (s.ring r.toNat).head) % 2 ^ 32 →
         ∃ t, exec (.doorbell fn r tail) s = .next t ∧
           t.n (Entry.partRingBadDoorbells p) = (s.n (Entry.partRingBadDoorbells p) + 1) % 2 ^ 32 ∧
           Keeps s t [Entry.partRingBadDoorbells p])) ∧
  (∀ (s : State) (r : BitVec 15) (p : Nat), s.canonical → p < 9 →
     (∀ a, s.stores p (s.completionAt r.toNat) 16 a → ¬ s.stores p (s.ringDescAt p r.toNat + 32) 4 a ∧
       ¬ s.stores p (s.ringDescAt p r.toNat + 36) 4 a) →
     s.inRange p (s.completionAt r.toNat) 16 = true →
     (∀ e, s.nextEntry r.toNat = some (p, (some e, 0)) →
       (entryKind e = 0 → ∃ t, exec (.ringNop r) s = .next t ∧ s.entryEnds t p r.toNat e 0) ∧
       (entryKind e = 4 → (s.ring r.toNat).completions = (s.ring r.toNat).head →
         ∃ t, exec (.ringFence r) s = .next t ∧ s.entryEnds t p r.toNat e 0) ∧
       (4 < entryKind e → ∃ t, exec (.ringMalformedEntry r) s = .next t ∧ s.entryEnds t p r.toNat e 1)) ∧
     ∀ cause, cause ≠ 0 → cause < 256 → s.nextEntry r.toNat = some (p, (none, cause)) →
       ∃ t, exec (.ringMalformedEntry r) s = .next t ∧ s.entryEnds t p r.toNat 0 cause)

/-- R210, R366, R367, R369: a COMPUTE entry for a slot that takes jobs, whose queue has room, and a COPY entry that is well formed and within
the range are taken as jobs: Head advances in the device and in the descriptor and Submitted counts them; a COMPUTE job whose output meets
an open pass is held and counted. R366, R368, R457: a COPY whose data can be read moves its bytes, from memory, from the newest frame of a
target or from the host, into memory or to the host, and ends as completed; one whose host transfer fails ends with cause 9, counted in
HostTransferFailures, and moves none. Each of these completes where its conditions hold (the next state is a conclusion): RING_COMPUTE,
RING_COPY, COPY_COMPLETE, HOST_TRANSFER_FAILURE. -/
def Obligations.JobsServed : Prop :=
  (∀ (s : State) (r : BitVec 15) (p e : Nat), s.nextEntry r.toNat = some (p, (some e, 0)) → p < 9 →
     (entryKind e = 3 → s.copyCause (ringJobOf p r.toNat (s.ring r.toNat).head e) = 0 →
       ∃ t, exec (.ringCopy r) s = .next t ∧ t.jobs = s.jobs ++ [ringJobOf p r.toNat (s.ring r.toNat).head e] ∧
         t.ring r.toNat = { s.ring r.toNat with
           head := ((s.ring r.toNat).head + 1) % 2 ^ 32, submitted := ((s.ring r.toNat).submitted + 1) % 2 ^ 32 } ∧
         t.n (Entry.partRingSubmitted p) = (s.n (Entry.partRingSubmitted p) + 1) % 2 ^ 64 ∧
         (∀ a, ¬ s.stores p (s.ringDescAt p r.toNat + 36) 4 a → Memory.read t.mem a = Memory.read s.mem a) ∧
         EntriesKept s t [Entry.partRingSubmitted p]) ∧
     (entryKind e = 1 → s.slotUsable p (bits e 496 8) = true → (s.slotQueue (bits e 496 8)).length < 1024 →
       ∃ t, exec (.ringCompute r) s = .next t ∧
         (let held := s.outputHeld p (bits e 496 8) (bits e 448 32) (bits e 256 64)
          t.jobs = s.jobs ++ [{ ringJobOf p r.toNat (s.ring r.toNat).head e with number := (s.partRt p).nextJob, held := held }] ∧
          t.n (Entry.partRasterHeldComputeJobs p) = (if held then (s.n (Entry.partRasterHeldComputeJobs p) + 1) % 2 ^ 32
           else s.n (Entry.partRasterHeldComputeJobs p))) ∧
         (t.partRt p).nextJob = ((s.partRt p).nextJob + 1) % 2 ^ 24 ∧
         (t.ring r.toNat).head = ((s.ring r.toNat).head + 1) % 2 ^ 32 ∧
         t.n (Entry.partRingSubmitted p) = (s.n (Entry.partRingSubmitted p) + 1) % 2 ^ 64 ∧
         (∀ a, ¬ s.stores p (s.ringDescAt p r.toNat + 36) 4 a → Memory.read t.mem a = Memory.read s.mem a) ∧
         EntriesKept s t [Entry.partRingSubmitted p, Entry.partRasterHeldComputeJobs p])) ∧
  (∀ (s : State) (id : Nat) (host : Bytes) (j : RingJob), s.canonical → s.ringJob? id = some j → j.kind = 3 → j.partition < 9 →
     s.device ≠ 0 →
     (∀ shape, s.copyShape j = some shape → s.copyCause j = 0 →
       (∀ o, j.copySource shape = some o → s.readFails j.partition o shape.1 = false) →
       let data := match j.copySource shape with | some o => s.readMem j.partition o shape.1 | none => fit shape.1 host
       (∀ a, s.stores j.partition j.b shape.1 a → ¬ s.stores j.partition (s.completionAt j.ring) 16 a ∧
         ¬ s.stores j.partition (s.ringDescAt j.partition j.ring + 32) 4 a) →
       ∃ t, exec (.copyComplete id host) s = .next t ∧
         (j.dstPlace = 0 → t.readMem j.partition j.b shape.1 = data) ∧
         (j.dstPlace = 1 → Output.hostWrite (s.ring j.ring).function j.b data ∈ t.out) ∧
         t.jobs = s.jobs.filter (fun k => k.id ≠ id) ∧
         t.n (Entry.partRingCompleted j.partition) = (s.n (Entry.partRingCompleted j.partition) + 1) % 2 ^ 64 ∧
         (∀ a, (j.dstPlace = 0 → ¬ s.stores j.partition j.b shape.1 a) → ¬ s.stores j.partition (s.completionAt j.ring) 16 a →
           ¬ s.stores j.partition (s.ringDescAt j.partition j.ring + 32) 4 a → Memory.read t.mem a = Memory.read s.mem a) ∧
         EntriesKept s t [Entry.partRingCompleted j.partition]) ∧
     (j.srcPlace = 1 ∨ j.dstPlace = 1 →
       ∃ t, exec (.hostTransferFailure id) s = .next t ∧ t.jobs = s.jobs.filter (fun k => k.id ≠ id) ∧
         t.n (Entry.partRingLastCause j.partition) = 9 ∧
         t.n Entry.pcieHostTransferFailures = (s.n Entry.pcieHostTransferFailures + 1) % 2 ^ 32 ∧
         t.n (Entry.partRingAbandoned j.partition) = (s.n (Entry.partRingAbandoned j.partition) + 1) % 2 ^ 64 ∧
         (∀ a, ¬ s.stores j.partition (s.completionAt j.ring) 16 a →
           ¬ s.stores j.partition (s.ringDescAt j.partition j.ring + 32) 4 a → Memory.read t.mem a = Memory.read s.mem a) ∧
         EntriesKept s t [Entry.partRingLastCause j.partition, Entry.partRingAbandoned j.partition, Entry.pcieHostTransferFailures]))

/-- R14, R15, R262, R264, R272: a baton sent within the device, as the table of its lap has it, goes to its destination queue where a slot is
free and none waits for a credit, and waits otherwise; other queues keep their batons, and the lap that the baton belongs to counts it as
in flight. R264, R267: a leg that combines `count` batons takes them from its queue once all are present, in ascending Lane and then Part,
and their credits go to the batons that wait; with fewer present nothing happens. Stated of batons of this device that the station
accepts. Each of these completes where its conditions hold (the next state is a conclusion): BATON_SEND, BATON_RECEIVE. -/
def Obligations.BatonsCarried : Prop :=
  (∀ (s : State) (b c : Baton), s.running = true → s.sendBlocked b = false → s.relayed b = some c → c.dstDevice.toNat = s.deviceNumber →
     ∃ t, exec (.batonSend b) s = .next t ∧
       (let q := s.queue c.dstStation.toNat c.dstQueue.toNat
        let q' := t.queue c.dstStation.toNat c.dstQueue.toNat
        if s.stationExists c.dstStation.toNat = true ∧ q.batons.length < 2 ∧ q.waiting = [] then
          q'.batons = q.batons ++ [c] ∧ q'.waiting = []
        else q'.batons = q.batons ∧ q'.waiting = q.waiting ++ [c]) ∧
       (∀ st q, ¬ (st = c.dstStation.toNat ∧ q = c.dstQueue.toNat) → t.queue st q = s.queue st q) ∧
       (t.lapOf c).map Lap.inFlight = (s.lapOf c).map (fun l => l.inFlight + 1) ∧
       Keeps { s with herds := t.herds } t []) ∧
  (∀ (s : State) (st : BitVec 16) (q : BitVec 6) (count : Nat), s.running = true →
     ((s.queue st.toNat q.toNat).batons.length < count → ∃ t, exec (.batonReceive st q count) s = .next t ∧ Keeps s t []) ∧
     (count ≤ (s.queue st.toNat q.toNat).batons.length →
       (∀ b ∈ (s.queue st.toNat q.toNat).batons, s.accepts st.toNat b = true ∧ b.srcDevice.toNat = s.deviceNumber) →
       ∃ t, exec (.batonReceive st q count) s = .next t ∧
         (let taken := (sortBy batonOrder (s.queue st.toNat q.toNat).batons).take count
          let left := taken.foldl (fun l b => l.erase b) (s.queue st.toNat q.toNat).batons ++ (s.queue st.toNat q.toNat).waiting
          (t.queue st.toNat q.toNat).batons = left.take 2 ∧ (t.queue st.toNat q.toNat).waiting = left.drop 2) ∧
         Keeps { s with herds := t.herds } t []))

/-- R269: what the sequencer's legs do to a running lap of their slot, of a version whose legs are not known or whose position has such a leg:
NOP and MODEL nothing, BARRIER holds the position while batons are in flight, COMPLETE marks its lane, END ends the position's legs; every
other slot and unit is as before. R269, R281: of a version whose legs are known, a leg that the position does not have changes nothing.
R272, R273, R276, R282: a lap of a table with trigger ASYNC starts when its queue holds jobs: it has the next number, takes the jobs as
its lanes, and is abandoned at once where a model that it lists or a lane's mask cannot be read. R272, R289, R315: the boundary of a lap
without lanes whose batons are taken: no lap runs, Laps counts, LapMax is the longest time, LapOverruns counts a time above the bound, and
each herd of the partition counts the lap. Each of these completes where its conditions hold (the next state is a conclusion): LAP_START,
LAP_BOUNDARY, NOP, BARRIER, MODEL, COMPLETE, END. -/
def Obligations.LapsRun : Prop :=
  (∀ (s : State) (k : Fin 128) (h : Fin 8) (l : Lap), s.running = true →
     (s.slotRt k).lap = some l → l.abandoned = false → h.val ∉ l.ended → h.val < (s.positions (s.slotRunner k)).length →
     ((s.slotRt k).hasLeg h 0xE0 (fun _ => True) →
       ∃ t, exec (.nop k h) s = .next t ∧ Keeps { s with herds := t.herds } t [] ∧ ∀ j, t.slotRt j = s.slotRt j) ∧
     (∀ number : BitVec 15, (s.slotRt k).hasLeg h 0xE3 (fun x => legImmediate x % 2 ^ 15 = number.toNat) →
       ∃ t, exec (.model k h number) s = .next t ∧ Keeps { s with herds := t.herds } t [] ∧ ∀ j, t.slotRt j = s.slotRt j) ∧
     ((s.slotRt k).hasLeg h 0xE1 (fun _ => True) →
       ∃ t, exec (.barrier k h) s = .next t ∧
         (l.inFlight ≠ 0 → h.val ∉ l.barrier →
           Keeps (s.setSlotRt k { s.slotRt k with lap := some { l with barrier := l.barrier ++ [h.val] } }) t []) ∧
         (l.inFlight = 0 ∨ h.val ∈ l.barrier → Keeps { s with herds := t.herds } t [] ∧ ∀ j, t.slotRt j = s.slotRt j)) ∧
     (∀ lane : BitVec 6, (s.slotRt k).hasLeg h 0xE4 (fun _ => True) →
       ∃ t, exec (.complete k h lane) s = .next t ∧
         Keeps (s.setSlotRt k { s.slotRt k with lap := some { l with
           marked := if lane.toNat ∈ l.marked then l.marked else l.marked ++ [lane.toNat] } }) t []) ∧
     ((s.slotRt k).hasLeg h 0xE5 (fun _ => True) →
       ∃ t, exec (.endLegs k h) s = .next t ∧
         Keeps (s.setSlotRt k { s.slotRt k with lap := some { l with ended := l.ended ++ [h.val] } }) t [])) ∧
  (∀ (s : State) (k : Fin 128) (h : Fin 8) (number : BitVec 15) (lane : BitVec 6), (s.slotRt k).legs h ≠ [] →
     (∀ c op, (c, op) ∈ [(Instr.nop k h, 0xE0), (.barrier k h, 0xE1), (.model k h number, 0xE3), (.complete k h lane, 0xE4),
         (.endLegs k h, 0xE5)] →
       (∀ x ∈ (s.slotRt k).legs h, legOp x ≠ op) → ∃ t, exec c s = .next t ∧ Keeps s t [])) ∧
  (∀ (s : State) (k : Fin 128) (lines : Nat) (img : TableImage), s.lapAllowed k = true → s.slotReady k = true →
     (s.slotRt k).active = some img → img.trigger = 2 → img.jobKind = 0 →
     (s.slotRt k).staged = none → (s.slotRt k).reload = none → s.ringBatch k img ≠ [] →
     let p := s.slotRunner k
     let lanes := (s.ringBatch k img).map RingJob.id
     ∃ t, exec (.lapStart ⟨k, lines⟩) s = .next t ∧
       (t.slotRt k).laps = (s.slotRt k).laps + 1 ∧
       (∃ l, (t.slotRt k).lap = some l ∧ l.number = ((s.slotRt k).laps + 1) % 2 ^ 32 ∧
         l.lanes = lanes ∧ l.records = lanes.map (s.laneRecord 0) ∧ l.inFlight = 0 ∧ l.ended = [] ∧
         (l.abandoned = true ↔ s.modelsUnreadable p img = true ∨
           ∃ r ∈ lanes.map (s.laneRecord 0), r.maskBase ≠ 0 ∧ s.readFails p r.maskBase (s.maskBytes k p) = true)) ∧
       t.jobs = s.jobs.map (fun j => if j.id ∈ lanes then { j with inLap := true } else j) ∧
       (∀ j, j ≠ k.val → t.slotRt j = s.slotRt j) ∧ MemoryKept s t) ∧
  (∀ (s : State) (k : Fin 128) (tenNs : Nat) (l : Lap) (img : TableImage), s.running = true → (s.slotRt k).lap = some l →
     l.abandoned = false → l.inFlight = 0 → l.lanes = [] → (s.slotRt k).active = some img → img.jobKind ≠ 3 →
     (s.slotRt k).staged = none → (s.slotRt k).unload = false → (s.slotRt k).reload = none → s.herds.queues = [] →
     (s.adaptPart (s.slotRunner k)).streams = [] → (s.statsLatch (s.slotRunner k)).slot ≠ k.val → s.slotRunner k < 9 →
     ∃ t, exec (.lapBoundary k tenNs) s = .next t ∧ (t.slotRt k).lap = none ∧ (t.slotRt k).active = some img ∧
       t.n (Entry.slotLaps k) = (s.n (Entry.slotLaps k) + 1) % 2 ^ 64 ∧
       t.n (Entry.slotLapMax k) = max (s.n (Entry.slotLapMax k)) tenNs ∧
       t.n (Entry.slotLapOverruns k) = (if s.n (Entry.slotAnnexBound k) < tenNs then (s.n (Entry.slotLapOverruns k) + 1) % 2 ^ 32
         else s.n (Entry.slotLapOverruns k)) ∧
       (∀ h ∈ s.positions (s.slotRunner k), t.n (Entry.herdLaps h) = (s.n (Entry.herdLaps h) + 1) % 2 ^ 64) ∧
       (∀ j, j ≠ k.val → t.slotRt j = s.slotRt j) ∧ MemoryKept s t ∧
       EntriesKept s t ([Entry.slotLaps k, Entry.slotLapMax k, Entry.slotLapOverruns k, Entry.partArithSaturations (s.slotRunner k),
         Entry.arithSaturationsTotal] ++ (List.range 8).flatMap fun h =>
           [Entry.herdLaps h, Entry.herdBatonsIssued h, Entry.herdArithScaleReloads h, Entry.herdArithSaturations h]))

/-- R280 steps 1 to 5, R287: a Stage whose checks pass begins the load of the version, one that fails them names its StageError; a load that
ends leaves the version staged for the lap boundary of an ACTIVE slot and makes it active at once in an EMPTY one; Unload waits for the
boundary of an ACTIVE slot; a 0 written to either does nothing. Nothing else changes. R284 steps 3 and 5: the load for another herd count
ends. Where the fallback versions were loaded, each slot of the partition that waited is active with its fallback version in the other
bank; where the full ones were, they wait for the lap boundary of each slot. Each of these completes where its conditions hold (the next
state is a conclusion): STAGE, STAGE_LOAD_COMPLETE, UNLOAD, FALLBACK_LOAD_COMPLETE. -/
def Obligations.TablesLoaded : Prop :=
  (∀ (s : State) (k : Fin 128) (img : TableImage), k.val < 120 → s.running = true → s.boot.managing = true →
     (s.stageCheck k = (0, some img) →
       ∃ t, exec (.stage k true) s = .next t ∧ t.n (Entry.slotStageState k) = 1 ∧ t.n (Entry.slotStageError k) = 0 ∧
         Keeps (s.setSlotRt k { s.slotRt k with staged := none, loading := some img }) t
           [Entry.slotStageState k, Entry.slotStageError k]) ∧
     (∀ e, s.stageCheck k = (e, none) →
       ∃ t, exec (.stage k true) s = .next t ∧ t.n (Entry.slotStageState k) = 3 ∧ t.n (Entry.slotStageError k) = e ∧
         Keeps (s.setSlotRt k { s.slotRt k with staged := none, loading := none }) t
           [Entry.slotStageState k, Entry.slotStageError k, Entry.partCachePinRefused (s.n (Entry.slotPartition k))]) ∧
     ((s.slotRt k).loading = some img → (s.slotRt k).active ≠ none →
       ∃ t, exec (.stageLoadComplete k) s = .next t ∧ t.n (Entry.slotStageState k) = 2 ∧
         Keeps (s.setSlotRt k { s.slotRt k with staged := some img, loading := none }) t [Entry.slotStageState k]) ∧
     ((s.slotRt k).loading = some img → (s.slotRt k).active = none →
       ∃ t, exec (.stageLoadComplete k) s = .next t ∧ t.n (Entry.slotStageState k) = 0 ∧ t.n (Entry.slotState k) = 1 ∧
         t.n (Entry.slotActiveVersion k) = img.version ∧ t.b (Entry.slotTableDigest k) = img.digest ∧ t.n (Entry.slotLanes k) = img.lanes ∧
         t.n (Entry.slotTrigger k) = img.trigger ∧ t.n (Entry.slotJobKind k) = img.jobKind ∧ t.n (Entry.slotLaps k) = 0 ∧
         (t.slotRt k).active = some img ∧ (t.slotRt k).staged = none ∧ (t.slotRt k).loading = none ∧
         (∀ j, j ≠ k.val → t.slotRt j = s.slotRt j) ∧ MemoryKept s t ∧ EntriesKept s t (slotKeys k ++ loadKeys)) ∧
     ((s.slotRt k).active ≠ none →
       ∃ t, exec (.unload k true) s = .next t ∧ Keeps (s.setSlotRt k { s.slotRt k with unload := true }) t []) ∧
     (∃ t, exec (.stage k false) s = .next t ∧ Keeps s t []) ∧ ∃ t, exec (.unload k false) s = .next t ∧ Keeps s t []) ∧
  (∀ (s : State) (p : Fin 8),
     ∃ t, exec (.fallbackLoadComplete p) s = .next t ∧
       (∀ k, k < 128 → s.slotRunner k = p.val + 1 →
         ((s.slotRt k).reload = some (true, false) →
           t.slotRt k = { s.slotRt k with
             fallback := true, reload := none
             active := (s.slotRt k).active.map fun x => { x with bank := 1 - x.bank } } ∧
           (∀ img, (s.slotRt k).active = some img → t.n (Entry.slotFallback k) = 1 ∧ t.n (Entry.slotAnnexBound k) = img.annexFallback)) ∧
         ((s.slotRt k).reload = some (false, false) → t.slotRt k = { s.slotRt k with reload := some (false, true) })) ∧
       (∀ k, s.slotRunner k ≠ p.val + 1 → t.slotRt k = s.slotRt k) ∧ MemoryKept s t ∧
       EntriesKept s t ((List.range 128).flatMap slotKeys))

/-- R285: HerdReset 1 of a herd in service puts it in RESET and abandons the laps that run on the herds of its partition; at the end of a
reset after which the herd is found cleared, it is back with an empty cache and no scale bank, and HerdResetCount counts (stated of a herd
that belongs to no partition); one that is not found cleared is fenced; a 0 written does nothing. Each of these completes where its
conditions hold (the next state is a conclusion): HERD_RESET, HERD_RESET_COMPLETE. -/
def Obligations.HerdResets : Prop :=
  ∀ (s : State) (h : Fin 8), h.val < s.herdCount →
    (s.running = true → s.boot.managing = true → s.fenced ⟨.herd, h⟩ = false → s.n (Entry.herdState h) ≠ 2 →
      ∃ t, exec (.herdReset h true) s = .next t ∧ t.n (Entry.herdState h) = 2 ∧
        t.herdRt h = { s.herdRt h with resetting := true } ∧
        (∀ k, k < 128 → s.slotRunner k = s.n (Entry.herdPartition h) → s.n (Entry.herdPartition h) ≠ 0 →
          (t.slotRt k).lap = (s.slotRt k).lap.map fun l => { l with abandoned := true }) ∧
        (∀ k, s.slotRunner k ≠ s.n (Entry.herdPartition h) → t.slotRt k = s.slotRt k) ∧
        (∀ j, j ≠ h.val → t.herdRt j = s.herdRt j) ∧ MemoryKept s t ∧
        EntriesKept s t ([Entry.herdState h] ++ (List.range 8).map Entry.herdPosition ++ (List.range 128).map Entry.slotStageState ++
          (List.range 128).map Entry.slotStageError)) ∧
    (s.running = true → s.boot.managing = true → ∃ t, exec (.herdReset h false) s = .next t ∧ Keeps s t []) ∧
    (s.n (Entry.herdState h) = 2 → s.takesFault ⟨.herd, h⟩ ⟨.herd, h⟩ →
      ∃ t, exec (.herdResetComplete h false) s = .next t ∧ t.fenced ⟨.herd, h⟩ = true) ∧
    (s.n (Entry.herdState h) = 2 → s.n (Entry.herdPartition h) = 0 → (s.adaptPart 0).waiting = [] →
      ∃ t, exec (.herdResetComplete h true) s = .next t ∧ t.n (Entry.herdState h) = 0 ∧
        t.n (Entry.herdResetCount h) = (s.n (Entry.herdResetCount h) + 1) % 2 ^ 32 ∧
        (t.herdRt h).cache = [] ∧ (t.herdRt h).banks = [] ∧ (t.herdRt h).acc = [] ∧ (t.herdRt h).resetting = false ∧
        (t.herdRt h).deadKids = (s.herdRt h).deadKids ∧ (t.herdRt h).swaps = (s.herdRt h).swaps ∧
        (∀ j, j ≠ h.val → t.herdRt j = s.herdRt j) ∧ (∀ k, t.slotRt k = s.slotRt k) ∧ MemoryKept s t ∧
        EntriesKept s t [Entry.herdState h, Entry.herdResetCount h])

/-- R299: the row exponent of a conversion is the smallest in its range at which the largest finite magnitude of the row fits, and 0 for a row
without a finite value other than 0. R299, R300, R304, R305, R310, R311: conversions by a unit of a herd in service. CONVERT (from FP32 or
BF16), GRADCONV and MOMPACK send the converted rows with their row exponents as the station's output; their saturations and NaNs are
counted; no entry but the NaN counters changes. A CONVERT from another format abandons the lap. Each of these completes where its
conditions hold (the next state is a conclusion): CONVERT, GRADCONV, MOMPACK. -/
def Obligations.ConversionsSend : Prop :=
  (∀ (q : Nat) (row : List (Fl × Bool)),
     (∀ sg e, rowMax row = .fin sg 0 e → rowExponent q row = 0) ∧
     (-64 ≤ rowExponent q row ∧ rowExponent q row ≤ 63) ∧
     (∀ e, -64 ≤ e → e < rowExponent q row → (∀ sg x, rowMax row ≠ .fin sg 0 x) → Fl.le (rowMax row) (Fl.ofDyadic q e) = false)) ∧
  (∀ (s : State) (u : OpUnit) (rows : List (List Nat)), s.opRuns u →
     (∀ (c : ConvConfig) (mask : List (List Bool)), c.inFormat = 6 ∨ c.inFormat = 4 →
       ∃ t, exec (.convert u c rows mask) s = .next t ∧
         (t.herdRt u.herd).vecOut = ((maskedRows c.inFormat rows mask).map (convertRow c)).map RowOut.codes ∧
         (t.herdRt u.herd).payload = payloadOf c.outFormat (t.herdRt u.herd).vecOut
           (((maskedRows c.inFormat rows mask).map (convertRow c)).map RowOut.exp) ∧
         s.opKeeps t u (fun _ => False)) ∧
     (∀ (c : ConvConfig) (mask : List (List Bool)), c.inFormat ≠ 6 → c.inFormat ≠ 4 →
       ∃ t, exec (.convert u c rows mask) s = .next t ∧ Keeps (s.abandonLap u.slot) t []) ∧
     (∃ t, exec (.gradconv u rows) s = .next t ∧
       (t.herdRt u.herd).vecOut = rows.map (fun r => (convertAt 3 (rowExponent 57344 (unmasked (r.map f32))) (unmasked (r.map f32))).codes) ∧
       (t.herdRt u.herd).exponents = rows.map (fun r => rowExponent 57344 (unmasked (r.map f32))) ∧ s.opKeeps t u (fun _ => False)) ∧
     (∃ t, exec (.mompack u false rows) s = .next t ∧
       (t.herdRt u.herd).vecOut = rows.map (fun r => (convertAt 0 (rowExponent 127 (unmasked (r.map f32))) (unmasked (r.map f32))).codes) ∧
       s.opKeeps t u (fun _ => False)) ∧
     ∃ t, exec (.mompack u true rows) s = .next t ∧ (t.herdRt u.herd).vecOut = rows.map (fun r => (packSecond r).codes) ∧
       s.opKeeps t u (fun _ => False))

/-- R293: the accumulators of integer products never leave the range of INT32: a sum beyond it is held at the bound and counted once. R293,
R305, R317, R323: MMA and CONVWIN in a pair of formats that the kids accept give the kid's accumulators for the slot; another pair, and
for CONVWIN a source whose rows differ in exponent or that cannot be read, abandons the running lap of the slot and changes nothing else.
Each of these completes where its conditions hold (the next state is a conclusion): MMA, CONVWIN. -/
def Obligations.AccumulatorsHold : Prop :=
  (∀ (acc : Nat) (d : Int),
     signed 32 (int32Add acc d).1 = max (-2147483648) (min 2147483647 (signed 32 (acc % 2 ^ 32) + d)) ∧
     ((int32Add acc d).2 = 0 ↔ -2147483648 ≤ signed 32 (acc % 2 ^ 32) + d ∧ signed 32 (acc % 2 ^ 32) + d ≤ 2147483647)) ∧
  (∀ (s : State) (u : OpUnit), s.opRuns u →
     (∀ (fa fw : Nat) (steps : List (List Nat × List Nat)),
       (pairLegal fa fw = true → ∃ t, exec (.mma u fa fw steps) s = .next t ∧
         t.kidAcc u = steps.foldl (fun acc e => (macStep fa fw acc e.1 e.2).1) (s.kidAcc u) ∧
         (t.herdRt u.herd).vecOut = (s.herdRt u.herd).vecOut ∧ (∀ j, t.slotRt j = s.slotRt j) ∧
         Keeps { s with herds := t.herds, parts := t.parts } t []) ∧
       (pairLegal fa fw = false → ∃ t, exec (.mma u fa fw steps) s = .next t ∧ Keeps (s.abandonLap u.slot) t [])) ∧
     ∀ (g : AddrConfig) (x : Tensor) (fw : Nat) (w : List (List Nat)),
       let y := s.source u g x
       let ok := s.sourceReadable u g x ∧ pairLegal g.inFormat fw = true ∧ oneExponent y = true
       let windows := if g.kind = 9 then (List.range (matrixWidth (s.herdRt u.herd).expanded)).map fun i => column (s.herdRt u.herd).expanded i
         else (outPositions g).map fun e => windowCodes (window g y false 0 g.inChannels e.1 e.2)
       (ok → ∃ t, exec (.convwin u g fw x w) s = .next t ∧
         t.kidAcc u = windows.flatMap (fun a => w.map fun b => (kidDot g.inFormat fw (a.zip b)).1) ∧
         Keeps { s with herds := t.herds, parts := t.parts } t []) ∧
       (¬ ok → ∃ t, exec (.convwin u g fw x w) s = .next t ∧ Keeps (s.abandonLap u.slot) t []))

/-- R303, R305, R310, R316, R322, R324, R336: operations of a unit of a herd in service that send FP32 or BF16 rows, reorder a plane or fill
the expansion buffer: MOMUNPACK gives each code at its row's exponent, squared for the second moment; MASTERUPD adds each update to its
BF16 master; OUTLIER sums the products of BF16 activations; PLANARISE separates the channels; EXPAND fills the buffer. No entry changes; a
PLANARISE or an EXPAND whose source cannot be read abandons the lap. R294, R302, R305, R328: RESCALE and WIDE, and their rectified forms,
send the accumulators of the kid, or the sums of BF16 products, rescaled by channel and converted; a rectified INT8 output with a static
scale has no negative code. Each of these completes where its conditions hold (the next state is a conclusion): RESCALE, OUTLIER, WIDE,
MOMUNPACK, MASTERUPD, EXPAND, RESCALE_RELU, WIDE_RELU, PLANARISE. -/
def Obligations.OutputsSent : Prop :=
  (∀ (s : State) (u : OpUnit), s.opRuns u →
     (∀ (rows : List (List Nat)) (exps : List Int) (second : Bool), ∃ t, exec (.momunpack u second rows exps) s = .next t ∧
       (∀ r i row, rows[r]? = some row → i < row.length →
         ((t.herdRt u.herd).vecOut.getD r []).getD i 0 =
           (if second then fmtFP32.round ((Fl.scale (Fl.ofInt (row.getD i 0 % 2 ^ 8 : Nat)) (exps.getD r 0)).mul
               (Fl.scale (Fl.ofInt (row.getD i 0 % 2 ^ 8 : Nat)) (exps.getD r 0)))
             else fmtFP32.round ((codeValue 0 (row.getD i 0)).scale (exps.getD r 0)))) ∧
       Keeps { s with herds := t.herds } t []) ∧
     (∀ masters updates : List Nat, ∃ t, exec (.masterupd u masters updates) s = .next t ∧
       (t.herdRt u.herd).vecOut = [(masters.zip updates).map fun e =>
         fmtBF16.encode (f32 (f32Add (fmtFP32.round (codeValue 4 e.1)) e.2))] ∧ Keeps { s with herds := t.herds } t []) ∧
     (∀ acts weights : List (List Nat), ∃ t, exec (.outlier u acts weights) s = .next t ∧
       (t.herdRt u.herd).vecOut = acts.map (fun a => (List.range (matrixWidth weights)).map fun c =>
         bf16Dot ((a.map fun x => fmtBF16.encode (f32 x)).zip (column weights c))) ∧ Keeps { s with herds := t.herds } t []) ∧
     (∀ (g : AddrConfig) (rows : List (List Nat)),
       let from_ := s.interleaved u g rows
       let fails := g.srcPlace = 1 ∧ ∃ y, y < g.inHeight ∧
         s.readFails (s.opPart u) (g.srcOffset + y * g.srcRowPitch) (storedRow g.inFormat (g.inWidth * g.inChannels)) = true
       (¬ fails → ∃ t, exec (.planarise u g rows) s = .next t ∧
         (∀ c r i, c < g.inChannels → r < from_.length → i < (from_.getD r []).length / max 1 g.inChannels →
           ((t.herdRt u.herd).vecOut.getD (c * from_.length + r) []).getD i 0 = (from_.getD r []).getD (i * g.inChannels + c) 0) ∧
         Keeps { s with herds := t.herds, mem := t.mem } t [] ∧
         ∀ a, ¬ s.rowsStored u { g with stripe := 0, stripeCount := 1 } g.inFormat 1 g.inChannels g.inHeight
           (t.herdRt u.herd).vecOut a → Memory.read t.mem a = Memory.read s.mem a) ∧
       (fails → ∃ t, exec (.planarise u g rows) s = .next t ∧ Keeps (s.abandonLap u.slot) t [])) ∧
     ∀ (g : AddrConfig) (x : Tensor) (first : Nat),
       (s.sourceReadable u g x → ∃ t, exec (.expand u g x first) s = .next t ∧
         (t.herdRt u.herd).expanded = expandRows g (s.source u g x) first ∧
         (t.herdRt u.herd).vecOut = (s.herdRt u.herd).vecOut ∧ Keeps { s with herds := t.herds } t []) ∧
       (¬ s.sourceReadable u g x → ∃ t, exec (.expand u g x first) s = .next t ∧ Keeps (s.abandonLap u.slot) t [])) ∧
  (∀ (s : State) (u : OpUnit) (c : ConvConfig) (j : RescaleJob), s.opRuns u →
     (let out := fun relu => (rescaleRows c j (s.weightExp u.herd j) j.integer relu (rowsOf j.entries.length (s.kidAcc u))).map RowOut.codes
      (∃ t, exec (.rescale u c j) s = .next t ∧ (t.herdRt u.herd).vecOut = out false ∧ s.opKeeps t u (fun _ => False)) ∧
      ∃ t, exec (.rescaleRelu u c j) s = .next t ∧ (t.herdRt u.herd).vecOut = out true ∧
        (j.integer = true → c.outFormat = 0 → c.outScaleMode = 1 → j.partials = [] → ∀ row ∈ out true, ∀ q ∈ row, 0 ≤ signed 8 q) ∧
        s.opKeeps t u (fun _ => False)) ∧
     ∀ acts weights : List (List Nat),
       let out := fun relu => (rescaleRows c j (s.weightExp u.herd j) false relu (acts.map fun a =>
         (List.range (matrixWidth weights)).map fun ch => bf16Dot (a.zip (column weights ch)))).map RowOut.codes
       (∃ t, exec (.wide u c acts weights j) s = .next t ∧ (t.herdRt u.herd).vecOut = out false ∧ s.opKeeps t u (fun _ => False)) ∧
       ∃ t, exec (.wideRelu u c acts weights j) s = .next t ∧ (t.herdRt u.herd).vecOut = out true ∧ s.opKeeps t u (fun _ => False))

/-- R316, R317, R322, R325 to R327, R331, R336: GROUPCONV, BLOCKCONV and POOL of a unit of a herd in service send one row for each output
channel and output line of their stripe, channel by channel, converted in the configuration's output format, and store them where the
configuration places them; a pooled line is the conversion of the greatest, or the mean, of its windows. A source that cannot be read
abandons the lap. R305, R306: STATS of a unit of a herd in service measures a conversion without sending: with statistics off nothing
changes; with them on, only the sums of the unit's lap do. Each of these completes where its conditions hold (the next state is a
conclusion): STATS, GROUPCONV, BLOCKCONV, POOL. -/
def Obligations.WindowOperationsSend : Prop :=
  (∀ (s : State) (u : OpUnit) (g : AddrConfig) (c : ConvConfig) (x : Tensor), s.opRuns u →
     let lines := stripeRows g (outHeight g)
     let stored := fun (t : State) (channels : Nat) =>
       s.rowsStored u g c.outFormat c.outScaleMode channels (outHeight g) (t.herdRt u.herd).vecOut
     (s.sourceReadable u g x →
       (∀ (w : List (List Nat)) (j : RescaleJob), ∃ t, exec (.groupconv u g c x w j) s = .next t ∧
         (t.herdRt u.herd).vecOut.length = g.outChannels * lines.length ∧ s.opKeeps t u (stored t g.outChannels)) ∧
       (∀ (w : List (List Int)) (j : RescaleJob), ∃ t, exec (.blockconv u g c x w j) s = .next t ∧
         (t.herdRt u.herd).vecOut.length = g.outChannels * lines.length ∧ s.opKeeps t u (stored t g.outChannels)) ∧
       ∃ t, exec (.pool u g c x) s = .next t ∧
         (t.herdRt u.herd).vecOut.length = g.inChannels * lines.length ∧ s.opKeeps t u (stored t g.inChannels) ∧
         ∀ o k y, o < g.inChannels → lines[k]? = some y →
           (t.herdRt u.herd).vecOut.getD (o * lines.length + k) [] =
             (convertRow c (unmasked ((List.range (outWidth g)).map fun i =>
               let l := (window g (s.source u g x) true o 1 y i).filterMap fun e => e.map fun q => (codeValue g.inFormat q.1).scale q.2
               if g.poolMax then poolMax l else poolAverage l (if g.countPad then g.kernelW * g.kernelH else l.length)))).codes) ∧
     (¬ s.sourceReadable u g x →
       (∀ (w : List (List Nat)) (j : RescaleJob), ∃ t, exec (.groupconv u g c x w j) s = .next t ∧ Keeps (s.abandonLap u.slot) t []) ∧
       (∀ (w : List (List Int)) (j : RescaleJob), ∃ t, exec (.blockconv u g c x w j) s = .next t ∧ Keeps (s.abandonLap u.slot) t []) ∧
       ∃ t, exec (.pool u g c x) s = .next t ∧ Keeps (s.abandonLap u.slot) t [])) ∧
  (∀ (s : State) (u : OpUnit) (c : ConvConfig) (source codes : List (List Nat)) (exps : List Int) (mask : List (List Bool)),
     s.opRuns u →
     ∃ t, exec (.stats u c source codes exps mask) s = .next t ∧ (c.statsEnable = false → Keeps s t []) ∧
       Keeps { s with herds := t.herds } t [] ∧ (∀ h, t.herdRt h = s.herdRt h) ∧
       (∀ l, (s.slotRt u.slot).lap = some l → ∃ l', (t.slotRt u.slot).lap = some l' ∧ l'.number = l.number ∧ l'.lanes = l.lanes ∧
         l'.marked = l.marked ∧ l'.inFlight = l.inFlight ∧ l'.abandoned = l.abandoned))

/-- R343, R349, R353, R357: commands of a partition that records no arrivals and has no herd under reset. A select makes a held version
active, a discard replaces the candidate, a clear empties the three slots; an unknown operation and a command that fails its checks name
their CommandResult and change nothing else. A budget period takes the budget anew. Each of these completes where its conditions hold (the
next state is a conclusion): ADAPT_BUDGET_PERIOD, SELECT_VERSION, DISCARD_CANDIDATE, CLEAR_ADAPTED_VERSIONS, UNKNOWN_ADAPT_OP. -/
def Obligations.AdaptationCommands : Prop :=
  ∀ (s : State) (p : Fin 8) (w : BitVec 64) (i : Nat), s.running = true → s.boot.managing = true → s.unrecorded →
    i = commandStream w.toNat → s.underReset (p.val + 1) = false →
    (s.commandCheck (p.val + 1) w.toNat ≠ 0 →
      (∀ c op, (c, op) ∈ [(Instr.selectVersion p w, 0), (.discardCandidate p w, 1), (.clearAdaptedVersions p w, 2)] →
        commandOp w.toNat = op → ∃ t, exec c s = .next t ∧
          t.n (Entry.partAdaptCommandResult (p.val + 1)) = s.commandCheck (p.val + 1) w.toNat ∧
          Keeps s t [Entry.partAdaptCommandResult (p.val + 1)]) ∧
      (3 ≤ commandOp w.toNat → ∃ t, exec (.unknownAdaptOp p w) s = .next t ∧
        t.n (Entry.partAdaptCommandResult (p.val + 1)) = (if (s.partRt (p.val + 1)).arrivalMode = 2 then 4 else 5) ∧
        Keeps s t [Entry.partAdaptCommandResult (p.val + 1)])) ∧
    (s.commandCheck (p.val + 1) w.toNat = 0 →
      (∀ k, commandOp w.toNat = 0 → (s.adaptOf i).slotOf (commandVersion w.toNat) = some k →
        ∃ t, exec (.selectVersion p w) s = .next t ∧
          t.adaptOf i = ({ s.adaptOf i with activeSlot := k }).commanded (s.n (Entry.partAdaptCandidateSteps (p.val + 1)))
            (Config.masterOf (t.activeWeights (p.val + 1) i)) ∧
          t.n (Entry.partAdaptCommandResult (p.val + 1)) = 0 ∧
          t.n (Entry.partAdaptRollbacks (p.val + 1)) = (s.n (Entry.partAdaptRollbacks (p.val + 1)) + 1) % 2 ^ 32 ∧
          t.n Entry.adaptRollbacksTotal = (s.n Entry.adaptRollbacksTotal + 1) % 2 ^ 32 ∧
          (∀ j, j ≠ i → t.adaptOf j = s.adaptOf j) ∧
          Keeps { s with adapt := t.adapt } t [Entry.partAdaptCommandResult (p.val + 1), Entry.partAdaptRollbacks (p.val + 1),
            Entry.adaptRollbacksTotal]) ∧
      (commandOp w.toNat = 1 →
        ∃ t, exec (.discardCandidate p w) s = .next t ∧
          t.adaptOf i = (s.adaptOf i).commanded (s.n (Entry.partAdaptCandidateSteps (p.val + 1)))
            (Config.masterOf (t.activeWeights (p.val + 1) i)) ∧
          t.n (Entry.partAdaptCommandResult (p.val + 1)) = 0 ∧ (∀ j, j ≠ i → t.adaptOf j = s.adaptOf j) ∧
          Keeps { s with adapt := t.adapt } t [Entry.partAdaptCommandResult (p.val + 1)]) ∧
      (commandOp w.toNat = 2 →
        ∃ t, exec (.clearAdaptedVersions p w) s = .next t ∧
          t.adaptOf i = ({ s.adaptOf i with activeSlot := 0, slots := [0, 0, 0], digests := [[], [], []], weights := [[], [], []] }).commanded
            (s.n (Entry.partAdaptCandidateSteps (p.val + 1))) (Config.masterOf (t.activeWeights (p.val + 1) i)) ∧
          t.n (Entry.partAdaptCommandResult (p.val + 1)) = 0 ∧ (∀ j, j ≠ i → t.adaptOf j = s.adaptOf j) ∧
          Keeps { s with adapt := t.adapt } t [Entry.partAdaptCommandResult (p.val + 1)])) ∧
    ((∀ e ∈ (s.adaptPart (p.val + 1)).streams, s.streamPartition e.1 = p.val + 1) → ∃ t, exec (.adaptBudgetPeriod p) s = .next t ∧
      t.n (Entry.partAdaptBudgetUsed (p.val + 1)) = min 25 ((s.adaptPart (p.val + 1)).started / 100000) ∧
      (t.adaptPart (p.val + 1)).started = 0 ∧ (t.adaptPart (p.val + 1)).budget = s.n Entry.adaptAdaptBudget ∧
      (∀ q, q ≠ p.val + 1 → q ≠ 0 → (t.adaptPart q).started = (s.adaptPart q).started ∧ (t.adaptPart q).budget = (s.adaptPart q).budget) ∧
      MemoryKept s t ∧
      EntriesKept s t [Entry.partAdaptBudgetUsed (p.val + 1), Entry.partAdaptSamplesDropped (p.val + 1)])

/-- R358 to R362 step 1: a partition that is OFF and passes the start checks is STARTING and owns what its record names, with its counters at
0 and the granules that were used before to be scrubbed; one that fails them stays OFF with its StartError. Stated where enough herds
work. R362 step 2: with its keys ready and every granule scrubbed it is LIVE. Each of these completes where its conditions hold (the next
state is a conclusion): PARTITION_ENABLE, PARTITION_LIVE. -/
def Obligations.PartitionsStart : Prop :=
  ∀ (s : State) (p : Fin 8) (q : Nat), q = p.val + 1 → s.running = true →
    (s.boot.managing = true → s.partState q = 0 → s.herdMinimum ≤ s.workingHerds.length →
      ∃ t, exec (.partitionEnable p) s = .next t ∧ t.n (Entry.partStartError q) = s.partStartError q ∧
        t.n (Entry.partPendingStart q) = 0 ∧ MemoryKept s t ∧
        (s.partStartError q = 0 →
          t.partState q = 1 ∧ t.n (Entry.partEnable q) = 1 ∧ t.n (Entry.partAnchorPort q) = 255 ∧ t.assigned (s.named q) q ∧
          (∀ h ∈ (s.named q).herds, t.n (Entry.herdState h) = 1) ∧ (∀ k ∈ partCounters q ++ adaptKeys q, t.n k = 0) ∧
          (t.partRt q).owned = some (s.named q) ∧ (t.partRt q).keysReady = s.trngHealthy ∧
          (t.partRt q).toScrub = (s.named q).granules.filter s.security.used.contains ∧
          (∀ g ∈ (s.named q).granules, g ∈ t.security.used) ∧
          (t.slotRt (119 + q)).active ≠ none ∧ t.device = (if s.degraded then 5 else 4) ∧
          EntriesKept s t ((s.named q).keys ++ partCounters q ++ adaptKeys q ++ slotKeys (119 + q) ++ loadKeys ++
            (List.range 8).map Entry.herdState ++ (List.range 8).map Entry.herdPosition ++
            [Entry.partEnable q, Entry.partState q, Entry.partStartError q, Entry.partPendingStart q, Entry.partAnchorPort q,
              Entry.partScrubProgress q, Entry.ringBlocksBlocksFree, Entry.secKeysGenerated, Entry.devDeviceState,
              Entry.devStateCause])) ∧
        (s.partStartError q ≠ 0 →
          t.partState q = 0 ∧ t.n (Entry.partEnable q) = 0 ∧ t.device = (if s.degraded then 5 else if s.anyPartition then 4 else 3) ∧
          EntriesKept s t [Entry.partEnable q, Entry.partState q, Entry.partStartError q, Entry.partPendingStart q,
            Entry.devDeviceState, Entry.devStateCause])) ∧
    (s.partState q = 1 → (s.partRt q).keysReady = true → (s.partRt q).toScrub = [] →
      ∃ t, exec (.partitionLive p) s = .next t ∧ t.partState q = 2 ∧ Keeps s t [Entry.partState q]) ∧
    (¬ (s.partState q = 1 ∧ (s.partRt q).keysReady = true ∧ (s.partRt q).toScrub = []) →
      ∃ t, exec (.partitionLive p) s = .next t ∧ Keeps s t [])

/-- R362 steps 3 and 4: a partition is disabled: it is STOPPING, and its slots are emptied, at the boundary of the lap that runs where one
does; when nothing of it runs it is SCRUBBING: its keys are destroyed, its herds are reset and every granule is to be scrubbed. Disabling
is stated of a partition that owns neither ports, pairs nor streams and has no work in progress. Each of these completes where its
conditions hold (the next state is a conclusion): PARTITION_DISABLE, PARTITION_TEARDOWN_DONE. -/
def Obligations.PartitionsStop : Prop :=
  ∀ (s : State) (p : Fin 8) (q : Nat), q = p.val + 1 → s.running = true → (s.owned q).fits →
    (s.boot.managing = true → s.partOpen q = true → (s.owned q).ports = [] → (s.owned q).pairs = [] → (s.owned q).streams = [] →
      s.jobs = [] → s.raster.passes = [] → s.raster.queries = [] →
      ∃ t, exec (.partitionDisable p) s = .next t ∧ t.partState q = 3 ∧ t.n (Entry.partEnable q) = 0 ∧
        t.n (Entry.partPendingStart q) = 0 ∧ (t.partRt q).windows = [] ∧ (t.partRt q).portsDue = [] ∧
        (∀ k ∈ (s.owned q).slots ++ [119 + q],
          ((s.slotRt k).lap = none → t.slotRt k = { laps := (s.slotRt k).laps }) ∧
          ((s.slotRt k).lap ≠ none → t.slotRt k = { s.slotRt k with unload := true, staged := none, loading := none })) ∧
        (∀ k, k ∉ (s.owned q).slots ++ [119 + q] → t.slotRt k = s.slotRt k) ∧ MemoryKept s t ∧
        EntriesKept s t ([Entry.partState q, Entry.partEnable q, Entry.partPendingStart q] ++ loadKeys ++
          ((s.owned q).slots ++ [119 + q]).flatMap slotKeys)) ∧
    (s.stopped q = true → (∀ h ∈ (s.owned q).herds, s.n (Entry.herdPartition h) = q) →
      ∃ t, exec (.partitionTeardownDone p) s = .next t ∧ t.partState q = 4 ∧ (t.partRt q).keysReady = false ∧
        KeyName.memory q ∉ t.security.keys ∧ (t.partRt q).toScrub = (s.owned q).granules ∧ (t.partRt q).scrubbed = 0 ∧
        (∀ h ∈ (s.owned q).herds, (t.herdRt h).banks = [] ∧ (s.herdWorks h = true → t.n (Entry.herdState h) = 2)) ∧
        MemoryKept s t ∧
        EntriesKept s t ([Entry.partState q, Entry.partScrubProgress q, Entry.secKeysGenerated, Entry.rasterReserveFree,
          Entry.rasterReserveHighWater] ++ (List.range 8).map Entry.herdState)) ∧
    (s.stopped q = false → ∃ t, exec (.partitionTeardownDone p) s = .next t ∧ Keeps s t [])

/-- R360, R362 step 5, R363, R391 step 4: a granule written while more remain reads as 0 throughout, its key is destroyed and the next one's
turn comes; a failed one is counted and its bytes stay; after the last granule of a SCRUBBING partition that no start waits for, what it
owned is free and it is OFF. Each of these completes where its conditions hold (the next state is a conclusion): SCRUB_GRANULE_DONE. -/
def Obligations.GranulesScrubbed : Prop :=
  ∀ (s : State) (p : Fin 8) (q g : Nat) (rest : List Nat), q = p.val + 1 → (s.partRt q).toScrub = g :: rest →
    s.hasKey (.scrub g) = true → s.partState q = 4 → g ∉ rest → (s.owned q).fits →
    (rest ≠ [] → ∃ t, exec (.scrubGranuleDone p g true) s = .next t ∧
      (∀ a, Memory.read t.mem a = if g * 2 ^ 28 ≤ a ∧ a < (g + 1) * 2 ^ 28 then 0 else Memory.read s.mem a) ∧
      (t.partRt q).toScrub = rest ∧ (t.partRt q).scrubbed = (s.partRt q).scrubbed + 1 ∧ KeyName.scrub g ∉ t.security.keys ∧
      g ∉ t.security.used ∧ g ∉ t.security.scrubFailed ∧
      t.n Entry.secScrubsCompleted = (s.n Entry.secScrubsCompleted + 1) % 2 ^ 32 ∧
      t.n (Entry.partScrubProgress q) = 100 * ((s.partRt q).scrubbed + 1) / ((s.partRt q).scrubbed + 1 + rest.length) ∧
      EntriesKept s t [Entry.partScrubProgress q, Entry.secScrubsCompleted, Entry.secKeysGenerated]) ∧
    (rest ≠ [] → ∃ u, exec (.scrubGranuleDone p g false) s = .next u ∧
      (u.partRt q).toScrub = rest ∧ g ∈ u.security.scrubFailed ∧ KeyName.scrub g ∉ u.security.keys ∧
      u.n (Entry.partScrubErrors q) = (s.n (Entry.partScrubErrors q) + 1) % 2 ^ 32 ∧
      u.n Entry.faultCorrectableCount = (s.n Entry.faultCorrectableCount + 1) % 2 ^ 64 ∧ MemoryKept s u ∧
      EntriesKept s u [Entry.partScrubProgress q, Entry.partScrubErrors q, Entry.faultCorrectableCount, Entry.secKeysGenerated]) ∧
    (rest = [] → s.on (Entry.partPendingStart q) = false → s.running = true → s.herdMinimum ≤ s.workingHerds.length →
      ∃ t, exec (.scrubGranuleDone p g true) s = .next t ∧ t.partState q = 0 ∧ t.assigned (s.owned q) 0 ∧
        (t.partRt q).owned = none ∧ t.n (Entry.partAnchorPort q) = 255 ∧ t.n (Entry.partScrubProgress q) = 100 ∧
        (∀ h ∈ (s.owned q).herds, t.n (Entry.herdState h) ≠ 1 ∧ t.n (Entry.herdPosition h) = 255) ∧
        (∀ a, Memory.read t.mem a = if g * 2 ^ 28 ≤ a ∧ a < (g + 1) * 2 ^ 28 then 0 else Memory.read s.mem a) ∧
        EntriesKept s t ((s.owned q).keys ++ (s.owned q).herds.map Entry.herdState ++ (s.owned q).herds.map Entry.herdPosition ++
          [Entry.partScrubProgress q, Entry.secScrubsCompleted, Entry.partState q, Entry.partAnchorPort q, Entry.ringBlocksBlocksFree,
            Entry.devDeviceState, Entry.devStateCause]))

/-- R371 to R373, R22: a schedule that passes its checks is admitted and used from the next frame start of the anchor, one written while no
port anchors the partition is held, and one that fails a check is refused with the check's number and window. A window that opens skips
the slots with trigger WINDOW that still run, each an overrun; a window that closes counts the laps of this opening that still run, and
reports the slack that its laps left. Each of these completes where its conditions hold (the next state is a conclusion): SCHEDULE_WRITE,
WINDOW_OPEN, WINDOW_CLOSE. -/
def Obligations.SchedulesAndWindows : Prop :=
  ∀ (s : State) (p : Fin 8) (q : Nat) (b : Bytes) (w : Fin 64), q = p.val + 1 →
    (s.running = true → s.boot.managing = true → b.length ≤ 2048 →
      ∃ t, exec (.scheduleWrite p b) s = .next t ∧ t.n (Entry.schedAdmitError q) = s.admitError q b ∧
        (s.admitError q b = 0 → t.n (Entry.schedScheduleState q) = 1 ∧ t.b (Entry.schedSchedule q) = b ∧
          t.n (Entry.schedLoadLines q) = (windowsOf b).foldl (fun a x => a + x.length) 0 ∧
          Keeps (s.setPartRt q { s.partRt q with held := none, applyNext := true }) t
            [Entry.schedSchedule q, Entry.schedScheduleState q, Entry.schedAdmitError q, Entry.schedLoadLines q,
              Entry.schedLimitLines q, Entry.schedFallbackFits q]) ∧
        (s.admitError q b = 5 → t.n (Entry.schedScheduleState q) = 3 ∧ t.b (Entry.schedSchedule q) = b ∧
          Keeps (s.setPartRt q { s.partRt q with held := some b, inUse := none, applyNext := false, windows := [] }) t
            [Entry.schedSchedule q, Entry.schedScheduleState q, Entry.schedAdmitError q, Entry.schedLoadLines q,
              Entry.schedLimitLines q, Entry.schedFallbackFits q]) ∧
        (s.admitError q b ≠ 0 → s.admitError q b ≠ 5 → t.n (Entry.schedScheduleState q) = 2 ∧
          Keeps s t [Entry.schedScheduleState q, Entry.schedAdmitError q])) ∧
    (∀ x, s.partOpen q = true → (s.partRt q).inUse = some b → (windowsOf b)[w.val]? = some x →
      ∃ t, exec (.windowOpen p w) s = .next t ∧
        (let skipped := x.slots.filter fun k => decide ((s.slotRt k).lap ≠ none ∧ (s.slotRt k).active.map TableImage.trigger = some 0)
         t.n (Entry.schedWindowOverruns q) = countedUp 32 (s.n (Entry.schedWindowOverruns q)) skipped.length ∧
         Keeps (s.setPartRt q { s.partRt q with
            windows := ((s.partRt q).windows.filter fun y => y.number ≠ w.val) ++
              [{ number := w, slots := x.slots, done := skipped, late := !skipped.isEmpty }] }) t [Entry.schedWindowOverruns q])) ∧
    (∀ (o : OpenWindow) (last : Option Nat), (s.partRt q).windows.find? (fun y => y.number = w.val) = some o →
      ∃ t, exec (.windowClose p w last) s = .next t ∧
        (let length := (((s.partRt q).inUse.bind fun b => (windowsOf b)[w.val]?).map Window.length).getD 0
         let running := o.slots.filter fun k => decide (s.slotRunner k = q ∧ (s.slotRt k).lap.bind Lap.window = some w.val)
         (t.partRt q).windows = (s.partRt q).windows.filter (fun y => y.number ≠ w.val) ∧
         t.n (Entry.schedWindowOverruns q) = countedUp 32 (s.n (Entry.schedWindowOverruns q)) running.length ∧
         t.pace = { s.pace with slacks := s.pace.slacks ++
           (if o.laps = 0 then [] else if o.late = true ∨ running ≠ [] then [(q, w.val, 0)]
            else last.toList.map fun l => (q, w.val, (length - l) * 100 / max 1 length)) } ∧
         (∀ k, t.slotRt k = if k ∈ running then { s.slotRt k with lap := (s.slotRt k).lap.map fun l => { l with window := none } }
           else s.slotRt k) ∧
         MemoryKept s t ∧ EntriesKept s t [Entry.schedWindowOverruns q]))

/-- R32 to R35, R404, R408, R410, R411, R414, R417: a report of class 1, 2 or 3 that no open event takes opens an event and fences its unit
where the type is fenced, and a wiring fault names its reporter. A router, a tile unit and a ray unit are fenced and the device is
DEGRADED, and then the units that a router cuts off are fenced in events of their own (which units these are is a free value, log entry
109); the RTU and the FC lead to FAULT_HOLD; a presentation fault of a port sends it, LIVE, to SAFE with SafeCause 8 and SAFE_BLANK,
without a fence. Each of these completes where its conditions hold (the next state is a conclusion): FAULT_REPORT, WIRING_FAULT. -/
def Obligations.FaultsFence : Prop :=
  ∀ (s : State) (r : FaultReport) (ms : Nat) (integrity : Bool) (hit : DataHit) (freed : Option (Fin 262144))
    (u : UnitCode),
    r.cls ≠ .correctable → u = (if r.cls = .wiring then r.reporter else r.suspect) →
    (s.takesFault r.reporter u →
      (fences u r.cls = true →
        ∃ t, exec (.faultReport r ms integrity hit freed) s = .next t ∧ t.fenced u = true ∧ ∀ v, s.fenced v = true → t.fenced v = true) ∧
      (r.cls ≠ .presentation → u.kind = .router →
        ∃ t w, exec (.faultReport r ms integrity hit freed) s = .next t ∧ w.fc.ms = ms ∧ t = (w.checkRoutes u).anchorSweep ∧
          s.fencesPlain w { unit := u, cls := r.cls, reporter := r.reporter, detail := r.detail.toNat }) ∧
      (r.cls ≠ .presentation → (u.kind = .tile ∨ u.kind = .ray) →
        ∃ t, exec (.faultReport r ms integrity hit freed) s = .next t ∧ t.fc.ms = ms ∧
          s.fencesPlain t { unit := u, cls := r.cls, reporter := r.reporter, detail := r.detail.toNat }) ∧
      (r.cls ≠ .presentation → (u.kind = .rtu ∨ u.kind = .fc) → s.running = true →
        ∃ t, exec (.faultReport r ms integrity hit freed) s = .next t ∧ t.fc.ms = ms ∧
          s.opensEvent t { unit := u, cls := r.cls, reaction := 4, reporter := r.reporter, detail := r.detail.toNat } ∧
          s.entersHold t 1 ∧ (s.unrecorded → MemoryKept s t)) ∧
      (r.cls = .presentation → u.kind = .port → s.portState u.inst = 2 →
        ∃ t, exec (.faultReport r ms integrity hit freed) s = .next t ∧ t.fc.ms = ms ∧
          s.opensEvent t { unit := u, cls := .presentation, reaction := 6, reporter := r.reporter, detail := r.detail.toNat
                           ports := [u.inst] } ∧
          s.degrades t 1 ∧ t.portState u.inst = 5 ∧ t.n (Entry.portSafeCause u.inst) = 8 ∧ t.n (Entry.portSafeKind u.inst) = 2 ∧
          t.n (Entry.portSafeEntries u.inst) = (s.n (Entry.portSafeEntries u.inst) + 1) % 2 ^ 32 ∧
          (∀ v, t.fenced v = s.fenced v) ∧ (∀ n, t.vouched n = (decide (n ≠ u.inst) && s.vouched n)) ∧ MemoryKept s t ∧
          EntriesKept s t (eventKeys ++ [Entry.portState u.inst, Entry.portSafeCause u.inst, Entry.portSafeKind u.inst,
            Entry.portSafeEntries u.inst, Entry.pvPvPairs]))) ∧
    (s.takesFault u u →
      ((u.kind = .tile ∨ u.kind = .ray) →
        ∃ t, exec (.wiringFault u ms) s = .next t ∧ t.fc.ms = ms ∧ s.fencesPlain t { unit := u, cls := .wiring, reporter := u }) ∧
      (u.kind = .router →
        ∃ t w, exec (.wiringFault u ms) s = .next t ∧ w.fc.ms = ms ∧ t = (w.checkRoutes u).anchorSweep ∧
          s.fencesPlain w { unit := u, cls := .wiring, reporter := u }))

/-- R408, R409, R413 to R415, R421: a correctable report is counted and opens no event; a report on a unit that is fenced merges into its open
event, or is counted and discarded where it is fenced until restart; one in BOOT or TEST makes its unit test-bad; one on LPDDR6 counts the
block, which is unreadable, records its row for repair, abandons what has read it, fences nothing, and past 256 in a channel within 1 s
enters FAULT_HOLD with cause 6. Each of these completes where its conditions hold (the next state is a conclusion): FAULT_REPORT. -/
def Obligations.FaultsWithoutFence : Prop :=
  ∀ (s : State) (r : FaultReport) (ms : Nat) (integrity : Bool) (hit : DataHit) (freed : Option (Fin 262144))
    (u : UnitCode),
    u = (if r.cls = .wiring then r.reporter else r.suspect) → s.hasUnit u = true → s.anchored →
    (r.cls = .correctable → (s.running = true ∨ s.held = true) →
      ∃ t, exec (.faultReport r ms integrity hit freed) s = .next t ∧
        (u.kind ≠ .anchorStore →
          u.kind = .lpddr ∨ ((s.fc.correctable.filter fun e => e.1 = u).map (·.2) |>.filter fun m => ms < m + 1000).length < 1024 →
          t.n Entry.faultCorrectableCount = (s.n Entry.faultCorrectableCount + 1) % 2 ^ 64 ∧ t.fc.log = s.fc.log ∧
          (u.kind = .pcie → t.n Entry.pcieCorrectableErrors = (s.n Entry.pcieCorrectableErrors + 1) % 2 ^ 32) ∧
          t.fc.fenced = s.fc.fenced ∧ Keeps { s with fc := t.fc } t (Entry.faultCorrectableCount ::
            if u.kind = .pcie then [Entry.pcieCorrectableErrors] else []))) ∧
    (fences u r.cls = true → r.cls ≠ .correctable → r.cls ≠ .presentation → u.kind ≠ .kid → u.kind ≠ .router → s.fenced u = true →
      s.device = 5 →
      s.herdMinimum ≤ s.workingHerds.length → s.isPermanent u = true ∨ (s.eventFor u).isSome = true →
      ∃ t, exec (.faultReport r ms integrity hit freed) s = .next t ∧
        t.n Entry.faultReportsMerged = (s.n Entry.faultReportsMerged + 1) % 2 ^ 64 ∧
        (s.isPermanent u = true → Keeps { s with fc := { s.fc with ms := ms } } t (Entry.faultReportsMerged ::
            if u.kind = .pcie then [Entry.pcieUncorrectableErrors] else [])) ∧
        (∀ e, s.isPermanent u = false → s.eventFor u = some e →
          Keeps { s with fc := { s.fc with
            ms := ms
            log := s.fc.log.map fun x => if x.number = e.number then { x with
                merged := x.merged + 1, cls := if classCode x.cls < classCode r.cls then r.cls else x.cls
                failed := x.failed || x.recovering } else x } } t (Entry.faultReportsMerged ::
            if u.kind = .pcie then [Entry.pcieUncorrectableErrors] else []))) ∧
    (r.cls ≠ .correctable → s.device = 1 ∨ s.device = 2 →
      ∃ t, exec (.faultReport r ms integrity hit freed) s = .next t ∧ u ∈ t.fc.testBad ∧ (∀ v ∈ s.fc.testBad, v ∈ t.fc.testBad) ∧
        Keeps { s with fc := { s.fc with ms := ms, testBad := t.fc.testBad } } t []) ∧
    (r.cls ≠ .correctable → u.kind = .lpddr → s.takesFault r.reporter u →
      ∃ t, exec (.faultReport r ms integrity hit freed) s = .next t ∧
        (∀ k ∈ hit.slots, ∀ l, (t.slotRt k).lap = some l → l.abandoned = true) ∧
        (∀ g ∈ hit.engines, g.kind = .stereo → Assoc.find t.vision.stereo g.inst = none) ∧
        ∀ b, b ∈ t.security.badBlocks ↔ b ∈ s.security.badBlocks ∨ b = r.detail.toNat) ∧
    (r.cls ≠ .correctable → u.kind = .lpddr → s.takesFault r.reporter u → hit = {} →
      ∃ t row, exec (.faultReport r ms integrity hit freed) s = .next t ∧ t.fc.ms = ms ∧
        s.opensEvent t { unit := u, cls := .uncorrectable, reaction := 0, reporter := r.reporter, detail := r.detail.toNat } ∧
        t.n Entry.faultMemoryUncorrectable = (s.n Entry.faultMemoryUncorrectable + 1) % 2 ^ 32 ∧
        t.n Entry.secIntegrityErrors =
          (if integrity then (s.n Entry.secIntegrityErrors + 1) % 2 ^ 32 else s.n Entry.secIntegrityErrors) ∧
        row.channel = r.detail.toNat % s.channelCount ∧
        t.flash.repairs = (if s.flash.repairs.length < 4096 then s.flash.repairs ++ [row] else s.flash.repairs) ∧
        (∀ v, t.fenced v = s.fenced v) ∧ MemoryKept s t ∧
        (let recent := ((s.fc.channelErrors.filter fun e => e.1 = u.inst).map (·.2)).filter fun m => ms < m + 1000
         (recent.length < 256 → s.degrades t 6 ∧ EntriesKept s t (eventKeys ++
            [Entry.faultMemoryUncorrectable, Entry.secIntegrityErrors, Entry.bootRepairListEntries])) ∧
         (256 ≤ recent.length → s.running = true → s.entersHold t 6)))

/-- R418 to R420: at the end of a quiet period an event on a unit that is not fenced closes with Status 1; one on a unit fenced until restart,
or recovered three times in 900 s, closes with Status 2; any other starts the unit's recovery. A unit that passes its self-test returns to
service and its event closes with Status 1; one that fails stays fenced until restart, a field defect. Each of these completes where its
conditions hold (the next state is a conclusion): QUIET_PERIOD_END, RECOVERY_TEST_COMPLETE. -/
def Obligations.EventsClose : Prop :=
  ∀ (s : State) (u : UnitCode) (ms : Nat) (healthy : Bool) (e : FaultEvent), s.running = true → s.trngHealthy = true →
    s.herdMinimum ≤ s.workingHerds.length →
    let closed := fun (status : Nat) => s.fc.log.map fun x =>
      if x.number = e.number then { x with status := status, duration := ms - x.openedAt, recovering := false } else x
    let settled := fun (t : State) =>
      t.n Entry.faultOpenEvents = t.openEvents.length ∧ t.device = (if t.degraded then 5 else if s.anyPartition then 4 else 3)
    (s.openEvents.find? (fun x => x.unit = u && !x.recovering) = some e →
      (s.fenced u = false → u.kind ≠ .coreSupply →
        ∃ t, exec (.quietPeriodEnd u ms healthy) s = .next t ∧ t.fc.log = closed 1 ∧ settled t ∧
          Keeps { s with fc := { s.fc with ms := ms, log := closed 1 } } t
            [Entry.faultOpenEvents, Entry.devStateCause, Entry.devDeviceState]) ∧
      (s.fenced u = true → u.kind ≠ .piu →
        s.isPermanent u = true ∨ unitRecovers u.kind = false ∨
          3 ≤ (s.fc.recoveries.filter fun x => x.1 = u && ms < x.2 + 900000).length →
        ∃ t, exec (.quietPeriodEnd u ms healthy) s = .next t ∧ t.fc.log = closed 2 ∧ settled t ∧ t.isPermanent u = true ∧
          (∀ v, t.fenced v = s.fenced v) ∧
          t.n Entry.faultFencedUntilRestart =
            (if s.isPermanent u then s.n Entry.faultFencedUntilRestart else (s.n Entry.faultFencedUntilRestart + 1) % 2 ^ 16) ∧
          Keeps { s with fc := t.fc } t
            [Entry.faultOpenEvents, Entry.devStateCause, Entry.devDeviceState, Entry.faultFencedUntilRestart]) ∧
      (s.fenced u = true → s.isPermanent u = false → unitRecovers u.kind = true →
        (s.fc.recoveries.filter fun x => x.1 = u && ms < x.2 + 900000).length < 3 →
        ∃ t, exec (.quietPeriodEnd u ms healthy) s = .next t ∧
          Keeps { s with fc := { s.fc with
            ms := ms
            log := s.fc.log.map fun x => if x.number = e.number then { x with recovering := true, failed := false } else x
            recoveries := s.fc.recoveries ++ [(u, ms)] } } t [])) ∧
    (s.openEvents.find? (fun x => x.unit = u && x.recovering) = some e → u.kind ≠ .piu →
      (e.failed = false → (u.kind = .router ∨ u.kind = .tile) → (u.kind = .tile → u.inst < 16) →
        ∃ t, exec (.recoveryTestComplete u true ms) s = .next t ∧ t.fc.log = closed 1 ∧ settled t ∧ t.fenced u = false ∧
          (u.kind = .tile → t.n (Entry.tileState u.inst) = 0) ∧
          Keeps { s with fc := { s.fc with
            ms := ms, log := closed 1, fenced := s.fc.fenced.filter fun v => v ≠ u } } t
            ([Entry.faultOpenEvents, Entry.devStateCause, Entry.devDeviceState] ++
              if u.kind = .tile then [Entry.tileState u.inst] else [])) ∧
      (s.fenced u = true → ∃ t, exec (.recoveryTestComplete u false ms) s = .next t ∧ settled t ∧ t.fenced u = true ∧ t.isPermanent u = true ∧
        (∀ x ∈ t.fc.log, x.number = e.number → x.status = 2) ∧
        t.n Entry.faultFieldDefects = (s.n Entry.faultFieldDefects + 1) % 2 ^ 32 ∧
        t.n Entry.faultReportsMerged = (s.n Entry.faultReportsMerged + 1) % 2 ^ 64 ∧
        t.n Entry.faultEventsTotal = (s.n Entry.faultEventsTotal + 1) % 2 ^ 32 ∧
        Keeps { s with fc := t.fc } t
          [Entry.faultOpenEvents, Entry.devStateCause, Entry.devDeviceState, Entry.faultFieldDefects, Entry.faultReportsMerged,
            Entry.faultEventsTotal, Entry.faultFencedUntilRestart]))

/-- R250, R422, R423, R448, R489: a taken edge of SAFE_REQ_n is counted and shown; while the input is asserted, or treated as asserted, every
LIVE port is SAFE with SafeCause 5; it stays treated as asserted until it has been quiet and deasserted; held for 10 s it leaves one
notice; a rejected pulse is counted. Each of these completes where its conditions hold (the next state is a conclusion):
SAFE_REQ_ASSERTED, SAFE_REQ_RELEASED, SAFE_REQ_HELD, SAFE_REQ_TOGGLE_QUIET, INPUT_GLITCH_REJECTED. -/
def Obligations.SafeRequests : Prop :=
  ∀ (s : State) (toggling : Bool) (ms : Nat), s.device ≠ 0 →
    (∃ t, exec (.safeReqAsserted toggling) s = .next t ∧ t.n Entry.pinsSafeReqLevel = 1 ∧
      t.n Entry.faultSafeReqState = (if s.inputs.toggling || toggling then 2 else 1) ∧
      t.n Entry.pinsSafeReqEdges = (s.n Entry.pinsSafeReqEdges + 1) % 2 ^ 32 ∧
      t.inputs = { safeReq := true, toggling := s.inputs.toggling || toggling } ∧
      (∀ n, n < s.portCount → t.portState n = (if s.portState n = 2 then 5 else s.portState n) ∧
        (s.portState n = 2 → t.vouched n = false ∧ t.n (Entry.portSafeCause n) = 5 ∧
          t.n (Entry.portSafeEntries n) = (s.n (Entry.portSafeEntries n) + 1) % 2 ^ 32) ∧
        (s.portState n = 5 → (t.portRt n).exitCount = 0)) ∧
      MemoryKept s t ∧
      EntriesKept s t ([Entry.pinsSafeReqLevel, Entry.faultSafeReqState, Entry.pinsSafeReqEdges, Entry.pvPvPairs] ++
        ((List.range s.portCount).filter fun n => s.portState n = 2).flatMap fun n =>
          [Entry.portState n, Entry.portSafeCause n, Entry.portSafeKind n, Entry.portSafeEntries n])) ∧
    (s.inputs.toggling = false → ∃ t, exec (.safeReqReleased false) s = .next t ∧
      t.n Entry.pinsSafeReqLevel = 0 ∧ t.n Entry.faultSafeReqState = 0 ∧
      t.n Entry.pinsSafeReqEdges = (s.n Entry.pinsSafeReqEdges + 1) % 2 ^ 32 ∧
      Keeps { s with inputs := { safeReq := false, toggling := false } } t
        [Entry.pinsSafeReqLevel, Entry.faultSafeReqState, Entry.pinsSafeReqEdges]) ∧
    (s.inputs.safeReq = true → ∃ t, exec .safeReqToggleQuiet s = .next t ∧ Keeps s t []) ∧
    (s.inputs.safeReq = false → ∃ t, exec .safeReqToggleQuiet s = .next t ∧
      t.n Entry.pinsSafeReqLevel = 0 ∧ t.n Entry.faultSafeReqState = 0 ∧
      Keeps { s with inputs := { safeReq := false, toggling := false } } t [Entry.pinsSafeReqLevel, Entry.faultSafeReqState]) ∧
    (∃ t e, exec (.safeReqHeld ms) s = .next t ∧ e.unit = ⟨.discreteInput, 0⟩ ∧ e.status = 3 ∧ e.openedAt = ms ∧
      e.number = (s.n Entry.faultEventsTotal + 1) % 2 ^ 32 ∧ t.fc.log = (s.fc.log ++ [e]).drop (s.fc.log.length + 1 - 1024) ∧
      t.n Entry.faultEventsTotal = (s.n Entry.faultEventsTotal + 1) % 2 ^ 32 ∧
      Keeps { s with fc := t.fc, free := s.free + 1 } t [Entry.faultEventsTotal]) ∧
    (∃ t, exec .inputGlitchRejected s = .next t ∧
      t.n Entry.faultInputGlitches = (s.n Entry.faultInputGlitches + 1) % 2 ^ 32 ∧ Keeps s t [Entry.faultInputGlitches])

/-- R379, R386, R394, R398, R399: a failed health test sets TrngState and opens an event on the RTU, which is not fenced; a report request
takes its snapshot with the nonce stored then, and completes as the snapshot with its signature, or as too large; keys of an IDE stream
make it Secure, and a failed check ends it, is counted, and ends the function's host copies with cause 9. Each of these completes where
its conditions hold (the next state is a conclusion): TRNG_HEALTH_FAILURE, IDE_KM_MESSAGE, IDE_CHECK_FAILURE, REPORT_REQUEST,
REPORT_COMPLETE. -/
def Obligations.KeysAndReports : Prop :=
  ∀ (s : State) (slot : Fin 10) (mask : BitVec 16) (fn : Fin 9) (r : Report),
    (s.running = true → s.trngHealthy = true → s.takesFault ⟨.rtu, 0⟩ ⟨.rtu, 0⟩ →
      ∃ t, exec .trngHealthFailure s = .next t ∧ t.n Entry.secTrngState = 1 ∧ s.degrades t 1 ∧
        s.opensEvent t { unit := ⟨.rtu, 0⟩, cls := .uncorrectable, reporter := ⟨.rtu, 0⟩ } ∧ (∀ v, t.fenced v = s.fenced v) ∧
        Keeps { s with fc := t.fc } t (Entry.secTrngState :: eventKeys)) ∧
    (s.answers = true → s.running = true ∨ s.device = 1 ∨ s.device = 2 →
      ∃ t, exec (.reportRequest slot mask) s = .next t ∧ t.n (Entry.reportReportState slot) = 1 ∧
        t.n (Entry.reportReportsRequested slot) = (s.n (Entry.reportReportsRequested slot) + 1) % 2 ^ 32 ∧
        Keeps { s with security := { s.security with reports := Assoc.put s.security.reports slot.val {
            mask := min 0x1FF mask.toNat, nonce := fit 64 (s.b (Entry.reportReportNonce slot))
            content := s.snapshot slot (min 0x1FF mask.toNat) (fit 64 (s.b (Entry.reportReportNonce slot))) } } } t
          [Entry.reportReportState slot, Entry.reportReportsRequested slot]) ∧
    (s.n (Entry.reportReportState slot) = 1 → Assoc.find s.security.reports slot.val = some r →
      ∃ t, exec (.reportComplete slot) s = .next t ∧
        (r.content.length + 3309 ≤ 65536 → t.n (Entry.reportReportState slot) = 2 ∧
          t.b (Entry.reportReport slot) = r.content ++ fit 3309 (Config.sign r.content) ∧
          t.n Entry.secReportsSigned = (s.n Entry.secReportsSigned + 1) % 2 ^ 32 ∧
          Keeps { s with security := { s.security with reports := Assoc.drop s.security.reports slot.val } } t
            [Entry.reportReportState slot, Entry.reportReport slot, Entry.secReportsSigned]) ∧
        (65536 < r.content.length + 3309 → t.n (Entry.reportReportState slot) = 3 ∧
          Keeps { s with security := { s.security with reports := Assoc.drop s.security.reports slot.val } } t
            [Entry.reportReportState slot])) ∧
    (s.device ≠ 0 →
      ∃ t u, exec (.ideKmMessage fn true) s = .next t ∧ exec (.ideKmMessage fn false) s = .next u ∧
        t.security.ide = s.security.ide.filter (fun x => x ≠ fn.val) ++ [fn.val] ∧ t.hasKey (.ide fn) = true ∧
        t.n Entry.ideIdeStreams = t.security.ide.length ∧ Keeps { s with security := t.security } t [Entry.ideIdeStreams] ∧
        u.security.ide = s.security.ide.filter (fun x => x ≠ fn.val) ∧ u.hasKey (.ide fn) = false ∧
        u.n Entry.ideIdeStreams = u.security.ide.length ∧ Keeps { s with security := u.security } u [Entry.ideIdeStreams]) ∧
    (s.device ≠ 0 → fn.val ∈ s.security.ide → s.plainJobs →
      ∃ t, exec (.ideCheckFailure fn) s = .next t ∧ t.security.ide = s.security.ide.filter (fun x => x ≠ fn.val) ∧
        t.hasKey (.ide fn) = false ∧ t.n Entry.ideIdeErrors = (s.n Entry.ideIdeErrors + 1) % 2 ^ 32 ∧
        t.n Entry.ideIdeStreams = t.security.ide.length ∧ s.endsCopies t (fun j => (s.ring j.ring).function = fn) ∧
        EntriesKept s t ([Entry.ideIdeErrors, Entry.ideIdeStreams] ++ s.copyKeys))
end

