-- ==== Sys2Proof/Laws/Assoc.lean ====
section
/-! SUPPORT. Association lists: what a put and a drop leave to be found. -/

namespace Sys2Proof.Machine

open Sys2Proof

@[simp] theorem Assoc.find_nil {α : Type} (k : Nat) : Assoc.find ([] : List (Nat × α)) k = none := rfl

theorem Assoc.mem_of_find {α : Type} (m : List (Nat × α)) (k : Nat) (v : α) (h : Assoc.find m k = some v) : (k, v) ∈ m := by
  induction m with
  | nil => cases h
  | cons e r ih =>
    obtain ⟨k', v'⟩ := e
    unfold Assoc.find at h
    split at h
    · rename_i hk; cases h; subst hk; exact List.mem_cons_self
    · exact List.mem_cons_of_mem _ (ih h)

theorem Assoc.find_put {α : Type} (m : List (Nat × α)) (k j : Nat) (v : α) :
    Assoc.find (Assoc.put m k v) j = if k = j then some v else Assoc.find m j := by
  induction m with
  | nil => simp only [Assoc.put, Assoc.find]
  | cons e r ih =>
    obtain ⟨a, b⟩ := e
    simp only [Assoc.put]
    split
    · rename_i h
      subst h
      simp only [Assoc.find]
      split <;> rfl
    · rename_i h
      simp only [Assoc.find, ih]
      by_cases hj : a = j
      · subst hj
        simp only [if_true]
        rw [if_neg (fun e => h e.symm)]
      · simp only [if_neg hj]

@[simp] theorem Assoc.find_put_same {α : Type} (m : List (Nat × α)) (k : Nat) (v : α) :
    Assoc.find (Assoc.put m k v) k = some v := by simp [Assoc.find_put]

theorem Assoc.find_put_ne {α : Type} (m : List (Nat × α)) {k j : Nat} (v : α) (h : k ≠ j) :
    Assoc.find (Assoc.put m k v) j = Assoc.find m j := by simp [Assoc.find_put, h]

@[simp] theorem Assoc.get_put_same {α : Type} (m : List (Nat × α)) (k : Nat) (v d : α) :
    Assoc.get (Assoc.put m k v) k d = v := by simp [Assoc.get]

theorem Assoc.get_put_ne {α : Type} (m : List (Nat × α)) {k j : Nat} (v d : α) (h : k ≠ j) :
    Assoc.get (Assoc.put m k v) j d = Assoc.get m j d := by simp [Assoc.get, Assoc.find_put_ne m v h]

theorem Assoc.get_put {α : Type} (m : List (Nat × α)) (k j : Nat) (v d : α) :
    Assoc.get (Assoc.put m k v) j d = if k = j then v else Assoc.get m j d := by
  simp only [Assoc.get, Assoc.find_put]
  split <;> rfl

theorem Assoc.find_drop {α : Type} (m : List (Nat × α)) (k j : Nat) :
    Assoc.find (Assoc.drop m k) j = if k = j then none else Assoc.find m j := by
  induction m with
  | nil => simp [Assoc.drop]
  | cons e r ih =>
    obtain ⟨a, b⟩ := e
    simp only [Assoc.drop] at ih ⊢
    by_cases ha : a = k
    · subst ha
      simp only [List.filter, ne_eq, not_true_eq_false, decide_false, ih, Assoc.find]
      split <;> simp_all
    · simp only [List.filter, ne_eq, ha, not_false_eq_true, decide_true, Assoc.find, ih]
      by_cases hj : a = j
      · subst hj
        simp only [if_true, if_neg fun e : k = a => ha e.symm]
      · simp only [if_neg hj]

end Sys2Proof.Machine
end

