-- ==== Sys2Proof/Laws/Choice.lean ====
section
/-! SUPPORT. The least of a list: what a choice of the earliest or the lowest gives. -/

namespace Sys2Proof.Machine

/-- The least of a list that has one is a member, and none is less. -/
theorem minBy_mem {α} (f : α → Int) (l : List α) (h : l ≠ []) : ∃ a ∈ l, minBy f l = some a ∧ ∀ b ∈ l, f a ≤ f b := by
  match l, h with
  | x :: r, _ =>
    simp only [minBy]
    have gen : ∀ (r : List α) (x : α), ∃ a ∈ x :: r, r.foldl (fun best y => if f y < f best then y else best) x = a ∧ ∀ b ∈ x :: r, f a ≤ f b := by
      intro r
      induction r with
      | nil => intro x; exact ⟨x, by simp, rfl, by simp⟩
      | cons y r ih =>
        intro x
        simp only [List.foldl_cons]
        obtain ⟨a, ha, he, hb⟩ := ih (if f y < f x then y else x)
        refine ⟨a, ?_, he, ?_⟩
        · split at ha <;> simp_all <;> tauto
        · have h0 := hb _ (List.mem_cons_self ..)
          intro b hb'
          rcases List.mem_cons.1 hb' with e | hb'
          · subst e; split at h0 <;> omega
          rcases List.mem_cons.1 hb' with e | hb'
          · subst e; split at h0 <;> omega
          exact hb b (List.mem_cons_of_mem _ hb')
    obtain ⟨a, ha, he, hb⟩ := gen r x
    exact ⟨a, ha, by rw [he], hb⟩

end Sys2Proof.Machine
end

