-- ==== Sys2Proof/Laws/State.lean ====
section
/-! SUPPORT. One lemma per field per update of the state. -/

namespace Sys2Proof.Machine

open Sys2Proof

@[simp] theorem State.put_pending (s : State) (k : Nat) (v : Value) : (s.put k v).pending = s.pending := rfl
@[simp] theorem State.put_part (s : State) (k : Nat) (v : Value) : (s.put k v).part = s.part := rfl
@[simp] theorem State.put_fuses (s : State) (k : Nat) (v : Value) : (s.put k v).fuses = s.fuses := rfl
@[simp] theorem State.put_mem (s : State) (k : Nat) (v : Value) : (s.put k v).mem = s.mem := rfl
@[simp] theorem State.put_out (s : State) (k : Nat) (v : Value) : (s.put k v).out = s.out := rfl
@[simp] theorem State.put_free (s : State) (k : Nat) (v : Value) : (s.put k v).free = s.free := rfl
@[simp] theorem State.put_can (s : State) (k : Nat) (v : Value) : (s.put k v).can = s.can := rfl
@[simp] theorem State.put_boxes (s : State) (k : Nat) (v : Value) : (s.put k v).boxes = s.boxes := rfl
@[simp] theorem State.put_flash (s : State) (k : Nat) (v : Value) : (s.put k v).flash = s.flash := rfl
@[simp] theorem State.put_boot (s : State) (k : Nat) (v : Value) : (s.put k v).boot = s.boot := rfl
@[simp] theorem State.put_pace (s : State) (k : Nat) (v : Value) : (s.put k v).pace = s.pace := rfl
@[simp] theorem State.put_streams (s : State) (k : Nat) (v : Value) : (s.put k v).streams = s.streams := rfl
@[simp] theorem State.put_released (s : State) (k : Nat) (v : Value) : (s.put k v).released = s.released := rfl
@[simp] theorem State.put_slices (s : State) (k : Nat) (v : Value) : (s.put k v).slices = s.slices := rfl
@[simp] theorem State.put_mdioRead (s : State) (k : Nat) (v : Value) : (s.put k v).mdioRead = s.mdioRead := rfl
@[simp] theorem State.put_csi (s : State) (k : Nat) (v : Value) : (s.put k v).csi = s.csi := rfl
@[simp] theorem State.put_vision (s : State) (k : Nat) (v : Value) : (s.put k v).vision = s.vision := rfl
@[simp] theorem State.put_anchors (s : State) (k : Nat) (v : Value) : (s.put k v).anchors = s.anchors := rfl
@[simp] theorem State.put_gen (s : State) (k : Nat) (v : Value) : (s.put k v).gen = s.gen := rfl
@[simp] theorem State.put_raster (s : State) (k : Nat) (v : Value) : (s.put k v).raster = s.raster := rfl
@[simp] theorem State.put_ports (s : State) (k : Nat) (v : Value) : (s.put k v).ports = s.ports := rfl
@[simp] theorem State.put_herds (s : State) (k : Nat) (v : Value) : (s.put k v).herds = s.herds := rfl
@[simp] theorem State.put_adapt (s : State) (k : Nat) (v : Value) : (s.put k v).adapt = s.adapt := rfl
@[simp] theorem State.put_rings (s : State) (k : Nat) (v : Value) : (s.put k v).rings = s.rings := rfl
@[simp] theorem State.put_jobs (s : State) (k : Nat) (v : Value) : (s.put k v).jobs = s.jobs := rfl
@[simp] theorem State.put_parts (s : State) (k : Nat) (v : Value) : (s.put k v).parts = s.parts := rfl
@[simp] theorem State.put_fc (s : State) (k : Nat) (v : Value) : (s.put k v).fc = s.fc := rfl
@[simp] theorem State.put_inputs (s : State) (k : Nat) (v : Value) : (s.put k v).inputs = s.inputs := rfl
@[simp] theorem State.put_security (s : State) (k : Nat) (v : Value) : (s.put k v).security = s.security := rfl
@[simp] theorem State.put_peers (s : State) (k : Nat) (v : Value) : (s.put k v).peers = s.peers := rfl
@[simp] theorem State.put_tap (s : State) (k : Nat) (v : Value) : (s.put k v).tap = s.tap := rfl
@[simp] theorem State.put_meters (s : State) (k : Nat) (v : Value) : (s.put k v).meters = s.meters := rfl

@[simp] theorem State.setBox_pending (s : State) (i : Nat) (v : Mailbox) : (s.setBox i v).pending = s.pending := rfl
@[simp] theorem State.setBox_part (s : State) (i : Nat) (v : Mailbox) : (s.setBox i v).part = s.part := rfl
@[simp] theorem State.setBox_fuses (s : State) (i : Nat) (v : Mailbox) : (s.setBox i v).fuses = s.fuses := rfl
@[simp] theorem State.setBox_dict (s : State) (i : Nat) (v : Mailbox) : (s.setBox i v).dict = s.dict := rfl
@[simp] theorem State.setBox_mem (s : State) (i : Nat) (v : Mailbox) : (s.setBox i v).mem = s.mem := rfl
@[simp] theorem State.setBox_out (s : State) (i : Nat) (v : Mailbox) : (s.setBox i v).out = s.out := rfl
@[simp] theorem State.setBox_free (s : State) (i : Nat) (v : Mailbox) : (s.setBox i v).free = s.free := rfl
@[simp] theorem State.setBox_can (s : State) (i : Nat) (v : Mailbox) : (s.setBox i v).can = s.can := rfl
@[simp] theorem State.setBox_flash (s : State) (i : Nat) (v : Mailbox) : (s.setBox i v).flash = s.flash := rfl
@[simp] theorem State.setBox_boot (s : State) (i : Nat) (v : Mailbox) : (s.setBox i v).boot = s.boot := rfl
@[simp] theorem State.setBox_pace (s : State) (i : Nat) (v : Mailbox) : (s.setBox i v).pace = s.pace := rfl
@[simp] theorem State.setBox_streams (s : State) (i : Nat) (v : Mailbox) : (s.setBox i v).streams = s.streams := rfl
@[simp] theorem State.setBox_released (s : State) (i : Nat) (v : Mailbox) : (s.setBox i v).released = s.released := rfl
@[simp] theorem State.setBox_slices (s : State) (i : Nat) (v : Mailbox) : (s.setBox i v).slices = s.slices := rfl
@[simp] theorem State.setBox_mdioRead (s : State) (i : Nat) (v : Mailbox) : (s.setBox i v).mdioRead = s.mdioRead := rfl
@[simp] theorem State.setBox_csi (s : State) (i : Nat) (v : Mailbox) : (s.setBox i v).csi = s.csi := rfl
@[simp] theorem State.setBox_vision (s : State) (i : Nat) (v : Mailbox) : (s.setBox i v).vision = s.vision := rfl
@[simp] theorem State.setBox_anchors (s : State) (i : Nat) (v : Mailbox) : (s.setBox i v).anchors = s.anchors := rfl
@[simp] theorem State.setBox_gen (s : State) (i : Nat) (v : Mailbox) : (s.setBox i v).gen = s.gen := rfl
@[simp] theorem State.setBox_raster (s : State) (i : Nat) (v : Mailbox) : (s.setBox i v).raster = s.raster := rfl
@[simp] theorem State.setBox_ports (s : State) (i : Nat) (v : Mailbox) : (s.setBox i v).ports = s.ports := rfl
@[simp] theorem State.setBox_herds (s : State) (i : Nat) (v : Mailbox) : (s.setBox i v).herds = s.herds := rfl
@[simp] theorem State.setBox_adapt (s : State) (i : Nat) (v : Mailbox) : (s.setBox i v).adapt = s.adapt := rfl
@[simp] theorem State.setBox_rings (s : State) (i : Nat) (v : Mailbox) : (s.setBox i v).rings = s.rings := rfl
@[simp] theorem State.setBox_jobs (s : State) (i : Nat) (v : Mailbox) : (s.setBox i v).jobs = s.jobs := rfl
@[simp] theorem State.setBox_parts (s : State) (i : Nat) (v : Mailbox) : (s.setBox i v).parts = s.parts := rfl
@[simp] theorem State.setBox_fc (s : State) (i : Nat) (v : Mailbox) : (s.setBox i v).fc = s.fc := rfl
@[simp] theorem State.setBox_inputs (s : State) (i : Nat) (v : Mailbox) : (s.setBox i v).inputs = s.inputs := rfl
@[simp] theorem State.setBox_security (s : State) (i : Nat) (v : Mailbox) : (s.setBox i v).security = s.security := rfl
@[simp] theorem State.setBox_peers (s : State) (i : Nat) (v : Mailbox) : (s.setBox i v).peers = s.peers := rfl
@[simp] theorem State.setBox_tap (s : State) (i : Nat) (v : Mailbox) : (s.setBox i v).tap = s.tap := rfl
@[simp] theorem State.setBox_meters (s : State) (i : Nat) (v : Mailbox) : (s.setBox i v).meters = s.meters := rfl

@[simp] theorem State.emit_pending (s : State) (o : Output) : (s.emit o).pending = s.pending := rfl
@[simp] theorem State.emit_part (s : State) (o : Output) : (s.emit o).part = s.part := rfl
@[simp] theorem State.emit_fuses (s : State) (o : Output) : (s.emit o).fuses = s.fuses := rfl
@[simp] theorem State.emit_dict (s : State) (o : Output) : (s.emit o).dict = s.dict := rfl
@[simp] theorem State.emit_mem (s : State) (o : Output) : (s.emit o).mem = s.mem := rfl
@[simp] theorem State.emit_free (s : State) (o : Output) : (s.emit o).free = s.free := rfl
@[simp] theorem State.emit_can (s : State) (o : Output) : (s.emit o).can = s.can := rfl
@[simp] theorem State.emit_boxes (s : State) (o : Output) : (s.emit o).boxes = s.boxes := rfl
@[simp] theorem State.emit_flash (s : State) (o : Output) : (s.emit o).flash = s.flash := rfl
@[simp] theorem State.emit_boot (s : State) (o : Output) : (s.emit o).boot = s.boot := rfl
@[simp] theorem State.emit_pace (s : State) (o : Output) : (s.emit o).pace = s.pace := rfl
@[simp] theorem State.emit_streams (s : State) (o : Output) : (s.emit o).streams = s.streams := rfl
@[simp] theorem State.emit_released (s : State) (o : Output) : (s.emit o).released = s.released := rfl
@[simp] theorem State.emit_slices (s : State) (o : Output) : (s.emit o).slices = s.slices := rfl
@[simp] theorem State.emit_mdioRead (s : State) (o : Output) : (s.emit o).mdioRead = s.mdioRead := rfl
@[simp] theorem State.emit_csi (s : State) (o : Output) : (s.emit o).csi = s.csi := rfl
@[simp] theorem State.emit_vision (s : State) (o : Output) : (s.emit o).vision = s.vision := rfl
@[simp] theorem State.emit_anchors (s : State) (o : Output) : (s.emit o).anchors = s.anchors := rfl
@[simp] theorem State.emit_gen (s : State) (o : Output) : (s.emit o).gen = s.gen := rfl
@[simp] theorem State.emit_raster (s : State) (o : Output) : (s.emit o).raster = s.raster := rfl
@[simp] theorem State.emit_ports (s : State) (o : Output) : (s.emit o).ports = s.ports := rfl
@[simp] theorem State.emit_herds (s : State) (o : Output) : (s.emit o).herds = s.herds := rfl
@[simp] theorem State.emit_adapt (s : State) (o : Output) : (s.emit o).adapt = s.adapt := rfl
@[simp] theorem State.emit_rings (s : State) (o : Output) : (s.emit o).rings = s.rings := rfl
@[simp] theorem State.emit_jobs (s : State) (o : Output) : (s.emit o).jobs = s.jobs := rfl
@[simp] theorem State.emit_parts (s : State) (o : Output) : (s.emit o).parts = s.parts := rfl
@[simp] theorem State.emit_fc (s : State) (o : Output) : (s.emit o).fc = s.fc := rfl
@[simp] theorem State.emit_inputs (s : State) (o : Output) : (s.emit o).inputs = s.inputs := rfl
@[simp] theorem State.emit_security (s : State) (o : Output) : (s.emit o).security = s.security := rfl
@[simp] theorem State.emit_peers (s : State) (o : Output) : (s.emit o).peers = s.peers := rfl
@[simp] theorem State.emit_tap (s : State) (o : Output) : (s.emit o).tap = s.tap := rfl
@[simp] theorem State.emit_meters (s : State) (o : Output) : (s.emit o).meters = s.meters := rfl

@[simp] theorem State.setPartRt_pending (s : State) (i : Nat) (v : PartRt) : (s.setPartRt i v).pending = s.pending := rfl
@[simp] theorem State.setPartRt_part (s : State) (i : Nat) (v : PartRt) : (s.setPartRt i v).part = s.part := rfl
@[simp] theorem State.setPartRt_fuses (s : State) (i : Nat) (v : PartRt) : (s.setPartRt i v).fuses = s.fuses := rfl
@[simp] theorem State.setPartRt_dict (s : State) (i : Nat) (v : PartRt) : (s.setPartRt i v).dict = s.dict := rfl
@[simp] theorem State.setPartRt_mem (s : State) (i : Nat) (v : PartRt) : (s.setPartRt i v).mem = s.mem := rfl
@[simp] theorem State.setPartRt_out (s : State) (i : Nat) (v : PartRt) : (s.setPartRt i v).out = s.out := rfl
@[simp] theorem State.setPartRt_free (s : State) (i : Nat) (v : PartRt) : (s.setPartRt i v).free = s.free := rfl
@[simp] theorem State.setPartRt_can (s : State) (i : Nat) (v : PartRt) : (s.setPartRt i v).can = s.can := rfl
@[simp] theorem State.setPartRt_boxes (s : State) (i : Nat) (v : PartRt) : (s.setPartRt i v).boxes = s.boxes := rfl
@[simp] theorem State.setPartRt_flash (s : State) (i : Nat) (v : PartRt) : (s.setPartRt i v).flash = s.flash := rfl
@[simp] theorem State.setPartRt_boot (s : State) (i : Nat) (v : PartRt) : (s.setPartRt i v).boot = s.boot := rfl
@[simp] theorem State.setPartRt_pace (s : State) (i : Nat) (v : PartRt) : (s.setPartRt i v).pace = s.pace := rfl
@[simp] theorem State.setPartRt_streams (s : State) (i : Nat) (v : PartRt) : (s.setPartRt i v).streams = s.streams := rfl
@[simp] theorem State.setPartRt_released (s : State) (i : Nat) (v : PartRt) : (s.setPartRt i v).released = s.released := rfl
@[simp] theorem State.setPartRt_slices (s : State) (i : Nat) (v : PartRt) : (s.setPartRt i v).slices = s.slices := rfl
@[simp] theorem State.setPartRt_mdioRead (s : State) (i : Nat) (v : PartRt) : (s.setPartRt i v).mdioRead = s.mdioRead := rfl
@[simp] theorem State.setPartRt_csi (s : State) (i : Nat) (v : PartRt) : (s.setPartRt i v).csi = s.csi := rfl
@[simp] theorem State.setPartRt_vision (s : State) (i : Nat) (v : PartRt) : (s.setPartRt i v).vision = s.vision := rfl
@[simp] theorem State.setPartRt_anchors (s : State) (i : Nat) (v : PartRt) : (s.setPartRt i v).anchors = s.anchors := rfl
@[simp] theorem State.setPartRt_gen (s : State) (i : Nat) (v : PartRt) : (s.setPartRt i v).gen = s.gen := rfl
@[simp] theorem State.setPartRt_raster (s : State) (i : Nat) (v : PartRt) : (s.setPartRt i v).raster = s.raster := rfl
@[simp] theorem State.setPartRt_ports (s : State) (i : Nat) (v : PartRt) : (s.setPartRt i v).ports = s.ports := rfl
@[simp] theorem State.setPartRt_herds (s : State) (i : Nat) (v : PartRt) : (s.setPartRt i v).herds = s.herds := rfl
@[simp] theorem State.setPartRt_adapt (s : State) (i : Nat) (v : PartRt) : (s.setPartRt i v).adapt = s.adapt := rfl
@[simp] theorem State.setPartRt_rings (s : State) (i : Nat) (v : PartRt) : (s.setPartRt i v).rings = s.rings := rfl
@[simp] theorem State.setPartRt_jobs (s : State) (i : Nat) (v : PartRt) : (s.setPartRt i v).jobs = s.jobs := rfl
@[simp] theorem State.setPartRt_fc (s : State) (i : Nat) (v : PartRt) : (s.setPartRt i v).fc = s.fc := rfl
@[simp] theorem State.setPartRt_inputs (s : State) (i : Nat) (v : PartRt) : (s.setPartRt i v).inputs = s.inputs := rfl
@[simp] theorem State.setPartRt_security (s : State) (i : Nat) (v : PartRt) : (s.setPartRt i v).security = s.security := rfl
@[simp] theorem State.setPartRt_peers (s : State) (i : Nat) (v : PartRt) : (s.setPartRt i v).peers = s.peers := rfl
@[simp] theorem State.setPartRt_tap (s : State) (i : Nat) (v : PartRt) : (s.setPartRt i v).tap = s.tap := rfl
@[simp] theorem State.setPartRt_meters (s : State) (i : Nat) (v : PartRt) : (s.setPartRt i v).meters = s.meters := rfl

@[simp] theorem State.setCtx_pending (s : State) (i : Nat) (v : Ctx) : (s.setCtx i v).pending = s.pending := rfl
@[simp] theorem State.setCtx_part (s : State) (i : Nat) (v : Ctx) : (s.setCtx i v).part = s.part := rfl
@[simp] theorem State.setCtx_fuses (s : State) (i : Nat) (v : Ctx) : (s.setCtx i v).fuses = s.fuses := rfl
@[simp] theorem State.setCtx_dict (s : State) (i : Nat) (v : Ctx) : (s.setCtx i v).dict = s.dict := rfl
@[simp] theorem State.setCtx_mem (s : State) (i : Nat) (v : Ctx) : (s.setCtx i v).mem = s.mem := rfl
@[simp] theorem State.setCtx_out (s : State) (i : Nat) (v : Ctx) : (s.setCtx i v).out = s.out := rfl
@[simp] theorem State.setCtx_free (s : State) (i : Nat) (v : Ctx) : (s.setCtx i v).free = s.free := rfl
@[simp] theorem State.setCtx_can (s : State) (i : Nat) (v : Ctx) : (s.setCtx i v).can = s.can := rfl
@[simp] theorem State.setCtx_boxes (s : State) (i : Nat) (v : Ctx) : (s.setCtx i v).boxes = s.boxes := rfl
@[simp] theorem State.setCtx_flash (s : State) (i : Nat) (v : Ctx) : (s.setCtx i v).flash = s.flash := rfl
@[simp] theorem State.setCtx_boot (s : State) (i : Nat) (v : Ctx) : (s.setCtx i v).boot = s.boot := rfl
@[simp] theorem State.setCtx_pace (s : State) (i : Nat) (v : Ctx) : (s.setCtx i v).pace = s.pace := rfl
@[simp] theorem State.setCtx_released (s : State) (i : Nat) (v : Ctx) : (s.setCtx i v).released = s.released := rfl
@[simp] theorem State.setCtx_slices (s : State) (i : Nat) (v : Ctx) : (s.setCtx i v).slices = s.slices := rfl
@[simp] theorem State.setCtx_mdioRead (s : State) (i : Nat) (v : Ctx) : (s.setCtx i v).mdioRead = s.mdioRead := rfl
@[simp] theorem State.setCtx_csi (s : State) (i : Nat) (v : Ctx) : (s.setCtx i v).csi = s.csi := rfl
@[simp] theorem State.setCtx_vision (s : State) (i : Nat) (v : Ctx) : (s.setCtx i v).vision = s.vision := rfl
@[simp] theorem State.setCtx_anchors (s : State) (i : Nat) (v : Ctx) : (s.setCtx i v).anchors = s.anchors := rfl
@[simp] theorem State.setCtx_gen (s : State) (i : Nat) (v : Ctx) : (s.setCtx i v).gen = s.gen := rfl
@[simp] theorem State.setCtx_raster (s : State) (i : Nat) (v : Ctx) : (s.setCtx i v).raster = s.raster := rfl
@[simp] theorem State.setCtx_ports (s : State) (i : Nat) (v : Ctx) : (s.setCtx i v).ports = s.ports := rfl
@[simp] theorem State.setCtx_herds (s : State) (i : Nat) (v : Ctx) : (s.setCtx i v).herds = s.herds := rfl
@[simp] theorem State.setCtx_adapt (s : State) (i : Nat) (v : Ctx) : (s.setCtx i v).adapt = s.adapt := rfl
@[simp] theorem State.setCtx_rings (s : State) (i : Nat) (v : Ctx) : (s.setCtx i v).rings = s.rings := rfl
@[simp] theorem State.setCtx_jobs (s : State) (i : Nat) (v : Ctx) : (s.setCtx i v).jobs = s.jobs := rfl
@[simp] theorem State.setCtx_parts (s : State) (i : Nat) (v : Ctx) : (s.setCtx i v).parts = s.parts := rfl
@[simp] theorem State.setCtx_fc (s : State) (i : Nat) (v : Ctx) : (s.setCtx i v).fc = s.fc := rfl
@[simp] theorem State.setCtx_inputs (s : State) (i : Nat) (v : Ctx) : (s.setCtx i v).inputs = s.inputs := rfl
@[simp] theorem State.setCtx_security (s : State) (i : Nat) (v : Ctx) : (s.setCtx i v).security = s.security := rfl
@[simp] theorem State.setCtx_peers (s : State) (i : Nat) (v : Ctx) : (s.setCtx i v).peers = s.peers := rfl
@[simp] theorem State.setCtx_tap (s : State) (i : Nat) (v : Ctx) : (s.setCtx i v).tap = s.tap := rfl
@[simp] theorem State.setCtx_meters (s : State) (i : Nat) (v : Ctx) : (s.setCtx i v).meters = s.meters := rfl

@[simp] theorem State.setPortRt_pending (s : State) (i : Nat) (v : PortRt) : (s.setPortRt i v).pending = s.pending := rfl
@[simp] theorem State.setPortRt_part (s : State) (i : Nat) (v : PortRt) : (s.setPortRt i v).part = s.part := rfl
@[simp] theorem State.setPortRt_fuses (s : State) (i : Nat) (v : PortRt) : (s.setPortRt i v).fuses = s.fuses := rfl
@[simp] theorem State.setPortRt_dict (s : State) (i : Nat) (v : PortRt) : (s.setPortRt i v).dict = s.dict := rfl
@[simp] theorem State.setPortRt_mem (s : State) (i : Nat) (v : PortRt) : (s.setPortRt i v).mem = s.mem := rfl
@[simp] theorem State.setPortRt_out (s : State) (i : Nat) (v : PortRt) : (s.setPortRt i v).out = s.out := rfl
@[simp] theorem State.setPortRt_free (s : State) (i : Nat) (v : PortRt) : (s.setPortRt i v).free = s.free := rfl
@[simp] theorem State.setPortRt_can (s : State) (i : Nat) (v : PortRt) : (s.setPortRt i v).can = s.can := rfl
@[simp] theorem State.setPortRt_boxes (s : State) (i : Nat) (v : PortRt) : (s.setPortRt i v).boxes = s.boxes := rfl
@[simp] theorem State.setPortRt_flash (s : State) (i : Nat) (v : PortRt) : (s.setPortRt i v).flash = s.flash := rfl
@[simp] theorem State.setPortRt_boot (s : State) (i : Nat) (v : PortRt) : (s.setPortRt i v).boot = s.boot := rfl
@[simp] theorem State.setPortRt_pace (s : State) (i : Nat) (v : PortRt) : (s.setPortRt i v).pace = s.pace := rfl
@[simp] theorem State.setPortRt_streams (s : State) (i : Nat) (v : PortRt) : (s.setPortRt i v).streams = s.streams := rfl
@[simp] theorem State.setPortRt_released (s : State) (i : Nat) (v : PortRt) : (s.setPortRt i v).released = s.released := rfl
@[simp] theorem State.setPortRt_slices (s : State) (i : Nat) (v : PortRt) : (s.setPortRt i v).slices = s.slices := rfl
@[simp] theorem State.setPortRt_mdioRead (s : State) (i : Nat) (v : PortRt) : (s.setPortRt i v).mdioRead = s.mdioRead := rfl
@[simp] theorem State.setPortRt_csi (s : State) (i : Nat) (v : PortRt) : (s.setPortRt i v).csi = s.csi := rfl
@[simp] theorem State.setPortRt_vision (s : State) (i : Nat) (v : PortRt) : (s.setPortRt i v).vision = s.vision := rfl
@[simp] theorem State.setPortRt_anchors (s : State) (i : Nat) (v : PortRt) : (s.setPortRt i v).anchors = s.anchors := rfl
@[simp] theorem State.setPortRt_gen (s : State) (i : Nat) (v : PortRt) : (s.setPortRt i v).gen = s.gen := rfl
@[simp] theorem State.setPortRt_raster (s : State) (i : Nat) (v : PortRt) : (s.setPortRt i v).raster = s.raster := rfl
@[simp] theorem State.setPortRt_herds (s : State) (i : Nat) (v : PortRt) : (s.setPortRt i v).herds = s.herds := rfl
@[simp] theorem State.setPortRt_adapt (s : State) (i : Nat) (v : PortRt) : (s.setPortRt i v).adapt = s.adapt := rfl
@[simp] theorem State.setPortRt_rings (s : State) (i : Nat) (v : PortRt) : (s.setPortRt i v).rings = s.rings := rfl
@[simp] theorem State.setPortRt_jobs (s : State) (i : Nat) (v : PortRt) : (s.setPortRt i v).jobs = s.jobs := rfl
@[simp] theorem State.setPortRt_parts (s : State) (i : Nat) (v : PortRt) : (s.setPortRt i v).parts = s.parts := rfl
@[simp] theorem State.setPortRt_fc (s : State) (i : Nat) (v : PortRt) : (s.setPortRt i v).fc = s.fc := rfl
@[simp] theorem State.setPortRt_inputs (s : State) (i : Nat) (v : PortRt) : (s.setPortRt i v).inputs = s.inputs := rfl
@[simp] theorem State.setPortRt_security (s : State) (i : Nat) (v : PortRt) : (s.setPortRt i v).security = s.security := rfl
@[simp] theorem State.setPortRt_peers (s : State) (i : Nat) (v : PortRt) : (s.setPortRt i v).peers = s.peers := rfl
@[simp] theorem State.setPortRt_tap (s : State) (i : Nat) (v : PortRt) : (s.setPortRt i v).tap = s.tap := rfl
@[simp] theorem State.setPortRt_meters (s : State) (i : Nat) (v : PortRt) : (s.setPortRt i v).meters = s.meters := rfl

@[simp] theorem State.setHerdRt_pending (s : State) (i : Nat) (v : HerdRt) : (s.setHerdRt i v).pending = s.pending := rfl
@[simp] theorem State.setHerdRt_part (s : State) (i : Nat) (v : HerdRt) : (s.setHerdRt i v).part = s.part := rfl
@[simp] theorem State.setHerdRt_fuses (s : State) (i : Nat) (v : HerdRt) : (s.setHerdRt i v).fuses = s.fuses := rfl
@[simp] theorem State.setHerdRt_dict (s : State) (i : Nat) (v : HerdRt) : (s.setHerdRt i v).dict = s.dict := rfl
@[simp] theorem State.setHerdRt_mem (s : State) (i : Nat) (v : HerdRt) : (s.setHerdRt i v).mem = s.mem := rfl
@[simp] theorem State.setHerdRt_out (s : State) (i : Nat) (v : HerdRt) : (s.setHerdRt i v).out = s.out := rfl
@[simp] theorem State.setHerdRt_free (s : State) (i : Nat) (v : HerdRt) : (s.setHerdRt i v).free = s.free := rfl
@[simp] theorem State.setHerdRt_can (s : State) (i : Nat) (v : HerdRt) : (s.setHerdRt i v).can = s.can := rfl
@[simp] theorem State.setHerdRt_boxes (s : State) (i : Nat) (v : HerdRt) : (s.setHerdRt i v).boxes = s.boxes := rfl
@[simp] theorem State.setHerdRt_flash (s : State) (i : Nat) (v : HerdRt) : (s.setHerdRt i v).flash = s.flash := rfl
@[simp] theorem State.setHerdRt_boot (s : State) (i : Nat) (v : HerdRt) : (s.setHerdRt i v).boot = s.boot := rfl
@[simp] theorem State.setHerdRt_pace (s : State) (i : Nat) (v : HerdRt) : (s.setHerdRt i v).pace = s.pace := rfl
@[simp] theorem State.setHerdRt_streams (s : State) (i : Nat) (v : HerdRt) : (s.setHerdRt i v).streams = s.streams := rfl
@[simp] theorem State.setHerdRt_released (s : State) (i : Nat) (v : HerdRt) : (s.setHerdRt i v).released = s.released := rfl
@[simp] theorem State.setHerdRt_slices (s : State) (i : Nat) (v : HerdRt) : (s.setHerdRt i v).slices = s.slices := rfl
@[simp] theorem State.setHerdRt_mdioRead (s : State) (i : Nat) (v : HerdRt) : (s.setHerdRt i v).mdioRead = s.mdioRead := rfl
@[simp] theorem State.setHerdRt_csi (s : State) (i : Nat) (v : HerdRt) : (s.setHerdRt i v).csi = s.csi := rfl
@[simp] theorem State.setHerdRt_vision (s : State) (i : Nat) (v : HerdRt) : (s.setHerdRt i v).vision = s.vision := rfl
@[simp] theorem State.setHerdRt_anchors (s : State) (i : Nat) (v : HerdRt) : (s.setHerdRt i v).anchors = s.anchors := rfl
@[simp] theorem State.setHerdRt_gen (s : State) (i : Nat) (v : HerdRt) : (s.setHerdRt i v).gen = s.gen := rfl
@[simp] theorem State.setHerdRt_raster (s : State) (i : Nat) (v : HerdRt) : (s.setHerdRt i v).raster = s.raster := rfl
@[simp] theorem State.setHerdRt_ports (s : State) (i : Nat) (v : HerdRt) : (s.setHerdRt i v).ports = s.ports := rfl
@[simp] theorem State.setHerdRt_adapt (s : State) (i : Nat) (v : HerdRt) : (s.setHerdRt i v).adapt = s.adapt := rfl
@[simp] theorem State.setHerdRt_rings (s : State) (i : Nat) (v : HerdRt) : (s.setHerdRt i v).rings = s.rings := rfl
@[simp] theorem State.setHerdRt_jobs (s : State) (i : Nat) (v : HerdRt) : (s.setHerdRt i v).jobs = s.jobs := rfl
@[simp] theorem State.setHerdRt_parts (s : State) (i : Nat) (v : HerdRt) : (s.setHerdRt i v).parts = s.parts := rfl
@[simp] theorem State.setHerdRt_fc (s : State) (i : Nat) (v : HerdRt) : (s.setHerdRt i v).fc = s.fc := rfl
@[simp] theorem State.setHerdRt_inputs (s : State) (i : Nat) (v : HerdRt) : (s.setHerdRt i v).inputs = s.inputs := rfl
@[simp] theorem State.setHerdRt_security (s : State) (i : Nat) (v : HerdRt) : (s.setHerdRt i v).security = s.security := rfl
@[simp] theorem State.setHerdRt_peers (s : State) (i : Nat) (v : HerdRt) : (s.setHerdRt i v).peers = s.peers := rfl
@[simp] theorem State.setHerdRt_tap (s : State) (i : Nat) (v : HerdRt) : (s.setHerdRt i v).tap = s.tap := rfl
@[simp] theorem State.setHerdRt_meters (s : State) (i : Nat) (v : HerdRt) : (s.setHerdRt i v).meters = s.meters := rfl

@[simp] theorem State.setSlotRt_pending (s : State) (i : Nat) (v : SlotRt) : (s.setSlotRt i v).pending = s.pending := rfl
@[simp] theorem State.setSlotRt_part (s : State) (i : Nat) (v : SlotRt) : (s.setSlotRt i v).part = s.part := rfl
@[simp] theorem State.setSlotRt_fuses (s : State) (i : Nat) (v : SlotRt) : (s.setSlotRt i v).fuses = s.fuses := rfl
@[simp] theorem State.setSlotRt_dict (s : State) (i : Nat) (v : SlotRt) : (s.setSlotRt i v).dict = s.dict := rfl
@[simp] theorem State.setSlotRt_mem (s : State) (i : Nat) (v : SlotRt) : (s.setSlotRt i v).mem = s.mem := rfl
@[simp] theorem State.setSlotRt_out (s : State) (i : Nat) (v : SlotRt) : (s.setSlotRt i v).out = s.out := rfl
@[simp] theorem State.setSlotRt_free (s : State) (i : Nat) (v : SlotRt) : (s.setSlotRt i v).free = s.free := rfl
@[simp] theorem State.setSlotRt_can (s : State) (i : Nat) (v : SlotRt) : (s.setSlotRt i v).can = s.can := rfl
@[simp] theorem State.setSlotRt_boxes (s : State) (i : Nat) (v : SlotRt) : (s.setSlotRt i v).boxes = s.boxes := rfl
@[simp] theorem State.setSlotRt_flash (s : State) (i : Nat) (v : SlotRt) : (s.setSlotRt i v).flash = s.flash := rfl
@[simp] theorem State.setSlotRt_boot (s : State) (i : Nat) (v : SlotRt) : (s.setSlotRt i v).boot = s.boot := rfl
@[simp] theorem State.setSlotRt_pace (s : State) (i : Nat) (v : SlotRt) : (s.setSlotRt i v).pace = s.pace := rfl
@[simp] theorem State.setSlotRt_streams (s : State) (i : Nat) (v : SlotRt) : (s.setSlotRt i v).streams = s.streams := rfl
@[simp] theorem State.setSlotRt_released (s : State) (i : Nat) (v : SlotRt) : (s.setSlotRt i v).released = s.released := rfl
@[simp] theorem State.setSlotRt_slices (s : State) (i : Nat) (v : SlotRt) : (s.setSlotRt i v).slices = s.slices := rfl
@[simp] theorem State.setSlotRt_mdioRead (s : State) (i : Nat) (v : SlotRt) : (s.setSlotRt i v).mdioRead = s.mdioRead := rfl
@[simp] theorem State.setSlotRt_csi (s : State) (i : Nat) (v : SlotRt) : (s.setSlotRt i v).csi = s.csi := rfl
@[simp] theorem State.setSlotRt_vision (s : State) (i : Nat) (v : SlotRt) : (s.setSlotRt i v).vision = s.vision := rfl
@[simp] theorem State.setSlotRt_anchors (s : State) (i : Nat) (v : SlotRt) : (s.setSlotRt i v).anchors = s.anchors := rfl
@[simp] theorem State.setSlotRt_gen (s : State) (i : Nat) (v : SlotRt) : (s.setSlotRt i v).gen = s.gen := rfl
@[simp] theorem State.setSlotRt_raster (s : State) (i : Nat) (v : SlotRt) : (s.setSlotRt i v).raster = s.raster := rfl
@[simp] theorem State.setSlotRt_ports (s : State) (i : Nat) (v : SlotRt) : (s.setSlotRt i v).ports = s.ports := rfl
@[simp] theorem State.setSlotRt_adapt (s : State) (i : Nat) (v : SlotRt) : (s.setSlotRt i v).adapt = s.adapt := rfl
@[simp] theorem State.setSlotRt_rings (s : State) (i : Nat) (v : SlotRt) : (s.setSlotRt i v).rings = s.rings := rfl
@[simp] theorem State.setSlotRt_jobs (s : State) (i : Nat) (v : SlotRt) : (s.setSlotRt i v).jobs = s.jobs := rfl
@[simp] theorem State.setSlotRt_parts (s : State) (i : Nat) (v : SlotRt) : (s.setSlotRt i v).parts = s.parts := rfl
@[simp] theorem State.setSlotRt_fc (s : State) (i : Nat) (v : SlotRt) : (s.setSlotRt i v).fc = s.fc := rfl
@[simp] theorem State.setSlotRt_inputs (s : State) (i : Nat) (v : SlotRt) : (s.setSlotRt i v).inputs = s.inputs := rfl
@[simp] theorem State.setSlotRt_security (s : State) (i : Nat) (v : SlotRt) : (s.setSlotRt i v).security = s.security := rfl
@[simp] theorem State.setSlotRt_peers (s : State) (i : Nat) (v : SlotRt) : (s.setSlotRt i v).peers = s.peers := rfl
@[simp] theorem State.setSlotRt_tap (s : State) (i : Nat) (v : SlotRt) : (s.setSlotRt i v).tap = s.tap := rfl
@[simp] theorem State.setSlotRt_meters (s : State) (i : Nat) (v : SlotRt) : (s.setSlotRt i v).meters = s.meters := rfl

@[simp] theorem State.setGenStream_pending (s : State) (i : Nat) (v : GenStream) : (s.setGenStream i v).pending = s.pending := rfl
@[simp] theorem State.setGenStream_part (s : State) (i : Nat) (v : GenStream) : (s.setGenStream i v).part = s.part := rfl
@[simp] theorem State.setGenStream_fuses (s : State) (i : Nat) (v : GenStream) : (s.setGenStream i v).fuses = s.fuses := rfl
@[simp] theorem State.setGenStream_dict (s : State) (i : Nat) (v : GenStream) : (s.setGenStream i v).dict = s.dict := rfl
@[simp] theorem State.setGenStream_mem (s : State) (i : Nat) (v : GenStream) : (s.setGenStream i v).mem = s.mem := rfl
@[simp] theorem State.setGenStream_out (s : State) (i : Nat) (v : GenStream) : (s.setGenStream i v).out = s.out := rfl
@[simp] theorem State.setGenStream_free (s : State) (i : Nat) (v : GenStream) : (s.setGenStream i v).free = s.free := rfl
@[simp] theorem State.setGenStream_can (s : State) (i : Nat) (v : GenStream) : (s.setGenStream i v).can = s.can := rfl
@[simp] theorem State.setGenStream_boxes (s : State) (i : Nat) (v : GenStream) : (s.setGenStream i v).boxes = s.boxes := rfl
@[simp] theorem State.setGenStream_flash (s : State) (i : Nat) (v : GenStream) : (s.setGenStream i v).flash = s.flash := rfl
@[simp] theorem State.setGenStream_boot (s : State) (i : Nat) (v : GenStream) : (s.setGenStream i v).boot = s.boot := rfl
@[simp] theorem State.setGenStream_pace (s : State) (i : Nat) (v : GenStream) : (s.setGenStream i v).pace = s.pace := rfl
@[simp] theorem State.setGenStream_streams (s : State) (i : Nat) (v : GenStream) : (s.setGenStream i v).streams = s.streams := rfl
@[simp] theorem State.setGenStream_released (s : State) (i : Nat) (v : GenStream) : (s.setGenStream i v).released = s.released := rfl
@[simp] theorem State.setGenStream_slices (s : State) (i : Nat) (v : GenStream) : (s.setGenStream i v).slices = s.slices := rfl
@[simp] theorem State.setGenStream_mdioRead (s : State) (i : Nat) (v : GenStream) : (s.setGenStream i v).mdioRead = s.mdioRead := rfl
@[simp] theorem State.setGenStream_csi (s : State) (i : Nat) (v : GenStream) : (s.setGenStream i v).csi = s.csi := rfl
@[simp] theorem State.setGenStream_vision (s : State) (i : Nat) (v : GenStream) : (s.setGenStream i v).vision = s.vision := rfl
@[simp] theorem State.setGenStream_anchors (s : State) (i : Nat) (v : GenStream) : (s.setGenStream i v).anchors = s.anchors := rfl
@[simp] theorem State.setGenStream_raster (s : State) (i : Nat) (v : GenStream) : (s.setGenStream i v).raster = s.raster := rfl
@[simp] theorem State.setGenStream_ports (s : State) (i : Nat) (v : GenStream) : (s.setGenStream i v).ports = s.ports := rfl
@[simp] theorem State.setGenStream_herds (s : State) (i : Nat) (v : GenStream) : (s.setGenStream i v).herds = s.herds := rfl
@[simp] theorem State.setGenStream_adapt (s : State) (i : Nat) (v : GenStream) : (s.setGenStream i v).adapt = s.adapt := rfl
@[simp] theorem State.setGenStream_rings (s : State) (i : Nat) (v : GenStream) : (s.setGenStream i v).rings = s.rings := rfl
@[simp] theorem State.setGenStream_jobs (s : State) (i : Nat) (v : GenStream) : (s.setGenStream i v).jobs = s.jobs := rfl
@[simp] theorem State.setGenStream_parts (s : State) (i : Nat) (v : GenStream) : (s.setGenStream i v).parts = s.parts := rfl
@[simp] theorem State.setGenStream_fc (s : State) (i : Nat) (v : GenStream) : (s.setGenStream i v).fc = s.fc := rfl
@[simp] theorem State.setGenStream_inputs (s : State) (i : Nat) (v : GenStream) : (s.setGenStream i v).inputs = s.inputs := rfl
@[simp] theorem State.setGenStream_security (s : State) (i : Nat) (v : GenStream) : (s.setGenStream i v).security = s.security := rfl
@[simp] theorem State.setGenStream_peers (s : State) (i : Nat) (v : GenStream) : (s.setGenStream i v).peers = s.peers := rfl
@[simp] theorem State.setGenStream_tap (s : State) (i : Nat) (v : GenStream) : (s.setGenStream i v).tap = s.tap := rfl
@[simp] theorem State.setGenStream_meters (s : State) (i : Nat) (v : GenStream) : (s.setGenStream i v).meters = s.meters := rfl

@[simp] theorem State.setPairSt_pending (s : State) (i : Nat) (v : PairSt) : (s.setPairSt i v).pending = s.pending := rfl
@[simp] theorem State.setPairSt_part (s : State) (i : Nat) (v : PairSt) : (s.setPairSt i v).part = s.part := rfl
@[simp] theorem State.setPairSt_fuses (s : State) (i : Nat) (v : PairSt) : (s.setPairSt i v).fuses = s.fuses := rfl
@[simp] theorem State.setPairSt_dict (s : State) (i : Nat) (v : PairSt) : (s.setPairSt i v).dict = s.dict := rfl
@[simp] theorem State.setPairSt_mem (s : State) (i : Nat) (v : PairSt) : (s.setPairSt i v).mem = s.mem := rfl
@[simp] theorem State.setPairSt_out (s : State) (i : Nat) (v : PairSt) : (s.setPairSt i v).out = s.out := rfl
@[simp] theorem State.setPairSt_free (s : State) (i : Nat) (v : PairSt) : (s.setPairSt i v).free = s.free := rfl
@[simp] theorem State.setPairSt_can (s : State) (i : Nat) (v : PairSt) : (s.setPairSt i v).can = s.can := rfl
@[simp] theorem State.setPairSt_boxes (s : State) (i : Nat) (v : PairSt) : (s.setPairSt i v).boxes = s.boxes := rfl
@[simp] theorem State.setPairSt_flash (s : State) (i : Nat) (v : PairSt) : (s.setPairSt i v).flash = s.flash := rfl
@[simp] theorem State.setPairSt_boot (s : State) (i : Nat) (v : PairSt) : (s.setPairSt i v).boot = s.boot := rfl
@[simp] theorem State.setPairSt_pace (s : State) (i : Nat) (v : PairSt) : (s.setPairSt i v).pace = s.pace := rfl
@[simp] theorem State.setPairSt_streams (s : State) (i : Nat) (v : PairSt) : (s.setPairSt i v).streams = s.streams := rfl
@[simp] theorem State.setPairSt_released (s : State) (i : Nat) (v : PairSt) : (s.setPairSt i v).released = s.released := rfl
@[simp] theorem State.setPairSt_slices (s : State) (i : Nat) (v : PairSt) : (s.setPairSt i v).slices = s.slices := rfl
@[simp] theorem State.setPairSt_mdioRead (s : State) (i : Nat) (v : PairSt) : (s.setPairSt i v).mdioRead = s.mdioRead := rfl
@[simp] theorem State.setPairSt_csi (s : State) (i : Nat) (v : PairSt) : (s.setPairSt i v).csi = s.csi := rfl
@[simp] theorem State.setPairSt_anchors (s : State) (i : Nat) (v : PairSt) : (s.setPairSt i v).anchors = s.anchors := rfl
@[simp] theorem State.setPairSt_gen (s : State) (i : Nat) (v : PairSt) : (s.setPairSt i v).gen = s.gen := rfl
@[simp] theorem State.setPairSt_raster (s : State) (i : Nat) (v : PairSt) : (s.setPairSt i v).raster = s.raster := rfl
@[simp] theorem State.setPairSt_ports (s : State) (i : Nat) (v : PairSt) : (s.setPairSt i v).ports = s.ports := rfl
@[simp] theorem State.setPairSt_herds (s : State) (i : Nat) (v : PairSt) : (s.setPairSt i v).herds = s.herds := rfl
@[simp] theorem State.setPairSt_adapt (s : State) (i : Nat) (v : PairSt) : (s.setPairSt i v).adapt = s.adapt := rfl
@[simp] theorem State.setPairSt_rings (s : State) (i : Nat) (v : PairSt) : (s.setPairSt i v).rings = s.rings := rfl
@[simp] theorem State.setPairSt_jobs (s : State) (i : Nat) (v : PairSt) : (s.setPairSt i v).jobs = s.jobs := rfl
@[simp] theorem State.setPairSt_parts (s : State) (i : Nat) (v : PairSt) : (s.setPairSt i v).parts = s.parts := rfl
@[simp] theorem State.setPairSt_fc (s : State) (i : Nat) (v : PairSt) : (s.setPairSt i v).fc = s.fc := rfl
@[simp] theorem State.setPairSt_inputs (s : State) (i : Nat) (v : PairSt) : (s.setPairSt i v).inputs = s.inputs := rfl
@[simp] theorem State.setPairSt_security (s : State) (i : Nat) (v : PairSt) : (s.setPairSt i v).security = s.security := rfl
@[simp] theorem State.setPairSt_peers (s : State) (i : Nat) (v : PairSt) : (s.setPairSt i v).peers = s.peers := rfl
@[simp] theorem State.setPairSt_tap (s : State) (i : Nat) (v : PairSt) : (s.setPairSt i v).tap = s.tap := rfl
@[simp] theorem State.setPairSt_meters (s : State) (i : Nat) (v : PairSt) : (s.setPairSt i v).meters = s.meters := rfl

@[simp] theorem State.setAdaptPart_pending (s : State) (i : Nat) (v : AdaptPart) : (s.setAdaptPart i v).pending = s.pending := rfl
@[simp] theorem State.setAdaptPart_part (s : State) (i : Nat) (v : AdaptPart) : (s.setAdaptPart i v).part = s.part := rfl
@[simp] theorem State.setAdaptPart_fuses (s : State) (i : Nat) (v : AdaptPart) : (s.setAdaptPart i v).fuses = s.fuses := rfl
@[simp] theorem State.setAdaptPart_dict (s : State) (i : Nat) (v : AdaptPart) : (s.setAdaptPart i v).dict = s.dict := rfl
@[simp] theorem State.setAdaptPart_mem (s : State) (i : Nat) (v : AdaptPart) : (s.setAdaptPart i v).mem = s.mem := rfl
@[simp] theorem State.setAdaptPart_out (s : State) (i : Nat) (v : AdaptPart) : (s.setAdaptPart i v).out = s.out := rfl
@[simp] theorem State.setAdaptPart_free (s : State) (i : Nat) (v : AdaptPart) : (s.setAdaptPart i v).free = s.free := rfl
@[simp] theorem State.setAdaptPart_can (s : State) (i : Nat) (v : AdaptPart) : (s.setAdaptPart i v).can = s.can := rfl
@[simp] theorem State.setAdaptPart_boxes (s : State) (i : Nat) (v : AdaptPart) : (s.setAdaptPart i v).boxes = s.boxes := rfl
@[simp] theorem State.setAdaptPart_flash (s : State) (i : Nat) (v : AdaptPart) : (s.setAdaptPart i v).flash = s.flash := rfl
@[simp] theorem State.setAdaptPart_boot (s : State) (i : Nat) (v : AdaptPart) : (s.setAdaptPart i v).boot = s.boot := rfl
@[simp] theorem State.setAdaptPart_pace (s : State) (i : Nat) (v : AdaptPart) : (s.setAdaptPart i v).pace = s.pace := rfl
@[simp] theorem State.setAdaptPart_streams (s : State) (i : Nat) (v : AdaptPart) : (s.setAdaptPart i v).streams = s.streams := rfl
@[simp] theorem State.setAdaptPart_released (s : State) (i : Nat) (v : AdaptPart) : (s.setAdaptPart i v).released = s.released := rfl
@[simp] theorem State.setAdaptPart_slices (s : State) (i : Nat) (v : AdaptPart) : (s.setAdaptPart i v).slices = s.slices := rfl
@[simp] theorem State.setAdaptPart_mdioRead (s : State) (i : Nat) (v : AdaptPart) : (s.setAdaptPart i v).mdioRead = s.mdioRead := rfl
@[simp] theorem State.setAdaptPart_csi (s : State) (i : Nat) (v : AdaptPart) : (s.setAdaptPart i v).csi = s.csi := rfl
@[simp] theorem State.setAdaptPart_vision (s : State) (i : Nat) (v : AdaptPart) : (s.setAdaptPart i v).vision = s.vision := rfl
@[simp] theorem State.setAdaptPart_anchors (s : State) (i : Nat) (v : AdaptPart) : (s.setAdaptPart i v).anchors = s.anchors := rfl
@[simp] theorem State.setAdaptPart_gen (s : State) (i : Nat) (v : AdaptPart) : (s.setAdaptPart i v).gen = s.gen := rfl
@[simp] theorem State.setAdaptPart_raster (s : State) (i : Nat) (v : AdaptPart) : (s.setAdaptPart i v).raster = s.raster := rfl
@[simp] theorem State.setAdaptPart_ports (s : State) (i : Nat) (v : AdaptPart) : (s.setAdaptPart i v).ports = s.ports := rfl
@[simp] theorem State.setAdaptPart_herds (s : State) (i : Nat) (v : AdaptPart) : (s.setAdaptPart i v).herds = s.herds := rfl
@[simp] theorem State.setAdaptPart_rings (s : State) (i : Nat) (v : AdaptPart) : (s.setAdaptPart i v).rings = s.rings := rfl
@[simp] theorem State.setAdaptPart_jobs (s : State) (i : Nat) (v : AdaptPart) : (s.setAdaptPart i v).jobs = s.jobs := rfl
@[simp] theorem State.setAdaptPart_parts (s : State) (i : Nat) (v : AdaptPart) : (s.setAdaptPart i v).parts = s.parts := rfl
@[simp] theorem State.setAdaptPart_fc (s : State) (i : Nat) (v : AdaptPart) : (s.setAdaptPart i v).fc = s.fc := rfl
@[simp] theorem State.setAdaptPart_inputs (s : State) (i : Nat) (v : AdaptPart) : (s.setAdaptPart i v).inputs = s.inputs := rfl
@[simp] theorem State.setAdaptPart_security (s : State) (i : Nat) (v : AdaptPart) : (s.setAdaptPart i v).security = s.security := rfl
@[simp] theorem State.setAdaptPart_peers (s : State) (i : Nat) (v : AdaptPart) : (s.setAdaptPart i v).peers = s.peers := rfl
@[simp] theorem State.setAdaptPart_tap (s : State) (i : Nat) (v : AdaptPart) : (s.setAdaptPart i v).tap = s.tap := rfl
@[simp] theorem State.setAdaptPart_meters (s : State) (i : Nat) (v : AdaptPart) : (s.setAdaptPart i v).meters = s.meters := rfl

@[simp] theorem State.setZlink_pending (s : State) (i : Nat) (v : ZLink) : (s.setZlink i v).pending = s.pending := rfl
@[simp] theorem State.setZlink_part (s : State) (i : Nat) (v : ZLink) : (s.setZlink i v).part = s.part := rfl
@[simp] theorem State.setZlink_fuses (s : State) (i : Nat) (v : ZLink) : (s.setZlink i v).fuses = s.fuses := rfl
@[simp] theorem State.setZlink_dict (s : State) (i : Nat) (v : ZLink) : (s.setZlink i v).dict = s.dict := rfl
@[simp] theorem State.setZlink_mem (s : State) (i : Nat) (v : ZLink) : (s.setZlink i v).mem = s.mem := rfl
@[simp] theorem State.setZlink_out (s : State) (i : Nat) (v : ZLink) : (s.setZlink i v).out = s.out := rfl
@[simp] theorem State.setZlink_free (s : State) (i : Nat) (v : ZLink) : (s.setZlink i v).free = s.free := rfl
@[simp] theorem State.setZlink_can (s : State) (i : Nat) (v : ZLink) : (s.setZlink i v).can = s.can := rfl
@[simp] theorem State.setZlink_boxes (s : State) (i : Nat) (v : ZLink) : (s.setZlink i v).boxes = s.boxes := rfl
@[simp] theorem State.setZlink_flash (s : State) (i : Nat) (v : ZLink) : (s.setZlink i v).flash = s.flash := rfl
@[simp] theorem State.setZlink_boot (s : State) (i : Nat) (v : ZLink) : (s.setZlink i v).boot = s.boot := rfl
@[simp] theorem State.setZlink_pace (s : State) (i : Nat) (v : ZLink) : (s.setZlink i v).pace = s.pace := rfl
@[simp] theorem State.setZlink_streams (s : State) (i : Nat) (v : ZLink) : (s.setZlink i v).streams = s.streams := rfl
@[simp] theorem State.setZlink_released (s : State) (i : Nat) (v : ZLink) : (s.setZlink i v).released = s.released := rfl
@[simp] theorem State.setZlink_slices (s : State) (i : Nat) (v : ZLink) : (s.setZlink i v).slices = s.slices := rfl
@[simp] theorem State.setZlink_mdioRead (s : State) (i : Nat) (v : ZLink) : (s.setZlink i v).mdioRead = s.mdioRead := rfl
@[simp] theorem State.setZlink_csi (s : State) (i : Nat) (v : ZLink) : (s.setZlink i v).csi = s.csi := rfl
@[simp] theorem State.setZlink_vision (s : State) (i : Nat) (v : ZLink) : (s.setZlink i v).vision = s.vision := rfl
@[simp] theorem State.setZlink_anchors (s : State) (i : Nat) (v : ZLink) : (s.setZlink i v).anchors = s.anchors := rfl
@[simp] theorem State.setZlink_gen (s : State) (i : Nat) (v : ZLink) : (s.setZlink i v).gen = s.gen := rfl
@[simp] theorem State.setZlink_raster (s : State) (i : Nat) (v : ZLink) : (s.setZlink i v).raster = s.raster := rfl
@[simp] theorem State.setZlink_ports (s : State) (i : Nat) (v : ZLink) : (s.setZlink i v).ports = s.ports := rfl
@[simp] theorem State.setZlink_herds (s : State) (i : Nat) (v : ZLink) : (s.setZlink i v).herds = s.herds := rfl
@[simp] theorem State.setZlink_adapt (s : State) (i : Nat) (v : ZLink) : (s.setZlink i v).adapt = s.adapt := rfl
@[simp] theorem State.setZlink_rings (s : State) (i : Nat) (v : ZLink) : (s.setZlink i v).rings = s.rings := rfl
@[simp] theorem State.setZlink_jobs (s : State) (i : Nat) (v : ZLink) : (s.setZlink i v).jobs = s.jobs := rfl
@[simp] theorem State.setZlink_parts (s : State) (i : Nat) (v : ZLink) : (s.setZlink i v).parts = s.parts := rfl
@[simp] theorem State.setZlink_fc (s : State) (i : Nat) (v : ZLink) : (s.setZlink i v).fc = s.fc := rfl
@[simp] theorem State.setZlink_inputs (s : State) (i : Nat) (v : ZLink) : (s.setZlink i v).inputs = s.inputs := rfl
@[simp] theorem State.setZlink_security (s : State) (i : Nat) (v : ZLink) : (s.setZlink i v).security = s.security := rfl

@[simp] theorem State.setRing_pending (s : State) (i : Nat) (v : Ring) : (s.setRing i v).pending = s.pending := rfl
@[simp] theorem State.setRing_part (s : State) (i : Nat) (v : Ring) : (s.setRing i v).part = s.part := rfl
@[simp] theorem State.setRing_fuses (s : State) (i : Nat) (v : Ring) : (s.setRing i v).fuses = s.fuses := rfl
@[simp] theorem State.setRing_dict (s : State) (i : Nat) (v : Ring) : (s.setRing i v).dict = s.dict := rfl
@[simp] theorem State.setRing_mem (s : State) (i : Nat) (v : Ring) : (s.setRing i v).mem = s.mem := rfl
@[simp] theorem State.setRing_out (s : State) (i : Nat) (v : Ring) : (s.setRing i v).out = s.out := rfl
@[simp] theorem State.setRing_free (s : State) (i : Nat) (v : Ring) : (s.setRing i v).free = s.free := rfl
@[simp] theorem State.setRing_can (s : State) (i : Nat) (v : Ring) : (s.setRing i v).can = s.can := rfl
@[simp] theorem State.setRing_boxes (s : State) (i : Nat) (v : Ring) : (s.setRing i v).boxes = s.boxes := rfl
@[simp] theorem State.setRing_flash (s : State) (i : Nat) (v : Ring) : (s.setRing i v).flash = s.flash := rfl
@[simp] theorem State.setRing_boot (s : State) (i : Nat) (v : Ring) : (s.setRing i v).boot = s.boot := rfl
@[simp] theorem State.setRing_pace (s : State) (i : Nat) (v : Ring) : (s.setRing i v).pace = s.pace := rfl
@[simp] theorem State.setRing_streams (s : State) (i : Nat) (v : Ring) : (s.setRing i v).streams = s.streams := rfl
@[simp] theorem State.setRing_released (s : State) (i : Nat) (v : Ring) : (s.setRing i v).released = s.released := rfl
@[simp] theorem State.setRing_slices (s : State) (i : Nat) (v : Ring) : (s.setRing i v).slices = s.slices := rfl
@[simp] theorem State.setRing_mdioRead (s : State) (i : Nat) (v : Ring) : (s.setRing i v).mdioRead = s.mdioRead := rfl
@[simp] theorem State.setRing_csi (s : State) (i : Nat) (v : Ring) : (s.setRing i v).csi = s.csi := rfl
@[simp] theorem State.setRing_vision (s : State) (i : Nat) (v : Ring) : (s.setRing i v).vision = s.vision := rfl
@[simp] theorem State.setRing_anchors (s : State) (i : Nat) (v : Ring) : (s.setRing i v).anchors = s.anchors := rfl
@[simp] theorem State.setRing_gen (s : State) (i : Nat) (v : Ring) : (s.setRing i v).gen = s.gen := rfl
@[simp] theorem State.setRing_raster (s : State) (i : Nat) (v : Ring) : (s.setRing i v).raster = s.raster := rfl
@[simp] theorem State.setRing_ports (s : State) (i : Nat) (v : Ring) : (s.setRing i v).ports = s.ports := rfl
@[simp] theorem State.setRing_herds (s : State) (i : Nat) (v : Ring) : (s.setRing i v).herds = s.herds := rfl
@[simp] theorem State.setRing_adapt (s : State) (i : Nat) (v : Ring) : (s.setRing i v).adapt = s.adapt := rfl
@[simp] theorem State.setRing_jobs (s : State) (i : Nat) (v : Ring) : (s.setRing i v).jobs = s.jobs := rfl
@[simp] theorem State.setRing_parts (s : State) (i : Nat) (v : Ring) : (s.setRing i v).parts = s.parts := rfl
@[simp] theorem State.setRing_fc (s : State) (i : Nat) (v : Ring) : (s.setRing i v).fc = s.fc := rfl
@[simp] theorem State.setRing_inputs (s : State) (i : Nat) (v : Ring) : (s.setRing i v).inputs = s.inputs := rfl
@[simp] theorem State.setRing_security (s : State) (i : Nat) (v : Ring) : (s.setRing i v).security = s.security := rfl
@[simp] theorem State.setRing_peers (s : State) (i : Nat) (v : Ring) : (s.setRing i v).peers = s.peers := rfl
@[simp] theorem State.setRing_tap (s : State) (i : Nat) (v : Ring) : (s.setRing i v).tap = s.tap := rfl
@[simp] theorem State.setRing_meters (s : State) (i : Nat) (v : Ring) : (s.setRing i v).meters = s.meters := rfl

@[simp] theorem State.seal_pending (s : State) (t : State) : (s.seal t).pending = t.pending := rfl
@[simp] theorem State.seal_part (s : State) (t : State) : (s.seal t).part = t.part := rfl
@[simp] theorem State.seal_fuses (s : State) (t : State) : (s.seal t).fuses = t.fuses := rfl
@[simp] theorem State.seal_dict (s : State) (t : State) : (s.seal t).dict = t.dict := rfl
@[simp] theorem State.seal_mem (s : State) (t : State) : (s.seal t).mem = t.mem := rfl
@[simp] theorem State.seal_out (s : State) (t : State) : (s.seal t).out = t.out := rfl
@[simp] theorem State.seal_free (s : State) (t : State) : (s.seal t).free = t.free := rfl
@[simp] theorem State.seal_can (s : State) (t : State) : (s.seal t).can = t.can := rfl
@[simp] theorem State.seal_boxes (s : State) (t : State) : (s.seal t).boxes = t.boxes := rfl
@[simp] theorem State.seal_flash (s : State) (t : State) : (s.seal t).flash = t.flash := rfl
@[simp] theorem State.seal_boot (s : State) (t : State) : (s.seal t).boot = t.boot := rfl
@[simp] theorem State.seal_pace (s : State) (t : State) : (s.seal t).pace = t.pace := rfl
@[simp] theorem State.seal_streams (s : State) (t : State) : (s.seal t).streams = t.streams := rfl
@[simp] theorem State.seal_released (s : State) (t : State) : (s.seal t).released = t.released := rfl
@[simp] theorem State.seal_slices (s : State) (t : State) : (s.seal t).slices = t.slices := rfl
@[simp] theorem State.seal_mdioRead (s : State) (t : State) : (s.seal t).mdioRead = t.mdioRead := rfl
@[simp] theorem State.seal_csi (s : State) (t : State) : (s.seal t).csi = t.csi := rfl
@[simp] theorem State.seal_vision (s : State) (t : State) : (s.seal t).vision = t.vision := rfl
@[simp] theorem State.seal_anchors (s : State) (t : State) : (s.seal t).anchors = t.anchors := rfl
@[simp] theorem State.seal_gen (s : State) (t : State) : (s.seal t).gen = t.gen := rfl
@[simp] theorem State.seal_raster (s : State) (t : State) : (s.seal t).raster = t.raster := rfl
@[simp] theorem State.seal_ports (s : State) (t : State) : (s.seal t).ports = t.ports := rfl
@[simp] theorem State.seal_herds (s : State) (t : State) : (s.seal t).herds = t.herds := rfl
@[simp] theorem State.seal_adapt (s : State) (t : State) : (s.seal t).adapt = t.adapt := rfl
@[simp] theorem State.seal_rings (s : State) (t : State) : (s.seal t).rings = t.rings := rfl
@[simp] theorem State.seal_jobs (s : State) (t : State) : (s.seal t).jobs = t.jobs := rfl
@[simp] theorem State.seal_parts (s : State) (t : State) : (s.seal t).parts = t.parts := rfl
@[simp] theorem State.seal_fc (s : State) (t : State) : (s.seal t).fc = t.fc := rfl
@[simp] theorem State.seal_inputs (s : State) (t : State) : (s.seal t).inputs = t.inputs := rfl
@[simp] theorem State.seal_peers (s : State) (t : State) : (s.seal t).peers = t.peers := rfl
@[simp] theorem State.seal_tap (s : State) (t : State) : (s.seal t).tap = t.tap := rfl
@[simp] theorem State.seal_meters (s : State) (t : State) : (s.seal t).meters = t.meters := rfl

@[simp] theorem State.drawFree_pending (s : State) : s.drawFree.2.pending = s.pending := rfl
@[simp] theorem State.drawFree_part (s : State) : s.drawFree.2.part = s.part := rfl
@[simp] theorem State.drawFree_fuses (s : State) : s.drawFree.2.fuses = s.fuses := rfl
@[simp] theorem State.drawFree_dict (s : State) : s.drawFree.2.dict = s.dict := rfl
@[simp] theorem State.drawFree_mem (s : State) : s.drawFree.2.mem = s.mem := rfl
@[simp] theorem State.drawFree_out (s : State) : s.drawFree.2.out = s.out := rfl
@[simp] theorem State.drawFree_can (s : State) : s.drawFree.2.can = s.can := rfl
@[simp] theorem State.drawFree_boxes (s : State) : s.drawFree.2.boxes = s.boxes := rfl
@[simp] theorem State.drawFree_flash (s : State) : s.drawFree.2.flash = s.flash := rfl
@[simp] theorem State.drawFree_boot (s : State) : s.drawFree.2.boot = s.boot := rfl
@[simp] theorem State.drawFree_pace (s : State) : s.drawFree.2.pace = s.pace := rfl
@[simp] theorem State.drawFree_streams (s : State) : s.drawFree.2.streams = s.streams := rfl
@[simp] theorem State.drawFree_released (s : State) : s.drawFree.2.released = s.released := rfl
@[simp] theorem State.drawFree_slices (s : State) : s.drawFree.2.slices = s.slices := rfl
@[simp] theorem State.drawFree_mdioRead (s : State) : s.drawFree.2.mdioRead = s.mdioRead := rfl
@[simp] theorem State.drawFree_csi (s : State) : s.drawFree.2.csi = s.csi := rfl
@[simp] theorem State.drawFree_vision (s : State) : s.drawFree.2.vision = s.vision := rfl
@[simp] theorem State.drawFree_anchors (s : State) : s.drawFree.2.anchors = s.anchors := rfl
@[simp] theorem State.drawFree_gen (s : State) : s.drawFree.2.gen = s.gen := rfl
@[simp] theorem State.drawFree_raster (s : State) : s.drawFree.2.raster = s.raster := rfl
@[simp] theorem State.drawFree_ports (s : State) : s.drawFree.2.ports = s.ports := rfl
@[simp] theorem State.drawFree_herds (s : State) : s.drawFree.2.herds = s.herds := rfl
@[simp] theorem State.drawFree_adapt (s : State) : s.drawFree.2.adapt = s.adapt := rfl
@[simp] theorem State.drawFree_rings (s : State) : s.drawFree.2.rings = s.rings := rfl
@[simp] theorem State.drawFree_jobs (s : State) : s.drawFree.2.jobs = s.jobs := rfl
@[simp] theorem State.drawFree_parts (s : State) : s.drawFree.2.parts = s.parts := rfl
@[simp] theorem State.drawFree_fc (s : State) : s.drawFree.2.fc = s.fc := rfl
@[simp] theorem State.drawFree_inputs (s : State) : s.drawFree.2.inputs = s.inputs := rfl
@[simp] theorem State.drawFree_security (s : State) : s.drawFree.2.security = s.security := rfl
@[simp] theorem State.drawFree_peers (s : State) : s.drawFree.2.peers = s.peers := rfl
@[simp] theorem State.drawFree_tap (s : State) : s.drawFree.2.tap = s.tap := rfl
@[simp] theorem State.drawFree_meters (s : State) : s.drawFree.2.meters = s.meters := rfl

@[simp] theorem State.drawFree_free (s : State) : s.drawFree.2.free = s.free + 1 := rfl
@[simp] theorem State.drawFree_value (s : State) : s.drawFree.1 = s.free := rfl

end Sys2Proof.Machine
end

