-- ==== Sys2Proof/Laws/Dict.lean ====
section
/-! SUPPORT. Entries: what giving an entry a value leaves, and the small laws of `Keeps`. -/

namespace Sys2Proof.Machine

open Sys2Proof

/-! Rows and defaults depend on the part alone. -/

theorem State.row_congr {s t : State} (h : t.part = s.part) (k : Nat) : t.row k = s.row k := by
  obtain ⟨⟩ := s; obtain ⟨⟩ := t
  cases h
  rfl

theorem State.default_congr {s t : State} (h : t.part = s.part) (k : Nat) : t.default k = s.default k := by
  simp only [State.default, State.row_congr h]

theorem State.raw_congr {s t : State} (hp : t.part = s.part) (hd : t.dict = s.dict) (k : Nat) : t.raw k = s.raw k := by
  simp only [State.raw, hd, State.default_congr hp]

theorem State.n_congr {s t : State} {k : Nat} (h : t.raw k = s.raw k) : t.n k = s.n k := by simp only [State.n, h]

/-! One entry. -/

theorem State.raw_put (s : State) (k j : Nat) (v : Value) : (s.put k v).raw j = if k = j then v else s.raw j := by
  have hd : (s.put k v).default j = s.default j := State.default_congr rfl j
  simp only [State.raw, hd]
  simp only [State.put, Assoc.find_put]
  by_cases h : k = j <;> simp [h]

/-! Interrupts. -/

/-- Two states that differ in mailboxes' interrupts and in interrupts driven alone. -/
def Signalled (s t : State) : Prop :=
  ∃ b o, t = { s with boxes := b, out := o } ∧
    (∀ f, mailboxRest (Assoc.get b f {}) = mailboxRest (s.box f)) ∧ ∃ l, o = s.out ++ l ∧ ∀ x ∈ l, isInterrupt x

theorem Signalled.refl (s : State) : Signalled s s := ⟨s.boxes, s.out, rfl, fun _ => rfl, [], by simp, by simp⟩

theorem Signalled.trans {s t u : State} (h : Signalled s t) (g : Signalled t u) : Signalled s u := by
  obtain ⟨b, o, rfl, hb, l, rfl, hl⟩ := h
  obtain ⟨c, p, rfl, hc, m, rfl, hm⟩ := g
  refine ⟨c, s.out ++ l ++ m, rfl, fun f => (hc f).trans (hb f), l ++ m, List.append_assoc .., ?_⟩
  intro x hx
  rcases List.mem_append.1 hx with hx | hx
  · exact hl x hx
  · exact hm x hx

/-- A mailbox replaced by one that differs in its interrupts alone. -/
theorem Signalled.setBox (s : State) (fn : Nat) (m : Mailbox) (h : mailboxRest m = mailboxRest (s.box fn)) :
    Signalled s (s.setBox fn m) := by
  refine ⟨_, s.out, rfl, fun f => ?_, [], by simp, by simp⟩
  rw [Assoc.get_put]
  split
  · rename_i e; subst e; exact h
  · rfl

theorem State.fire_form (s : State) (fn v : Nat) : Signalled s (s.fire fn v) := by
  simp only [State.fire]
  split
  · split
    · exact .refl s
    · exact .setBox s fn _ rfl
  · exact ⟨s.boxes, _, rfl, fun _ => rfl, [.msix fn v], rfl, by simp [isInterrupt]⟩

theorem State.signal_form (s : State) (fn v : Nat) : Signalled s (s.signal fn v) := by
  simp only [State.signal]
  split
  · split
    · exact .refl s
    · exact .setBox s fn _ rfl
  · exact (Signalled.setBox s fn { s.box fn with vectors := v :: (s.box fn).vectors } rfl).trans (State.fire_form _ fn v)

/-- A change signalled alters only mailboxes' interrupts and outputs. -/
theorem State.signalChange_form (s : State) (k : Nat) : Signalled s (s.signalChange k) := by
  have gen : ∀ (l : List Nat) (t : State), Signalled s t →
      Signalled s (l.foldl (fun t fn => if s.reaches fn k then t.signal fn 1 else t) t) := by
    intro l
    induction l with
    | nil => intro t h; exact h
    | cons fn r ih =>
      intro t h
      simp only [List.foldl_cons]
      apply ih
      split
      · exact h.trans (State.signal_form t fn 1)
      · exact h
  exact gen _ s (.refl s)

/-! `Keeps`. -/

theorem Keeps.refl (s : State) (keys : List Nat) : Keeps s s keys :=
  ⟨fun _ _ _ => rfl, fun _ => rfl, fun _ => rfl, ⟨[], by simp, by simp⟩, rfl⟩

theorem Keeps.trans {s t u : State} {keys : List Nat} (h : Keeps s t keys) (g : Keeps t u keys) : Keeps s u keys := by
  obtain ⟨h1, h2, h3, ⟨l, h4, h4'⟩, h5⟩ := h
  obtain ⟨g1, g2, g3, ⟨m, g4, g4'⟩, g5⟩ := g
  refine ⟨fun k a b => (g1 k a b).trans (h1 k a b), fun a => (g2 a).trans (h2 a), fun f => (g3 f).trans (h3 f),
    ⟨l ++ m, by rw [g4, h4, List.append_assoc], ?_⟩, g5.trans h5⟩
  intro x hx
  rcases List.mem_append.1 hx with hx | hx
  · exact h4' x hx
  · exact g4' x hx

theorem Keeps.mono {s t : State} {keys more : List Nat} (h : Keeps s t keys) (g : ∀ k ∈ keys, k ∈ more) : Keeps s t more :=
  ⟨fun k a b => h.1 k (fun c => a (g k c)) b, h.2⟩

theorem Keeps.put (s : State) (k : Nat) (v : Value) : Keeps s (s.put k v) [k] := by
  refine ⟨fun j hj _ => ?_, fun _ => rfl, fun _ => rfl, ⟨[], by simp, by simp⟩, rfl⟩
  rw [State.raw_put, if_neg (fun e : k = j => hj (e ▸ List.mem_singleton_self k))]

theorem Keeps.signalChange (s : State) (k : Nat) (keys : List Nat) : Keeps s (s.signalChange k) keys := by
  obtain ⟨b, o, he, hb, l, hl, hi⟩ := State.signalChange_form s k
  rw [he]
  exact ⟨fun _ _ _ => rfl, fun _ => rfl, hb, ⟨l, hl, hi⟩, rfl⟩

theorem Keeps.queueEvent (s : State) (e : JEvent) (keys : List Nat) : Keeps s (s.queueEvent e) keys := by
  simp only [State.queueEvent]
  split
  · exact Keeps.refl s keys
  · split
    · exact ⟨fun _ _ _ => rfl, fun _ => rfl, fun _ => rfl, ⟨[], by simp, by simp⟩, rfl⟩
    · refine ⟨fun j _ hj => ?_, fun _ => rfl, fun _ => rfl, ⟨[], by simp, by simp⟩, rfl⟩
      show (s.put _ _).raw j = _
      rw [State.raw_put, if_neg (fun e => hj e.symm)]

theorem Keeps.postValue (s : State) (k ty : Nat) (b : Bytes) (keys : List Nat) : Keeps s (s.postValue k ty b) keys := by
  simp only [State.postValue]
  split
  · exact (Keeps.queueEvent s _ keys).trans (Keeps.signalChange _ k keys)
  · exact Keeps.signalChange s k keys

theorem Keeps.post (s : State) (k : Nat) (keys : List Nat) : Keeps s (s.post k) keys := by
  simp only [State.post]
  split
  · exact Keeps.refl s keys
  · exact Keeps.postValue s k _ _ keys

theorem Keeps.set (s : State) (k : Nat) (v : Value) {keys : List Nat} (h : k ∈ keys) : Keeps s (s.set k v) keys := by
  have p : Keeps s (s.put k v) keys := (Keeps.put s k v).mono fun j hj => by
    rw [List.mem_singleton] at hj
    exact hj ▸ h
  simp only [State.set]
  split
  · exact Keeps.refl s keys
  · split
    · split
      · exact p.trans (Keeps.post _ k keys)
      · exact p
    · exact p

theorem Keeps.setN (s : State) (k n : Nat) {keys : List Nat} (h : k ∈ keys) : Keeps s (s.setN k n) keys := Keeps.set s k _ h

theorem Keeps.setZ (s : State) (k : Nat) (z : Int) {keys : List Nat} (h : k ∈ keys) : Keeps s (s.setZ k z) keys :=
  Keeps.set s k _ h

theorem Keeps.setB (s : State) (k : Nat) (b : Bytes) {keys : List Nat} (h : k ∈ keys) : Keeps s (s.setB k b) keys :=
  Keeps.set s k _ h

theorem Keeps.add (s : State) (k d : Nat) {keys : List Nat} (h : k ∈ keys) : Keeps s (s.add k d) keys := Keeps.set s k _ h

theorem Keeps.bump (s : State) (k : Nat) {keys : List Nat} (h : k ∈ keys) : Keeps s (s.bump k) keys := Keeps.set s k _ h

theorem Keeps.setFlag (s : State) (k i : Nat) (on : Bool) {keys : List Nat} (h : k ∈ keys) : Keeps s (s.setFlag k i on) keys :=
  Keeps.set s k _ h

theorem Keeps.seal (s t : State) (keys : List Nat) : Keeps t (s.seal t) keys :=
  ⟨fun _ _ _ => rfl, fun _ => rfl, fun _ => rfl, ⟨[], by simp, by simp⟩, rfl⟩

theorem Keeps.clear (s : State) (l : List Nat) {keys : List Nat} (h : ∀ k ∈ l, k ∈ keys) : Keeps s (s.clear l) keys := by
  simp only [State.clear]
  induction l generalizing s with
  | nil => exact Keeps.refl s keys
  | cons k r ih =>
    simp only [List.foldl_cons]
    exact (Keeps.set s k _ (h k (List.mem_cons_self ..))).trans (ih _ fun j hj => h j (List.mem_cons_of_mem _ hj))

theorem Keeps.each {α : Type} (s : State) (l : List α) (f : State → α → State) {keys : List Nat}
    (h : ∀ t, ∀ a ∈ l, Keeps t (f t a) keys) : Keeps s (s.each l f) keys := by
  simp only [State.each]
  induction l generalizing s with
  | nil => exact Keeps.refl s keys
  | cons a r ih =>
    simp only [List.foldl_cons]
    exact (h s a (List.mem_cons_self ..)).trans (ih _ fun t b hb => h t b (List.mem_cons_of_mem _ hb))

/-- A change of what the units hold, made on both sides. -/
theorem Keeps.update {s t : State} {keys : List Nat} (h : Keeps s t keys) (f : State → State)
    (hraw : ∀ u k, (f u).raw k = u.raw k) (hmem : ∀ u, (f u).mem = u.mem) (hbox : ∀ u, (f u).boxes = u.boxes)
    (hout : ∀ u, (f u).out = u.out) (hrest : ∀ u, State.rest (f u) = State.rest (f (State.rest u))) : Keeps (f s) (f t) keys := by
  obtain ⟨h1, h2, h3, ⟨l, h4, h4'⟩, h5⟩ := h
  refine ⟨fun k a b => ?_, fun a => ?_, fun n => ?_, ⟨l, ?_, h4'⟩, ?_⟩
  · rw [hraw, hraw]
    exact h1 k a b
  · rw [hmem, hmem]
    exact h2 a
  · simp only [State.box, hbox]
    exact h3 n
  · rw [hout, hout]
    exact h4
  · rw [hrest t, hrest s, h5]

/-! What `Keeps` says of each part. -/

theorem Keeps.raw {s t : State} {keys : List Nat} (h : Keeps s t keys) {k : Nat} (hk : k ∉ keys) (hl : k ≠ Entry.canEventsLost) :
    t.raw k = s.raw k := h.1 k hk hl

theorem Keeps.n {s t : State} {keys : List Nat} (h : Keeps s t keys) {k : Nat} (hk : k ∉ keys) (hl : k ≠ Entry.canEventsLost) :
    t.n k = s.n k := State.n_congr (h.1 k hk hl)

theorem Keeps.mem {s t : State} {keys : List Nat} (h : Keeps s t keys) (a : Nat) : Memory.read t.mem a = Memory.read s.mem a := h.2.1 a

theorem Keeps.box {s t : State} {keys : List Nat} (h : Keeps s t keys) (fn : Nat) : mailboxRest (t.box fn) = mailboxRest (s.box fn) :=
  h.2.2.1 fn

theorem Keeps.out {s t : State} {keys : List Nat} (h : Keeps s t keys) : ∃ l, t.out = s.out ++ l ∧ ∀ o ∈ l, isInterrupt o := h.2.2.2.1

theorem Keeps.rest {s t : State} {keys : List Nat} (h : Keeps s t keys) : State.rest t = State.rest s := h.2.2.2.2

theorem Keeps.part {s t : State} {keys : List Nat} (h : Keeps s t keys) : t.part = s.part :=
  (congrArg (fun u : State => u.part) h.rest : (State.rest t).part = (State.rest s).part)

/-! What a set entry holds. -/

theorem State.raw_set (s : State) (k : Nat) (v : Value) (h : k ≠ Entry.canEventsLost) : (s.set k v).raw k = v := by
  simp only [State.set]
  split
  · assumption
  · have hp : (s.put k v).raw k = v := by rw [State.raw_put, if_pos rfl]
    split
    · split
      · rw [(Keeps.post (s.put k v) k []).raw (by simp) h, hp]
      · exact hp
    · exact hp

theorem State.raw_set_ne (s : State) {k j : Nat} (v : Value) (h : k ≠ j) (hl : j ≠ Entry.canEventsLost) :
    (s.set k v).raw j = s.raw j := (Keeps.set s k v (List.mem_singleton_self k)).raw (by simpa using h.symm) hl

theorem State.n_setN (s : State) (k n : Nat) (h : k ≠ Entry.canEventsLost) : (s.setN k n).n k = n := by
  simp only [State.n, State.setN, State.raw_set s k _ h, Value.toInt, Int.toNat_natCast]

theorem State.n_setN_ne (s : State) {k j : Nat} (n : Nat) (h : k ≠ j) (hl : j ≠ Entry.canEventsLost) :
    (s.setN k n).n j = s.n j := State.n_congr (State.raw_set_ne s _ h hl)

end Sys2Proof.Machine
end

