-- ==== Sys2Proof/Laws/Counters.lean ====
section
/-! SUPPORT. What entries read after a write of another entry, after a count, and after the epochs are brought up to date. -/

namespace Sys2Proof.Machine

open Sys2Proof

@[simp] theorem State.seal_rest (s t : State) : State.rest (s.seal t) = State.rest t := rfl

@[simp] theorem State.seal_raw (s t : State) (k : Nat) : (s.seal t).raw k = t.raw k := rfl
@[simp] theorem State.seal_n (s t : State) (k : Nat) : (s.seal t).n k = t.n k := rfl
@[simp] theorem State.seal_b (s t : State) (k : Nat) : (s.seal t).b k = t.b k := rfl
@[simp] theorem State.seal_z (s t : State) (k : Nat) : (s.seal t).z k = t.z k := rfl

theorem State.z_setZ (s : State) (k : Nat) (z : Int) (h : k ≠ Entry.canEventsLost) : (s.setZ k z).z k = z := by
  simp only [State.z, State.setZ, State.raw_set s k _ h, Value.toInt]

theorem State.b_setB (s : State) (k : Nat) (b : Bytes) (h : k ≠ Entry.canEventsLost) : (s.setB k b).b k = b := by
  simp only [State.b, State.setB, State.raw_set s k _ h, Value.toBytes]

theorem State.raw_setN_ne (s : State) {k j n : Nat} (h : k ≠ j) (hl : j ≠ Entry.canEventsLost) :
    (s.setN k n).raw j = s.raw j := State.raw_set_ne s _ h hl

theorem State.raw_setZ_ne (s : State) {k j : Nat} {n : Int} (h : k ≠ j) (hl : j ≠ Entry.canEventsLost) :
    (s.setZ k n).raw j = s.raw j := State.raw_set_ne s _ h hl

theorem State.raw_setB_ne (s : State) {k j : Nat} {n : Bytes} (h : k ≠ j) (hl : j ≠ Entry.canEventsLost) :
    (s.setB k n).raw j = s.raw j := State.raw_set_ne s _ h hl

/-- The state after reset of a part. -/
def ofPart (p : Part) : State := { State.reset with part := p }

theorem State.row_part (s : State) (k : Nat) : s.row k = (ofPart s.part).row k := State.row_congr (s := ofPart s.part) (t := s) rfl k

/-- The bits of an entry on a part. -/
def widthOf (p : Part) (k : Nat) : Nat := match (ofPart p).row k with | some r => 8 * r.ty.bytes | none => 32

theorem State.n_add (s : State) (k d w : Nat) (h : k ≠ Entry.canEventsLost) (hw : ∀ p, widthOf p k = w) :
    (s.add k d).n k = (s.n k + d) % 2 ^ w := by
  have e := hw s.part
  simp only [widthOf, ← State.row_part] at e
  simp only [State.add]
  rw [State.n_setN _ _ _ h]
  cases hr : s.row k with
  | none => rw [hr] at e; simp only at e ⊢; rw [← e]
  | some r => rw [hr] at e; simp only at e ⊢; rw [← e]

theorem State.n_bump (s : State) (k w : Nat) (h : k ≠ Entry.canEventsLost) (hw : ∀ p, widthOf p k = w) :
    (s.bump k).n k = (s.n k + 1) % 2 ^ w := State.n_add s k 1 w h hw

theorem State.raw_add_ne (s : State) {k j d : Nat} (h : k ≠ j) (hl : j ≠ Entry.canEventsLost) :
    (s.add k d).raw j = s.raw j := State.raw_set_ne s _ h hl

theorem State.raw_bump_ne (s : State) {k j : Nat} (h : k ≠ j) (hl : j ≠ Entry.canEventsLost) :
    (s.bump k).raw j = s.raw j := State.raw_set_ne s _ h hl

theorem State.n_bump_ne (s : State) {k j : Nat} (h : k ≠ j) (hl : j ≠ Entry.canEventsLost) :
    (s.bump k).n j = s.n j := State.n_congr (State.raw_set_ne s _ h hl)

theorem State.n_add_ne (s : State) {k j d : Nat} (h : k ≠ j) (hl : j ≠ Entry.canEventsLost) :
    (s.add k d).n j = s.n j := State.n_congr (State.raw_set_ne s _ h hl)

theorem State.z_congr {s t : State} {k : Nat} (h : t.raw k = s.raw k) : t.z k = s.z k := by simp only [State.z, h]

theorem State.b_congr {s t : State} {k : Nat} (h : t.raw k = s.raw k) : t.b k = s.b k := by simp only [State.b, h]

theorem State.on_eq (s : State) (k : Nat) : s.on k = decide (s.n k ≠ 0) := rfl
@[simp] theorem State.seal_on (s t : State) (k : Nat) : (s.seal t).on k = t.on k := rfl

/-- A bit that is clear, set by adding its power. -/
theorem testBit_add_pow (v i j : Nat) (h : v.testBit i = false) : (v + 2 ^ i).testBit j = if i = j then true else v.testBit j := by
  have hq : v / 2 ^ i % 2 = 0 := by rw [Nat.testBit_eq_decide_div_mod_eq] at h; simpa using h
  have e : v + 2 ^ i = 2 ^ i * (v / 2 ^ i + 1) + v % 2 ^ i := by rw [Nat.mul_add, Nat.mul_one]; have := Nat.div_add_mod v (2 ^ i); omega
  have lt : v % 2 ^ i < 2 ^ i := Nat.mod_lt _ (Nat.two_pow_pos i)
  rw [e, Nat.testBit_two_pow_mul_add _ lt]
  conv_rhs => rw [← Nat.div_add_mod v (2 ^ i), Nat.testBit_two_pow_mul_add _ lt]
  by_cases hj : j < i
  · rw [if_pos hj, if_neg (by omega), if_pos hj]
  · rw [if_neg hj, if_neg hj]
    by_cases he : i = j
    · subst he; rw [if_pos rfl, Nat.sub_self, Nat.testBit_zero]; simp; omega
    · rw [if_neg he]
      obtain ⟨k, hk⟩ : ∃ k, j - i = k + 1 := ⟨j - i - 1, by omega⟩
      rw [hk, Nat.testBit_succ, Nat.testBit_succ]; congr 1; omega

/-- One bit of a number set to a value: that bit is the value, and the others are as before. -/
theorem withBit_testBit (n i j : Nat) (b : Bool) : (withBit n i b).testBit j = if i = j then b else n.testBit j := by
  unfold withBit
  split
  · rename_i h
    cases b
    · have hle : 2 ^ i ≤ n := Nat.ge_two_pow_of_testBit h
      have hf : (n - 2 ^ i).testBit i = false := by
        rw [Nat.testBit_eq_decide_div_mod_eq] at h ⊢
        have hq := Nat.add_div_right (n - 2 ^ i) (Nat.two_pow_pos i)
        rw [Nat.sub_add_cancel hle] at hq
        simp only [decide_eq_true_eq, decide_eq_false_iff_not] at h ⊢
        omega
      have := testBit_add_pow (n - 2 ^ i) i j hf
      rw [Nat.sub_add_cancel hle] at this
      simp only [Bool.false_eq_true, if_false]
      split
      · rename_i e; subst e; exact hf
      · rename_i e; rw [if_neg e] at this; exact this.symm
    · simp only [if_true]; split
      · rename_i e; subst e; exact h
      · rfl
  · rename_i h
    simp only [Bool.not_eq_true] at h
    cases b
    · simp only [Bool.false_eq_true, if_false]; split
      · rename_i e; subst e; exact h
      · rfl
    · simp only [if_true]; exact testBit_add_pow n i j h

end Sys2Proof.Machine
end

