-- ==== Sys2Proof/Laws/Memory.lean ====
section
/-! SUPPORT. External memory: every operation keeps the canonical form; what a read answers after a write. -/

namespace Sys2Proof.Machine

open Sys2Proof

/-- Whether every listed address is above a bound. -/
def Memory.above (a : Nat) (m : List Host.Cell) : Prop := ∀ c ∈ m, a < c.1

theorem Memory.wf_cons {a : Nat} {v : Byte} {m : List Host.Cell} :
    Memory.wf ((a, v) :: m) = true ↔ v ≠ Memory.blank ∧ Memory.above a m ∧ Memory.wf m = true := by
  induction m generalizing a v with
  | nil => simp [Memory.wf, Memory.above]
  | cons e r ih =>
    obtain ⟨b, w⟩ := e
    simp only [Memory.wf, Bool.and_eq_true, decide_eq_true_eq]
    constructor
    · rintro ⟨⟨hv, hab⟩, hr⟩
      refine ⟨by simpa using hv, ?_, hr⟩
      intro c hc
      rcases List.mem_cons.1 hc with rfl | hc
      · exact hab
      · exact lt_trans hab ((ih.1 hr).2.1 c hc)
    · rintro ⟨hv, ha, hr⟩
      exact ⟨⟨by simpa using hv, ha _ (List.mem_cons_self ..)⟩, hr⟩

theorem Memory.read_above {m : List Host.Cell} {a : Nat} (h : Memory.above a m) : Memory.read m a = Memory.blank := by
  induction m with
  | nil => rfl
  | cons e r ih =>
    obtain ⟨b, w⟩ := e
    have hb : a < b := h (b, w) (List.mem_cons_self ..)
    simp only [Memory.read]
    rw [if_neg (by omega)]
    exact ih fun c hc => h c (List.mem_cons_of_mem _ hc)

theorem Memory.write_mem {m : List Host.Cell} {a : Nat} {v : Byte} {c : Host.Cell} (h : c ∈ Memory.write m a v) :
    c = (a, v) ∨ c ∈ m := by
  induction m with
  | nil =>
    simp only [Memory.write] at h
    split at h <;> simp_all
  | cons e r ih =>
    obtain ⟨b, w⟩ := e
    simp only [Memory.write] at h
    split at h
    · split at h
      · exact .inr h
      · rcases List.mem_cons.1 h with h | h
        · exact .inl h
        · exact .inr h
    · split at h
      · split at h
        · exact .inr (List.mem_cons_of_mem _ h)
        · rcases List.mem_cons.1 h with h | h
          · exact .inl h
          · exact .inr (List.mem_cons_of_mem _ h)
      · rcases List.mem_cons.1 h with h | h
        · exact .inr (h ▸ List.mem_cons_self ..)
        · rcases ih h with h | h
          · exact .inl h
          · exact .inr (List.mem_cons_of_mem _ h)

theorem Memory.write_wf {m : List Host.Cell} (a : Nat) (v : Byte) (h : Memory.wf m = true) :
    Memory.wf (Memory.write m a v) = true := by
  induction m with
  | nil =>
    simp only [Memory.write]
    split
    · rfl
    · simpa [Memory.wf] using ‹_›
  | cons e r ih =>
    obtain ⟨b, w⟩ := e
    obtain ⟨hw, hb, hr⟩ := Memory.wf_cons.1 h
    simp only [Memory.write]
    split
    · rename_i hab
      split
      · exact h
      · rename_i hv
        refine Memory.wf_cons.2 ⟨hv, ?_, h⟩
        intro c hc
        rcases List.mem_cons.1 hc with rfl | hc
        · exact hab
        · exact lt_trans hab (hb c hc)
    · split
      · rename_i hab
        subst hab
        split
        · exact hr
        · rename_i hv
          exact Memory.wf_cons.2 ⟨hv, hb, hr⟩
      · refine Memory.wf_cons.2 ⟨hw, ?_, ih hr⟩
        intro c hc
        rcases Memory.write_mem hc with rfl | hc
        · show b < a; omega
        · exact hb c hc

theorem Memory.writes_wf {m : List Host.Cell} (a : Nat) (b : Bytes) (h : Memory.wf m = true) :
    Memory.wf (Memory.writes m a b) = true := by
  induction b generalizing m a with
  | nil => exact h
  | cons x r ih => exact ih (a + 1) (Memory.write_wf a x h)

theorem Memory.filter_above {m : List Host.Cell} {a : Nat} (f : Host.Cell → Bool) (h : Memory.above a m) :
    Memory.above a (m.filter f) := fun c hc => h c (List.mem_of_mem_filter hc)

theorem Memory.filter_wf {m : List Host.Cell} (f : Host.Cell → Bool) (h : Memory.wf m = true) :
    Memory.wf (m.filter f) = true := by
  induction m with
  | nil => rfl
  | cons e r ih =>
    obtain ⟨b, w⟩ := e
    obtain ⟨hw, hb, hr⟩ := Memory.wf_cons.1 h
    simp only [List.filter]
    split
    · exact Memory.wf_cons.2 ⟨hw, Memory.filter_above f hb, ih hr⟩
    · exact ih hr

theorem Memory.blankRange_wf {m : List Host.Cell} (lo hi : Nat) (h : Memory.wf m = true) :
    Memory.wf (Memory.blankRange m lo hi) = true := Memory.filter_wf _ h

theorem Memory.read_write_same {m : List Host.Cell} (a : Nat) (v : Byte) (h : Memory.wf m = true) :
    Memory.read (Memory.write m a v) a = v := by
  induction m with
  | nil =>
    simp only [Memory.write]
    split
    · simp_all [Memory.read]
    · simp [Memory.read]
  | cons e r ih =>
    obtain ⟨b, w⟩ := e
    obtain ⟨hw, hb, hr⟩ := Memory.wf_cons.1 h
    simp only [Memory.write]
    split
    · rename_i hab
      split
      · rename_i hv
        rw [hv]
        refine Memory.read_above ?_
        intro c hc
        rcases List.mem_cons.1 hc with rfl | hc
        · exact hab
        · exact lt_trans hab (hb c hc)
      · simp [Memory.read]
    · split
      · rename_i hab
        subst hab
        split
        · rename_i hv
          rw [hv]
          exact Memory.read_above hb
        · simp [Memory.read]
      · rename_i h1 h2
        simp only [Memory.read]
        rw [if_neg (fun e => h2 e.symm)]
        exact ih hr

theorem Memory.read_write_ne {m : List Host.Cell} {a a' : Nat} (v : Byte) (h : a ≠ a') :
    Memory.read (Memory.write m a v) a' = Memory.read m a' := by
  induction m with
  | nil =>
    simp only [Memory.write]
    split
    · rfl
    · simp [Memory.read, h]
  | cons e r ih =>
    obtain ⟨b, w⟩ := e
    simp only [Memory.write]
    split
    · split
      · rfl
      · simp [Memory.read, h]
    · split
      · rename_i hab
        subst hab
        split
        · simp [Memory.read, h]
        · simp [Memory.read, h]
      · simp only [Memory.read, ih]

theorem Memory.read_writes_out {m : List Host.Cell} {a a' : Nat} (b : Bytes) (h : a' < a ∨ a + b.length ≤ a') :
    Memory.read (Memory.writes m a b) a' = Memory.read m a' := by
  induction b generalizing m a with
  | nil => rfl
  | cons x r ih =>
    simp only [List.length_cons] at h
    simp only [Memory.writes]
    rw [ih (by omega), Memory.read_write_ne x (by omega)]

theorem Memory.read_writes_in {m : List Host.Cell} {a i : Nat} (b : Bytes) (hm : Memory.wf m = true) (h : i < b.length) :
    Memory.read (Memory.writes m a b) (a + i) = b[i] := by
  induction b generalizing m a i with
  | nil => simp at h
  | cons x r ih =>
    simp only [Memory.writes]
    cases i with
    | zero =>
      rw [Memory.read_writes_out r (by omega)]
      simpa using Memory.read_write_same a x hm
    | succ j =>
      have hj : j < r.length := by simpa using h
      have := ih (m := Memory.write m a x) (a := a + 1) (Memory.write_wf a x hm) hj
      simpa [Nat.add_assoc, Nat.add_comm 1 j] using this

theorem Memory.read_filter {m : List Host.Cell} (f : Host.Cell → Bool) (a : Nat) (h : ∀ v, f (a, v) = true) :
    Memory.read (m.filter f) a = Memory.read m a := by
  induction m with
  | nil => rfl
  | cons e r ih =>
    obtain ⟨b, w⟩ := e
    simp only [List.filter, Memory.read]
    by_cases hb : b = a
    · subst hb
      simp [h, Memory.read]
    · split
      · simp only [Memory.read, if_neg hb, ih]
      · simp only [if_neg hb, ih]

theorem Memory.read_blankRange_in {m : List Host.Cell} {lo hi a : Nat} (h : lo ≤ a ∧ a < hi) :
    Memory.read (Memory.blankRange m lo hi) a = Memory.blank := by
  induction m with
  | nil => rfl
  | cons e r ih =>
    obtain ⟨b, w⟩ := e
    simp only [Memory.blankRange, List.filter] at ih ⊢
    split
    · rename_i hc
      have hb : b ≠ a := by
        rintro rfl
        simp at hc
        omega
      simp only [Memory.read, if_neg hb, ih]
    · exact ih

theorem Memory.read_blankRange_out {m : List Host.Cell} {lo hi a : Nat} (h : a < lo ∨ hi ≤ a) :
    Memory.read (Memory.blankRange m lo hi) a = Memory.read m a :=
  Memory.read_filter _ a fun _ => by simpa using h

/-- A store into a partition's range keeps the canonical form. -/
theorem State.writeMem_wf (s : State) (p o : Nat) (b : Bytes) (h : Memory.wf s.mem = true) :
    Memory.wf (s.writeMem p o b).mem = true := by
  simp only [State.writeMem]
  split
  · exact Memory.writes_wf _ _ h
  · exact h

/-- A write stores as many bytes as it is given. -/
@[simp] theorem State.merged_length (s : State) (a : Nat) (b : Bytes) : (s.merged a b).length = b.length := by
  unfold State.merged
  split <;> simp

/-- Without unreadable blocks a write stores its bytes. -/
theorem State.merged_good (s : State) (a : Nat) (b : Bytes) (h : s.security.badBlocks = []) : s.merged a b = b := by
  simp [State.merged, h]

/-- A store changes only the stored bytes. -/
theorem State.writeMem_out (s : State) (p o : Nat) (b : Bytes) {a : Nat}
    (h : a < s.memBase p + o ∨ s.memBase p + o + b.length ≤ a) :
    Memory.read (s.writeMem p o b).mem a = Memory.read s.mem a := by
  simp only [State.writeMem]
  split
  · exact Memory.read_writes_out _ (by simpa using h)
  · rfl

/-- A read of what was just stored gives it. -/
theorem Memory.reads_writes {m : List Host.Cell} (a : Nat) (b : Bytes) (hm : Memory.wf m = true) :
    Memory.reads (Memory.writes m a b) a b.length = b := by
  apply List.ext_getElem
  · simp [Memory.reads]
  · intro i h1 h2
    simp only [Memory.reads, List.getElem_map, List.getElem_range]
    exact Memory.read_writes_in b hm h2

/-- A partition reads back what it stored within its range where no block is unreadable. -/
theorem State.readMem_writeMem (s : State) (p o : Nat) (b : Bytes) (hm : Memory.wf s.mem = true) (h : s.inRange p o b.length = true)
    (hb : s.security.badBlocks = []) :
    (s.writeMem p o b).readMem p o b.length = b := by
  have e : (s.writeMem p o b).mem = Memory.writes s.mem (s.memBase p + o) b := by
    simp only [State.writeMem, if_pos h, State.merged_good _ _ _ hb]
  have g : (s.writeMem p o b).memBase p = s.memBase p := by simp only [State.writeMem, if_pos h]; rfl
  simp only [State.readMem, e, g]
  exact Memory.reads_writes _ b hm

end Sys2Proof.Machine
end

