-- ==== Sys2Proof/WellFormed.lean ====
section
/-! DEFINITION. Which operands a command can have: the widths and lists that the rules give them. -/

namespace Sys2Proof

open Sys2Proof.Machine

/-- A report names units that R410 lists. -/
def reportWellFormed (r : FaultReport) : Bool := unitListed r.reporter && unitListed r.suspect

/-- A baton's payload has the length that its descriptor gives, which is at most 4 KiB (R14). -/
def batonWellFormed (b : Baton) : Bool := b.payload.length == b.payloadBytes.toNat && b.payloadBytes.toNat ≤ 4096

/-- A write to BAR2's 128 KiB window lies inside it (R56). -/
def barWriteWellFormed (w : BarWrite) : Bool := w.offset.toNat + w.data.length ≤ 0x20000

/-- Whether a command's operands are among those that its rule admits. -/
def Instr.wellFormed (i : Instr) : Bool :=
  match i with
  | .supplyMonitorSample mv => mv.length == 8
  | .resetAsserted => true
  | .resetReleased _ => true
  | .junctionMinReached _ => true
  | .restart _ => true
  | .sysclkFailure => true
  | .junctionSensorRead tenths => tenths.length == 24
  | .paceMonitorWindow _ _ => true
  | .paceControlInterval _ _ => true
  | .readVoutCheck _ => true
  | .watchdogExpiry reporter suspect baton => unitListed reporter && unitListed suspect && baton.all batonWellFormed
  | .rclkFault _ => true
  | .rclkRecovered _ => true
  | .batonSend b => batonWellFormed b
  | .batonReceive _ _ _ => true
  | .canExpeditedRead f => f.data.length ≤ 56
  | .canExpeditedWrite f => f.data.length ≤ 56
  | .canInitiateSegmentedRead f => f.data.length ≤ 56
  | .canInitiateSegmentedWrite f => f.data.length ≤ 56
  | .canDataSegment g => g.data.length ≤ 60
  | .canCancel f => f.data.length ≤ 56
  | .canFrameIgnored _ => true
  | .segmentTimeout => true
  | .canBusOffRecovery => true
  | .jalmonEventSend => true
  | .mbxRead _ writes _ _ => writes.all barWriteWellFormed
  | .mbxWrite _ writes _ _ => writes.all barWriteWellFormed
  | .mbxUnknownCommand _ writes c => writes.all barWriteWellFormed && c.command.toNat ≠ 1 && c.command.toNat ≠ 2
  | .mbxRequestComplete _ => true
  | .mbxAck _ _ => true
  | .entryWrite _ _ _ _ => true
  | .save => true
  | .saveComplete _ => true
  | .restoreDefaults => true
  | .ethFrameReceived _ _ _ _ => true
  | .membershipReportTimer _ => true
  | .ethLinkDown _ => true
  | .ethLinkUp _ => true
  | .mdioRead _ => true
  | .mdioWrite _ => true
  | .mdioNoOperation _ => true
  | .mdioTransactionDone _ => true
  | .accessUnitRelease _ => true
  | .jitterTimeout _ => true
  | .decodeStart _ => true
  | .decodeComplete _ _ => true
  | .noDataTimeout _ => true
  | .streamEnable _ => true
  | .streamDisable _ => true
  | .streamStopComplete _ => true
  | .csiPacketReceived _ _ => true
  | .csiLineReceived _ _ => true
  | .csiFrameEnd _ _ _ => true
  | .pairEnable _ => true
  | .pairDisable _ => true
  | .pairStopComplete _ => true
  | .stereoPassStart _ => true
  | .stereoFrameComplete _ => true
  | .flowFrameStart _ => true
  | .flowFrameComplete _ => true
  | .trueFrameReady _ => true
  | .choicePoint _ => true
  | .genModeWrite _ _ => true
  | .renderReset _ _ => true
  | .doorbell _ _ _ => true
  | .ringNop _ => true
  | .ringCompute _ => true
  | .ringCopy _ => true
  | .copyComplete _ _ => true
  | .hostTransferFailure _ => true
  | .ringFence _ => true
  | .ringMalformedEntry _ => true
  | .passOpen _ => true
  | .batchBin _ => true
  | .partialRenderDone _ => true
  | .queryBatch _ => true
  | .rayBatchComplete _ => true
  | .tileStart _ => true
  | .tileFinished _ _ => true
  | .passComplete _ => true
  | .passTimeout _ => true
  | .portEnable _ => true
  | .portDisable _ => true
  | .portStopComplete _ => true
  | .portFrameStart .. => true
  | .composePoint _ => true
  | .compositionComplete _ _ => true
  | .composeLate _ => true
  | .routeTagCheck _ _ _ _ => true
  | .crcRectangleCheck _ _ _ _ => true
  | .piuDisagreement => true
  | .layerTableWrite _ _ => true
  | .safeAck _ _ => true
  | .fsyncEdge _ _ _ => true
  | .genlockLost _ => true
  | .lapStart _ => true
  | .lapBoundary _ _ => true
  | .nop _ _ => true
  | .barrier _ _ => true
  | .model _ _ _ => true
  | .complete _ _ _ => true
  | .endLegs _ _ => true
  | .convert _ _ _ _ => true
  | .mma _ _ _ _ => true
  | .rescale _ _ _ => true
  | .outlier _ _ _ => true
  | .wide _ _ _ _ _ => true
  | .gradconv _ _ => true
  | .mompack _ _ _ => true
  | .momunpack _ _ _ _ => true
  | .masterupd _ _ _ => true
  | .stats _ _ _ _ _ _ => true
  | .convwin _ _ _ _ _ => true
  | .expand _ _ _ _ => true
  | .groupconv _ _ _ _ _ _ => true
  | .blockconv _ _ _ _ _ _ => true
  | .pool _ _ _ _ => true
  | .rescaleRelu _ _ _ => true
  | .wideRelu _ _ _ _ _ => true
  | .planarise _ _ _ => true
  | .stage _ _ => true
  | .stageLoadComplete _ => true
  | .unload _ _ => true
  | .fallbackLoadComplete _ => true
  | .herdReset _ _ => true
  | .herdResetComplete _ _ => true
  | .adaptBudgetPeriod _ => true
  | .selectVersion _ _ => true
  | .discardCandidate _ _ => true
  | .clearAdaptedVersions _ _ => true
  | .unknownAdaptOp _ _ => true
  | .partitionEnable _ => true
  | .partitionLive _ => true
  | .partitionDisable _ => true
  | .partitionTeardownDone _ => true
  | .scrubGranuleDone _ _ _ => true
  | .scheduleWrite _ _ => true
  | .windowOpen _ _ => true
  | .windowClose _ _ _ => true
  | .zennikLinkTrained _ => true
  | .zennikChainReceived _ _ => true
  | .zennikKeyExchange _ _ => true
  | .sessionRetryTimer _ => true
  | .zennikRekey _ _ => true
  | .trngHealthFailure => true
  | .ideKmMessage _ _ => true
  | .ideCheckFailure _ => true
  | .reportRequest _ _ => true
  | .reportComplete _ => true
  | .faultReport r _ _ hit _ => hit.engines.all unitListed && reportWellFormed r
  | .wiringFault u _ => unitListed u
  | .quietPeriodEnd u _ _ => unitListed u
  | .recoveryTestComplete u _ _ => unitListed u
  | .safeReqAsserted _ => true
  | .safeReqReleased _ => true
  | .safeReqHeld _ => true
  | .safeReqToggleQuiet => true
  | .inputGlitchRejected => true
  | .firmwareData _ => true
  | .firmwareNoAction => true
  | .firmwareStage => true
  | .firmwareVerifyComplete _ => true
  | .firmwareSwitch => true
  | .firmwareDiscard => true
  | .firmwareSwitchComplete => true
  | .pcieReset => true
  | .pcieLinkDown => true
  | .pcieFlr _ => true
  | .pcieConfigRequest => true
  | .msixHoldoffExpiry _ _ => true
  | .zennikFrameReceived _ _ => true
  | .zennikRetrainComplete _ => true
  | .zennikNakReceived _ _ => true
  | .zennikAckTimeout _ => true
  | .zennikRouteFrame _ _ => true
  | .routeAnnounceTimer => true
  | .routeChangeApply _ => true
  | .canBusError _ => true
  | .zennikLaneError _ _ _ => true
  | .pcieLinkUp _ _ => true
  | .csiPortActive _ => true
  | .csiPortDown _ => true

end Sys2Proof
end

