-- ==== Sys2Proof/Laws/PerInstr.lean ====
section
/-! SUPPORT. Of every command by itself: a well-formed one names only units that R410 lists. -/

namespace Sys2Proof.Laws.WellFormed

open Sys2Proof Sys2Proof.Machine

/-- The units that a command names. -/
def units (i : Instr) : List UnitCode :=
  match i with
  | .supplyMonitorSample _ => []
  | .resetAsserted => []
  | .resetReleased _ => []
  | .junctionMinReached _ => []
  | .restart _ => []
  | .sysclkFailure => []
  | .junctionSensorRead _ => []
  | .paceMonitorWindow _ _ => []
  | .paceControlInterval _ _ => []
  | .readVoutCheck _ => []
  | .watchdogExpiry reporter suspect _ => [reporter, suspect]
  | .rclkFault _ => []
  | .rclkRecovered _ => []
  | .batonSend _ => []
  | .batonReceive _ _ _ => []
  | .canExpeditedRead _ => []
  | .canExpeditedWrite _ => []
  | .canInitiateSegmentedRead _ => []
  | .canInitiateSegmentedWrite _ => []
  | .canDataSegment _ => []
  | .canCancel _ => []
  | .canFrameIgnored _ => []
  | .segmentTimeout => []
  | .canBusOffRecovery => []
  | .jalmonEventSend => []
  | .mbxRead _ _ _ _ => []
  | .mbxWrite _ _ _ _ => []
  | .mbxUnknownCommand _ _ _ => []
  | .mbxRequestComplete _ => []
  | .mbxAck _ _ => []
  | .entryWrite _ _ _ _ => []
  | .save => []
  | .saveComplete _ => []
  | .restoreDefaults => []
  | .ethFrameReceived _ _ _ _ => []
  | .membershipReportTimer _ => []
  | .ethLinkDown _ => []
  | .ethLinkUp _ => []
  | .mdioRead _ => []
  | .mdioWrite _ => []
  | .mdioNoOperation _ => []
  | .mdioTransactionDone _ => []
  | .accessUnitRelease _ => []
  | .jitterTimeout _ => []
  | .decodeStart _ => []
  | .decodeComplete _ _ => []
  | .noDataTimeout _ => []
  | .streamEnable _ => []
  | .streamDisable _ => []
  | .streamStopComplete _ => []
  | .csiPacketReceived _ _ => []
  | .csiLineReceived _ _ => []
  | .csiFrameEnd _ _ _ => []
  | .pairEnable _ => []
  | .pairDisable _ => []
  | .pairStopComplete _ => []
  | .stereoPassStart _ => []
  | .stereoFrameComplete _ => []
  | .flowFrameStart _ => []
  | .flowFrameComplete _ => []
  | .trueFrameReady _ => []
  | .choicePoint _ => []
  | .genModeWrite _ _ => []
  | .renderReset _ _ => []
  | .doorbell _ _ _ => []
  | .ringNop _ => []
  | .ringCompute _ => []
  | .ringCopy _ => []
  | .copyComplete _ _ => []
  | .hostTransferFailure _ => []
  | .ringFence _ => []
  | .ringMalformedEntry _ => []
  | .passOpen _ => []
  | .batchBin _ => []
  | .partialRenderDone _ => []
  | .queryBatch _ => []
  | .rayBatchComplete _ => []
  | .tileStart _ => []
  | .tileFinished _ _ => []
  | .passComplete _ => []
  | .passTimeout _ => []
  | .portEnable _ => []
  | .portDisable _ => []
  | .portStopComplete _ => []
  | .portFrameStart _ => []
  | .composePoint _ => []
  | .compositionComplete _ _ => []
  | .composeLate _ => []
  | .routeTagCheck _ _ _ _ => []
  | .crcRectangleCheck _ _ _ _ => []
  | .piuDisagreement => []
  | .layerTableWrite _ _ => []
  | .safeAck _ _ => []
  | .fsyncEdge _ _ _ => []
  | .genlockLost _ => []
  | .lapStart _ => []
  | .lapBoundary _ _ => []
  | .nop _ _ => []
  | .barrier _ _ => []
  | .model _ _ _ => []
  | .complete _ _ _ => []
  | .endLegs _ _ => []
  | .convert _ _ _ _ => []
  | .mma _ _ _ _ => []
  | .rescale _ _ _ => []
  | .outlier _ _ _ => []
  | .wide _ _ _ _ _ => []
  | .gradconv _ _ => []
  | .mompack _ _ _ => []
  | .momunpack _ _ _ _ => []
  | .masterupd _ _ _ => []
  | .stats _ _ _ _ _ _ => []
  | .convwin _ _ _ _ _ => []
  | .expand _ _ _ _ => []
  | .groupconv _ _ _ _ _ _ => []
  | .blockconv _ _ _ _ _ _ => []
  | .pool _ _ _ _ => []
  | .rescaleRelu _ _ _ => []
  | .wideRelu _ _ _ _ _ => []
  | .planarise _ _ _ => []
  | .stage _ _ => []
  | .stageLoadComplete _ => []
  | .unload _ _ => []
  | .fallbackLoadComplete _ => []
  | .herdReset _ _ => []
  | .herdResetComplete _ _ => []
  | .adaptBudgetPeriod _ => []
  | .selectVersion _ _ => []
  | .discardCandidate _ _ => []
  | .clearAdaptedVersions _ _ => []
  | .unknownAdaptOp _ _ => []
  | .partitionEnable _ => []
  | .partitionLive _ => []
  | .partitionDisable _ => []
  | .partitionTeardownDone _ => []
  | .scrubGranuleDone _ _ _ => []
  | .scheduleWrite _ _ => []
  | .windowOpen _ _ => []
  | .windowClose _ _ _ => []
  | .zennikLinkTrained _ => []
  | .zennikChainReceived _ _ => []
  | .zennikKeyExchange _ _ => []
  | .sessionRetryTimer _ => []
  | .zennikRekey _ _ => []
  | .trngHealthFailure => []
  | .ideKmMessage _ _ => []
  | .ideCheckFailure _ => []
  | .reportRequest _ _ => []
  | .reportComplete _ => []
  | .faultReport r _ _ hit _ => r.reporter :: r.suspect :: hit.engines
  | .wiringFault u _ => [u]
  | .quietPeriodEnd u _ _ => [u]
  | .recoveryTestComplete u _ _ => [u]
  | .safeReqAsserted _ => []
  | .safeReqReleased _ => []
  | .safeReqHeld _ => []
  | .safeReqToggleQuiet => []
  | .inputGlitchRejected => []
  | .firmwareData _ => []
  | .firmwareNoAction => []
  | .firmwareStage => []
  | .firmwareVerifyComplete _ => []
  | .firmwareSwitch => []
  | .firmwareDiscard => []
  | .firmwareSwitchComplete => []
  | .pcieReset => []
  | .pcieLinkDown => []
  | .pcieFlr _ => []
  | .pcieConfigRequest => []
  | .msixHoldoffExpiry _ _ => []
  | .zennikFrameReceived _ _ => []
  | .zennikRetrainComplete _ => []
  | .zennikNakReceived _ _ => []
  | .zennikAckTimeout _ => []
  | .zennikRouteFrame _ _ => []
  | .routeAnnounceTimer => []
  | .routeChangeApply _ => []
  | .canBusError _ => []
  | .zennikLaneError _ _ _ => []
  | .pcieLinkUp _ _ => []
  | .csiPortActive _ => []
  | .csiPortDown _ => []

/-- A well-formed command names only units that exist on some part. -/
def Statement (i : Instr) : Prop := i.wellFormed = true → ∀ u ∈ units i, unitListed u = true

theorem none_named (i : Instr) (h : units i = []) : Statement i := by
  intro _ u hu; rw [h] at hu; cases hu

theorem supplyMonitorSample (mv : List Nat) : Statement (.supplyMonitorSample mv) := none_named _ rfl
theorem resetAsserted : Statement (.resetAsserted) := none_named _ rfl
theorem resetReleased (env : BootEnv) : Statement (.resetReleased env) := none_named _ rfl
theorem junctionMinReached (env : BootEnv) : Statement (.junctionMinReached env) := none_named _ rfl
theorem restart (env : BootEnv) : Statement (.restart env) := none_named _ rfl
theorem sysclkFailure : Statement (.sysclkFailure) := none_named _ rfl
theorem junctionSensorRead (tenths : List Int) : Statement (.junctionSensorRead tenths) := none_named _ rfl
theorem paceMonitorWindow (h : Fin 8) (pace : Nat) : Statement (.paceMonitorWindow h pace) := none_named _ rfl
theorem paceControlInterval (readback : Option Nat) (q : PaceReadings) : Statement (.paceControlInterval readback q) :=
  none_named _ rfl
theorem readVoutCheck (reading : Option Nat) : Statement (.readVoutCheck reading) := none_named _ rfl
theorem watchdogExpiry (reporter suspect : UnitCode) (baton : Option Baton) : Statement (.watchdogExpiry reporter suspect baton) := by
  intro h v hv
  simp only [Instr.wellFormed, Bool.and_eq_true] at h
  simp only [units, List.mem_cons, List.not_mem_nil, or_false] at hv
  rcases hv with rfl | rfl
  · exact h.1.1
  · exact h.1.2
theorem rclkFault (n : Fin 16) : Statement (.rclkFault n) := none_named _ rfl
theorem rclkRecovered (n : Fin 16) : Statement (.rclkRecovered n) := none_named _ rfl
theorem batonSend (b : Baton) : Statement (.batonSend b) := none_named _ rfl
theorem batonReceive (station : BitVec 16) (queue : BitVec 6) (count : Nat) : Statement (.batonReceive station queue count) :=
  none_named _ rfl
theorem canExpeditedRead (f : JalmonFrame) : Statement (.canExpeditedRead f) := none_named _ rfl
theorem canExpeditedWrite (f : JalmonFrame) : Statement (.canExpeditedWrite f) := none_named _ rfl
theorem canInitiateSegmentedRead (f : JalmonFrame) : Statement (.canInitiateSegmentedRead f) := none_named _ rfl
theorem canInitiateSegmentedWrite (f : JalmonFrame) : Statement (.canInitiateSegmentedWrite f) := none_named _ rfl
theorem canDataSegment (g : JalmonSegment) : Statement (.canDataSegment g) := none_named _ rfl
theorem canCancel (f : JalmonFrame) : Statement (.canCancel f) := none_named _ rfl
theorem canFrameIgnored (why : IgnoredFrame) : Statement (.canFrameIgnored why) := none_named _ rfl
theorem segmentTimeout : Statement (.segmentTimeout) := none_named _ rfl
theorem canBusOffRecovery : Statement (.canBusOffRecovery) := none_named _ rfl
theorem jalmonEventSend : Statement (.jalmonEventSend) := none_named _ rfl
theorem mbxRead (fn : Fin 9) (writes : List BarWrite) (index : BitVec 16) (sub : BitVec 8) : Statement (.mbxRead fn writes index sub) :=
  none_named _ rfl
theorem mbxWrite (fn : Fin 9) (writes : List BarWrite) (index : BitVec 16) (sub : BitVec 8) : Statement (.mbxWrite fn writes index sub) :=
  none_named _ rfl
theorem mbxUnknownCommand (fn : Fin 9) (writes : List BarWrite) (c : MbxCommand) : Statement (.mbxUnknownCommand fn writes c) :=
  none_named _ rfl
theorem mbxRequestComplete (fn : Fin 9) : Statement (.mbxRequestComplete fn) := none_named _ rfl
theorem mbxAck (fn : Fin 9) (value : BitVec 32) : Statement (.mbxAck fn value) := none_named _ rfl
theorem entryWrite (who : Requester) (index : BitVec 16) (sub : BitVec 8) (value : Bytes) : Statement (.entryWrite who index sub value) :=
  none_named _ rfl
theorem save : Statement (.save) := none_named _ rfl
theorem saveComplete (ok : Bool) : Statement (.saveComplete ok) := none_named _ rfl
theorem restoreDefaults : Statement (.restoreDefaults) := none_named _ rfl
theorem ethFrameReceived (e : Fin 4) (f : EthFrame) (ms : Nat) (lines : List Nat) : Statement (.ethFrameReceived e f ms lines) :=
  none_named _ rfl
theorem membershipReportTimer (e : Fin 4) : Statement (.membershipReportTimer e) := none_named _ rfl
theorem ethLinkDown (e : Fin 4) : Statement (.ethLinkDown e) := none_named _ rfl
theorem ethLinkUp (e : Fin 4) : Statement (.ethLinkUp e) := none_named _ rfl
theorem mdioRead (command : BitVec 64) : Statement (.mdioRead command) := none_named _ rfl
theorem mdioWrite (command : BitVec 64) : Statement (.mdioWrite command) := none_named _ rfl
theorem mdioNoOperation (command : BitVec 64) : Statement (.mdioNoOperation command) := none_named _ rfl
theorem mdioTransactionDone (data : BitVec 16) : Statement (.mdioTransactionDone data) := none_named _ rfl
theorem accessUnitRelease (s : Fin 512) : Statement (.accessUnitRelease s) := none_named _ rfl
theorem jitterTimeout (s : Fin 512) : Statement (.jitterTimeout s) := none_named _ rfl
theorem decodeStart (d : Fin 8) : Statement (.decodeStart d) := none_named _ rfl
theorem decodeComplete (d : Fin 8) (r : DecodeResult) : Statement (.decodeComplete d r) := none_named _ rfl
theorem noDataTimeout (s : Fin 512) : Statement (.noDataTimeout s) := none_named _ rfl
theorem streamEnable (s : Fin 512) : Statement (.streamEnable s) := none_named _ rfl
theorem streamDisable (s : Fin 512) : Statement (.streamDisable s) := none_named _ rfl
theorem streamStopComplete (s : Fin 512) : Statement (.streamStopComplete s) := none_named _ rfl
theorem csiPacketReceived (c : Fin 4) (p : CsiPacket) : Statement (.csiPacketReceived c p) := none_named _ rfl
theorem csiLineReceived (c : Fin 4) (l : CsiLine) : Statement (.csiLineReceived c l) := none_named _ rfl
theorem csiFrameEnd (c : Fin 4) (vc : BitVec 4) (e : CsiEnd) : Statement (.csiFrameEnd c vc e) :=
  none_named _ rfl
theorem pairEnable (p : Fin 64) : Statement (.pairEnable p) := none_named _ rfl
theorem pairDisable (p : Fin 64) : Statement (.pairDisable p) := none_named _ rfl
theorem pairStopComplete (p : Fin 64) : Statement (.pairStopComplete p) := none_named _ rfl
theorem stereoPassStart (g : Fin 4) : Statement (.stereoPassStart g) := none_named _ rfl
theorem stereoFrameComplete (g : Fin 4) : Statement (.stereoFrameComplete g) := none_named _ rfl
theorem flowFrameStart (f : Fin 4) : Statement (.flowFrameStart f) := none_named _ rfl
theorem flowFrameComplete (f : Fin 4) : Statement (.flowFrameComplete f) := none_named _ rfl
theorem trueFrameReady (s : Fin 512) : Statement (.trueFrameReady s) := none_named _ rfl
theorem choicePoint (n : Fin 16) : Statement (.choicePoint n) := none_named _ rfl
theorem genModeWrite (s : Fin 512) (mode : BitVec 8) : Statement (.genModeWrite s mode) := none_named _ rfl
theorem renderReset (n : Fin 16) (value : Bool) : Statement (.renderReset n value) := none_named _ rfl
theorem doorbell (fn : Fin 9) (ring : BitVec 15) (tail : BitVec 32) : Statement (.doorbell fn ring tail) := none_named _ rfl
theorem ringNop (ring : BitVec 15) : Statement (.ringNop ring) := none_named _ rfl
theorem ringCompute (ring : BitVec 15) : Statement (.ringCompute ring) := none_named _ rfl
theorem ringCopy (ring : BitVec 15) : Statement (.ringCopy ring) := none_named _ rfl
theorem copyComplete (job : Nat) (hostData : Bytes) : Statement (.copyComplete job hostData) := none_named _ rfl
theorem hostTransferFailure (job : Nat) : Statement (.hostTransferFailure job) := none_named _ rfl
theorem ringFence (ring : BitVec 15) : Statement (.ringFence ring) := none_named _ rfl
theorem ringMalformedEntry (ring : BitVec 15) : Statement (.ringMalformedEntry ring) := none_named _ rfl
theorem passOpen (ring : BitVec 15) : Statement (.passOpen ring) := none_named _ rfl
theorem batchBin (ring : BitVec 15) : Statement (.batchBin ring) := none_named _ rfl
theorem partialRenderDone (p : Fin 8) : Statement (.partialRenderDone p) := none_named _ rfl
theorem queryBatch (ring : BitVec 15) : Statement (.queryBatch ring) := none_named _ rfl
theorem rayBatchComplete (u : Fin 4) : Statement (.rayBatchComplete u) := none_named _ rfl
theorem tileStart (t : TileFree) : Statement (.tileStart t) := none_named _ rfl
theorem tileFinished (t : Fin 16) (shaded : List (List Nat)) : Statement (.tileFinished t shaded) := none_named _ rfl
theorem passComplete (p : Fin 8) : Statement (.passComplete p) := none_named _ rfl
theorem passTimeout (p : Fin 8) : Statement (.passTimeout p) := none_named _ rfl
theorem portEnable (n : Fin 16) : Statement (.portEnable n) := none_named _ rfl
theorem portDisable (n : Fin 16) : Statement (.portDisable n) := none_named _ rfl
theorem portStopComplete (n : Fin 16) : Statement (.portStopComplete n) := none_named _ rfl
theorem portFrameStart (f : FrameStart) : Statement (.portFrameStart f) := none_named _ rfl
theorem composePoint (n : Fin 16) : Statement (.composePoint n) := none_named _ rfl
theorem compositionComplete (n : Fin 16) (crc : BitVec 32) : Statement (.compositionComplete n crc) := none_named _ rfl
theorem composeLate (n : Fin 16) : Statement (.composeLate n) := none_named _ rfl
theorem routeTagCheck (n : Fin 16) (layer : Fin 48) (crcA crcB : BitVec 32) : Statement (.routeTagCheck n layer crcA crcB) :=
  none_named _ rfl
theorem crcRectangleCheck (n : Fin 16) (rect : Fin 32) (crcA crcB : BitVec 32) : Statement (.crcRectangleCheck n rect crcA crcB) :=
  none_named _ rfl
theorem piuDisagreement : Statement (.piuDisagreement) := none_named _ rfl
theorem layerTableWrite (n : Fin 16) (table : Bytes) : Statement (.layerTableWrite n table) := none_named _ rfl
theorem safeAck (n : Fin 16) (value : Bool) : Statement (.safeAck n value) := none_named _ rfl
theorem fsyncEdge (n : Fin 16) (rising : Bool) (p : SyncPhase) : Statement (.fsyncEdge n rising p) :=
  none_named _ rfl
theorem genlockLost (n : Fin 16) : Statement (.genlockLost n) := none_named _ rfl
theorem lapStart (l : LapTrigger) : Statement (.lapStart l) := none_named _ rfl
theorem lapBoundary (k : Fin 128) (tenNs : Nat) : Statement (.lapBoundary k tenNs) := none_named _ rfl
theorem nop (k : Fin 128) (h : Fin 8) : Statement (.nop k h) := none_named _ rfl
theorem barrier (k : Fin 128) (h : Fin 8) : Statement (.barrier k h) := none_named _ rfl
theorem model (k : Fin 128) (h : Fin 8) (number : BitVec 15) : Statement (.model k h number) := none_named _ rfl
theorem complete (k : Fin 128) (h : Fin 8) (lane : BitVec 6) : Statement (.complete k h lane) := none_named _ rfl
theorem endLegs (k : Fin 128) (h : Fin 8) : Statement (.endLegs k h) := none_named _ rfl
theorem convert (u : OpUnit) (c : ConvConfig) (rows : List (List Nat)) (mask : List (List Bool)) : Statement (.convert u c rows mask) :=
  none_named _ rfl
theorem mma (u : OpUnit) (fmtA fmtW : Nat) (steps : List (List Nat × List Nat)) : Statement (.mma u fmtA fmtW steps) := none_named _ rfl
theorem rescale (u : OpUnit) (c : ConvConfig) (job : RescaleJob) : Statement (.rescale u c job) := none_named _ rfl
theorem outlier (u : OpUnit) (acts weights : List (List Nat)) : Statement (.outlier u acts weights) := none_named _ rfl
theorem wide (u : OpUnit) (c : ConvConfig) (acts weights : List (List Nat)) (job : RescaleJob) : Statement (.wide u c acts weights job) :=
  none_named _ rfl
theorem gradconv (u : OpUnit) (rows : List (List Nat)) : Statement (.gradconv u rows) := none_named _ rfl
theorem mompack (u : OpUnit) (second : Bool) (rows : List (List Nat)) : Statement (.mompack u second rows) := none_named _ rfl
theorem momunpack (u : OpUnit) (second : Bool) (rows : List (List Nat)) (exps : List Int) : Statement (.momunpack u second rows exps) :=
  none_named _ rfl
theorem masterupd (u : OpUnit) (masters updates : List Nat) : Statement (.masterupd u masters updates) := none_named _ rfl
theorem stats (u : OpUnit) (c : ConvConfig) (source : List (List Nat)) (codes : List (List Nat)) (exps : List Int) (mask : List (List Bool)) : Statement (.stats u c source codes exps mask) :=
  none_named _ rfl
theorem convwin (u : OpUnit) (g : AddrConfig) (fmtW : Nat) (x : Tensor) (w : List (List Nat)) : Statement (.convwin u g fmtW x w) :=
  none_named _ rfl
theorem expand (u : OpUnit) (g : AddrConfig) (x : Tensor) (firstRow : Nat) : Statement (.expand u g x firstRow) := none_named _ rfl
theorem groupconv (u : OpUnit) (g : AddrConfig) (c : ConvConfig) (x : Tensor) (w : List (List Nat)) (job : RescaleJob) : Statement (.groupconv u g c x w job) :=
  none_named _ rfl
theorem blockconv (u : OpUnit) (g : AddrConfig) (c : ConvConfig) (x : Tensor) (w : List (List Int)) (job : RescaleJob) : Statement (.blockconv u g c x w job) :=
  none_named _ rfl
theorem pool (u : OpUnit) (g : AddrConfig) (c : ConvConfig) (x : Tensor) : Statement (.pool u g c x) := none_named _ rfl
theorem rescaleRelu (u : OpUnit) (c : ConvConfig) (job : RescaleJob) : Statement (.rescaleRelu u c job) := none_named _ rfl
theorem wideRelu (u : OpUnit) (c : ConvConfig) (acts weights : List (List Nat)) (job : RescaleJob) : Statement (.wideRelu u c acts weights job) :=
  none_named _ rfl
theorem planarise (u : OpUnit) (g : AddrConfig) (rows : List (List Nat)) : Statement (.planarise u g rows) := none_named _ rfl
theorem stage (k : Fin 128) (value : Bool) : Statement (.stage k value) := none_named _ rfl
theorem stageLoadComplete (k : Fin 128) : Statement (.stageLoadComplete k) := none_named _ rfl
theorem unload (k : Fin 128) (value : Bool) : Statement (.unload k value) := none_named _ rfl
theorem fallbackLoadComplete (p : Fin 8) : Statement (.fallbackLoadComplete p) := none_named _ rfl
theorem herdReset (h : Fin 8) (value : Bool) : Statement (.herdReset h value) := none_named _ rfl
theorem herdResetComplete (h : Fin 8) (cleared : Bool) : Statement (.herdResetComplete h cleared) := none_named _ rfl
theorem adaptBudgetPeriod (p : Fin 8) : Statement (.adaptBudgetPeriod p) := none_named _ rfl
theorem selectVersion (p : Fin 8) (command : BitVec 64) : Statement (.selectVersion p command) := none_named _ rfl
theorem discardCandidate (p : Fin 8) (command : BitVec 64) : Statement (.discardCandidate p command) := none_named _ rfl
theorem clearAdaptedVersions (p : Fin 8) (command : BitVec 64) : Statement (.clearAdaptedVersions p command) := none_named _ rfl
theorem unknownAdaptOp (p : Fin 8) (command : BitVec 64) : Statement (.unknownAdaptOp p command) := none_named _ rfl
theorem partitionEnable (p : Fin 8) : Statement (.partitionEnable p) := none_named _ rfl
theorem partitionLive (p : Fin 8) : Statement (.partitionLive p) := none_named _ rfl
theorem partitionDisable (p : Fin 8) : Statement (.partitionDisable p) := none_named _ rfl
theorem partitionTeardownDone (p : Fin 8) : Statement (.partitionTeardownDone p) := none_named _ rfl
theorem scrubGranuleDone (p : Fin 8) (granule : Nat) (ok : Bool) : Statement (.scrubGranuleDone p granule ok) := none_named _ rfl
theorem scheduleWrite (p : Fin 8) (schedule : Bytes) : Statement (.scheduleWrite p schedule) := none_named _ rfl
theorem windowOpen (p : Fin 8) (w : Fin 64) : Statement (.windowOpen p w) := none_named _ rfl
theorem windowClose (p : Fin 8) (w : Fin 64) (lastLines : Option Nat) : Statement (.windowClose p w lastLines) := none_named _ rfl
theorem zennikLinkTrained (z : Fin 6) : Statement (.zennikLinkTrained z) := none_named _ rfl
theorem zennikChainReceived (z : Fin 6) (c : PeerChain) : Statement (.zennikChainReceived z c) := none_named _ rfl
theorem zennikKeyExchange (z : Fin 6) (signaturesOk : Bool) : Statement (.zennikKeyExchange z signaturesOk) := none_named _ rfl
theorem sessionRetryTimer (z : LinkName) : Statement (.sessionRetryTimer z) := none_named _ rfl
theorem zennikRekey (z : LinkName) (signaturesOk : Bool) : Statement (.zennikRekey z signaturesOk) := none_named _ rfl
theorem trngHealthFailure : Statement (.trngHealthFailure) := none_named _ rfl
theorem ideKmMessage (fn : Fin 9) (keys : Bool) : Statement (.ideKmMessage fn keys) := none_named _ rfl
theorem ideCheckFailure (fn : Fin 9) : Statement (.ideCheckFailure fn) := none_named _ rfl
theorem reportRequest (slot : Fin 10) (mask : BitVec 16) : Statement (.reportRequest slot mask) := none_named _ rfl
theorem reportComplete (slot : Fin 10) : Statement (.reportComplete slot) := none_named _ rfl
theorem faultReport (r : FaultReport) (ms : Nat) (integrity : Bool) (hit : DataHit) (freed : Option (Fin 262144)) : Statement (.faultReport r ms integrity hit freed) := by
  intro h v hv
  simp only [Instr.wellFormed, reportWellFormed, Bool.and_eq_true] at h
  simp only [units, List.mem_cons] at hv
  rcases hv with rfl | rfl | hv
  · exact h.2.1
  · exact h.2.2
  · exact List.all_eq_true.mp h.1 v hv
theorem wiringFault (u : UnitCode) (ms : Nat) : Statement (.wiringFault u ms) := by
  intro h v hv
  rw [units, List.mem_singleton] at hv
  subst hv; exact h
theorem quietPeriodEnd (u : UnitCode) (ms : Nat) (healthy : Bool) : Statement (.quietPeriodEnd u ms healthy) := by
  intro h v hv
  rw [units, List.mem_singleton] at hv
  subst hv; exact h
theorem recoveryTestComplete (u : UnitCode) (passed : Bool) (ms : Nat) : Statement (.recoveryTestComplete u passed ms) := by
  intro h v hv
  rw [units, List.mem_singleton] at hv
  subst hv; exact h
theorem safeReqAsserted (toggling : Bool) : Statement (.safeReqAsserted toggling) := none_named _ rfl
theorem safeReqReleased (toggling : Bool) : Statement (.safeReqReleased toggling) := none_named _ rfl
theorem safeReqHeld (ms : Nat) : Statement (.safeReqHeld ms) := none_named _ rfl
theorem safeReqToggleQuiet : Statement (.safeReqToggleQuiet) := none_named _ rfl
theorem inputGlitchRejected : Statement (.inputGlitchRejected) := none_named _ rfl
theorem firmwareData (data : Bytes) : Statement (.firmwareData data) := none_named _ rfl
theorem firmwareNoAction : Statement (.firmwareNoAction) := none_named _ rfl
theorem firmwareStage : Statement (.firmwareStage) := none_named _ rfl
theorem firmwareVerifyComplete (signatureOk : Bool) : Statement (.firmwareVerifyComplete signatureOk) := none_named _ rfl
theorem firmwareSwitch : Statement (.firmwareSwitch) := none_named _ rfl
theorem firmwareDiscard : Statement (.firmwareDiscard) := none_named _ rfl
theorem firmwareSwitchComplete : Statement (.firmwareSwitchComplete) := none_named _ rfl
theorem pcieReset : Statement (.pcieReset) := none_named _ rfl
theorem pcieLinkDown : Statement (.pcieLinkDown) := none_named _ rfl
theorem pcieFlr (fn : Fin 9) : Statement (.pcieFlr fn) := none_named _ rfl
theorem pcieConfigRequest : Statement (.pcieConfigRequest) := none_named _ rfl
theorem msixHoldoffExpiry (fn : Fin 9) (vector : BitVec 11) : Statement (.msixHoldoffExpiry fn vector) := none_named _ rfl
theorem zennikFrameReceived (z : Fin 6) (f : ZennikFrame) : Statement (.zennikFrameReceived z f) := none_named _ rfl
theorem zennikRetrainComplete (z : Fin 6) : Statement (.zennikRetrainComplete z) := none_named _ rfl
theorem zennikNakReceived (z : Fin 6) (lastGood : BitVec 64) : Statement (.zennikNakReceived z lastGood) := none_named _ rfl
theorem zennikAckTimeout (z : LinkName) : Statement (.zennikAckTimeout z) := none_named _ rfl
theorem zennikRouteFrame (z : Fin 6) (routes : List RouteEntry) : Statement (.zennikRouteFrame z routes) := none_named _ rfl
theorem routeAnnounceTimer : Statement (.routeAnnounceTimer) := none_named _ rfl
theorem routeChangeApply (device : BitVec 16) : Statement (.routeChangeApply device) := none_named _ rfl
theorem canBusError (e : CanBusError) : Statement (.canBusError e) := none_named _ rfl
theorem zennikLaneError (z : Fin 6) (lane : Fin 8) (excess : Bool) : Statement (.zennikLaneError z lane excess) := none_named _ rfl
theorem pcieLinkUp (width gen : Nat) : Statement (.pcieLinkUp width gen) := none_named _ rfl
theorem csiPortActive (c : Fin 4) : Statement (.csiPortActive c) := none_named _ rfl
theorem csiPortDown (c : Fin 4) : Statement (.csiPortDown c) := none_named _ rfl

end Sys2Proof.Laws.WellFormed
end

