-- ==== Sys2Proof/Machine/Tap.lean ====
section
/-! DEFINITION. The test access port: its instructions, the limit of confidential mode, and what it reads (R389, R483).  The opcode table
has no row of the port's pins, so no command selects an instruction (log entry 103). -/

namespace Sys2Proof.Machine

open Sys2Proof

/-- The IDCODE of the part (R483): 1, the manufacturer, the part number, revision 1. -/
def Part.idcode (p : Part) : Nat :=
  packFields [(1, 1), (11, 0x35A), (16, match p with | .hkz8840 => 0x8840 | .hkz8830 => 0x8830), (4, 1)]

/-- Whether R389 leaves an instruction in confidential mode. -/
def TapInstruction.public (i : TapInstruction) : Bool :=
  match i with
  | .bypass => true | .idcode => true | .samplePreload => true | .extest => true | .other _ => false

/-- The instruction that an instruction code selects: in confidential mode any but the public ones selects BYPASS (R389). -/
def State.tapSelects (s : State) (i : TapInstruction) : TapInstruction :=
  if s.confidential && !i.public then .bypass else i

/-- An instruction taken into the instruction register. -/
def State.tapSelect (s : State) (i : TapInstruction) : State := { s with tap := { s.tap with instruction := s.tapSelects i } }

/-- The bits of the data register that the instruction in force puts between TDI and TDO, first out first: a 0 for BYPASS, the 32 bits of
IDCODE, the boundary-scan cells for SAMPLE/PRELOAD and EXTEST; those of other instructions are not stated (IEEE 1149.1). -/
def State.tapRegister (s : State) : List Bool :=
  match s.tapSelects s.tap.instruction with
  | .idcode => (List.range 32).map fun i => s.part.idcode.testBit i
  | .samplePreload => s.tap.boundary
  | .extest => s.tap.boundary
  | _ => [false]

/-- The TAP reset: by TRST_n or Test-Logic-Reset. -/
def State.tapReset (s : State) : State := { s with tap := { s.tap with instruction := .idcode } }

end Sys2Proof.Machine
end

