-- ==== Sys2Proof/Tests/Slice0.lean ====
section
/-! SUPPORT. Ill-formed commands that are refused, single steps worked out by hand, and witnesses that meet the hypotheses of the
statements. -/

namespace Sys2Proof.Tests

open Sys2Proof Sys2Proof.Machine

-- One theorem after the other: their evaluations together would need more memory than one needs.
set_option Elab.async false

/-- Entries with integer values. -/
def ints (l : List (Nat × Int)) : List (Nat × Value) := l.map fun e => (e.1, .int e.2)

/-- A device whose units work: it holds the entries `l`, its management cores run, its links are good, and partition 1 is LIVE with
herds 0 and 1, ports 0 and 1, streams 0 to 3, pair 0, slots 0 and 1 and the granules 8 to 11. -/
def up (l : List (Nat × Value)) : State :=
  { State.reset with
    dict := l ++ ints [(Entry.devDeviceState, 4), (Entry.sysState, 2), (Entry.pcieLinkState, 1), (Entry.partState 1, 2),
        (Entry.partEnable 1, 1), (Entry.herdPartition 0, 1), (Entry.herdPartition 1, 1), (Entry.herdPosition 0, 0),
        (Entry.herdPosition 1, 1), (Entry.herdState 0, 1), (Entry.herdState 1, 1), (Entry.portPartition 0, 1), (Entry.portPartition 1, 1),
        (Entry.streamPartition 0, 1), (Entry.streamPartition 1, 1), (Entry.streamPartition 2, 1), (Entry.streamPartition 3, 1),
        (Entry.pairPartition 0, 1), (Entry.slotPartition 0, 1), (Entry.slotPartition 1, 1)] ++
      [(Entry.proofDsiLanes, .bytes (List.replicate 16 15))]
    boot := { managing := true, resetLow := false }
    parts := [(1, {
      owned := some { herds := [0, 1], ports := [0, 1], streams := [0, 1, 2, 3], pairs := [0], slots := [0, 1], blocks := [0]
                      memBase := 8, memSize := 4 }
      keysReady := true })] }

/-! Witnesses: for every statement with hypotheses, operands and a state that meet them. -/

theorem anchored_of (s : State) (h : ∀ p, p < 9 → ∀ a, s.anchorPort p = some a → (s.portRt a).counting = true) : s.anchored := by
  intro p a e
  by_cases hp : p < 9
  · exact h p hp a e
  · unfold State.anchorPort at e; split at e
    · cases e
    · rename_i hn; simp only [Bool.or_eq_true, decide_eq_true_eq] at hn; omega

theorem noAnchor_of (s : State) (n : Nat) (h : ∀ p, p < 9 → s.anchorPort p ≠ some n) : ∀ p, s.anchorPort p ≠ some n := by
  intro p
  by_cases hp : p < 9
  · exact h p hp
  · unfold State.anchorPort; rw [if_pos]
    · simp
    · simp only [Bool.or_eq_true, decide_eq_true_eq]; omega

theorem unrecorded_of (s : State) (h : ∀ e ∈ s.parts, e.2.arrivalMode ≠ 1) : s.unrecorded := by
  intro p
  unfold State.partRt
  cases e : Assoc.find s.parts p with
  | none => simp [Assoc.get, e]
  | some r => simp only [Assoc.get, e]; exact h _ (Assoc.mem_of_find _ _ _ e)

theorem witness_commandsInOrder : ({ State.reset with pending := [.save, .restoreDefaults] } : State).pending = .save :: [.restoreDefaults] := rfl

theorem witness_stepsKeepCanonicalMemory : State.reset.canonical ∧ step State.reset = .next State.reset := ⟨(by decide +kernel : Memory.wf State.reset.mem = true), rfl⟩

theorem witness_commandsAnswer : unitNamed (.herdReset 6 true) = some ⟨.herd, 6⟩ ∧ unitNamed (.portEnable 12) = some ⟨.port, 12⟩ ∧
    (∀ u ∈ [(⟨.herd, 6⟩ : UnitCode), ⟨.port, 12⟩], ({ State.reset with part := .hkz8830 } : State).hasUnit u = false) := by
  refine ⟨rfl, rfl, by decide +kernel⟩

theorem witness_epochsFollow : (∃ t, exec .save State.reset = .next t) ∧ State.reset.device = 0 ∧ (up []).device ≠ 0 ∧
    (up []).headerFields ≠ State.reset.headerFields := by
  refine ⟨⟨_, rfl⟩, ?_, ?_, ?_⟩ <;> decide +kernel

/-- Rails in their ranges. -/
def goodRails : List Nat := railRanges.map fun r => r.2 / 2

theorem witness_powerLoss : ∃ i v r, i < 8 ∧ (0 :: goodRails.drop 1)[i]? = some v ∧ railRanges[i]? = some r ∧ 2 * v < r.1 :=
  ⟨0, 0, _, by decide +kernel, rfl, rfl, by decide +kernel⟩

theorem witness_hold : (up []).device ≠ 0 ∧ (up []).device ≠ 6 ∧ (up [(Entry.devDeviceState, .int 6)]).device = 6 ∧ ([1100] : List Int) ≠ [] ∧
    (∃ z ∈ ([1100] : List Int), 1100 ≤ z) ∧
    (∀ (i v : Nat) (r : Nat × Nat), (9999 :: goodRails.drop 1)[i]? = some v → railRanges[i]? = some r → r.1 ≤ 2 * v) ∧
    ∃ (i v : Nat) (r : Nat × Nat), (9999 :: goodRails.drop 1)[i]? = some v ∧ railRanges[i]? = some r ∧ r.2 < 2 * v := by
  refine ⟨by decide +kernel, by decide +kernel, by decide +kernel, by decide, ⟨1100, by simp, by decide⟩, ?_, 0, 9999, _, rfl, rfl, by decide +kernel⟩
  intro i v r h1 h2
  have : ∀ e ∈ (9999 :: goodRails.drop 1).zip railRanges, e.2.1 ≤ 2 * e.1 := by decide +kernel
  have hz : ((9999 :: goodRails.drop 1).zip railRanges)[i]? = some (v, r) := by
    rw [List.getElem?_zip_eq_some]; exact ⟨h1, h2⟩
  exact this _ (List.mem_of_getElem? hz)

theorem witness_supplyInRange : goodRails.length = 8 ∧
    (∀ (i v : Nat) (r : Nat × Nat), goodRails[i]? = some v → railRanges[i]? = some r → r.1 ≤ 2 * v ∧ 2 * v ≤ r.2) ∧
    State.reset.device = 0 ∧ (up []).device ≠ 0 ∧ (up []).confidential = false ∧
    (up [(Entry.secSecurityMode, .int 1)]).confidential = true := by
  refine ⟨by decide +kernel, ?_, by decide +kernel, by decide +kernel, by decide +kernel, by decide +kernel⟩
  intro i v r h1 h2
  have : ∀ e ∈ goodRails.zip railRanges, e.2.1 ≤ 2 * e.1 ∧ 2 * e.1 ≤ e.2.2 := by decide +kernel
  have hz : (goodRails.zip railRanges)[i]? = some (v, r) := by
    rw [List.getElem?_zip_eq_some]; exact ⟨h1, h2⟩
  exact this _ (List.mem_of_getElem? hz)

theorem witness_junctionSensors : (up []).device ≠ 0 ∧ (List.replicate 24 (1099 : Int)).length = 24 ∧
    ∀ z ∈ List.replicate 24 (1099 : Int), z < 1100 := by decide +kernel

theorem witness_paceWindow : 7 < (up []).herdCount ∧ (up []).device ≠ 0 ∧
    (800 ≤ 839 ∨ ((up []).pace.setpoint ≠ 850 ∧ (up []).pace.fixed = false)) ∧ (up []).confidential = false ∧
    (up [(Entry.secSecurityMode, .int 1)]).confidential = true := by decide +kernel

/-- Pace control at a supply voltage, with a pace of herd 0 and a slack reported. -/
def paced (setpoint quiet pace slack shed : Nat) : State :=
  { up [(Entry.devShedLevel, .int shed)] with
    pace := { setpoint := setpoint, quiet := quiet, paces := [(0, pace)], slacks := [(1, 0, slack)] } }

theorem paced_unrecorded (a b c d e : Nat) : (paced a b c d e).unrecorded := by
  apply unrecorded_of; intro x hx; simp only [paced, up, List.mem_singleton] at hx; subst hx; decide

theorem witness_paceRaises : (∀ s ∈ [paced 850 0 839 100 2, paced 850 0 1000 0 3, paced 750 0 839 100 0],
      s.running = true ∧ s.pace.fixed = false ∧ s.pace.nacks = 0 ∧
      ((∃ m ∈ s.livePaces, m < 840) ∨ lowestSlack s.pace.slacks < s.n Entry.devPaceMargin)) ∧
    (paced 850 0 839 100 2).n Entry.devShedLevel < 3 ∧ 3 ≤ (paced 850 0 1000 0 3).n Entry.devShedLevel ∧
    (paced 750 0 839 100 0).pace.setpoint ≠ 850 := by decide +kernel

theorem witness_paceLowers : (∀ s ∈ [paced 750 15 840 100 0, paced 750 3 840 100 1, paced 750 3 840 8 1],
      s.running = true ∧ s.pace.fixed = false ∧ s.pace.nacks = 0 ∧ (∀ m ∈ s.livePaces, 840 ≤ m) ∧
      s.n Entry.devPaceMargin ≤ lowestSlack s.pace.slacks) ∧
    (let s := paced 750 15 840 100 0
     s.lowerSlack ≤ lowestSlack s.pace.slacks ∧ s.n Entry.devShedLevel = 0 ∧ 16 ≤ s.pace.quiet + 1 ∧
      max 620 (s.pace.setpoint - 5) < s.pace.setpoint ∧ max 620 (s.pace.setpoint - 5) ∉ s.pace.floorAt) ∧
    0 < (paced 750 3 840 100 1).n Entry.devShedLevel ∧
    (let s := paced 750 3 840 8 1; lowestSlack s.pace.slacks < s.lowerSlack) := by decide +kernel

theorem witness_voutChecks : 3 ≤ (up []).device ∧ (up []).pace.nacks = 0 ∧ 765 ≤ (up []).pace.setpoint + 15 ∧
    (up []).pace.setpoint ≤ 765 + 15 ∧ (up []).confidential = false := by decide +kernel

/-- A router fenced under an open event. -/
def fencedRouter : State :=
  { up [(Entry.devDeviceState, .int 5), (Entry.faultOpenEvents, .int 1)] with
    fc := { log := [{ number := 1, unit := ⟨.router, 3⟩, cls := .uncorrectable, reaction := 2, reporter := ⟨.router, 2⟩, fenced := true }]
            fenced := [⟨.router, 3⟩] } }

theorem fencedRouter_anchored : fencedRouter.anchored := anchored_of _ (by decide +kernel)

theorem witness_watchdogMerges :
    let s := fencedRouter; let u : UnitCode := ⟨.router, 3⟩
    3 ≤ s.device ∧ s.device ≠ 6 ∧ s.watchdogOff ⟨.router, 2⟩ = false ∧ s.hasUnit ⟨.router, 2⟩ = true ∧ s.hasUnit u = true ∧
    s.isPermanent u = false ∧ (∃ e, s.eventFor u = some e ∧ e.unit = u) ∧ s.fenced u = true ∧ u.kind ≠ .kid ∧
    s.herdMinimum ≤ s.workingHerds.length := by
  refine ⟨?_, ?_, ?_, ?_, ?_, ?_, ⟨_, rfl, ?_⟩, ?_, ?_, ?_⟩ <;> decide +kernel

/-- A layer table with one camera view of stream 0: 640×360 pixels at the top left, its tag at (8, 8). -/
def cameraView : Bytes := leBytes 32 (packFields [(64, 0), (16, 8), (16, 8), (16, 360), (16, 640), (16, 0), (16, 0), (16, 360), (16, 640),
  (16, 0), (16, 0), (10, 0), (8, 255), (2, 0), (1, 0), (9, 0), (2, 1)])

/-- A table with one static rectangle of 8×8 pixels whose CRC is 77. -/
def staticRect : Bytes := leBytes 32 (packFields [(96, 0), (32, 77), (62, 0), (2, 1), (16, 8), (16, 8), (16, 0), (16, 0)])

/-- The payload of the tag of layer 0 in frame 9: frame 5 of stream 0 on port 0, TRUE. -/
def shownTag : Nat := tagPayload 0 5 0 0 0 0

/-- What a port holds in frame 9, which shows frame 5 of stream 0. -/
def showing : PortRt :=
  { counting := true, frames := 9, applied := cameraView, rects := staticRect
    chosen := [{ frame := 10, views := [{ layer := 0, stream := 0, pic := some (.trueFrame 0 5 1000), code := provTrue }] },
      { frame := 9, views := [{ layer := 0, stream := 0, pic := some (.trueFrame 0 5 1000), code := provTrue }] }]
    scan := some { frame := 9, plain := true, content := { tags := [(8, 8, shownTag)] }, rects := staticRect } }

/-- Port 0 in a state, anchoring partition 1, with stream 0 LIVE. -/
def port (st : Nat) (r : PortRt) (l : List (Nat × Int) := []) : State :=
  { up (ints (l ++ [(Entry.portState 0, (st : Int)), (Entry.portEnable 0, 1), (Entry.pvPvPairs, if st = 2 then 2 else 1), (Entry.partAnchorPort 1, 0),
      (Entry.streamState 0, 2), (Entry.streamFramesTrue 0, 5)]) ++ [(Entry.rectRectTable 0, .bytes staticRect)]) with
    ports := [(0, r)]
    streams := [(0, { trueCount := 5, frames := [{ ordinal := 5, timestamp := 1000, arrival := [(0, 19000)], ready := true }] })] }

theorem witness_portStarts : (0 : Nat) < (up []).portCount ∧ (15 : Nat) < (up []).portCount ∧ (up []).running = true ∧
    (up []).boot.managing = true ∧ (up []).portState 0 = 0 ∧ (up []).portStartError 0 = 0 := by decide +kernel

theorem witness_portDisables : (∀ st, st = 1 ∨ st = 2 ∨ st = 5 → (port st showing).shows 0 = true ∧ (port st showing).running = true ∧
    (port st showing).boot.managing = true ∧ (∀ j ∈ (port st showing).gen.jobs, j.port ≠ 0) ∧ (port st showing).anchored) := by
  rintro st (rfl | rfl | rfl) <;> exact ⟨by decide +kernel, by decide +kernel, by decide +kernel, by decide +kernel, anchored_of _ (by decide +kernel)⟩

/-- A port that stops; no port anchors a partition. -/
def stopping : State := { up (ints [(Entry.portState 0, 3)]) with ports := [(0, { counting := true, frames := 9 })] }

theorem stopping_free : stopping.anchored ∧ ∀ p, stopping.anchorPort p ≠ some 0 :=
  ⟨anchored_of _ (by decide +kernel), noAnchor_of _ _ (by decide +kernel)⟩

theorem witness_portStops : stopping.portState 0 = 3 ∧ stopping.partState (stopping.portOwner 0) ≠ 3 ∧
    stopping.partState (stopping.portOwner 0) ≠ 4 ∧ (∀ b ∈ stopping.gen.buffers, b.2.1 ≠ 0) ∧ (stopping.portRt 0).nextTable = none ∧
    stopping.n (Entry.portPendingStart 0) = 0 ∧ (∀ i, i < 512 → stopping.genState i = genIdle) ∧
    (∀ j ∈ stopping.gen.jobs, j.port ≠ 0) := by decide +kernel

theorem witness_frameStart : (∀ s ∈ [port 1 showing, port 2 showing, port 2 { showing with counting := false }], s.portRuns 0 = true ∧
      s.vouched 0 = decide (s.portState 0 = 2) ∧ (s.portRt 0).recordRing = none ∧
      s.anchorPort (s.n (Entry.portPartition 0)) = some 0 ∧
      (s.partRt (s.n (Entry.portPartition 0))).arrivalSeen = s.n (Entry.partArrivalMode (s.n (Entry.portPartition 0)))) ∧
    (let s := port 1 showing
     (s.portRt 0).counting = true ∧ (s.portRt 0).failed = false ∧ (s.portRt 0).failedNext = false ∧
      ((s.portRt 0).scan.map Composed.frame) = some (s.portRt 0).frames ∧ s.safeReqOn = false ∧ s.held = false ∧
      s.unitsFenced 0 = false) ∧
    (let s := port 2 { showing with composed := some { frame := 10 } } [(Entry.portPartition 0, 0)]
     s.n (Entry.portPartition 0) = 0 ∧ (s.portRt 0).composed = some { frame := 10 }) ∧
    (let s := port 2 showing [(Entry.partAnchorPort 1, 1), (Entry.portState 1, 2)]
     s.anchorPort (s.n (Entry.portPartition 0)) = some 1) := by decide +kernel

theorem witness_composition : (∀ s ∈ [port 1 showing, port 5 showing], (0 : Nat) < s.portCount ∧ s.portRuns 0 = true ∧ s.shows 0 = true ∧
      (s.portRt 0).counting = true ∧ (s.portRt 0).nextTable = none ∧ ((s.portRt 0).composing.map Composed.frame) ≠ some 10 ∧
      ((s.portRt 0).composed.map Composed.frame) ≠ some 10 ∧ (∀ e ∈ activeRects (s.b (Entry.rectRectTable 0)), e.2.mode ≠ 2) ∧
      (∀ j ∈ s.gen.jobs, j.port ≠ 0) ∧ s.cameraViews 0 10 ≠ []) ∧
    (∀ c ∈ showing.chosen, ∀ v ∈ c.views, v.settled) ∧ (∀ v ∈ (port 2 showing).cameraViews 0 10, (port 2 showing).fresh 0 10 v) ∧
    ∃ v ∈ (port 2 { showing with chosen := [] }).cameraViews 0 10, ¬ (port 2 { showing with chosen := [] }).fresh 0 10 v := by
  refine ⟨by decide +kernel, ?_, ?_, ⟨{ layer := 0 }, by decide +kernel, ?_⟩⟩
  · intro c hc v hv
    have hc' : c.views = [{ layer := 0, stream := 0, pic := some (.trueFrame 0 5 1000), code := provTrue }] := by
      simp only [showing, List.mem_cons, List.not_mem_nil, or_false] at hc; rcases hc with rfl | rfl <;> rfl
    rw [hc', List.mem_singleton] at hv; subst hv
    exact ⟨by decide, by decide, by intros; simp⟩
  · have h : (port 2 showing).cameraViews 0 10 = [{ layer := 0, stream := 0, pic := some (.trueFrame 0 5 1000), code := provTrue, plain := true }] := by
      decide +kernel
    rw [h]; intro v hv; rw [List.mem_singleton] at hv; subst hv
    exact ⟨_, rfl, by decide +kernel⟩
  · rintro ⟨a, h, -⟩; cases h

theorem witness_compositionEnds :
    (∀ f, f = 9 ∨ f = 10 → let s := port 2 { showing with composing := some { frame := f } }
      (s.portRt 0).composing = some { frame := f } ∧ (s.portRt 0).recordRing = none ∧ ((s.portRt 0).frames < f ∨ f = (s.portRt 0).frames)) ∧
    (let s := port 2 { showing with composing := some { frame := 9 } }
     s.portState 0 = 2 ∧ s.isPermanent ⟨.port, 0⟩ = false ∧ s.eventFor ⟨.port, 0⟩ = none ∧ s.eventOfReporter piuUnit ⟨.port, 0⟩ = none ∧
      s.openEvents.length < 256 ∧ s.running = true) := by
  refine ⟨?_, by decide +kernel⟩
  rintro f (rfl | rfl) <;> decide +kernel

theorem witness_presentationChecks : let s := port 2 showing
    s.portRuns 0 = true ∧ s.shows 0 = true ∧ (s.expectedTag 0 0).isSome = true ∧ s.tagAhead 0 0 = false ∧
    (∃ c r, (s.portRt 0).scan = some c ∧ (activeRects c.rects).find? (fun e => e.1 = 0) = some (0, r) ∧ s.expectedRect 0 c 0 r = some 77) := by
  refine ⟨by decide +kernel, by decide +kernel, by decide +kernel, by decide +kernel, _, _, rfl, rfl, by decide +kernel⟩

theorem witness_piuDisagreement : let s := port 2 showing
    s.running = true ∧ (∀ n, n < 16 → s.vouched n = decide (s.portState n = 2)) ∧ (∀ n, s.portCount ≤ n → n < 16 → s.portState n = 0) := by
  refine ⟨by decide +kernel, by decide +kernel, fun n h => ?_⟩
  have : (port 2 showing).portCount = 16 := by decide +kernel
  omega

theorem witness_portEntries : let s := port 5 { showing with exitCount := 120 }
    s.running = true ∧ s.boot.managing = true ∧ s.portState 0 ≠ 0 ∧ cameraView.length ≤ 1536 ∧ s.tableError 0 [] (enabledLayers cameraView) = 0 ∧
    s.n (Entry.portSafeExitFrames 0) ≤ (s.portRt 0).exitCount ∧ (showing.exitCount < s.n (Entry.portSafeExitFrames 0)) ∧
    s.tableError 0 [] (enabledLayers (cameraView.map fun b => b ||| 3)) ≠ 0 := by decide +kernel

theorem witness_genlock : let s := port 2 { showing with timing := some { (port 2 showing).timingEntries 0 with sync := true } }
    s.portRuns 0 = true ∧ (s.timing 0).sync = true := by decide +kernel

/-- A port of partition 0, which anchors nothing. -/
def lonePort (st : Nat) (r : PortRt) : State := { up (ints [(Entry.portState 0, (st : Int))]) with ports := [(0, r)] }

theorem lonePort_free : (lonePort 2 showing).anchored ∧ ∀ p, (lonePort 2 showing).anchorPort p ≠ some 0 :=
  ⟨anchored_of _ (by decide +kernel), noAnchor_of _ _ (by decide +kernel)⟩

theorem witness_referenceClock : (lonePort 2 showing).shows 0 = true ∧ (lonePort 2 showing).running = true ∧
    (lonePort 5 { showing with waitRclk := true }).portState 0 = 5 ∧
    ((lonePort 5 { showing with waitRclk := true }).portRt 0).waitRclk = true ∧
    (lonePort 5 { showing with waitRclk := true }).held = false := by decide +kernel

theorem apart (s : State) (p o n o' n' : Nat) (h : o + n ≤ o' ∨ o' + n' ≤ o) (a : Nat) (x : s.stores p o n a) : ¬ s.stores p o' n' a := by
  rintro ⟨-, y, z⟩; obtain ⟨-, y', z'⟩ := x; omega

/-- A ring's descriptor: 16 submission slots at 0x1000, 16 completion slots at 0x2000, an interrupt with vector 3. -/
def ringDescriptor : Nat := 0x1000 * 2 ^ 448 + 0x2000 * 2 ^ 384 + 4 * 2 ^ 379 + 2 ^ 378 + 2 ^ 377 + 3 * 2 ^ 366

/-- A ring's entry of a kind, with tag 77 and fields. -/
def ringEntry (kind : Nat) (fields : List (Nat × Nat)) : Nat := kind * 2 ^ 504 + 77 * 2 ^ 384 + fields.foldl (fun t f => t + f.2 * 2 ^ f.1) 0

/-- Ring 0 of partition 1, with its descriptor at offset 0 and one entry. -/
def ringed (tail kind : Nat) (fields : List (Nat × Nat)) : State :=
  let s := ((up []).writeMem 1 0 (leBytes 64 ringDescriptor)).writeMem 1 0x1000 (leBytes 64 (ringEntry kind fields))
  { s with rings := [(0, { tail := tail, slotsLog := 4, submitBase := 0x1000, completeBase := 0x2000, irq := true, vector := 3 })] }

/-- A COPY of 16 bytes from 0x1000 to 0x3000, in memory. -/
def copyFields : List (Nat × Nat) := [(320, 0x1000), (256, 0x3000), (192, 16)]

/-- A table image that runs on two herds. -/
def image (trigger jobKind : Nat) : TableImage :=
  { herdsFull := 2, lanes := 4, trigger := trigger, jobKind := jobKind, legsFull := 1, version := 1, full := [[], []] }

/-- Ring 0 with a COMPUTE entry for slot 0, which has an ACTIVE table. -/
def computing : State :=
  let s := ringed 1 1 [(496, 0), (256, 0x3000)]
  { s with herds := { slots := [(0, { active := some (image 2 0) })] } }

/-- A COPY job of ring 0. -/
def copyJob (dst : Nat) : State :=
  { ringed 1 0 [] with jobs := [{ id := 5, partition := 1, ring := 0, index := 5, tag := 77, kind := 3, a := 0x1000, b := 0x3000, c := 16, dstPlace := dst }] }

theorem witness_doorbellTaken : let s := ringed 0 0 []
    s.ringOwner 0 = some 1 ∧ (∃ d, s.ringDesc 1 0 = some d ∧ d.testBit 378 = true ∧ bits d 379 5 = 4) ∧ s.confidential = false ∧
    s.partState 1 = 2 ∧ s.n Entry.pcieLinkState = 1 ∧ (s.ring 0).head = 0 ∧
    ({ s with dict := (Entry.pcieLinkState, .int 0) :: s.dict }).n Entry.pcieLinkState ≠ 1 := by
  refine ⟨by decide +kernel, ⟨ringDescriptor, ?_, ?_, ?_⟩, ?_, ?_, ?_, ?_, ?_⟩ <;> decide +kernel

theorem witness_entriesEndWhenTaken : (∀ kind, kind = 0 ∨ kind = 4 ∨ kind = 9 → let s := ringed 1 kind []
      s.canonical ∧ s.nextEntry 0 = some (1, (some (ringEntry kind []), 0)) ∧ entryKind (ringEntry kind []) = kind ∧
      (s.ring 0).completions = (s.ring 0).head ∧ s.inRange 1 (s.completionAt 0) 16 = true ∧
      ∀ a, s.stores 1 (s.completionAt 0) 16 a → ¬ s.stores 1 (s.ringDescAt 1 0 + 32) 4 a ∧ ¬ s.stores 1 (s.ringDescAt 1 0 + 36) 4 a) := by
  rintro kind (rfl | rfl | rfl) <;>
  · have h : (ringed 1 0 []).completionAt 0 = 0x2000 := by decide +kernel
    refine ⟨show Memory.wf _ = true by decide +kernel, by decide +kernel, by decide +kernel, by decide +kernel, by decide +kernel, fun a x => ⟨?_, ?_⟩⟩ <;>
    · exact apart _ _ _ _ _ _ (by decide +kernel) _ x

theorem witness_jobsTaken : (∃ e, (ringed 1 3 copyFields).nextEntry 0 = some (1, (some e, 0)) ∧ entryKind e = 3 ∧
      (ringed 1 3 copyFields).copyCause (ringJobOf 1 0 ((ringed 1 3 copyFields).ring 0).head e) = 0) ∧
    ∃ e, computing.nextEntry 0 = some (1, (some e, 0)) ∧ entryKind e = 1 ∧ computing.slotUsable 1 (bits e 496 8) = true ∧
      (computing.slotQueue (bits e 496 8)).length < 1024 ∧ computing.outputHeld 1 (bits e 496 8) (bits e 448 32) (bits e 256 64) = false := by
  refine ⟨⟨ringEntry 3 copyFields, ?_, ?_, ?_⟩, ringEntry 1 [(496, 0), (256, 0x3000)], ?_, ?_, ?_, ?_, ?_⟩ <;> decide +kernel

theorem witness_copyEnds : (let s := copyJob 0
      s.canonical ∧ s.device ≠ 0 ∧ ∃ j, s.ringJob? 5 = some j ∧ j.kind = 3 ∧ j.partition < 9 ∧ j.mode = 0 ∧ j.srcPlace = 0 ∧ j.dstPlace = 0 ∧
        s.copyShape j = some (16, none) ∧ j.copySource (16, none) = some 0x1000 ∧
        s.copyCause j = 0 ∧ s.readFails j.partition j.a j.c = false ∧
        ∀ a, s.stores j.partition j.b j.c a → ¬ s.stores j.partition (s.completionAt j.ring) 16 a ∧
          ¬ s.stores j.partition (s.ringDescAt j.partition j.ring + 32) 4 a) ∧
    (let s := copyJob 1; s.canonical ∧ ∃ j, s.ringJob? 5 = some j ∧ j.dstPlace = 1) := by
  refine ⟨⟨show Memory.wf _ = true by decide +kernel, by decide +kernel, _, rfl, by decide, by decide, rfl, rfl, rfl, by decide +kernel, rfl, by decide +kernel, by decide +kernel, fun a x => ⟨?_, ?_⟩⟩,
    show Memory.wf _ = true by decide +kernel, _, rfl, rfl⟩ <;> exact apart _ _ _ _ _ _ (by decide +kernel) _ x

/-- A baton of lap 1 of slot 0, from herd 0's sequencer to the sequencer of herd 1. -/
def baton (dst lane part : Nat) : Baton :=
  { dstDevice := 0, dstStation := BitVec.ofNat 16 dst, srcDevice := 0, srcStation := 0x2001, dstKid := 0, srcKid := 0, dstQueue := 0
    partition := 1, kind := 0, payloadBytes := 0, payloadPlace := 0, payloadAddr := 0, job := 0, lap := 1, slot := 0, leg := 0
    lane := BitVec.ofNat 6 lane, part := BitVec.ofNat 16 part, format := 0, last := false, payload := [] }

/-- Slot 0 with a lap that runs and what waits in a queue of herd 1's sequencer. -/
def lapping (l : Lap) (batons waiting : List Baton) (r : SlotRt := {}) : State :=
  { up [] with herds := { slots := [(0, { r with lap := some l })]
                          queues := if batons = [] then [] else [{ station := 0x2011, queue := 0, batons := batons, waiting := waiting }] } }

theorem witness_batonSent : (let s := lapping { number := 1 } [] []
      s.running = true ∧ s.sendBlocked (baton 0x2011 0 0) = false ∧ s.relayed (baton 0x2011 0 0) = some (baton 0x2011 0 0) ∧ (baton 0x2011 0 0).dstDevice.toNat = s.deviceNumber ∧
      s.stationExists 0x2011 = true) ∧
    (let s := lapping { number := 1 } [baton 0x2011 1 0, baton 0x2011 0 0] []
     s.sendBlocked (baton 0x2011 0 0) = false ∧ s.relayed (baton 0x2011 0 0) = some (baton 0x2011 0 0) ∧ (s.queue 0x2011 0).batons.length = 2) := by decide +kernel

theorem witness_batonsTaken : let s := lapping { number := 1, inFlight := 3 } [baton 0x2011 1 0, baton 0x2011 0 3] [baton 0x2011 0 2]
    s.running = true ∧ (s.queue 0x2011 0).batons.length = 2 ∧
    (∀ b ∈ (s.queue 0x2011 0).batons, s.accepts 0x2011 b = true ∧ b.srcDevice.toNat = s.deviceNumber) := by decide +kernel

theorem witness_sequencerLegs : ∀ n, n = 0 ∨ n = 2 → let s := lapping { number := 1, inFlight := n } [] []
    s.running = true ∧ (s.slotRt 0).lap = some { number := 1, inFlight := n } ∧ 1 < (s.positions (s.slotRunner 0)).length ∧
    (s.slotRt 0).legs 1 = [] := by
  rintro n (rfl | rfl) <;> decide +kernel

/-- A leg of each of the sequencer's kinds; the MODEL leg names model 7. -/
def sequencerLegs : List Nat := [0xE0 * 2 ^ 104, 0xE1 * 2 ^ 104, 0xE3 * 2 ^ 104 + 7, 0xE4 * 2 ^ 104, 0xE5 * 2 ^ 104]

theorem witness_knownLegs : let r : SlotRt := { active := some { image 2 0 with full := [sequencerLegs, []] } }
    r.hasLeg 0 0xE0 (fun _ => True) ∧ r.hasLeg 0 0xE1 (fun _ => True) ∧ r.hasLeg 0 0xE3 (fun x => legImmediate x % 2 ^ 15 = 7) ∧
    r.hasLeg 0 0xE4 (fun _ => True) ∧ r.hasLeg 0 0xE5 (fun _ => True) := by
  unfold SlotRt.hasLeg; decide +kernel

theorem witness_absentLegsDoNothing : let r : SlotRt := { active := some { image 2 0 with full := [[0xE2 * 2 ^ 104], []] } }
    r.legs 0 ≠ [] ∧ ∀ x ∈ r.legs 0, legOp x ≠ 0xE0 ∧ legOp x ≠ 0xE1 ∧ legOp x ≠ 0xE3 ∧ legOp x ≠ 0xE4 ∧ legOp x ≠ 0xE5 := by
  decide +kernel

/-- Slot 0 with an ASYNC table and a job in its queue. -/
def lapDue : State :=
  { up [] with
    herds := { slots := [(0, { active := some (image 2 0), laps := 4 })] }
    jobs := [{ id := 5, partition := 1, ring := 0, index := 5, kind := 1, slot := 0 }] }

theorem witness_lapStarts : lapDue.lapAllowed 0 = true ∧ lapDue.slotReady 0 = true ∧ (lapDue.slotRt 0).active = some (image 2 0) ∧
    (lapDue.slotRt 0).staged = none ∧ (lapDue.slotRt 0).reload = none ∧ lapDue.ringBatch 0 (image 2 0) ≠ [] := by decide +kernel

theorem witness_lapBoundary : let s := lapping { number := 1 } [] [] { active := some (image 2 0) }
    let s := { s with dict := (Entry.partArithStatsSlot 1, .int 5) :: s.dict }
    s.running = true ∧ (s.slotRt 0).lap = some { number := 1 } ∧ (s.slotRt 0).active = some (image 2 0) ∧ (image 2 0).jobKind ≠ 3 ∧
    (s.slotRt 0).staged = none ∧ (s.slotRt 0).unload = false ∧ (s.slotRt 0).reload = none ∧ s.herds.queues = [] ∧ (s.statsLatch (s.slotRunner 0)).slot ≠ 0 ∧
    (s.adaptPart (s.slotRunner 0)).streams = [] ∧ (lapping { number := 1 } [] [] { active := some (image 2 0) } |>.slotRunner 1) < 9 ∧
    s.slotRunner 0 < 9 := by decide +kernel

/-- The first ALU unit of herd 0, for slot 0. -/
def opUnit : OpUnit := { herd := 0, kid := none, slot := 0, lane := 0 }

theorem witness_operations : opUnit.herd.val < (up []).herdCount ∧ (up []).opActs opUnit = true ∧ (up []).opPart opUnit < 9 ∧
    pairLegal 0 0 = true ∧ pairLegal 9 2 = false ∧ oneExponent ⟨[], [[3, 3]]⟩ = true := by decide +kernel

theorem witness_statsMeasure : ((lapping { number := 1 } [] []).slotRt opUnit.slot).lap = some { number := 1 } ∧
    (lapping { number := 1 } [] []).opActs opUnit = true := by decide +kernel

theorem witness_rowExponentIsLeast : rowMax [(.fin false 0 0, true)] = .fin false 0 0 ∧
    rowMax [(.fin false 300 0, false)] = .fin false 300 0 ∧ rowExponent 127 [(.fin false 300 0, false)] = 2 := by decide +kernel

/-- A source of 4×2 INT8 samples that lies in memory. -/
def stored : AddrConfig := { addrConfig 0 with srcPlace := 1, srcRowPitch := 64, inWidth := 4, inHeight := 2, inChannels := 1 }

/-- A device whose first block of partition 1's memory cannot be read. -/
def unreadable : State := { up [] with security := { badBlocks := [8 * 2 ^ 28 / blockBytes] } }

theorem witness_sources : (up []).sourceReadable opUnit stored ⟨[], []⟩ ∧ ¬ unreadable.sourceReadable opUnit stored ⟨[], []⟩ ∧
    unreadable.opActs opUnit = true ∧ unreadable.readFails (unreadable.opPart opUnit) 0 (storedRow stored.inFormat 4) = true := by
  unfold State.sourceReadable; decide +kernel

/-- A table image for two herds, ASYNC, without configurations and models, whose only legs are NOPs: its header is all that is not zero. -/
def imageHeader : Bytes := leBytes 64
  (0x4C454753 * 2 ^ 480 + 2 ^ 464 + 2 * 2 ^ 460 + 4 * 2 ^ 453 + 2 * 2 ^ 451 + 2 ^ 411 + 2 ^ 256 + 64 * 2 ^ 224 + 1088 * 2 ^ 128)

/-- Slot 0 names the image as its next version. -/
def staging (length : Nat) (r : SlotRt := {}) : State :=
  { (up (ints [(Entry.slotImageBase 0, 0x4000), (Entry.slotImageLength 0, (length : Int))])).writeMem 1 0x4000 imageHeader with
    herds := { slots := [(0, r)] } }

theorem checked_of (x : Nat × Option TableImage) (h : x.1 = 0 ∧ x.2.isSome = true) : ∃ img, x = (0, some img) := by
  obtain ⟨a, b⟩ := x; obtain ⟨rfl, h⟩ := h; obtain ⟨img, rfl⟩ := Option.isSome_iff_exists.mp h; exact ⟨img, rfl⟩

theorem witness_slotsStageAndUnload : (staging 1120).running = true ∧ (staging 1120).boot.managing = true ∧
    (∃ img, (staging 1120).stageCheck 0 = (0, some img)) ∧ (∃ e, (staging 1119).stageCheck 0 = (e, none)) ∧
    (∀ r : SlotRt, r = { loading := some (image 2 0) } ∨ r = { active := some (image 2 0), loading := some (image 2 0) } →
      ((staging 1120 r).slotRt 0) = r) := by
  refine ⟨by decide +kernel, by decide +kernel, checked_of _ (by decide +kernel), ⟨1, by decide +kernel⟩, ?_⟩
  rintro r (rfl | rfl) <;> decide +kernel

theorem witness_fallbackVersionsLoaded : ∀ b : Bool, let s := { up [] with
      herds := { slots := [(0, { active := some (image 2 0), reload := some (b, false) })] } }
    s.slotRunner 0 = 1 ∧ (s.slotRt 0).reload = some (b, false) ∧ (s.slotRt 0).active = some (image 2 0) ∧ s.slotRunner 2 ≠ 1 := by
  decide +kernel

theorem witness_herdResets : (up []).running = true ∧ (up []).boot.managing = true ∧ (up []).fenced ⟨.herd, 0⟩ = false ∧
    (up []).n (Entry.herdState 0) ≠ 2 ∧ (up []).slotRunner 0 = (up []).n (Entry.herdPartition 0) ∧ (up []).n (Entry.herdPartition 0) ≠ 0 ∧
    (up []).slotRunner 2 ≠ (up []).n (Entry.herdPartition 0) ∧
    (let s := up (ints [(Entry.herdState 7, 2)])
     s.n (Entry.herdState 7) = 2 ∧ s.n (Entry.herdPartition 7) = 0 ∧ (s.adaptPart 0).waiting = []) := by decide +kernel

theorem witness_herdResetFails : (up (ints [(Entry.herdState 7, 2)])).takesFault ⟨.herd, 7⟩ ⟨.herd, 7⟩ := by
  refine ⟨?_, ?_, ?_, ?_, ?_, ?_, ?_, anchored_of _ (by decide +kernel), ?_⟩ <;> decide +kernel

/-- Stream 1 of partition 1 adapts, with version 7 in slot 1. -/
def adapting : State :=
  { up [] with adapt := [(1, { streams := [(1, { state := 2, slots := [7, 0, 0], digests := [[], [], []] })] })] }

theorem adapting_unrecorded : adapting.unrecorded := by
  apply unrecorded_of; intro x hx; simp only [adapting, up, List.mem_singleton] at hx; subst hx; decide

theorem witness_adaptationCommands : let s := adapting
    s.running = true ∧ s.boot.managing = true ∧ s.underReset 1 = false ∧
    (∀ op, op < 3 → s.commandCheck 1 (op * 2 ^ 61 + 2 ^ 32 + 7) = 0 ∧ commandOp (op * 2 ^ 61 + 2 ^ 32 + 7) = op ∧
      commandStream (op * 2 ^ 61 + 2 ^ 32 + 7) = 1) ∧
    ((s.adaptOf 1).slotOf 7).isSome = true ∧ commandVersion (2 ^ 32 + 7) = 7 ∧
    s.commandCheck 1 (2 ^ 32 + 8) ≠ 0 ∧ s.commandCheck 1 (3 * 2 ^ 61 + 2 ^ 32) ≠ 0 ∧
    (∀ e ∈ (s.adaptPart 1).streams, s.streamPartition e.1 = 1) := by decide +kernel

/-- Partition 2 is OFF and its record names herd 2, slot 5 and the granules 16 and 17. -/
def starting (base : Nat) (used : List Nat) : State :=
  { up (ints [(Entry.partHerdMask 2, 4), (Entry.partMemoryBase 2, (base : Int)), (Entry.partMemorySize 2, 2), (Entry.partMasterPort 2, 255)] ++
      [(Entry.partSlotMask 2, .bytes (leBytes 16 32))]) with
    security := { used := used } }

/-- Partition 2 as it is between its start and its end, owning herd 2, slot 5 and granules. -/
def between (st : Nat) (r : PartRt) (keys : List KeyName) : State :=
  let s := up (ints [(Entry.partState 2, (st : Int)), (Entry.herdPartition 2, 2), (Entry.herdState 2, 1), (Entry.slotPartition 5, 2)])
  { s with
    parts := s.parts ++ [(2, { r with owned := some { herds := [2], slots := [5], memBase := 16, memSize := 2 } })]
    security := { keys := keys } }

theorem between_fits (st : Nat) (r : PartRt) (keys : List KeyName) : ((between st r keys).owned 2).fits := by
  refine ⟨?_, ?_, ?_, ?_, ?_⟩ <;> intro x hx <;>
    simp [between, State.owned, State.partRt, up, Assoc.get, Assoc.find] at hx <;> omega

theorem witness_partitionsStart : (starting 16 [17]).running = true ∧ (starting 16 [17]).boot.managing = true ∧
    (starting 16 [17]).partState 2 = 0 ∧ (starting 16 [17]).herdMinimum ≤ (starting 16 [17]).workingHerds.length ∧
    (starting 16 [17]).partStartError 2 = 0 ∧ (starting 9 []).partStartError 2 ≠ 0 ∧
    (let s := between 1 { keysReady := true } []
     s.partState 2 = 1 ∧ (s.partRt 2).keysReady = true ∧ (s.partRt 2).toScrub = []) ∧
    (between 1 {} []).partRt 2 ≠ (between 1 { keysReady := true } []).partRt 2 := by decide +kernel

theorem witness_partitionsStop : (let s := between 2 { keysReady := true } []
      s.running = true ∧ s.boot.managing = true ∧ s.partOpen 2 = true ∧ (s.owned 2).ports = [] ∧ (s.owned 2).pairs = [] ∧ (s.owned 2).streams = [] ∧
      s.jobs = [] ∧ s.raster.passes = [] ∧ s.raster.queries = []) ∧
    (let s := between 3 { keysReady := true } [.memory 2]
     s.stopped 2 = true ∧ (∀ h ∈ (s.owned 2).herds, s.n (Entry.herdPartition h) = 2)) ∧
    (between 2 {} []).stopped 2 = false := by decide +kernel

theorem witness_granulesScrubbed : ∀ rest : List Nat, rest = [] ∨ rest = [17] → let s := between 4 { toScrub := 16 :: rest } [.scrub 16]
    (s.partRt 2).toScrub = 16 :: rest ∧ s.hasKey (.scrub 16) = true ∧ s.partState 2 = 4 ∧ 16 ∉ rest ∧
    s.on (Entry.partPendingStart 2) = false ∧ s.running = true ∧ s.herdMinimum ≤ s.workingHerds.length := by
  rintro rest (rfl | rfl) <;> decide +kernel

/-- A schedule of one window: it starts at line 10, is 20 lines long, and names slot 0. -/
def schedule (start : Nat) : Bytes := leBytes 32 (start * 2 ^ 240 + 20 * 2 ^ 224 + 1)

/-- Partition 1 with the schedule in use, its window open after two laps, slot 0 with a WINDOW table whose lap runs. -/
def scheduled (anchor : Int) : State :=
  let s := up (ints [(Entry.portState 0, 1), (Entry.portEnable 0, 1), (Entry.partAnchorPort 1, anchor)])
  { s with
    parts := s.parts.map fun e => (e.1, { e.2 with inUse := some (schedule 10), windows := [{ number := 0, slots := [0], laps := 2 }] })
    ports := [(0, { counting := true })]
    herds := { slots := [(0, { active := some (image 0 0), lap := some { number := 3, window := some 0 } })] } }

theorem witness_schedulesAndWindows : (∀ a ∈ [(0 : Int), 255], (scheduled a).running = true ∧ (scheduled a).boot.managing = true) ∧
    (schedule 10).length ≤ 2048 ∧ (scheduled 0).admitError 1 (schedule 10) = 0 ∧ (scheduled 255).admitError 1 (schedule 10) = 5 ∧
    (scheduled 0).admitError 1 (schedule 60000) ≠ 0 ∧ (scheduled 0).admitError 1 (schedule 60000) ≠ 5 ∧
    (let s := scheduled 0
     s.partOpen 1 = true ∧ (s.partRt 1).inUse = some (schedule 10) ∧ (windowsOf (schedule 10))[0]?.isSome = true ∧
      (s.partRt 1).windows.find? (fun y => y.number = 0) = some { number := 0, slots := [0], laps := 2 }) := by decide +kernel

theorem freshness_plain : plainEntry (Entry.portFreshnessLimit 0) := by intro s v; rfl

/-- A node 5 on the bus, with what its CAN interface holds. -/
def node (c : Can) (l : List (Nat × Int) := []) : State := { up (ints (l ++ [(Entry.canNodeId, 5)])) with can := c }

/-- A request for an entry at this node. -/
def request (k : Nat) (data : Bytes) (command : BitVec 8 := 1) : JalmonFrame :=
  { cls := 0x0C, node := 5, seq := 9, command := command, index := BitVec.ofNat 16 (k / 256), sub := BitVec.ofNat 8 (k % 256), length := BitVec.ofNat 8 data.length
    data := data }

theorem request_asks : (∀ c : Fin 6, asks (request (Entry.portFreshnessLimit 0) [7, 0] (BitVec.ofNat 8 c)) c) ∧
    asks (request (Entry.portFreshnessLimit 0) (leBytes 4 2) 4) 4 := by unfold asks; decide +kernel

theorem witness_canExpeditedTransfers : let s := (node {}).canHeard
    let f := request (Entry.portFreshnessLimit 0) [7, 0]
    s.running = true ∧ frameKey f = Entry.portFreshnessLimit 0 ∧ s.canTakes f.cls.toNat f.node.toNat = true ∧ f.length.toNat ≤ 56 ∧
    f.length.toNat ≤ f.data.length ∧ (s.row (frameKey f)).isSome = true ∧ s.check .can (frameKey f) false 0 = 0 ∧
    (s.readBytes (frameKey f)).length ≤ 56 ∧ s.check .can (frameKey f) true f.length.toNat = 0 ∧
    s.check .can (Entry.slotTableDigest 0) false 0 = 0 ∧ 56 < (s.readBytes (Entry.slotTableDigest 0)).length ∧
    s.check .can 0xFFFFFF false 0 ≠ 0 ∧ s.check .can (Entry.slotTableDigest 0) true 64 ≠ 0 ∧ s.canTakes 0x0C 6 = false ∧
    6 < (request 0 [] 7).command.toNat ∧ ((s.row (frameKey f)).map fun r => (r.clamps [40, 0], r.clamps [255, 255])) = some (false, true) := by decide +kernel

/-- The segment `n` of the transfer with sequence number 9. -/
def segment (n : Nat) (last : Bool) (data : Bytes) : JalmonSegment :=
  { cls := 0x0C, node := 5, seq := 9, last := last, segment := BitVec.ofNat 11 n, dataLen := BitVec.ofNat 6 data.length, data := data }

theorem witness_canSegmentedTransfers : (let s := (node {}).canHeard
      s.can.transfer = none ∧ s.canTakes (segment 0 true []).cls.toNat (segment 0 true []).node.toNat = true ∧ s.check .can (Entry.slotTableDigest 0) false 0 = 0 ∧ s.held = false ∧ s.reaches 0 (Entry.portFreshnessLimit 0) = true ∧
      ((s.row (Entry.portFreshnessLimit 0)).map fun r => r.acc ≠ .ro && r.acc ≠ .const && r.ty.fits 2) = some true ∧
      frameValue (request (Entry.portFreshnessLimit 0) (leBytes 4 2) 4) = leBytes 4 2) ∧
    (let s := (node { transfer := some { write := false, seq := 9, key := Entry.slotTableDigest 0, total := 64, data := zeros 64, next := 1 } }).canHeard
     s.can.transfer.map (fun x => (x.seq, x.next, x.write)) = some ((segment 1 false []).seq.toNat, (segment 1 false []).segment.toNat, false)) ∧
    (let s := (node { transfer := some { write := true, seq := 9, key := Entry.portFreshnessLimit 0, total := 2, next := 0 } }).canHeard
     s.running = true ∧ s.check .can (Entry.portFreshnessLimit 0) true 2 = 0 ∧ ((segment 0 true [7, 0]).data.take 2).length = 2 ∧
      s.can.transfer.map (fun x => (x.seq, x.next, x.write)) = some (9, (segment 0 true [7, 0]).segment.toNat, true)) ∧
    (segment 0 true [7, 0]).dataLen.toNat ≤ 60 ∧ (segment 0 false [7, 0]).last = false := by decide +kernel

theorem witness_canLineAndEvents : (node { transmitErrors := 248 }).canAlive = true ∧ (node {}).canListens = true ∧
    (node { busOff := true }).can.busOff = true ∧ (node { busOff := true }).on Entry.supplySysclkState = false ∧
    (let s := node { events := true, queue := [{ key := Entry.devDeviceState, type := 2, value := [4] }] }
     s.canAlive = true ∧ s.can.events = true ∧ s.can.queue ≠ []) := by decide +kernel

theorem witness_mailboxRequests : let s := up []
    s.mailboxAlive = true ∧ (s.box 0).state = 0 ∧ s.scrubbing (requesterOf 0) = false ∧ s.running = true ∧
    s.check (requesterOf 0) (Entry.portFreshnessLimit 0) false 0 = 0 ∧ s.check (requesterOf 0) (Entry.portFreshnessLimit 0) true 2 = 0 ∧
    ((s.row (Entry.portFreshnessLimit 0)).map fun r => r.clamps [40, 0]) = some false ∧
    s.check (requesterOf 0) (Entry.slotTableDigest 0) true 64 ≠ 0 ∧
    (let u := { s with boxes := [(0, { state := 1, irq := true, outcome := 2 })] }
     u.mailboxAlive = true ∧ (u.box 0).state = 1 ∧ (u.box 0).irq = true ∧ 0 ∉ (u.box 0).vectors ∧ (u.box 0).vectorMasked 0 = false) ∧
    (let u := up (ints [(Entry.partState 1, 4)])
     u.mailboxAlive = true ∧ (u.box 1).state = 0 ∧ u.scrubbing (requesterOf 1) = true) ∧
    (({} : Mailbox).barWrites [⟨4, [2, 0, 0, 0]⟩, ⟨0x10000, [40, 0]⟩]).length = 2 ∧
    (({} : Mailbox).barWrites [⟨4, [2, 0, 0, 0]⟩, ⟨0x10000, [40, 0]⟩]).buffer.take 2 = [40, 0] := by decide +kernel

/-- A bring-up of a good board at junctions of some temperature, with an image of this part and of security version 0 in area A. -/
def board (tenths : Int) : BootEnv :=
  { imageA := some (leBytes 64 (0x484B5A46 * 2 ^ 480 + 2 ^ 464 + 2 ^ 456 + 5 * 2 ^ 424)), imageB := none, node := 5, safetyEn := false
    suppliesOk := true, signatureA := true, signatureB := false, vout := some 750, channelsBad := [], rowsBad := [], pcieWidth := 16
    pcieGen := 6, zennikLanes := List.replicate 6 255, ethLanes := 15, csiLanes := List.replicate 4 15, dsiLanes := List.replicate 16 15
    testBad := [], kidCrcBad := [], bringUpMs := 900, junctions := List.replicate 24 tenths }

theorem board_clean (tenths : Int) (h : tenths < 1100) : cleanBoot (board tenths) := by
  refine ⟨rfl, rfl, rfl, rfl, rfl, rfl, rfl, rfl, rfl, rfl, rfl, ⟨750, rfl, by decide, by decide⟩, ?_⟩
  intro z hz; rw [board, List.mem_replicate] at hz; omega

theorem witness_bringUpReachesReady : let u := State.reset
    u.fuses.herdsOff = [] ∧ u.fuses.kidsOut = [] ∧ u.fuses.unitsBad = [] ∧ u.flash.saveA = none ∧ u.flash.saveB = none ∧ u.flash.repairs = [] ∧
    (∀ z ∈ (board 250).junctions, u.gradeMin ≤ z) ∧ (∃ z ∈ (board (-10)).junctions, z < u.gradeMin) ∧
    (u.toOff.bootBegins (board 250)).bootArea (board 250) = some 0 ∧ (u.toOff.bootBegins (board (-10))).bootArea (board (-10)) = some 0 ∧
    (up []).answers = true := by decide +kernel

theorem witness_entryWrites : let s := up []
    let k := Entry.portFreshnessLimit 0
    s.running = true ∧ s.boot.managing = true ∧ (∀ who ∈ [Requester.can, .pf], s.check who k true 2 = 0 ∧ s.scrubbing who = false) ∧
    ((s.row k).map fun r => (r.clamps [40, 0], r.clamps [255, 255])) = some (false, true) ∧ s.check .can (Entry.slotTableDigest 0) true 64 ≠ 0 ∧
    (up (ints [(Entry.partState 1, 4)])).scrubbing (.vf 0) = true ∧ (up [(Entry.devDeviceState, .int 6)]).held = true := by decide +kernel

/-- A valid copy of no entries. -/
def copyOf (number : Nat) : SaveArea := { number := number, crc := ({ number := number : SaveArea }).check }

/-- Two saved copies, the newer in area A, or in area B. -/
def saved (saving : Bool) (newestA : Bool := true) : State :=
  let s := up []
  { s with
    flash := if newestA then { saveA := some (copyOf 4), saveB := some (copyOf 3) } else { saveA := some (copyOf 3), saveB := some (copyOf 4) }
    boot := { s.boot with saving := if saving then some [(Entry.portFreshnessLimit 0, .int 9)] else none } }

theorem saved_unadapting : (saved false).unadapting := by
  intro p; simp [saved, up, State.reset, State.adaptPart, Assoc.get]

theorem witness_savesAndDefaults : (∀ b, (saved b).running = true ∧ (saved b).boot.managing = true ∧ (saved b).boot.saveQueued = none) ∧
    (saved false).boot.saving = none ∧ (saved true).boot.saving = some [(Entry.portFreshnessLimit 0, .int 9)] ∧
    (saved true).flash.saveA = some (copyOf 4) ∧ (saved true false).flash.saveB = some (copyOf 4) ∧
    (copyOf 3).number < (copyOf 4).number ∧ 0 < (copyOf 4).number := by
  refine ⟨?_, ?_, ?_, rfl, rfl, ?_, ?_⟩ <;> decide +kernel

theorem copyOf_valid (n : Nat) : (copyOf n).valid = true := by simp [copyOf, SaveArea.valid, SaveArea.check]

theorem up_unrecorded (l : List (Nat × Value)) : (up l).unrecorded := by
  apply unrecorded_of; intro x hx; simp only [up, List.mem_singleton] at hx; subst hx; decide

theorem up_unadapting (l : List (Nat × Value)) : (up l).unadapting := by
  intro p; simp [up, State.reset, State.adaptPart, Assoc.get]

/-- Ethernet port 0 is enabled with the address 10.0.0.1 and its link is in a state; stream 0 takes RTP packets of type 96 at UDP port 5004 of
that address. -/
def wired (link : Int) : State :=
  let s := up (ints [(Entry.ethLinkState 0, link), (Entry.streamState 0, 2), (Entry.streamDstPort 0, 5004), (Entry.streamPayloadType 0, 96),
    (Entry.streamSsrcMode 0, 1)] ++ [(Entry.streamDstAddress 0, .bytes (mappedV4 0x0A000001))])
  { s with boot := { s.boot with inForce := ints [(Entry.ethEnable 0, 1), (Entry.ethIgmpEnable 0, 1), (Entry.ethIpv4Address 0, 0x0A000001)] } }

/-- A frame with a payload. -/
def frameOf (p : EthPayload) (fcs : Bool := true) (tags : Nat := 0) : EthFrame := { length := 100, fcsOk := fcs, vlanTags := tags, payload := p }

/-- An RTP packet of a whole NAL unit. -/
def rtp : RtpPacket := { version := 2, payloadType := 96, ssrc := 7, seq := 3, timestamp := 9000, marker := true, payload := .single 1, bytes := 60 }

/-- A datagram with it to a UDP port. -/
def datagramTo (port : Nat) : UdpPacket :=
  { srcAddr := zeros 16, dstAddr := mappedV4 0x0A000001, srcPort := 4000, dstPort := BitVec.ofNat 16 port, checksumOk := true, content := .rtp rtp }

theorem witness_ethernetPorts : let s := wired 1
    s.ethRuns 0 = true ∧ s.ethRuns 1 = false ∧ (frameOf .other false).fcsOk = false ∧ s.ethDrops 0 (frameOf .other true 2) = true ∧
    s.ethDrops 0 (frameOf .icmpEcho) = false ∧ (0x0A000001 : BitVec 32) ≠ 0 ∧
    (0x0A000001 : BitVec 32).toNat = s.inForceN (Entry.ethIpv4Address 0) ∧ s.ethDrops 0 (frameOf (.udp (datagramTo 5004))) = false ∧
    (5004 ≠ s.inForceN Entry.fabricUdpPort ∧ 5006 ≠ s.inForceN Entry.fabricUdpPort) ∧
    (∀ i, i < 512 → s.addressed i 0 (datagramTo 5006) rtp = false) ∧
    s.addressed 0 0 (datagramTo 5004) rtp = true ∧ s.streamOpen 0 = true ∧ s.ssrcFits 0 7 1000 = true ∧ (∀ j, j < 512 → j ≠ 0 → s.addressed j 0 (datagramTo 5004) rtp = false) ∧
    (let u := { s with dict := (Entry.streamState 0, .int 0) :: s.dict }
     u.streamOpen 0 = false ∧ u.addressed 0 0 (datagramTo 5004) rtp = true ∧ u.ssrcFits 0 7 1000 = true) ∧ (pieceOf rtp.payload).isSome = true ∧
    s.running = true ∧ s.inForceN (Entry.ethIgmpEnable 0) = 1 ∧ s.n (Entry.ethLinkState 0) = 1 ∧
    (wired 0).inForceN (Entry.ethEnable 0) = 1 ∧ (wired 0).n (Entry.ethLinkState 0) = 0 ∧ (wired 0).peers.waiting = [] := by decide +kernel

theorem witness_mdioTransactions : (up []).running = true ∧ (up []).boot.managing = true ∧
    bits ((up []).n Entry.mdioMdioResult) 30 2 ≠ 1 ∧ bits (5 : BitVec 64).toNat 62 2 = 0 ∧ bits (2 ^ 62 : BitVec 64).toNat 62 2 = 1 ∧
    2 ≤ bits (2 ^ 63 : BitVec 64).toNat 62 2 ∧
    bits ((up (ints [(Entry.mdioMdioResult, 2 ^ 30)])).n Entry.mdioMdioResult) 30 2 = 1 := by decide +kernel

/-- A picture of 8×8 pixels. -/
def smallPicture : Picture := ⟨8, 8, List.replicate 8 (List.replicate 8 500), List.replicate 8 (List.replicate 8 512), List.replicate 8 (List.replicate 8 512)⟩

/-- A context with an access unit, and a picture of it released or in slice 0. -/
def decoding (u : AccessUnit) (released : List SliceJob) (slices : List (Nat × SliceJob)) : State :=
  { up (ints [(Entry.streamState 0, 1), (Entry.streamDecodedFrames 0, 4), (Entry.streamMaxWidth 0, 1920), (Entry.streamMaxHeight 0, 1080)]) with
    streams := [(0, { units := [u], sawIrap := true })], released := released, slices := slices }

theorem decoding_unadapting (u : AccessUnit) (l : List SliceJob) (m : List (Nat × SliceJob)) : (decoding u l m).unadapting := by
  intro p; simp [decoding, up, State.reset, State.adaptPart, Assoc.get]

/-- What a slice gives. -/
def decoded (supported : Bool) : DecodeResult :=
  { supported := supported, irap := true, syntaxError := false, sampleBits := 10, picture := smallPicture, motion := [] }

theorem witness_accessUnitsDecoded : (∀ b, (let s := decoding { complete := b } [] []
      (s.ctx 0).units = { complete := b } :: [] ∧ s.hasFlag 0 flagSuspended = false ∧ (s.ctx 0).sawIrap = true)) ∧
    (let s := decoding {} [{ stream := 0 }] []
     s.released = { stream := 0 } :: [] ∧ s.fenced ⟨.slice, 0⟩ = false ∧ s.n (Entry.sliceState 0) = 0 ∧ s.hasFlag 0 flagSuspended = false ∧
      s.buffersHeld 0 < s.cfgN 0 (Entry.streamDecodedFrames 0)) ∧
    (let s := decoding {} [] [(0, { stream := 0 })]
     Assoc.find s.slices 0 = some { stream := 0 } ∧ (∀ e ∈ s.slices, e.1 ≠ 0 → e.2.stream = 0 → 0 ≤ e.2.order) ∧ s.hasFlag 0 flagSuspended = false ∧
      s.activePairs = [] ∧ (decoded true).supported = true ∧ s.tooBig 0 smallPicture = false ∧ s.hasFlag 0 flagTainted = false ∧
      (decoded false).supported = false) ∧
    (let s := decoding {} [] [(0, { stream := 0, order := 1 }), (1, { stream := 0 })]
     Assoc.find s.slices 0 = some { stream := 0, order := 1 } ∧ ∃ e ∈ s.slices, e.1 ≠ 0 ∧ e.2.stream = 0 ∧ e.2.order < 1) := by
  decide +kernel

theorem witness_streamsStartAndStop : (up []).running = true ∧ (up []).boot.managing = true ∧ (up []).streamState 0 = 0 ∧
    (up []).partOpen ((up []).streamPartition 0) = true ∧ (up []).streamStartError 0 = 0 ∧
    (let s := up (ints [(Entry.streamMaxWidth 0, 8192), (Entry.streamMaxHeight 0, 8192), (Entry.streamMaxFrameRate 0, 65535)])
     s.streamState 0 = 0 ∧ s.partOpen (s.streamPartition 0) = true ∧ s.streamStartError 0 ≠ 0) ∧
    (up []).partOpen ((up []).streamPartition 9) = false ∧
    (let s := up (ints [(Entry.streamState 0, 2)])
     s.streamOpen 0 = true ∧ s.activePairs = [] ∧ s.gen.jobs = []) ∧
    (let s := up (ints [(Entry.streamState 0, 3)])
     s.streamState 0 = 3 ∧ s.on (Entry.streamPendingStart 0) = false) := by decide +kernel

/-- CSI-2 port 0 in a state, with stream 0 as its context on virtual channel 2 with RGB888 data, and a frame of it in progress. -/
def camera (st : Int) (frames : List CsiFrame) : State :=
  let s := up (ints [(Entry.csiState 0, st), (Entry.streamState 0, 1), (Entry.streamSource 0, 4), (Entry.streamVirtualChannel 0, 2),
    (Entry.streamDataType 0, 0x24), (Entry.streamDecodedFrames 0, 4), (Entry.streamMaxWidth 0, 1920), (Entry.streamMaxHeight 0, 1080)])
  { s with
    csi := [(0, { frames := frames })]
    boot := { s.boot with inForce := ints [(Entry.csiEnable 0, 1)] } }

theorem camera_unadapting (st : Int) (l : List CsiFrame) : (camera st l).unadapting := by
  intro p; simp [camera, up, State.reset, State.adaptPart, Assoc.get]

/-- A line of two black pixels. -/
def csiLine : CsiLine := { vc := 2, dataType := 0x24, codes := [0, 0, 0, 0, 0, 0] }

theorem witness_csiReception : (let s := camera 0 []
      s.n (Entry.csiState 0) = 0 ∧ s.running = true ∧ s.inForceN (Entry.csiEnable 0) = 1 ∧ s.fenced ⟨.csi, 0⟩ = false) ∧
    (let s := camera 1 []
     s.n (Entry.csiState 0) = 1 ∧ s.csiTaken 0 2 0x2B = [] ∧ s.csiTaken 0 2 0x24 = [0] ∧ s.csiStreams 0 2 = [0] ∧ s.activePairs = [] ∧
      (∀ f ∈ (s.csiPort 0).frames, f.stream ≠ 0) ∧ s.buffersHeld 0 < s.cfgN 0 (Entry.streamDecodedFrames 0) ∧ linePixels csiLine ≤ 4096) ∧
    (∀ b, let f : CsiFrame := { vc := 2, stream := 0, lines := [csiLine, csiLine], lossy := b }
      let s := camera 1 [f]
      (s.csiPort 0).frames.filter (fun g => g.vc = 2) = [f] ∧
      ((s.csiPort 0).frames.map s.csiWaiting).foldl (· + ·) 0 + s.csiEndedWaiting 0 < 64 ∧ s.anchorPort (s.streamPartition 0) = none ∧
      s.tooBig 0 (convertCsi (s.cfgN 0 (Entry.streamDataType 0)) (s.cfgN 0 (Entry.streamBayerOrder 0))
        (s.cfgB 0 (Entry.streamColourMatrix 0)) (f.lines.map CsiLine.codes)) = false) := by decide +kernel

/-- Pair 0 of streams 0 and 1 in a state, with a pair frame that waits or that engine 0 works on. -/
def paired (st : Int) (queued : List PairFrame) (stereo : List (Nat × PairFrame)) (right : Int := 1) (engine : Int := 0) : State :=
  { up (ints [(Entry.pairState 0, st), (Entry.pairLeftStream 0, 0), (Entry.pairRightStream 0, right), (Entry.pairDisparityFrames 0, 4),
      (Entry.stereoState 0, engine)] ++
      ints ((List.range 2).flatMap fun i => [(Entry.streamMaxWidth i, 640), (Entry.streamMaxHeight i, 480), (Entry.streamMaxFrameRate i, 30)])) with
    vision := { queued := queued, stereo := stereo } }

theorem witness_pairsStartAndStop : (let s := paired 0 [] []
      s.running = true ∧ s.boot.managing = true ∧ s.pairState 0 = 0 ∧ s.partOpen (s.pairPartition 0) = true ∧ s.pairStartError 0 = 0) ∧
    (paired 0 [] [] 9).pairStartError 0 ≠ 0 ∧ (let s := up (ints [(Entry.partState 1, 0)])
     s.pairState 0 = 0 ∧ (up []).partOpen ((up []).pairPartition 9) = false) ∧ (paired 2 [{ pair := 0 }] [(0, { pair := 0 })]).pairOpen 0 = true ∧
    (∀ e ∈ (paired 2 [{ pair := 0 }] [(0, { pair := 0 })]).vision.stereo, e.1 < 4) ∧
    (let s := paired 3 [] []
     s.pairState 0 = 3 ∧ s.on (Entry.pairPendingStart 0) = false) := by decide +kernel

/-- Stream 0 has two frames, the later one waiting for its flow; flow engine 0 may work on it. -/
def flowing (follows : Bool) (queue : List (Nat × Nat)) (flow : List (Nat × FlowJob)) : State :=
  { up (ints [(Entry.flowState 0, if flow = [] then 0 else 1)]) with
    streams := [(0, { frames := [{ ordinal := 4, picture := smallPicture, ready := true },
      { ordinal := 5, picture := smallPicture, follows := follows, flow := .pending }] })]
    vision := { flowQueue := queue, flow := flow } }

theorem witness_visionEnginesServe : (let s := paired 2 [{ pair := 0 }] []
      s.fenced ⟨.stereo, 0⟩ = false ∧ Assoc.find s.vision.stereo 0 = none ∧
      (let mine := s.vision.queued.filter fun f => if s.pinned 0 = [] then !s.streamed f.pair else decide (f.pair ∈ s.pinned 0)
       mine ≠ [] ∧ ∀ f ∈ mine, s.outputFree f.pair = true)) ∧
    (let s := paired 1 [] [(0, { pair := 0 })] 1 1
     Assoc.find s.vision.stereo 0 = some { pair := 0 } ∧ s.n (Entry.stereoState 0) = 1) ∧
    (let s := flowing true [(0, 5)] []
     s.fenced ⟨.flow, 0⟩ = false ∧ s.n (Entry.flowState 0) = 0 ∧ s.vision.flowQueue ≠ []) ∧
    (∀ b, let s := flowing b [] [(0, { stream := 0, ordinal := 5 })]
      Assoc.find s.vision.flow 0 = some { stream := 0, ordinal := 5 } ∧
      ((s.ctx 0).frames.find? (fun y => y.ordinal = 5)).map Frame.follows = some b ∧
      ((s.ctx 0).frames.find? (fun z => z.ordinal + 1 = 5)).isSome = true) := by decide +kernel

/-- Stream 0 has a frame that waits to become ready, in a partition with an arrival mode. -/
def arriving (mode : Nat) : State :=
  let s := up (ints [(Entry.streamState 0, 2), (Entry.streamDecodedFrames 0, 4)])
  { s with
    parts := s.parts.map fun e => (e.1, { e.2 with arrivalMode := mode })
    streams := [(0, { frames := [{ ordinal := 5, timestamp := 9000, picture := smallPicture }] })] }

theorem arriving_unrecorded (mode : Nat) (h : mode ≠ 1) : (arriving mode).unrecorded := by
  apply unrecorded_of; intro x hx; simp only [arriving, up, List.map_cons, List.map_nil, List.mem_singleton] at hx; subst hx; exact h

/-- Port 0 shows stream 0, which is in PASS. -/
def passing : State :=
  let s := port 2 { showing with chosen := [] } [(Entry.streamGenGenState 0, 2), (Entry.streamGenMode 0, 0)]
  { s with gen := { buffers := [(0, 0, 4)] } }

theorem witness_generationFollows : (arriving 2).waitingFrame 0 = some { ordinal := 5, timestamp := 9000, picture := smallPicture } ∧
    ((arriving 2).partRt ((arriving 2).streamPartition 0)).arrivalMode = 2 ∧
    (let s := arriving 0
     s.waitingFrame 0 = some { ordinal := 5, timestamp := 9000, picture := smallPicture } ∧
      (s.partRt (s.streamPartition 0)).arrivalMode = 0 ∧ s.genState 0 = 0 ∧ s.n (Entry.streamGenMode 0) = 0 ∧
      s.leadFallback 0 = false ∧ s.showingPorts 0 = [] ∧
      (s.ctx 0).frames.find? (fun x => x.ordinal = 5) = some { ordinal := 5, timestamp := 9000, picture := smallPicture } ∧
      (s.ctx 0).frames.length + s.decodingOf 0 + ofBool (s.csiFrame? 0).isSome ≤ s.cfgN 0 (Entry.streamDecodedFrames 0)) ∧
    (let s := passing
     s.portRuns 0 = true ∧ s.shows 0 = true ∧ (s.portRt 0).counting = true ∧
      ((s.portRt 0).chosen.head?.map FrameChoice.frame) ≠ some ((s.portRt 0).frames + 1) ∧ (s.partRt (s.portOwner 0)).arrivalMode ≠ 2 ∧
      s.layers 0 ≠ [] ∧
      (∀ l ∈ s.layers 0, l.kind = 1 ∧ s.neural 0 l = false ∧ l.source ∈ layerStreams (s.portRt 0).applied) ∧
      (∀ j ∈ layerStreams (s.portRt 0).applied, s.streamState j = 2 ∧ s.genState j = 2 ∧ s.modeInEffect j = 2 ∧
        (s.genStream j).pendingCuts = 0 ∧ (s.genStream j).pendingRetract = false ∧ ∀ m ∈ s.showingPorts j, s.genBuffers j m ≠ 0) ∧
      (∀ j, j < 512 → s.genState j ≠ 0 → j ∉ layerStreams (s.portRt 0).applied → s.showingPorts j ≠ [])) ∧
    (up []).running = true ∧ (up []).boot.managing = true := by decide +kernel

/-- Target 0 of partition 1: 64×64 pixels of 4 bytes, two frame buffers at 0x10000. -/
def targetDescriptor : Nat := 64 * 2 ^ 496 + 64 * 2 ^ 480 + 0x10000 * 2 ^ 384

/-- A pass header for target 0 with a number of batches; with none it is refused. -/
def passHeader (batches : Nat) : Nat := 2 ^ 120 + batches * 2 ^ 96

/-- The header of batch 0 of target 0: one triangle at 0x18000, shaded by slot 0; with a blend code. -/
def batchHeader (blend : Nat) : Nat := 2 * 2 ^ 312 + blend * 2 ^ 256 + 0x18000 * 2 ^ 64

/-- A query batch of one query at 0x1A000, its results at 0x1B000, its BVH at 0x1C000. -/
def queryHeader : Nat := 3 * 2 ^ 376 + 0x1C000 * 2 ^ 192 + 0x1C000 * 2 ^ 128 + 0x1A000 * 2 ^ 64 + 0x1B000

/-- Ring 0 with a RASTER entry for a header of some bytes, the target, a pool of 128 KiB, a reserve, and raster work in progress. -/
def rastering (h n : Nat) (raster : Raster) (l : List (Nat × Int) := []) (jobs : List RingJob := []) : State :=
  let s := up (ints (l ++ [(Entry.partRasterTargetCount 1, 1), (Entry.partRasterTargetTableBase 1, 0x8000), (Entry.partRasterPoolBase 1, 0x100000),
    (Entry.partRasterPoolSize 1, 0x20000), (Entry.partRasterReserveLimit 1, 65536)]))
  let s := (s.writeMem 1 0 (leBytes 64 ringDescriptor)).writeMem 1 0x1000 (leBytes 64 (ringEntry 2 [(320, 0x9000)]))
  let s := (s.writeMem 1 0x8000 (leBytes 64 targetDescriptor)).writeMem 1 0x9000 (leBytes n h)
  { s with
    rings := [(0, { tail := 1, slotsLog := 4, submitBase := 0x1000, completeBase := 0x2000, irq := true, vector := 3 })]
    herds := { slots := [(0, { active := some (image 2 3) })] }
    raster := raster, jobs := jobs }

/-- The pass that is open on target 0. -/
def openPass : Pass :=
  { id := 3, partition := 1, target := 0, job := 100, header := passHeader 1, desc := targetDescriptor, frameCount := 1, poolSize := 0x20000
    limit := 65536, units := List.range 16 }

/-- The RASTER entry of ring 0: it names the header at 0x9000. -/
def rasterEntry : Nat := ringEntry 2 [(320, 0x9000)]

theorem rastering_apart (s : State) (a : Nat) (h : s.completionAt 0 = 0x2000 ∧ s.ringDescAt 1 0 = 0) (x : s.stores 1 (s.completionAt 0) 16 a) :
    ¬ s.stores 1 (s.ringDescAt 1 0 + 32) 4 a ∧ ¬ s.stores 1 (s.ringDescAt 1 0 + 36) 4 a := by
  rw [h.1] at x; rw [h.2]
  exact ⟨apart _ _ _ _ _ _ (by decide) _ x, apart _ _ _ _ _ _ (by decide) _ x⟩

theorem witness_passesOpen : (∀ n ∈ [0, 1], ∀ passes ∈ [[], [openPass]], let s := rastering (passHeader n) 16 { passes := passes }
      Memory.wf s.mem = true ∧ s.nextEntry 0 = some (1, (some rasterEntry, 0)) ∧ entryKind rasterEntry = 2 ∧
      s.rasterHeader 1 (bits rasterEntry 320 64) = (1, passHeader n) ∧ s.headerCause 1 (bits rasterEntry 320 64) 1 = 0 ∧
      s.passRefused 1 (passHeader n) = decide (n = 0) ∧ s.inRange 1 (s.completionAt 0) 16 = true ∧
      s.completionAt 0 = 0x2000 ∧ s.ringDescAt 1 0 = 0 ∧
      (s.targetDesc 1 (bits (passHeader n) 112 8)).isSome = true ∧ s.passOn 1 0 = passes.head? ∧
      (s.freeTargetBuffer 1 0 targetDescriptor).isSome = true) := by decide +kernel

theorem witness_batchesBin : (∀ blend ∈ [6, 0], ∀ setup ∈ [0, 0x30000], let q := { openPass with setup := setup }
      let s := rastering (batchHeader blend) 40 { passes := [q] }
      let u := s.takeJob 1 0 rasterEntry id
      Memory.wf s.mem = true ∧ s.nextEntry 0 = some (1, (some rasterEntry, 0)) ∧
      s.rasterHeader 1 (bits rasterEntry 320 64) = (2, batchHeader blend) ∧ s.headerCause 1 (bits rasterEntry 320 64) 2 = 0 ∧
      (s.targetDesc 1 (bits (batchHeader blend) 304 8)).isSome = true ∧ s.passOn 1 (bits (batchHeader blend) 304 8) = some q ∧
      s.batchRefused q (batchHeader blend) = decide (blend = 6) ∧ s.completionAt 0 = 0x2000 ∧ s.ringDescAt 1 0 = 0 ∧
      s.inRange 1 (s.completionAt 0) 16 = true ∧ (∀ d ∈ s.textureDescs 1 (batchHeader blend), textureLegal d = true) ∧
      s.batchOutside q (batchHeader blend) = false ∧ batchIndex (batchHeader blend) = q.nextBatch ∧ q.partial_ = false ∧ q.waiting = false ∧
      s.binsNow q = true ∧ u.poolBefore q = 0 ∧
      (∀ i, i < batchPrims (batchHeader blend) → ∀ x ∈ u.triangleReads 1 q.desc (batchHeader blend) i, u.readFails 1 x.1 x.2 = false) ∧
      (setup = 0 → u.poolBefore q + (u.binnedWith { q with
        batches := [(0, ringJobId 0 0, batchHeader blend)], nextPrim := 0 } (batchHeader blend) 0).poolUsed ≤ q.poolSize) ∧
      (setup ≠ 0 → q.poolSize <
        ((u.setUp q (batchHeader blend) 0).foldl (fun (y : Pass) t => y.bin (batchAttrs (batchHeader blend)) t) q).poolUsed)) ∧
    (let q : Pass := { openPass with partial_ := true, batches := [(0, 7, batchHeader 0)] }
     let s := rastering (batchHeader 0) 40 { passes := [q] }
     s.raster.passes.find? (fun x => x.partition = 1 && x.partial_ && x.due.isEmpty && x.running.isEmpty) = some q ∧
      q.batches.find? (fun b => b.1 = q.nextBatch) = some (0, 7, batchHeader 0) ∧
      (∀ i, i < batchPrims (batchHeader 0) → ∀ x ∈ s.triangleReads 1 q.desc (batchHeader 0) i, s.readFails 1 x.1 x.2 = false) ∧
      s.poolBefore q + (s.binnedWith { q with partial_ := false, tris := [], entries := [], setup := 0 } (batchHeader 0) 0).poolUsed ≤
        q.poolSize) := by decide +kernel

/-- The pass with tiles that are due, or a tile on unit 0. -/
def tilePass (due : List Nat) (running : List TileRun) (partial_ final : Bool) (limit : Nat := 65536) : Pass :=
  { openPass with due := due, running := running, partial_ := partial_, final := final, limit := limit, header := passHeader 1 + 2 ^ 94 }

theorem witness_tilesStart : ∀ bad ∈ [[], [(2 ^ 31 + 0x10000) / blockBytes]], let q := tilePass [0, 1] [] false true
    let r := rastering 0 0 { passes := [q] }
    let s := { r with security := { badBlocks := bad } }
    s.fenced ⟨.tile, 0⟩ = false ∧ (∀ x ∈ s.raster.passes, ∀ r ∈ x.running, r.unit ≠ 0) ∧ s.tileChoices 0 [] = [(q, 0)] ∧
    (∀ x ∈ s.raster.passes, x.id < 2 ^ 32 ∧ x.partition < 9) ∧
    (if bad = [] then ∀ x ∈ s.tileReads q 0, s.readFails 1 x.1 x.2 = false else ∃ x ∈ s.tileReads q 0, s.readFails 1 x.1 x.2 = true) ∧
    q.tileTris 0 = [] ∧ q.partition < 9 ∧ (∀ r ∈ q.running, r.unit < 16) ∧ (∀ j ∈ s.jobs, j.partition < 9) ∧ q.jobs.Nodup ∧
    ∀ x ∈ s.raster.passes, x.partition = q.partition → x.id ≠ q.id → x.waiting = false := by decide +kernel

theorem witness_tilesFinish : ∀ b : Bool, ∀ limit ∈ [65536, 0], let q := tilePass [] [{ unit := 0, tile := 0 }] b true limit
    let s := rastering 0 0 { passes := [q] } [(Entry.tileState 0, 1)]
    Memory.wf s.mem = true ∧ s.raster.passes.find? (fun x => x.running.any fun r => r.unit = 0) = some q ∧
    q.running.find? (fun r => r.unit = 0) = some { unit := 0, tile := 0 } ∧ q.partition < 9 ∧ (∀ r ∈ q.running, r.unit < 16) ∧
    (∀ j ∈ s.jobs, j.partition < 9) ∧ q.jobs.Nodup ∧ (∀ x ∈ s.raster.passes, x.partition = q.partition → x.id ≠ q.id → x.waiting = false) ∧
    q.waiting = false ∧ (s.raster.passes.map Pass.id).Nodup ∧ descExternal q.desc = false ∧
    s.inRange 1 (q.colourAt q.buffer (descSamples q.desc - 1) (0, 0)) (descSamplePlane q.desc) = true ∧
    (limit = 65536 → s.reserveOf 1 + to256 (4 * 1024 + 16) ≤ q.limit ∧ s.reserveUsed + to256 (4 * 1024 + 16) ≤ 2 ^ 24) ∧
    (limit = 0 → q.limit < 256) := by decide +kernel

theorem witness_passesEnd : ∀ final : Bool, let q := tilePass [] [] false final
    let s := rastering 0 0 { passes := [q] } [] [{ id := 100, partition := 1, kind := 2 }]
    s.raster.passes.find? (fun x => x.partition = 1) = some q ∧
    (final = true → s.raster.passes.find? (fun x => x.partition = 1 && x.ready) = some q) ∧ q.final = final ∧ q.due = [] ∧ q.running = [] ∧
    q.partition < 9 ∧ (∀ r ∈ q.running, r.unit < 16) ∧ (∀ j ∈ s.jobs, j.partition < 9) ∧ q.jobs.Nodup ∧
    (∀ x ∈ s.raster.passes, x.partition = q.partition → x.id ≠ q.id → x.waiting = false) := by decide +kernel

/-- A query batch on ray unit 0. -/
def queryJob : QueryJob := { partition := 1, job := 100, header := queryHeader, unit := some 0 }

theorem witness_queriesServed : (let s := rastering queryHeader 48 {}
      s.nextEntry 0 = some (1, (some rasterEntry, 0)) ∧ s.rasterHeader 1 (bits rasterEntry 320 64) = (3, queryHeader) ∧
      s.headerCause 1 (bits rasterEntry 320 64) 3 = 0 ∧ s.inRange 1 (bits queryHeader 64 64) (40 * queryCount queryHeader) = true ∧
      s.inRange 1 (bits queryHeader 0 64) (16 * queryCount queryHeader) = true ∧ s.raster.queries = []) ∧
    (∀ bad ∈ [[], [(2 ^ 31 + 0x1A000) / blockBytes]],
      let r := rastering queryHeader 48 { queries := [queryJob] } [(Entry.rayState 0, 1)] [{ id := 100, partition := 1, kind := 2 }]
      let s := { r with security := { badBlocks := bad } }
      Memory.wf s.mem = true ∧ s.raster.queries.find? (fun x => x.unit = some 0) = some queryJob ∧
      s.ringJob? 100 = some { id := 100, partition := 1, kind := 2 } ∧ (∀ x ∈ s.raster.queries, x.unit.isSome = true) ∧
      (s.queryAnswer 1 queryHeader).1 = (if bad = [] then 0 else 6) ∧
      s.inRange 1 (bits queryHeader 0 64) (16 * queryCount queryHeader) = true ∧ s.completionAt 0 = 0x2000 ∧ s.ringDescAt 1 0 = 0) := by
  decide +kernel

/-- A device with the ports 0 and 1 of partition 0: port 0 LIVE. -/
def serving (fc : Fc) (l : List (Nat × Int) := []) : State :=
  { up (ints (l ++ [(Entry.portState 0, 2), (Entry.pvPvPairs, 2)])) with ports := [(0, { counting := true })], fc := fc }

theorem serving_anchored (fc : Fc) (l : List (Nat × Int)) (h : ∀ p, p < 9 → ∀ a, (serving fc l).anchorPort p = some a → ((serving fc l).portRt a).counting = true) :
    (serving fc l).anchored := anchored_of _ h

/-- A report on a unit. -/
def reportOn (k : UnitKind) (cls : FaultClass) : FaultReport := { reporter := ⟨k, 0⟩, suspect := ⟨k, 0⟩, cls := cls, detail := 7 }

theorem takesFault_of (s : State) (u v : UnitCode) (ha : s.anchored)
    (h : s.hasUnit v = true ∧ s.fenced v = false ∧ s.isPermanent v = false ∧ s.eventFor v = none ∧ s.eventOfReporter u v = none ∧
      s.openEvents.length < 256 ∧ s.herdMinimum ≤ s.workingHerds.length ∧ (s.running = true ∨ s.held = true)) : s.takesFault u v := by
  obtain ⟨a, b, c, d, e, f, g, i⟩ := h; exact ⟨a, b, c, d, e, f, g, ha, i⟩

theorem serving_takes (k : UnitKind) (h : k = .router ∨ k = .tile ∨ k = .ray ∨ k = .rtu ∨ k = .fc ∨ k = .port ∨ k = .lpddr ∨ k = .zennikLane) :
    (serving {}).takesFault ⟨k, 0⟩ ⟨k, 0⟩ := by
  refine takesFault_of _ _ _ (serving_anchored _ _ (by decide +kernel)) ?_
  rcases h with rfl | rfl | rfl | rfl | rfl | rfl | rfl | rfl <;> decide +kernel

theorem witness_faultsFence : (serving {}).takesFault ⟨.tile, 0⟩ ⟨.tile, 0⟩ ∧ (serving {}).takesFault ⟨.rtu, 0⟩ ⟨.rtu, 0⟩ ∧
    (serving {}).takesFault ⟨.port, 0⟩ ⟨.port, 0⟩ ∧ (serving {}).running = true ∧ (serving {}).portState 0 = 2 ∧
    (∀ cls ∈ [FaultClass.uncorrectable, .wiring], fences ⟨.tile, 0⟩ cls = true ∧ cls ≠ .correctable ∧ cls ≠ .presentation ∧
      (⟨.tile, 0⟩ : UnitCode) = (if cls = .wiring then (reportOn .tile cls).reporter else (reportOn .tile cls).suspect)) :=
  ⟨serving_takes _ (by simp), serving_takes _ (by simp), serving_takes _ (by simp), by decide +kernel, by decide +kernel, by decide +kernel⟩

/-- An event on a tile unit, open, and the unit as the event left it. -/
def tileEvent (recovering failed fenced permanent : Bool) (recoveries : List (UnitCode × Nat)) : State :=
  { up [(Entry.devDeviceState, .int 5), (Entry.faultOpenEvents, .int 1), (Entry.tileState 3, .int 2)] with
    fc := { log := [{ number := 1, unit := ⟨.tile, 3⟩, cls := .uncorrectable, reaction := 2, reporter := ⟨.tile, 3⟩, recovering := recovering, failed := failed }]
            fenced := if fenced then [⟨.tile, 3⟩] else [], permanent := if permanent then [⟨.tile, 3⟩] else [], recoveries := recoveries } }

theorem tileEvent_anchored (permanent : Bool) : (tileEvent false false true permanent []).anchored := by
  apply anchored_of; cases permanent <;> decide +kernel

theorem witness_faultsWithoutFence : (serving {}).anchored ∧ (serving {}).hasUnit ⟨.tile, 0⟩ = true ∧ (serving {}).running = true ∧
    (((serving {}).fc.correctable.filter fun e => e.1 = (⟨.tile, 0⟩ : UnitCode)).map (·.2) |>.filter fun m => 0 < m + 1000).length < 1024 ∧
    (let s := tileEvent false false true false []
     s.fenced ⟨.tile, 3⟩ = true ∧ s.device = 5 ∧ s.hasUnit ⟨.tile, 3⟩ = true ∧ s.herdMinimum ≤ s.workingHerds.length ∧
      (s.eventFor ⟨.tile, 3⟩).isSome = true ∧ s.isPermanent ⟨.tile, 3⟩ = false ∧ fences ⟨.tile, 3⟩ .uncorrectable = true) ∧
    (let s := tileEvent false false true true []
     s.isPermanent ⟨.tile, 3⟩ = true ∧ s.fenced ⟨.tile, 3⟩ = true ∧ s.device = 5) ∧
    (up (ints [(Entry.devDeviceState, 2)])).device = 2 ∧ (serving {}).takesFault ⟨.lpddr, 0⟩ ⟨.lpddr, 0⟩ ∧
    (((List.replicate 256 (0, 500)).filter fun e => e.1 = 0).map (·.2) |>.filter fun m => 600 < m + 1000).length = 256 :=
  ⟨serving_anchored _ _ (by decide +kernel), by decide +kernel, by decide +kernel, by decide +kernel, by decide +kernel, by decide +kernel,
    by decide +kernel, serving_takes _ (by simp), by decide +kernel⟩

theorem witness_eventsClose : let u : UnitCode := ⟨.tile, 3⟩
    (∀ r, (tileEvent false false false false r).running = true) ∧ (tileEvent false false false false []).trngHealthy = true ∧
    (tileEvent false false false false []).herdMinimum ≤ (tileEvent false false false false []).workingHerds.length ∧
    (∀ f : Bool, ∀ p : Bool, ((tileEvent false false f p []).openEvents.find? (fun x => x.unit = u && !x.recovering)).isSome = true) ∧
    (tileEvent false false false false []).fenced u = false ∧ (tileEvent false false true false []).fenced u = true ∧
    (tileEvent false false true true []).isPermanent u = true ∧ (tileEvent false false true false []).isPermanent u = false ∧
    unitRecovers u.kind = true ∧ u.kind ≠ .piu ∧
    3 ≤ ((tileEvent false false true false [(u, 1), (u, 2), (u, 3)]).fc.recoveries.filter fun x => x.1 = u && 9 < x.2 + 900000).length ∧
    ((tileEvent false false true false [(u, 1)]).fc.recoveries.filter fun x => x.1 = u && 9 < x.2 + 900000).length < 3 ∧
    ((tileEvent true false true false []).openEvents.find? (fun x => x.unit = u && x.recovering)).map FaultEvent.failed = some false ∧
    u.inst < 16 := by
  refine ⟨fun r => ?_, by decide +kernel⟩
  have h : (tileEvent false false false false r).running = (tileEvent false false false false []).running := rfl
  rw [h]; decide +kernel

theorem witness_safeRequests : (serving {}).device ≠ 0 ∧ (serving {}).portState 0 = 2 ∧ (serving {}).inputs.toggling = false ∧
    (serving {}).inputs.safeReq = false ∧ ({ serving {} with inputs := { safeReq := true, toggling := true } }).inputs.safeReq = true := by
  decide +kernel

theorem witness_keysAndReports : (serving {}).takesFault ⟨.rtu, 0⟩ ⟨.rtu, 0⟩ ∧ (serving {}).running = true ∧ (serving {}).trngHealthy = true ∧
    (serving {}).answers = true ∧
    (let s := { up (ints [(Entry.reportReportState 0, 1)]) with security := { reports := [(0, {})], ide := [2] } }
     s.n (Entry.reportReportState 0) = 1 ∧ Assoc.find s.security.reports 0 = some {} ∧ s.device ≠ 0 ∧ 2 ∈ s.security.ide ∧
      (s.jobs.map RingJob.id).Nodup ∧ ∀ j ∈ s.jobs, j.partition < 9) ∧
    65536 < (List.replicate 70000 (0 : Byte)).length + 3309 :=
  ⟨serving_takes _ (by simp), by decide +kernel, by decide +kernel, by decide +kernel, by decide +kernel, by rw [List.length_replicate]; decide⟩

/-- A device in an UpdateState with an image in the area that was not booted, and what is staged. -/
def updating (state : Int) (staged : Option FwHeader) : State :=
  let s := up (ints [(Entry.fwUpdateState, state)])
  { s with
    flash := { imageB := Memory.writes [] 0 (((board 250).imageA).getD []) }
    boot := { s.boot with staged := staged } }

theorem witness_firmwareUpdates : (∀ st ∈ [(0 : Int), 1, 2, 3], (updating st none).answers = true ∧ (updating st none).running = true ∧
      (updating st none).updateState = st.toNat) ∧
    ({ up (ints [(Entry.devDeviceState, 1)]) with boot := { managing := true } }).answers = true ∧
    Memory.wf ((updating 0 none).fwArea (updating 0 none).otherArea) = true ∧
    (let s := updating 1 none
     s.fwError (fwHeader (s.fwArea s.otherArea)) true = 0 ∧ s.fwError (fwHeader (s.fwArea s.otherArea)) false ≠ 0) ∧
    (∀ b, (updating 2 (some { restartRequired := b })).boot.staged = some { restartRequired := b }) ∧
    (updating 3 (some {})).boot.staged = some {} ∧
    (∀ p ∈ userPartitions, ({ updating 3 (some {}) with dict := (Entry.partState 1, .int 0) :: (updating 3 (some {})).dict }).partOpen p = false) := by
  decide +kernel

/-- A copy from host memory in progress, the host link in a state. -/
def copying (link : Int) : State :=
  { up (ints [(Entry.pcieLinkState, link)]) with
    rings := [(0, { slotsLog := 4, submitBase := 0x1000, completeBase := 0x2000, function := 1 })]
    jobs := [{ id := 5, partition := 1, ring := 0, index := 5, kind := 3, srcPlace := 1, c := 16 }]
    boxes := [(1, { vectors := [3], again := [3] })] }

theorem witness_hostLink : (∀ l ∈ [(0 : Int), 1], (copying l).device ≠ 0 ∧ ((copying l).jobs.map RingJob.id).Nodup ∧
      (∀ j ∈ (copying l).jobs, j.partition < 9) ∧ 3 ≤ (copying l).device ∧ (copying l).n Entry.pcieLinkState = l.toNat) ∧
    (∀ r, ((copying 1).ring r).function < 9) ∧ ((copying 1).jobs.filter RingJob.hostCopy).length = 1 ∧
    3 ∈ ((copying 1).box 1).vectors ∧ 3 ∈ ((copying 1).box 1).again ∧ (up (ints [(Entry.devDeviceState, 2)])).device = 2 := by
  refine ⟨by decide +kernel, fun r => ?_, by decide +kernel, by decide +kernel, by decide +kernel, by decide +kernel⟩
  have h : (copying 1).rings = [(0, { slotsLog := 4, submitBase := 0x1000, completeBase := 0x2000, function := 1 })] := rfl
  unfold State.ring; rw [h]
  by_cases hr : (0 : Nat) = r <;> simp [Assoc.get, Assoc.find, hr]

/-- Zennik link 0 is enabled, with eight good lanes, and in a state with a session. -/
def linked (st : Int) (z : ZLink) (l : List (Nat × Int) := []) (b : List (Nat × Value) := []) : State :=
  let s := up (ints (l ++ [(Entry.zlinkLinkState 0, st)]) ++ b)
  { s with
    parts := [(1, { owned := some { herds := [0, 1], deviceMap := [(3, 2)] } })]
    boot := { s.boot with inForce := ints [(Entry.zlinkEnable 0, 1)] }
    peers := { links := [(0, z)] } }

theorem witness_sessionsOpen : (∀ st ∈ [(0 : Int), 3, 4], let s := linked st {}
      s.device ≠ 0 ∧ s.inForceN (Entry.zlinkEnable 0) ≠ 0 ∧ 4 ≤ (s.goodLanes 0).length ∧ s.linkState 0 = st.toNat ∧ (s.zlink 0).session = 0) ∧
    (∀ n ∈ [1, 2, 3], ((linked 1 { session := n }).zlink 0).session = n ∧ (linked 1 { session := n }).peersAllowed = [] ∧
      (linked 1 { session := n }).trngHealthy = true ∧ (linked 1 { session := n }).peers.waiting = []) ∧
    (let s := linked 1 { session := 1 } [] [(Entry.peerPeerAllow, .bytes (leBytes 8 9))]
     s.peersAllowed = [9] ∧ (8 : BitVec 64).toNat ∉ s.peersAllowed) := by decide +kernel

/-- The session over UDP with device 5, at Ethernet port 0, in a state. -/
def overUdp (session : Nat) : State :=
  { up (ints [(Entry.ethLinkState 0, 1)] ++ [(Entry.udpUdpPeers, .bytes (leBytes 24 5))]) with
    peers := { links := [(udpLink 5, { session := session, peerDevice := 5, credits := 500, nextTx := 9, replay := [{ number := 8 }] })] } }

theorem witness_udpSessions : (∀ n ∈ [3, 4], ((overUdp n).zlink (udpLink 5)).session = n) ∧ (overUdp 3).device ≠ 0 ∧
    (overUdp 3).trngHealthy = true ∧ ((overUdp 4).udpPort? 5).any (fun e => (overUdp 4).n (Entry.ethLinkState e) = 1) = true ∧
    (overUdp 3).linkRuns (udpLink 5) = true ∧ ((overUdp 3).zlink (udpLink 5)).replay ≠ [] := by decide +kernel

/-- A baton of device 3, of its partition 2, to the sequencer of herd 1. -/
def farBaton : Baton := { baton 0x2011 0 0 with srcDevice := 3, partition := 2 }

/-- A frame in order, or one that is not. -/
def zframe (type number : Nat) (tagOk excess : Bool) : ZennikFrame :=
  { type := type, creditReturn := 2, ackNumber := 0xFFFFFFFF, frameNumber := BitVec.ofNat 64 number, tagOk := tagOk, excess := excess
    body := batonDescriptor farBaton, handshake := .none_ }

/-- Two frames that are not acknowledged. -/
def unacked : ZLink := { session := 3, credits := 500, nextTx := 9, replay := [{ number := 7 }, { number := 8 }] }

theorem witness_linkFrames : (let s := linked 2 { session := 3, credits := 500, nextRx := 4 }
      s.device ≠ 0 ∧ s.linkRuns 0 = true ∧ (s.zlink 0).room 1 = true ∧ (zframe 0 5 true false).frameNumber.toNat ≠ (s.zlink 0).nextRx ∧
      (zframe 1 4 true false).frameNumber.toNat = (s.zlink 0).nextRx ∧ (s.zlink 0).sent = [] ∧ s.peers.waiting = [] ∧ (s.zlink 0).owes = 0 ∧
      (s.zlink 0).rxBuffer = [] ∧
      (let b := batonOf (fit 224 (zframe 1 4 true false).body)
       b = farBaton ∧ batonFrames b.payloadBytes.toNat ≤ 1 ∧ b.dstDevice.toNat = s.deviceNumber ∧ s.admitted b = some 1 ∧
        s.stationExists b.dstStation.toNat = true ∧ (s.queue b.dstStation.toNat b.dstQueue.toNat).batons.length < 2 ∧
        (s.queue b.dstStation.toNat b.dstQueue.toNat).waiting = [])) ∧
    (let l := unacked
     (linked 2 l).linkRuns 0 = true ∧ l.sent = [] ∧ l.replay.length ≤ 512 ∧ l.replay.length ≤ l.nextTx ∧
      l.replay.map ZFrame.number = List.range' (l.nextTx - l.replay.length) l.replay.length ∧
      l.nextTx - l.replay.length ≤ (7 : BitVec 64).toNat + 1 ∧ (7 : BitVec 64).toNat < l.nextTx ∧ l.nextTx < 2 ^ 64) ∧
    ((linked 2 { unacked with retraining := true }).zlink 0).retraining = true ∧ (linked 2 unacked).linkState 0 ≠ 0 ∧
    (serving {}).takesFault (laneUnit 0 0) (laneUnit 0 0) :=
  ⟨by decide +kernel, by decide +kernel, by decide +kernel, by decide +kernel, serving_takes .zennikLane (by simp)⟩

/-- A route to device 5 over link 0 with another that waits, and what is sent on the link. -/
def routed (sent : List (Nat × Baton)) : State :=
  let s := linked 2 { session := 3, peerDevice := 3, credits := 500, sent := sent }
  { s with peers := { s.peers with routes := [{ device := 5, hops := 2, link := 0, pending := some (1, 1) }] } }

theorem routed_idle : ∀ y, ((routed []).zlink y).sent = [] := by
  intro y
  unfold State.zlink
  by_cases h : (0 : Nat) = y <;> simp [routed, linked, Assoc.get, Assoc.find, h]

theorem witness_routesFollow : (routed []).device ≠ 0 ∧ (routed []).peers.waiting = [] ∧ ((routed []).zlink 0).session = 3 ∧
    (∀ sent ∈ [[], [(1, { farBaton with dstDevice := 5 })]], let s := routed sent
      s.route? (5 : BitVec 16).toNat = some { device := 5, hops := 2, link := 0, pending := some (1, 1) } ∧
      s.unacked (routeLink 5 0) 5 = !sent.isEmpty) := by decide +kernel

/-- A pass on a target that up-scaling reads. -/
def upscaled (count : Nat) : Pass := { desc := targetDescriptor + 2 ^ 476, frameCount := count }

theorem witness_jitterPhases : descUpscale (upscaled 3).desc = true ∧ (upscaled 3).offset.1 = (upscaled 19).offset.1 := by decide +kernel

theorem witness_texelAddresses : 7 < bits (64 * 2 ^ 48 + 64 * 2 ^ 32) 48 16 ∧ 63 < bits (64 * 2 ^ 48 + 64 * 2 ^ 32) 32 16 := by decide +kernel

/-! Well-formedness: for each check, a command that it refuses. -/

/-- A unit that no part has. -/
def noUnit : UnitCode := ⟨.rtu, 5⟩

theorem test_wellFormed_lengths : (Instr.supplyMonitorSample [12000]).wellFormed = false ∧ (Instr.junctionSensorRead [250]).wellFormed = false ∧
    (Instr.supplyMonitorSample (List.replicate 8 1)).wellFormed = true ∧ (Instr.junctionSensorRead (List.replicate 24 1)).wellFormed = true := by
  decide

theorem test_wellFormed_batons : (Instr.batonSend { baton 0x2011 0 0 with payload := [1] }).wellFormed = false ∧
    (Instr.batonSend { baton 0x2011 0 0 with payloadBytes := 4097, payload := List.replicate 4097 0 }).wellFormed = false ∧
    (Instr.batonSend (baton 0x2011 0 0)).wellFormed = true := by
  refine ⟨by decide, ?_, by decide⟩
  unfold Instr.wellFormed batonWellFormed
  rw [Bool.and_eq_false_iff]; exact .inr (by decide)

theorem test_wellFormed_frames : let f : JalmonFrame := { request 0x101500 [] with data := List.replicate 57 0 }
    (Instr.canExpeditedRead f).wellFormed = false ∧ (Instr.canExpeditedWrite f).wellFormed = false ∧
    (Instr.canInitiateSegmentedRead f).wellFormed = false ∧ (Instr.canInitiateSegmentedWrite f).wellFormed = false ∧
    (Instr.canCancel f).wellFormed = false ∧
    (Instr.canDataSegment { segment 0 true [] with data := List.replicate 61 0 }).wellFormed = false := by decide

theorem test_wellFormed_mailbox : let outside : BarWrite := ⟨0x1FFFF, [1, 2]⟩
    (Instr.mbxRead 0 [outside] 0 0).wellFormed = false ∧ (Instr.mbxWrite 0 [outside] 0 0).wellFormed = false ∧
    (Instr.mbxUnknownCommand 0 [outside] ⟨3, 0, 0⟩).wellFormed = false ∧
    (∀ c, c = 1 ∨ c = 2 → (Instr.mbxUnknownCommand 0 [] ⟨c, 0, 0⟩).wellFormed = false) ∧
    (Instr.mbxUnknownCommand 0 [⟨0x1FFFE, [1, 2]⟩] ⟨3, 0, 0⟩).wellFormed = true := by
  refine ⟨by decide, by decide, by decide, ?_, by decide⟩
  rintro c (rfl | rfl) <;> decide

theorem test_wellFormed_units : let good : UnitCode := ⟨.rtu, 0⟩
    let report : FaultReport := { reporter := good, suspect := good, cls := .uncorrectable, detail := 0 }
    (Instr.watchdogExpiry noUnit good none).wellFormed = false ∧ (Instr.watchdogExpiry good noUnit none).wellFormed = false ∧
    (Instr.faultReport { report with reporter := noUnit } 0 false {} none).wellFormed = false ∧
    (Instr.faultReport { report with suspect := noUnit } 0 false {} none).wellFormed = false ∧
    (Instr.faultReport report 0 false { engines := [noUnit] } none).wellFormed = false ∧
    (Instr.faultReport report 0 false {} none).wellFormed = true ∧ (Instr.wiringFault noUnit 0).wellFormed = false ∧
    (Instr.quietPeriodEnd noUnit 0 true).wellFormed = false ∧ (Instr.recoveryTestComplete noUnit true 0).wellFormed = false := by decide

/-! One step, or one rule by itself; what is expected is worked out by hand from the rule named. -/

/-- The state that an outcome leads to. -/
def after (o : Host.Outcome State Fault Refusal) : Option State := match o with | .next t => some t | _ => none

/-- R422: an edge of SAFE_REQ_n is taken, counted, and leaves the queue. -/
theorem test_step_takes_the_front : (after (step { up [] with pending := [.safeReqAsserted false, .save] })).map
    (fun t => (t.pending, t.n Entry.pinsSafeReqEdges, t.n Entry.pinsSafeReqLevel)) = some ([.save], 1, 1) := by decide +kernel

/-- R250: an asserted SAFE_REQ_n sends a LIVE port to SAFE with cause 5 and withdraws its PV pair. -/
theorem test_safe_request : (after (exec (.safeReqAsserted false) (port 2 showing))).map
    (fun t => (t.portState 0, t.n (Entry.portSafeCause 0), t.vouched 0)) = some (5, 5, false) := by decide +kernel

/-- R48, R50: the answer of node 5 to an expedited read of DeviceState (0x1800.01, one byte, type 9) at sequence number 9, filled up to 12
bytes. -/
theorem test_can_read : (after (exec (.canExpeditedRead (request 0x180001 [])) (node {}))).map (fun t => t.out) =
    some [.can 0x0D050009 [0x81, 0, 0x18, 0x00, 0x01, 1, 9, 0, 4, 0, 0, 0]] := by decide +kernel

/-- InputGlitches is a U32, which wraps. -/
theorem test_counter_wraps : (after (exec .inputGlitchRejected (up (ints [(Entry.faultInputGlitches, 4294967295)])))).map
    (fun t => t.n Entry.faultInputGlitches) = some 0 := by decide +kernel

/-- R365: a doorbell 17 entries ahead of a ring of 16 is ignored and counted. -/
theorem test_doorbell_too_far : (after (exec (.doorbell 1 0 17) (ringed 0 0 []))).map
    (fun t => ((t.ring 0).tail, t.n (Entry.partRingBadDoorbells 1))) = some (0, 1) := by decide +kernel

/-- R364, R368: a NOP's completion: tag 77, index 0, status 1, phase 1. -/
theorem test_nop_completion : (after (exec (.ringNop 0) (ringed 1 0 []))).map (fun t => t.readMem 1 0x2000 16) =
    some [1, 0, 0, 1, 0, 0, 0, 0, 77, 0, 0, 0, 0, 0, 0, 0] := by decide +kernel

/-- R264: batons are taken in ascending Lane, then Part. -/
theorem test_batons_in_lane_order : (after (exec (.batonReceive 0x2011 0 1)
    (lapping { number := 1, inFlight := 2 } [baton 0x2011 1 0, baton 0x2011 0 3] []))).map (fun t => (t.queue 0x2011 0).batons) =
    some [baton 0x2011 1 0] := by decide +kernel

/-- R293: a sum beyond the range of INT32 is held at the bound. -/
theorem test_accumulator_saturates : int32Add 0x7FFFFFFF 1 = (0x7FFFFFFF, 1) ∧ int32Add 0xFFFFFFFF 1 = (0, 0) := by decide +kernel

/-- R218: texel (33, 1) of a texture 64 wide lies in page 1, at place 3 of it. -/
theorem test_texel_offset : texelOffset 64 33 1 = 4096 + 12 := by decide +kernel

/-- R185: phases 1 and 14 in the reversed order of their bits. -/
theorem test_bitrev4 : bitrev4 1 = 8 ∧ bitrev4 14 = 7 := by decide +kernel

/-- No row of the table gives bits. -/
theorem test_no_word_decodes : decodeTableWord 32 5 = none ∧ (State.reset.withFetchWord 32 5).pending = [] := ⟨rfl, rfl⟩

/-! Worked examples of the specification: the expected values are its own. -/

/-- R49, R50 (the example after R55): node 5 is asked to write 7 to LeadHorizon of stream 16, clamps it to 4 and answers. -/
theorem test_example_can_write :
    let f : JalmonFrame := { cls := 0x0C, node := 5, seq := 0x0123, command := 2, index := 0x2910, sub := 4, length := 1, data := [7] }
    (after (exec (.canExpeditedWrite f) (node {}))).map (fun t => (t.out, t.n (Entry.streamGenLeadHorizon 16), t.n Entry.canClampCount)) =
      some ([.can 0x0D050123 [0x82, 0, 0x29, 0x10, 4, 0, 0, 0]], 4, 1) := by decide +kernel

/-- R246: stream 37, ordinal 1,204, port 3, layer 5 and FILL. -/
theorem test_example_tag : tagPayload 37 1204 3 5 1 0 = 0x128000025A18A400 := by decide +kernel

/-- R105: S(36) = 412, S(37) = 380, S(38) = 404 give an offset of one sixteenth. -/
theorem test_example_sub_pixel : subPixel [412, 380, 404] 1 = 1 := by decide +kernel

/-- R299: 3.7, −0.53, 0.046875 and 0.0 in INT8 have the row exponent −5 and the codes 118, −17, 2 and 0. -/
theorem test_example_conversion :
    let row := unmasked ([0x406CCCCD, 0xBF07AE14, 0x3D400000, 0].map f32)
    rowExponent 127 row = -5 ∧ (convertAt 0 (-5) row).codes = [118, 0xEF, 2, 0] := by decide +kernel

/-- A layer with a static output exponent of −7. -/
def exampleLayer : ConvConfig :=
  { layerId := 0, widenable := false, inFormat := 0, outFormat := 0, outScaleMode := 1, outExponent := -7, statsBase := 0
    statsEnable := false, widenThreshold := 0 }

/-- B = −400, M = 45,875, S = 16, ea = −5, and the partials of the outlier channels. -/
def exampleJob (partials : List (List Nat)) : RescaleJob :=
  { integer := true, rowExps := [-5], bank := 0, scaleBase := 0, entries := [(45875, 16, 2 ^ 32 - 400)], partials := partials }

/-- R302: the accumulator 5,123 gives 103; with an outlier partial of −0.15625 it gives 83. -/
theorem test_example_rescale :
    (rescaleRows exampleLayer (exampleJob []) (fun _ => -7) true false [[5123]]).map RowOut.codes = [[103]] ∧
    (rescaleRows exampleLayer (exampleJob [[0xBE200000]]) (fun _ => -7) true false [[5123]]).map RowOut.codes = [[83]] := by decide +kernel

/-- R320: a dilated 3×3 kernel on 1,920 columns; a 9×9 kernel with stride 2. -/
theorem test_example_output_width :
    outWidth { addrConfig 0 with inWidth := 1920, kernelW := 3, dilationX := 4, padLeft := 4, padRight := 4, strideX := 1 } = 1920 ∧
    outWidth { addrConfig 0 with inWidth := 1920, kernelW := 9, dilationX := 1, padLeft := 4, padRight := 4, strideX := 2 } = 960 := by
  decide +kernel

/-- R331: of 1,080 rows in 16 stripes, stripe 1 writes rows 67 to 134; of 540, rows 33 to 66. -/
theorem test_example_stripes :
    stripeRows { addrConfig 0 with stripeCount := 16, stripe := 1 } 1080 = List.range' 67 68 ∧
    stripeRows { addrConfig 0 with stripeCount := 16, stripe := 1 } 540 = List.range' 33 34 := by decide +kernel

/-- R28: at the default timing 150 ms are 39,996 lines. -/
theorem test_example_lines : ((up []).timing 0).lines 150 1000 = 39996 := by decide +kernel

/-- R241: a quad of four 1920×1080 views with a 3840×540 strip takes 18,662,400 pixels, within the budget; a full-screen layer more takes
26,956,800, which is not. -/
theorem test_example_compose_cost :
    let layer := fun w h => { layerDesc [] 0 with dstW := w, dstH := h }
    let quad := List.replicate 4 (layer 1920 1080) ++ [layer 3840 540]
    (up []).composeCost 0 quad = 18662400 ∧ 18662400 ≤ (up []).composeBudget 0 ∧
    (up []).composeCost 0 (quad ++ [layer 3840 2160]) = 26956800 ∧ (up []).composeBudget 0 < 26956800 := by decide +kernel

/-- R177: scales of 1.5, 1.0, 3.0 and 2.0, in halves. -/
theorem test_example_ratios : ratioFor 1280 1920 = 3 ∧ ratioFor 1920 1920 = 2 ∧ ratioFor 640 1920 = 6 ∧ ratioFor 960 1920 = 4 := by
  decide +kernel

/-- R179: the taps at the middle between two samples are −1/16, 9/16, 9/16 and −1/16, and at a sample itself 0, 1, 0 and 0. -/
theorem test_cubic_taps : ([mkRat 3 2, mkRat 1 2].map cubicWeight) = [mkRat (-1) 16, mkRat 9 16] ∧
    ([1, 0, 2].map fun d => cubicWeight ((d : Nat) : Rat)) = [0, 1, 0] := by decide +kernel

/-- R483: the IDCODE of both parts. -/
theorem test_idcode : Part.idcode .hkz8840 = 0x188406B5 ∧ Part.idcode .hkz8830 = 0x188306B5 := by decide +kernel

/-- R274: Occupied is bit 255, Job bits 247:224, Param 223:192 and InputBase 191:128. -/
theorem test_lane_record : let r : LaneRecord := { job := 5, param := 7, inputBase := 9, outputBase := 11, maskBase := 13 }
    r.word = 2 ^ 255 + 5 * 2 ^ 224 + 7 * 2 ^ 192 + 9 * 2 ^ 128 + 11 * 2 ^ 64 + 13 ∧ laneRecordOf r.word = some r := by decide +kernel

/-- R68: Clause 22 ignores Device and the upper bits of Register; a read carries no data. -/
theorem test_mdio_clause_22 : mdioFrame false (3 * 2 ^ 57 + 4 * 2 ^ 52 + 0x21 * 2 ^ 32 + 9) = .mdio false false 3 0 1 0 := by decide +kernel

end Sys2Proof.Tests
end

section
/-! Proofs of the scope (spec/00_scope.md, R1, R2): every command answers, and one for an absent herd or port changes nothing. -/

namespace Sys2Proof.Machine

open Sys2Proof

/-- A command for a herd that the part does not have leads to the state it found. -/
theorem State.onHerd_absent {s : State} {h : Fin 8} (t : State) (absent : s.hasUnit ⟨.herd, h⟩ = false) :
    s.onHerd h t = s.answer s := by
  have hc : ¬ (h : Nat) < s.herdCount := by simpa [State.hasUnit, unitListed] using absent
  rw [State.onHerd, if_neg hc]

/-- A command for a raster port that the part does not have leads to the state it found. -/
theorem State.onPort_absent {s : State} {n : Fin 16} (t : State) (absent : s.hasUnit ⟨.port, n⟩ = false) :
    s.onPort n t = s.answer s := by
  have hc : ¬ (n : Nat) < s.portCount := by simpa [State.hasUnit, unitListed] using absent
  rw [State.onPort, if_neg hc]

/-- Every command leads to a next state. -/
theorem exec_next (c : Instr) (s : State) : ∃ t, exec c s = .next t := by
  cases c <;> exact ⟨_, rfl⟩

/-- A command that names an absent herd or port leads to the state it found: each such command is guarded by `State.onHerd` or
`State.onPort`. -/
theorem exec_absent {c : Instr} {s : State} {u : UnitCode} (named : unitNamed c = some u) (absent : s.hasUnit u = false) :
    exec c s = s.answer s := by
  cases c
  case convert | mma | rescale | outlier | wide | gradconv | mompack | momunpack | masterupd | stats | convwin | expand | groupconv
      | blockconv | pool | rescaleRelu | wideRelu | planarise | paceMonitorWindow | herdReset | herdResetComplete =>
    cases named
    exact State.onHerd_absent _ absent
  case rclkFault | rclkRecovered | choicePoint | renderReset | portEnable | portDisable | portStopComplete | composePoint
      | compositionComplete | composeLate | routeTagCheck | crcRectangleCheck | layerTableWrite | safeAck | fsyncEdge | genlockLost
      | portFrameStart =>
    cases named
    exact State.onPort_absent _ absent
  all_goals cases named

/-- Settles O4: every command's meaning ends in an answer, and the guards of `exec_absent` keep the state. -/
theorem commandsAnswer : Obligations.CommandsAnswer := fun c s =>
  ⟨exec_next c s, fun _ named absent => ⟨_, exec_absent named absent, Keeps.seal s s []⟩⟩

end Sys2Proof.Machine
end

section
/-! What the fault collector's operations lead to (R404 to R417): the equations of a report by its class and unit, and their frames. -/

namespace Sys2Proof.Machine

open Sys2Proof

/-! The units behind `Keeps`. -/

theorem Keeps.fc {s t : State} {keys : List Nat} (h : Keeps s t keys) : t.fc = s.fc :=
  (congrArg (fun u : State => u.fc) h.rest : (State.rest t).fc = (State.rest s).fc)

theorem Keeps.ports {s t : State} {keys : List Nat} (h : Keeps s t keys) : t.ports = s.ports :=
  (congrArg (fun u : State => u.ports) h.rest : (State.rest t).ports = (State.rest s).ports)

theorem Keeps.herds {s t : State} {keys : List Nat} (h : Keeps s t keys) : t.herds = s.herds :=
  (congrArg (fun u : State => u.herds) h.rest : (State.rest t).herds = (State.rest s).herds)

theorem Keeps.vision {s t : State} {keys : List Nat} (h : Keeps s t keys) : t.vision = s.vision :=
  (congrArg (fun u : State => u.vision) h.rest : (State.rest t).vision = (State.rest s).vision)

theorem Keeps.flash {s t : State} {keys : List Nat} (h : Keeps s t keys) : t.flash = s.flash :=
  (congrArg (fun u : State => u.flash) h.rest : (State.rest t).flash = (State.rest s).flash)

theorem Keeps.badBlocks {s t : State} {keys : List Nat} (h : Keeps s t keys) : t.security.badBlocks = s.security.badBlocks :=
  (congrArg (fun u : State => u.security.badBlocks) h.rest : (State.rest t).security.badBlocks = (State.rest s).security.badBlocks)

/-- The fault collector's record replaced on both sides. -/
theorem Keeps.withFc {s t : State} {keys : List Nat} (h : Keeps s t keys) (f : Fc) :
    Keeps { s with fc := f } { t with fc := f } keys :=
  h.update (fun u => { u with fc := f }) (fun _ _ => rfl) (fun _ => rfl) (fun _ => rfl) (fun _ => rfl) fun _ => rfl

theorem State.raw_withFc (s : State) (f : Fc) (k : Nat) : ({ s with fc := f } : State).raw k = s.raw k := rfl

theorem State.withFc_self {s : State} {f : Fc} (h : s.fc = f) : ({ s with fc := f } : State) = s := by
  subst h
  rfl

/-- The herds replaced on both sides. -/
theorem Keeps.withHerds {s t : State} {keys : List Nat} (h : Keeps s t keys) (x : Herds) :
    Keeps { s with herds := x } { t with herds := x } keys :=
  h.update (fun u => { u with herds := x }) (fun _ _ => rfl) (fun _ => rfl) (fun _ => rfl) (fun _ => rfl) fun _ => rfl

/-! Folds over the units. -/

/-- What a visit establishes for each unit, and no other visit undoes, holds of every unit after a pass over them. -/
theorem State.each_mem {α : Type} {f : State → α → State} {P : α → State → Prop} (visit : ∀ t a, P a (f t a))
    (kept : ∀ t a b, P a t → P a (f t b)) (l : List α) (s : State) : ∀ a ∈ l, P a (s.each l f) := by
  induction l generalizing s with
  | nil => simp
  | cons b r ih =>
    have keep : ∀ (r : List α) (t : State), P b t → P b (t.each r f) := by
      intro r
      induction r with
      | nil => exact fun _ h => h
      | cons c r ih => exact fun t h => ih _ (kept t b c h)
    intro a ha
    rcases List.mem_cons.1 ha with rfl | ha
    · exact keep r _ (visit s a)
    · exact ih _ a ha

/-! The anchor ports (R370). -/

theorem State.anchorPort_congr {s t : State} {p : Nat} (h : p ≤ 8 → t.raw (Entry.partAnchorPort p) = s.raw (Entry.partAnchorPort p)) :
    t.anchorPort p = s.anchorPort p := by
  unfold State.anchorPort
  split
  · rfl
  · rename_i hp
    rw [State.n_congr (h (by simp at hp; omega))]

theorem State.anchored_congr {s t : State} (anchored : s.anchored) (ports : t.ports = s.ports)
    (h : ∀ p, p ≤ 8 → t.raw (Entry.partAnchorPort p) = s.raw (Entry.partAnchorPort p)) : t.anchored := by
  intro p a ha
  rw [State.portRt, ports]
  exact anchored p a (State.anchorPort_congr (h p) ▸ ha)

/-- An operation on entries outside the partitions' records keeps every partition anchored. -/
theorem State.anchored_of_keeps {s t : State} {keys : List Nat} (anchored : s.anchored) (h : Keeps s t keys)
    (outside : ∀ k ∈ keys, k / 256 < 0x5000 ∨ 0x5008 < k / 256) : t.anchored := by
  refine State.anchored_congr anchored h.ports fun p hp => h.raw (fun hk => ?_) ?_
  · have := outside _ hk
    simp only [Entry.partAnchorPort, key] at this
    omega
  · show (0x5000 + p) * 256 + 0x0E ≠ 0x1101 * 256 + 0x08
    omega

/-- Where every anchor port counts, no partition loses its anchor. -/
theorem State.anchorSweep_of_anchored {s : State} (anchored : s.anchored) : s.anchorSweep = s := by
  have gen : ∀ l : List Nat, s.each l (fun t p => match t.anchorPort p with
      | none => t
      | some a => if (t.portRt a).counting then t else (t.setN (Entry.partAnchorPort p) 255).recheckSchedule p) = s := by
    intro l
    induction l with
    | nil => rfl
    | cons p r ih =>
      have visit : (match s.anchorPort p with
          | none => s
          | some a => if (s.portRt a).counting then s else (s.setN (Entry.partAnchorPort p) 255).recheckSchedule p) = s := by
        cases ha : s.anchorPort p with
        | none => rfl
        | some a => simp [anchored p a ha]
      simp only [State.each, List.foldl_cons] at ih ⊢
      rw [visit]
      exact ih
  exact gen userPartitions

/-! Herds and open events. -/

theorem State.workingHerds_congr {s t : State} (part : t.part = s.part) (fenced : t.fc.fenced = s.fc.fenced) :
    t.workingHerds = s.workingHerds := by
  have count : t.herdCount = s.herdCount := by simp only [State.herdCount, part]
  have works : t.herdWorks = s.herdWorks := by
    funext h
    simp only [State.herdWorks, State.fenced, count, fenced]
  rw [State.workingHerds, State.workingHerds, count, works]

theorem State.herdMinimum_congr {s t : State} (part : t.part = s.part) : t.herdMinimum = s.herdMinimum := by
  simp only [State.herdMinimum, part]

theorem State.isPermanent_congr {s t : State} {u : UnitCode} (h : t.fc.permanent = s.fc.permanent) :
    t.isPermanent u = s.isPermanent u := by
  simp only [State.isPermanent, h]

theorem State.fenced_congr {s t : State} {u : UnitCode} (h : t.fc.fenced = s.fc.fenced) : t.fenced u = s.fenced u := by
  simp only [State.fenced, h]

theorem State.openEvents_congr {s t : State} (h : t.fc.log = s.fc.log) : t.openEvents = s.openEvents := by
  simp only [State.openEvents, h]

theorem State.eventFor_congr {s t : State} {u : UnitCode} (h : t.fc.log = s.fc.log) : t.eventFor u = s.eventFor u := by
  simp only [State.eventFor, State.openEvents_congr h]

/-- A fenced unit other than a kid makes the device degraded (R32 step 9). -/
theorem State.degraded_of_fenced {s : State} {u : UnitCode} (fenced : s.fenced u = true) (kind : u.kind ≠ .kid) : s.degraded = true := by
  have h : u ∈ s.fc.fenced := by simpa [State.fenced] using fenced
  simp only [State.degraded, Bool.or_eq_true, List.any_eq_true]
  exact .inl ⟨u, h, by simpa using kind⟩

/-- An open event on a unit other than a kid makes the device degraded (R32 step 9). -/
theorem State.degraded_of_event {s : State} {e : FaultEvent} (logged : e ∈ s.fc.log) (isOpen : e.status = 0) (kind : e.unit.kind ≠ .kid) :
    s.degraded = true := by
  simp only [State.degraded, Bool.or_eq_true, List.any_eq_true]
  exact .inr ⟨e, List.mem_filter.2 ⟨logged, by simpa using isOpen⟩, by simpa using kind⟩

/-- While enough herds work the device settles by what is fenced and open. -/
theorem State.settleAll_eq_settle {s : State} (enough : s.herdMinimum ≤ s.workingHerds.length) (cause : Nat) :
    s.settleAll cause = s.settle cause := by
  rw [State.settleAll, if_neg]
  simp only [Bool.and_eq_true, decide_eq_true_eq, not_and]
  omega

/-- A device that is DEGRADED already, and stays so, is as it was. -/
theorem State.settle_of_degraded {s : State} (device : s.device = 5) (degraded : s.degraded = true) (cause : Nat) :
    s.settle cause = s := by
  rw [State.settle, degraded, device, State.running, device]
  rfl

/-- The settling of a degraded device (R32 step 9). -/
theorem State.settle_degrades {s : State} (degraded : s.degraded = true) (cause : Nat) : s.degrades (s.settle cause) cause := by
  unfold State.degrades State.settle
  simp only [degraded, if_true]
  split
  · split
    · rename_i device
      exact ⟨device, fun _ h => absurd device h⟩
    · refine ⟨State.n_setN _ _ _ (by decide), fun _ _ => ?_⟩
      rw [State.n_setN_ne _ _ (by decide) (by decide), State.n_setN _ _ _ (by decide)]
  · rename_i stopped
    exact ⟨rfl, fun running => absurd running stopped⟩

theorem Keeps.settle (s : State) (cause : Nat) : Keeps s (s.settle cause) [Entry.devStateCause, Entry.devDeviceState] := by
  simp only [State.settle]
  split
  · split
    · split
      · exact Keeps.refl s _
      · exact (Keeps.setN s _ _ (by simp)).trans (Keeps.setN _ _ _ (by simp))
    · exact Keeps.setN s _ _ (by simp)
  · exact Keeps.refl s _

/-! Opening an event (R414, R416, R417). -/

/-- A record changes the log and the count of events. -/
theorem Keeps.record_ (s : State) (e : FaultEvent) :
    Keeps { s with fc := (s.record_ e).fc } (s.record_ e) [Entry.faultEventsTotal] :=
  (Keeps.bump s _ (by simp)).withFc _

/-- The entries that show an event as it opens, before its event is sent. -/
theorem Keeps.shown_openEvent (s : State) (e : FaultEvent) :
    Keeps ((s.record_ e).countOpen.setN Entry.faultLastEventUnit (unitCode e.unit)) (s.openEvent e) [] := by
  simp only [State.openEvent, State.postEvent]
  split
  · exact Keeps.refl _ _
  · exact Keeps.postValue _ _ _ _ _

/-- Beside its record, the opening of an event changes the two entries that show it. -/
theorem Keeps.record_openEvent (s : State) (e : FaultEvent) :
    Keeps (s.record_ e) (s.openEvent e) [Entry.faultOpenEvents, Entry.faultLastEventUnit] :=
  ((Keeps.setN _ _ _ (by simp)).trans (Keeps.setN _ _ _ (by simp))).trans ((Keeps.shown_openEvent s e).mono (by simp))

/-- The opening of an event changes the log and the three entries that show it. -/
theorem Keeps.openEvent (s : State) (e : FaultEvent) :
    Keeps { s with fc := (s.openEvent e).fc } (s.openEvent e)
      [Entry.faultEventsTotal, Entry.faultOpenEvents, Entry.faultLastEventUnit] := by
  have shown := Keeps.record_openEvent s e
  rw [shown.fc]
  exact ((Keeps.record_ s e).mono (by simp)).trans (shown.mono (by simp))

/-- A width that is the same on both parts. -/
theorem widthOf_parts {k w : Nat} (h : widthOf .hkz8840 k = w ∧ widthOf .hkz8830 k = w) (p : Part) : widthOf p k = w := by
  cases p
  · exact h.1
  · exact h.2

theorem State.record_total (s : State) (e : FaultEvent) :
    (s.record_ e).n Entry.faultEventsTotal = (s.n Entry.faultEventsTotal + 1) % 2 ^ 32 := by
  rw [State.record_, State.n_congr (State.raw_withFc _ _ _), State.n_bump s _ 32 (by decide) (widthOf_parts (by decide +kernel))]

/-- A record takes the next number and the present count of the oscillator, in a log of 1,024 (R416, R417). -/
theorem State.record_fc (s : State) (e : FaultEvent) :
    (s.record_ e).fc = { s.fc with
      log :=
        let l := s.fc.log ++ [{ e with number := (s.n Entry.faultEventsTotal + 1) % 2 ^ 32, openedAt := s.fc.ms }]
        l.drop (l.length - 1024) } := by
  have total : (s.bump Entry.faultEventsTotal).fc = s.fc := (Keeps.bump s _ (List.mem_singleton_self _)).fc
  have number := State.n_bump s Entry.faultEventsTotal 32 (by decide) (widthOf_parts (by decide +kernel))
  simp only [State.record_, total, number]

/-- What is opened is the event given, with the next number. -/
theorem State.openEvent_opens (s : State) (e : FaultEvent) : s.opensEvent (s.openEvent e) e := by
  have shown := Keeps.record_openEvent s e
  refine ⟨?_, ?_, ?_, ?_⟩
  · rw [shown.fc, State.record_fc]
  · rw [shown.n (by decide) (by decide), State.record_total]
  · have log : (s.openEvent e).openEvents = (s.record_ e).openEvents := by
      simp only [State.openEvents, shown.fc]
    rw [log, (Keeps.shown_openEvent s e).n (by simp) (by decide), State.n_setN_ne _ _ (by decide) (by decide)]
    exact State.n_setN _ _ _ (by decide)
  · rw [(Keeps.shown_openEvent s e).n (by simp) (by decide), State.n_setN _ _ _ (by decide)]

/-- The log keeps the event that was opened last. -/
theorem State.openEvent_logs (s : State) (e : FaultEvent) :
    { e with number := (s.n Entry.faultEventsTotal + 1) % 2 ^ 32, openedAt := s.fc.ms } ∈ (s.openEvent e).fc.log := by
  rw [(Keeps.record_openEvent s e).fc, State.record_fc]
  simp only [List.length_append, List.length_singleton]
  rw [List.drop_append_of_le_length (by omega)]
  simp

/-! What becomes of a report (R410, R411, R414, R416). -/

/-- A report that names no port enters none where it fences nothing. -/
theorem State.portsEntering_none {s : State} {u : UnitCode} {cls : FaultClass} (h : (fences u cls && !s.fenced u) = false) :
    s.portsEntering u cls [] = [] := by
  simp [State.portsEntering, h]

/-- A report on a unit that is fenced until restart is counted and discarded (R414, R416). -/
theorem State.actOn_permanent {s : State} {u : UnitCode} (permanent : s.isPermanent u = true) (reporter : UnitCode) (cls : FaultClass)
    (detail : Nat) :
    s.actOn reporter u cls detail [] = (s.bump Entry.faultReportsMerged).settleAll (causeOf u) := by
  simp [State.actOn, State.takeReport, permanent]

/-- A report on a fenced unit merges into the open event on it (R414). -/
theorem State.actOn_merged {s : State} {u : UnitCode} {e : FaultEvent} (permanent : s.isPermanent u = false)
    (event : s.eventFor u = some e) (fenced : s.fenced u = true) (reporter : UnitCode) (cls : FaultClass) (detail : Nat) :
    s.actOn reporter u cls detail [] = (s.mergeInto e.number cls []).settleAll (causeOf u) := by
  have still : (s.mergeInto e.number cls []).fenced u = true := by
    rw [State.mergeInto, State.fenced, (Keeps.bump _ _ (List.mem_singleton_self _)).fc]
    exact fenced
  have again : (s.mergeInto e.number cls []).fence u = s.mergeInto e.number cls [] := by rw [State.fence, if_pos still]
  simp only [State.actOn, State.takeReport, permanent, event, State.portsEntering_none (by simp [fenced] : (fences u cls && !s.fenced u) = false)]
  simp [again, State.each]

/-- A report on a unit that its class does not fence opens an event and changes no unit (R410, R414). -/
theorem State.actOn_unfenced {s : State} {u reporter : UnitCode} {cls : FaultClass} (unfenced : fences u cls = false)
    (permanent : s.isPermanent u = false) (event : s.eventFor u = none) (other : s.eventOfReporter reporter u = none)
    (room : s.openEvents.length < 256) (kind : u.kind ≠ .herd) (detail : Nat) :
    s.actOn reporter u cls detail [] =
      (s.openEvent { unit := u, cls := cls, reaction := s.reactionTo u cls, reporter := reporter, detail := detail }).settleAll
        (causeOf u) := by
  have full : ¬ s.openEvents.length ≥ 256 := by omega
  simp only [State.actOn, State.takeReport, permanent, event, other, full, State.portsEntering_none (by simp [unfenced] : (fences u cls && !s.fenced u) = false)]
  simp [beq_eq_false_iff_ne.2 kind, unfenced, State.each]

/-! The report as the fault collector takes it (R408, R411, R421). -/

/-- The state as the fault collector finds it at a count of its oscillator (R409). -/
def State.atCount (s : State) (ms : Nat) : State := { s with fc := { s.fc with ms := ms } }

theorem State.countAer_correctable (s : State) (u : UnitCode) :
    s.countAer u .correctable = if u.kind = .pcie then s.bump Entry.pcieCorrectableErrors else s := by
  cases h : u.kind <;> simp [State.countAer, h]

theorem State.countAer_uncorrectable (s : State) (u : UnitCode) {cls : FaultClass} (h : cls ≠ .correctable) :
    s.countAer u cls = if u.kind = .pcie then s.bump Entry.pcieUncorrectableErrors else s := by
  cases hk : u.kind <;> cases cls <;> simp_all [State.countAer]

/-- The device works or is in FAULT_HOLD: none of OFF, BOOT and TEST (R31). -/
theorem State.device_of_active {s : State} (active : s.running = true ∨ s.held = true) : 3 ≤ s.device := by
  simp only [State.running, State.held, Bool.or_eq_true, decide_eq_true_eq] at active
  omega

/-- The fault collector takes a report on a unit of the part while the device works or is in FAULT_HOLD. -/
theorem State.takesReport {s : State} {u : UnitCode} (unit : s.hasUnit u = true) (active : s.running = true ∨ s.held = true) :
    ¬ (s.isOff || !s.hasUnit u) = true ∧ ¬ (s.device = 1 || s.device = 2) = true := by
  have device := State.device_of_active active
  simp [unit, State.isOff]
  omega

section
variable {s : State} {r : FaultReport} {u : UnitCode} {ms : Nat} {integrity : Bool} {ports : List Nat} {freed : Option Nat} {hit : DataHit}
  (subject : u = if r.cls = .wiring then r.reporter else r.suspect) (unit : s.hasUnit u = true)
include subject unit

/-- A report of another class in BOOT or TEST (R421). -/
theorem State.fcReport_booting (booting : s.device = 1 ∨ s.device = 2) (cls : r.cls ≠ .correctable) :
    s.fcReport r ms integrity ports freed hit = (s.atCount ms).testsBad u := by
  have taken : ¬ (s.isOff || !s.hasUnit u) = true := by simp [unit, State.isOff]; omega
  have phase : (s.device = 1 || s.device = 2) = true := by simpa using booting
  subst subject
  exact (if_neg taken).trans ((if_pos phase).trans (if_neg cls))

/-- A correctable report on another unit than the anchor store (R408). -/
theorem State.fcReport_correctable (active : s.running = true ∨ s.held = true) (cls : r.cls = .correctable) (kind : u.kind ≠ .anchorStore) :
    s.fcReport r ms integrity ports freed hit = ((s.atCount ms).countAer u .correctable).correctable u := by
  obtain ⟨taken, phase⟩ := State.takesReport unit active
  unfold State.fcReport
  simp only [← subject]
  refine (if_neg taken).trans ((if_neg phase).trans ?_)
  rw [cls]
  cases h : u.kind
  case anchorStore => exact absurd h kind
  all_goals rfl

/-- A report of another class on LPDDR6 (R413). -/
theorem State.fcReport_memory (active : s.running = true ∨ s.held = true) (cls : r.cls ≠ .correctable) (kind : u.kind = .lpddr) :
    s.fcReport r ms integrity ports freed hit = (s.atCount ms).memoryError r.reporter u r.detail.toNat integrity ports hit := by
  obtain ⟨taken, phase⟩ := State.takesReport unit active
  unfold State.fcReport
  simp only [← subject]
  refine (if_neg taken).trans ((if_neg phase).trans ?_)
  rw [State.countAer_uncorrectable _ _ cls, kind]
  cases h : r.cls
  case correctable => exact absurd h cls
  all_goals rfl

/-- A report of class 1 or 3 on a unit that it fences and that stands for itself (R410, R411). -/
theorem State.fcReport_single (active : s.running = true ∨ s.held = true) (cls : r.cls = .uncorrectable ∨ r.cls = .wiring)
    (fenced : fences u r.cls = true) (kid : u.kind ≠ .kid) (router : u.kind ≠ .router) :
    s.fcReport r ms integrity ports freed hit =
      ((s.atCount ms).countAer u r.cls).actOn r.reporter u r.cls r.detail.toNat [] := by
  have alone : ∀ t : State, (t.checkKids r.reporter u).checkRoutes u = t := fun t => by
    simp [State.checkKids, State.checkRoutes, beq_eq_false_iff_ne.2 kid, beq_eq_false_iff_ne.2 router]
  obtain ⟨taken, phase⟩ := State.takesReport unit active
  unfold State.fcReport
  simp only [← subject]
  refine (if_neg taken).trans ((if_neg phase).trans ?_)
  rcases cls with h | h
  all_goals
    rw [h] at fenced ⊢
    cases hk : u.kind
    case lpddr | coreSupply | discreteInput => simp [fences, hk] at fenced
    case kid => exact absurd hk kid
    case router => exact absurd hk router
    all_goals exact alone _

end

/-- An anchored device's report: its outcome, with the epochs brought up to date. -/
theorem exec_faultReport {s t : State} {r : FaultReport} {ms : Nat} {integrity : Bool} {hit : DataHit} {freed : Option (Fin 262144)}
    (report : s.fcReport r ms integrity (bitsSet hit.ports.toNat 16) (freed.map fun (i : Fin 262144) => i.val) hit = t)
    (anchored : t.anchored) : exec (.faultReport r ms integrity hit freed) s = .next (s.seal t) := by
  have swept : exec (.faultReport r ms integrity hit freed) s = .next (s.seal (s.fcReport r ms integrity (bitsSet hit.ports.toNat 16)
      (freed.map fun (i : Fin 262144) => i.val) hit).anchorSweep) := rfl
  rw [swept, report, State.anchorSweep_of_anchored anchored]

/-! Correctable reports (R408, R409). -/

/-- The counters of the PCIe controller's AER that a report advances (R469). -/
def aerKeys (u : UnitCode) (k : Nat) : List Nat := if u.kind = .pcie then [k] else []

theorem Keeps.countAer_correctable (s : State) (u : UnitCode) :
    Keeps s (s.countAer u .correctable) (aerKeys u Entry.pcieCorrectableErrors) := by
  rw [State.countAer_correctable, aerKeys]
  split
  · exact Keeps.bump s _ (by simp)
  · exact Keeps.refl s _

theorem Keeps.countAer_uncorrectable (s : State) (u : UnitCode) {cls : FaultClass} (h : cls ≠ .correctable) :
    Keeps s (s.countAer u cls) (aerKeys u Entry.pcieUncorrectableErrors) := by
  rw [State.countAer_uncorrectable s u h, aerKeys]
  split
  · exact Keeps.bump s _ (by simp)
  · exact Keeps.refl s _

theorem State.n_countAer_correctable {s : State} {u : UnitCode} (kind : u.kind = .pcie) :
    (s.countAer u .correctable).n Entry.pcieCorrectableErrors = (s.n Entry.pcieCorrectableErrors + 1) % 2 ^ 32 := by
  rw [State.countAer_correctable, if_pos kind, State.n_bump s _ 32 (by decide) (widthOf_parts (by decide +kernel))]

/-- The counters of AER lie outside the partitions' records. -/
theorem aerKeys_outside {u : UnitCode} {k : Nat} (h : 0x5008 < k / 256) : ∀ j ∈ aerKeys u k, j / 256 < 0x5000 ∨ 0x5008 < j / 256 := by
  intro j hj
  rw [aerKeys] at hj
  split at hj
  · rw [List.mem_singleton.1 hj]
    exact .inr h
  · cases hj

theorem not_mem_aerKeys {u : UnitCode} {k j : Nat} (h : j ≠ k) : j ∉ aerKeys u k := by
  rw [aerKeys]
  split
  · simpa using h
  · simp

/-- A correctable report that does not make too many of them within 1 s is counted and noted (R409, R413). -/
theorem State.correctable_counts {s : State} {u : UnitCode}
    (few : u.kind = .lpddr ∨ ((s.fc.correctable.filter fun e => e.1 = u).map (·.2) |>.filter fun m => s.fc.ms < m + 1000).length < 1024) :
    ∃ l, s.correctable u = { s.bump Entry.faultCorrectableCount with fc := { s.fc with correctable := l } } := by
  have kept : (s.bump Entry.faultCorrectableCount).fc = s.fc := (Keeps.bump s _ (List.mem_singleton_self _)).fc
  unfold State.correctable
  by_cases kind : u.kind = .lpddr
  · exact ⟨s.fc.correctable, by simp [kind, ← kept]⟩
  · have rare : ¬ 1024 < (lastSecond ((s.fc.correctable.filter fun e => e.1 = u).map (·.2)) s.fc.ms).length := by
      simpa [lastSecond, kind] using few
    exact ⟨_, by simp only [kept, beq_eq_false_iff_ne.2 kind, rare, if_false, Bool.false_eq_true]; rfl⟩

/-- What a correctable report leads to (R408, R409, R413, R469). -/
theorem faultReport_correctable {s : State} {r : FaultReport} {u : UnitCode} {ms : Nat} {integrity : Bool} {hit : DataHit}
    {freed : Option (Fin 262144)} (subject : u = if r.cls = .wiring then r.reporter else r.suspect) (unit : s.hasUnit u = true)
    (anchored : s.anchored) (cls : r.cls = .correctable) (active : s.running = true ∨ s.held = true) (kind : u.kind ≠ .anchorStore)
    (few : u.kind = .lpddr ∨ ((s.fc.correctable.filter fun e => e.1 = u).map (·.2) |>.filter fun m => ms < m + 1000).length < 1024) :
    ∃ t, exec (.faultReport r ms integrity hit freed) s = .next t ∧
      t.n Entry.faultCorrectableCount = (s.n Entry.faultCorrectableCount + 1) % 2 ^ 64 ∧ t.fc.log = s.fc.log ∧
      (u.kind = .pcie → t.n Entry.pcieCorrectableErrors = (s.n Entry.pcieCorrectableErrors + 1) % 2 ^ 32) ∧
      t.fc.fenced = s.fc.fenced ∧
      Keeps { s with fc := t.fc } t (Entry.faultCorrectableCount :: aerKeys u Entry.pcieCorrectableErrors) := by
  have report := State.fcReport_correctable (integrity := integrity) (ports := bitsSet hit.ports.toNat 16)
    (freed := freed.map fun (i : Fin 262144) => i.val) (hit := hit) (ms := ms) subject unit active cls kind
  have aer := Keeps.countAer_correctable (s.atCount ms) u
  obtain ⟨l, counted⟩ := State.correctable_counts (s := (s.atCount ms).countAer u .correctable) (u := u) (by rw [aer.fc]; exact few)
  rw [aer.fc] at counted
  have bumped := Keeps.bump ((s.atCount ms).countAer u .correctable) Entry.faultCorrectableCount (List.mem_singleton_self _)
  have kept := ((aer.mono fun _ h => List.mem_cons_of_mem Entry.faultCorrectableCount h).trans
    (bumped.mono (by simp))).withFc { s.fc with ms := ms, correctable := l }
  rw [counted] at report
  refine ⟨_, exec_faultReport report (State.anchored_of_keeps (s := { s with fc := { s.fc with ms := ms, correctable := l } }) anchored kept ?_),
    ?_, rfl, fun pcie => ?_, rfl, kept.trans (Keeps.seal _ _ _)⟩
  · intro k hk
    rcases List.mem_cons.1 hk with rfl | hk
    · decide
    · exact aerKeys_outside (by decide) k hk
  · rw [State.seal_n, State.n_congr (State.raw_withFc _ _ _), State.n_bump _ _ 64 (by decide) (widthOf_parts (by decide +kernel)),
      aer.n (not_mem_aerKeys (by decide)) (by decide)]
    rfl
  · rw [State.seal_n, State.n_congr (State.raw_withFc _ _ _), bumped.n (by decide) (by decide), State.n_countAer_correctable pcie]
    rfl

/-! Reports on a unit that is fenced (R414, R416). -/

/-- A DEGRADED device with a fenced unit stays as it is while enough herds work. -/
theorem State.settleAll_of_fenced {s : State} {u : UnitCode} (fenced : s.fenced u = true) (kind : u.kind ≠ .kid) (device : s.device = 5)
    (enough : s.herdMinimum ≤ s.workingHerds.length) (cause : Nat) : s.settleAll cause = s := by
  rw [State.settleAll_eq_settle enough, State.settle_of_degraded device (State.degraded_of_fenced fenced kind)]

/-- An event with a further report of a class that names no port merged into it (R414, R415). -/
def FaultEvent.withReport (e : FaultEvent) (cls : FaultClass) : FaultEvent :=
  { e with
    merged := e.merged + 1, cls := if classCode e.cls < classCode cls then cls else e.cls
    failed := e.failed || e.recovering }

theorem State.mergeInto_none (s : State) (number : Nat) (cls : FaultClass) :
    s.mergeInto number cls [] = (s.amend number (·.withReport cls)).bump Entry.faultReportsMerged := by
  simp [State.mergeInto, FaultEvent.withReport]

/-- A device that is found DEGRADED with a unit fenced is so after an operation on other entries that fences no other unit. -/
theorem State.settleAll_of_keeps {s t : State} {u : UnitCode} {keys : List Nat} (h : Keeps { s with fc := t.fc } t keys)
    (fences : t.fc.fenced = s.fc.fenced) (free : Entry.devDeviceState ∉ keys) (fenced : s.fenced u = true) (kind : u.kind ≠ .kid)
    (device : s.device = 5) (enough : s.herdMinimum ≤ s.workingHerds.length) (cause : Nat) : t.settleAll cause = t := by
  have part : t.part = s.part := h.part
  refine State.settleAll_of_fenced (u := u) ?_ kind ((h.n free (by decide)).trans device) ?_ cause
  · rw [State.fenced, fences]
    exact fenced
  · rw [State.herdMinimum_congr part, State.workingHerds_congr part fences]
    exact enough

/-- What a report on a fenced unit leads to: it is discarded or merged, and counted (R414, R416, R469). -/
theorem faultReport_onFenced {s : State} {r : FaultReport} {u : UnitCode} {ms : Nat} {integrity : Bool} {hit : DataHit}
    {freed : Option (Fin 262144)} (subject : u = if r.cls = .wiring then r.reporter else r.suspect) (unit : s.hasUnit u = true)
    (anchored : s.anchored) (cls : r.cls = .uncorrectable ∨ r.cls = .wiring) (fences : fences u r.cls = true) (kid : u.kind ≠ .kid)
    (router : u.kind ≠ .router) (fenced : s.fenced u = true) (device : s.device = 5)
    (enough : s.herdMinimum ≤ s.workingHerds.length) {l : List FaultEvent}
    (taken : (s.isPermanent u = true ∧ l = s.fc.log) ∨
      ∃ e, s.isPermanent u = false ∧ s.eventFor u = some e ∧
        l = s.fc.log.map fun x => if x.number = e.number then x.withReport r.cls else x) :
    ∃ t, exec (.faultReport r ms integrity hit freed) s = .next t ∧
      t.n Entry.faultReportsMerged = (s.n Entry.faultReportsMerged + 1) % 2 ^ 64 ∧
      Keeps { s with fc := { s.fc with ms := ms, log := l } } t
        (Entry.faultReportsMerged :: aerKeys u Entry.pcieUncorrectableErrors) := by
  have plain : r.cls ≠ .correctable := by rcases cls with h | h <;> rw [h] <;> decide
  have active : s.running = true ∨ s.held = true := .inl (by simp [State.running, device])
  have report := State.fcReport_single (integrity := integrity) (ports := bitsSet hit.ports.toNat 16)
    (freed := freed.map fun (i : Fin 262144) => i.val) (hit := hit) (ms := ms) subject unit active cls fences kid router
  have aer := Keeps.countAer_uncorrectable (s.atCount ms) u plain
  -- The state in which the log is as the report leaves it, before it is counted.
  have logged := (aer.mono fun _ h => List.mem_cons_of_mem Entry.faultReportsMerged h).withFc { s.fc with ms := ms, log := l }
  have counted := logged.trans (Keeps.bump _ Entry.faultReportsMerged (List.mem_cons_self ..))
  have acted : s.fcReport r ms integrity (bitsSet hit.ports.toNat 16) (freed.map fun (i : Fin 262144) => i.val) hit =
      ({ (s.atCount ms).countAer u r.cls with fc := { s.fc with ms := ms, log := l } } : State).bump Entry.faultReportsMerged := by
    have settled := State.settleAll_of_keeps (s := s) (by rw [counted.fc]; exact counted) (by rw [counted.fc]) (by
      rw [List.mem_cons, not_or]
      exact ⟨by decide, not_mem_aerKeys (by decide)⟩) fenced kid device enough (causeOf u)
    rw [report, ← settled]
    rcases taken with ⟨permanent, rfl⟩ | ⟨e, permanent, event, rfl⟩
    · rw [State.actOn_permanent ((State.isPermanent_congr (congrArg _ aer.fc)).trans permanent)]
      exact congrArg (fun v : State => (v.bump Entry.faultReportsMerged).settleAll (causeOf u)) (State.withFc_self aer.fc).symm
    · rw [State.actOn_merged ((State.isPermanent_congr (congrArg _ aer.fc)).trans permanent) ((State.eventFor_congr (congrArg _ aer.fc)).trans event) ((State.fenced_congr (congrArg _ aer.fc)).trans fenced), State.mergeInto_none, State.amend,
        aer.fc]
      rfl
  refine ⟨_, exec_faultReport acted (State.anchored_of_keeps (s := { s with fc := { s.fc with ms := ms, log := l } }) anchored counted ?_), ?_,
    counted.trans (Keeps.seal _ _ _)⟩
  · intro k hk
    rcases List.mem_cons.1 hk with rfl | hk
    · decide
    · exact aerKeys_outside (by decide) k hk
  · rw [State.seal_n, State.n_bump _ _ 64 (by decide) (widthOf_parts (by decide +kernel)),
      aer.withFc _ |>.n (not_mem_aerKeys (by decide)) (by decide)]
    rfl

/-! Reports in BOOT and TEST (R421). -/

/-- A unit found bad joins those found bad before. -/
theorem State.testsBad_eq (s : State) (u : UnitCode) :
    ∃ l, s.testsBad u = { s with fc := { s.fc with testBad := l } } ∧ u ∈ l ∧ ∀ v ∈ s.fc.testBad, v ∈ l := by
  unfold State.testsBad
  by_cases known : s.fc.testBad.contains u = true
  · exact ⟨s.fc.testBad, by rw [if_pos known], by simpa using known, fun _ h => h⟩
  · exact ⟨s.fc.testBad ++ [u], by rw [if_neg known], by simp, fun _ h => List.mem_append_left _ h⟩

/-- What a report in BOOT or TEST leads to (R421). -/
theorem faultReport_booting {s : State} {r : FaultReport} {u : UnitCode} {ms : Nat} {integrity : Bool} {hit : DataHit}
    {freed : Option (Fin 262144)} (subject : u = if r.cls = .wiring then r.reporter else r.suspect) (unit : s.hasUnit u = true)
    (anchored : s.anchored) (cls : r.cls ≠ .correctable) (booting : s.device = 1 ∨ s.device = 2) :
    ∃ t, exec (.faultReport r ms integrity hit freed) s = .next t ∧ u ∈ t.fc.testBad ∧ (∀ v ∈ s.fc.testBad, v ∈ t.fc.testBad) ∧
      Keeps { s with fc := { s.fc with ms := ms, testBad := t.fc.testBad } } t [] := by
  obtain ⟨l, bad, here, before⟩ := State.testsBad_eq (s.atCount ms) u
  exact ⟨_, exec_faultReport ((State.fcReport_booting subject unit booting cls).trans bad) anchored, here, before, Keeps.seal s _ []⟩

/-! FAULT_HOLD (R33): every running port SAFE, no PV pair asserted, no lap running. -/

/-- A lap as it is abandoned, where a slot has one (R276). -/
def SlotRt.stopped (r : SlotRt) : SlotRt := { r with lap := r.lap.map fun l => { l with abandoned := true } }

@[simp] theorem SlotRt.stopped_stopped (r : SlotRt) : r.stopped.stopped = r.stopped := by
  cases h : r.lap <;> simp [SlotRt.stopped, h]

theorem SlotRt.abandoned_of_stopped {r : SlotRt} {l : Lap} (h : r.stopped.lap = some l) : l.abandoned = true := by
  simp only [SlotRt.stopped, Option.map_eq_some_iff] at h
  obtain ⟨_, _, rfl⟩ := h
  rfl

theorem State.abandonLap_none {s : State} {k : Nat} (h : (s.slotRt k).lap = none) : s.abandonLap k = s := by
  simp only [State.abandonLap, h]

theorem State.abandonLap_some {s : State} {k : Nat} {l : Lap} (h : (s.slotRt k).lap = some l) :
    s.abandonLap k = s.setSlotRt k (s.slotRt k).stopped := by
  simp only [State.abandonLap, h, SlotRt.stopped, Option.map_some]

theorem State.slotRt_setSlotRt (s : State) (j k : Nat) (r : SlotRt) :
    (s.setSlotRt j r).slotRt k = if j = k then r else s.slotRt k := Assoc.get_put ..

theorem State.slotRt_abandonLap (s : State) (j k : Nat) :
    (s.abandonLap j).slotRt k = if j = k then (s.slotRt k).stopped else s.slotRt k := by
  cases lap : (s.slotRt j).lap with
  | none =>
    have still : (s.slotRt j).stopped = s.slotRt j := by
      simp only [SlotRt.stopped, lap, Option.map_none]
      rw [← lap]
    rw [State.abandonLap_none lap]
    split
    · rename_i h
      rw [← h, still]
    · rfl
  | some l =>
    rw [State.abandonLap_some lap, State.slotRt_setSlotRt]
    split
    · rename_i h
      rw [h]
    · rfl

/-- The abandonment of laps changes the herds' record alone. -/
theorem State.each_abandonLap (l : List Nat) (s : State) : ∃ x, s.each l State.abandonLap = { s with herds := x } := by
  induction l generalizing s with
  | nil => exact ⟨s.herds, rfl⟩
  | cons k r ih =>
    obtain ⟨x, hx⟩ := ih (s.abandonLap k)
    have one : ∃ y, s.abandonLap k = { s with herds := y } := by
      cases lap : (s.slotRt k).lap with
      | none => exact ⟨s.herds, State.abandonLap_none lap⟩
      | some l => exact ⟨_, State.abandonLap_some lap⟩
    obtain ⟨y, hy⟩ := one
    exact ⟨x, hx.trans (by rw [hy])⟩

theorem State.slotRt_each_abandonLap (l : List Nat) (s : State) (k : Nat) :
    (s.each l State.abandonLap).slotRt k = if k ∈ l then (s.slotRt k).stopped else s.slotRt k := by
  induction l generalizing s with
  | nil => simp [State.each]
  | cons j r ih =>
    have next := ih (s.abandonLap j)
    simp only [State.each, List.foldl_cons] at next ⊢
    rw [next, State.slotRt_abandonLap]
    by_cases h : j = k
    · subst h
      simp
    · simp [h, Ne.symm h]

/-- The entries of a port that an entry to FAULT_HOLD changes. -/
def holdPortKeys (n : Nat) : List Nat :=
  [Entry.portState n, Entry.portSafeCause n, Entry.portSafeKind n, Entry.portSafeEntries n, Entry.pvPvPairs]

theorem Keeps.setPortState (s : State) (n st : Nat) : Keeps s (s.setPortState n st) [Entry.portState n, Entry.pvPvPairs] :=
  (Keeps.setN s _ _ (by simp)).trans (Keeps.setN _ _ _ (by simp))

/-- A port that runs is parked; its count of entries advances unless it was SAFE. -/
theorem Keeps.holdPort_running {s : State} {n : Nat} (h : s.portState n ≠ 0) :
    Keeps (((s.setPortState n 5).setN (Entry.portSafeCause n) 8).setN (Entry.portSafeKind n) 2) (s.holdPort n)
      [Entry.portSafeEntries n] := by
  simp only [State.holdPort, if_neg h]
  split
  · exact Keeps.refl _ _
  · exact Keeps.bump _ _ (by simp)

theorem State.holdPort_off {s : State} {n : Nat} (h : s.portState n = 0) : s.holdPort n = s.setPv n false := by
  simp only [State.holdPort, if_pos h]

theorem Keeps.holdPort (s : State) (n : Nat) : Keeps s (s.holdPort n) (holdPortKeys n) := by
  by_cases h : s.portState n = 0
  · rw [State.holdPort_off h]
    exact Keeps.setN s _ _ (by simp [holdPortKeys])
  · exact (((Keeps.setPortState s n 5).mono (by simp [holdPortKeys])).trans
      ((Keeps.setN _ _ _ (by simp [holdPortKeys])).trans (Keeps.setN _ _ _ (by simp [holdPortKeys])))).trans
      ((Keeps.holdPort_running h).mono (by simp [holdPortKeys]))

/-- A port in FAULT_HOLD (R33): its PV pair is not asserted, and it is OFF or SAFE with SafeCause 8 and SAFE_BLANK. -/
def State.portHeld (s : State) (n : Nat) : Prop :=
  s.vouched n = false ∧ (s.portState n = 0 ∨ s.portState n = 5 ∧ s.n (Entry.portSafeCause n) = 8 ∧ s.n (Entry.portSafeKind n) = 2)

theorem State.vouched_setPv (s : State) (m n : Nat) (on : Bool) :
    (s.setPv m on).vouched n = if m = n then on else s.vouched n := by
  simp only [State.vouched, State.setPv]
  rw [State.n_setN _ _ _ (by decide)]
  simp only [withBit_testBit]
  by_cases h : m = n
  · subst h
    cases on <;> simp
  · have e1 : ¬ 2 * m = 2 * n := by omega
    have e2 : ¬ 2 * m + 1 = 2 * n := by omega
    have e3 : ¬ 2 * m = 2 * n + 1 := by omega
    simp [h, e1, e2, e3]

theorem State.vouched_congr {s t : State} {n : Nat} (h : t.n Entry.pvPvPairs = s.n Entry.pvPvPairs) : t.vouched n = s.vouched n := by
  simp only [State.vouched, h]

/-- Entries with different subindices differ. -/
theorem key_ne_of_sub {i j a b : Nat} (h : a % 256 ≠ b % 256) : key i a ≠ key j b := by
  simp only [key]
  omega

/-- Entries of one name in different records differ. -/
theorem key_ne_of_index {i j a : Nat} (h : i ≠ j) : key i a ≠ key j a := by
  simp only [key]
  omega

/-- A port that enters FAULT_HOLD drives its own PV pair deasserted, and no other. -/
theorem State.vouched_holdPort (s : State) (m n : Nat) : (s.holdPort m).vouched n = if m = n then false else s.vouched n := by
  have pair : (s.holdPort m).vouched n = ((s.setN (Entry.portState m) 5).setPv m false).vouched n ∨
      (s.holdPort m).vouched n = (s.setPv m false).vouched n := by
    by_cases h : s.portState m = 0
    · exact .inr (by rw [State.holdPort_off h])
    · refine .inl (State.vouched_congr ?_)
      rw [(Keeps.holdPort_running h).n (by rw [List.mem_singleton]; exact key_ne_of_sub (by decide)) (by decide),
        State.n_setN_ne _ _ (key_ne_of_sub (by decide)) (by decide), State.n_setN_ne _ _ (key_ne_of_sub (by decide)) (by decide)]
      rfl
  have state : (s.setN (Entry.portState m) 5).vouched n = s.vouched n :=
    State.vouched_congr (State.n_setN_ne _ _ (key_ne_of_sub (by decide)) (by decide))
  rcases pair with h | h
  · rw [h, State.vouched_setPv, state]
  · rw [h, State.vouched_setPv]

/-- The entry of a port to FAULT_HOLD. -/
theorem State.holdPort_held (s : State) (n : Nat) : (s.holdPort n).portHeld n ∧ ((s.holdPort n).portState n = 0 ↔ s.portState n = 0) := by
  have pv : Entry.pvPvPairs ≠ Entry.portState n := key_ne_of_sub (by decide)
  have pair : (s.holdPort n).vouched n = false := by simp [State.vouched_holdPort]
  by_cases h : s.portState n = 0
  · have still : (s.holdPort n).portState n = s.portState n := by
      rw [State.holdPort_off h]
      exact State.n_setN_ne _ _ pv (key_ne_of_sub (by decide))
    exact ⟨⟨pair, .inl (still.trans h)⟩, by rw [still]⟩
  · have counted : ∀ k, k ≠ Entry.portSafeEntries n → k ≠ Entry.canEventsLost → (s.holdPort n).n k = _ := fun k hk hl =>
      (Keeps.holdPort_running h).n (by simpa using hk) hl
    have state : (s.holdPort n).portState n = 5 := by
      rw [State.portState, counted _ (key_ne_of_sub (by decide)) (key_ne_of_sub (by decide)),
        State.n_setN_ne _ _ (key_ne_of_sub (by decide)) (key_ne_of_sub (by decide)),
        State.n_setN_ne _ _ (key_ne_of_sub (by decide)) (key_ne_of_sub (by decide)),
        State.setPortState, State.setPv, State.n_setN_ne _ _ pv (key_ne_of_sub (by decide))]
      exact State.n_setN _ _ _ (key_ne_of_sub (by decide))
    have cause : (s.holdPort n).n (Entry.portSafeCause n) = 8 := by
      rw [counted _ (key_ne_of_sub (by decide)) (key_ne_of_sub (by decide)),
        State.n_setN_ne _ _ (key_ne_of_sub (by decide)) (key_ne_of_sub (by decide))]
      exact State.n_setN _ _ _ (key_ne_of_sub (by decide))
    have kind : (s.holdPort n).n (Entry.portSafeKind n) = 2 := by
      rw [counted _ (key_ne_of_sub (by decide)) (key_ne_of_sub (by decide))]
      exact State.n_setN _ _ _ (key_ne_of_sub (by decide))
    exact ⟨⟨pair, .inr ⟨state, cause, kind⟩⟩, by simp [state, h]⟩

/-- The entry of one port to FAULT_HOLD leaves the entries of another as they are. -/
theorem State.holdPort_other (s : State) {m n sub : Nat} (h : m ≠ n) (hs : sub ∈ [2, 9, 10]) :
    (s.holdPort m).n (key (0x3400 + n) sub) = s.n (key (0x3400 + n) sub) := by
  have three : sub = 2 ∨ sub = 9 ∨ sub = 10 := by simpa using hs
  refine (Keeps.holdPort s m).n ?_ (key_ne_of_sub ?_)
  · simp only [holdPortKeys, List.mem_cons, List.not_mem_nil, or_false]
    show ¬ ((0x3400 + n) * 256 + sub = (0x3400 + m) * 256 + 2 ∨ (0x3400 + n) * 256 + sub = (0x3400 + m) * 256 + 9 ∨
      (0x3400 + n) * 256 + sub = (0x3400 + m) * 256 + 10 ∨ (0x3400 + n) * 256 + sub = (0x3400 + m) * 256 + 17 ∨
      (0x3400 + n) * 256 + sub = 0x7E01 * 256 + 1)
    omega
  · omega

theorem State.portHeld_holdPort {s : State} {m n : Nat} (h : s.portHeld n) : (s.holdPort m).portHeld n := by
  by_cases e : m = n
  · rw [e]
    exact (State.holdPort_held s n).1
  · rw [State.portHeld, State.portState, State.vouched_holdPort, if_neg e, State.holdPort_other s e (by simp),
      State.holdPort_other s e (by simp), State.holdPort_other s e (by simp)]
    exact h

theorem State.portState_holdPort_eq_zero (s : State) (m n : Nat) : (s.holdPort m).portState n = 0 ↔ s.portState n = 0 := by
  by_cases e : m = n
  · rw [e]
    exact (State.holdPort_held s n).2
  · rw [State.portState, State.holdPort_other s e (by simp)]
    exact Iff.rfl

/-- The entries that an entry to FAULT_HOLD changes (R33). -/
def State.holdKeys (s : State) : List Nat :=
  Entry.devStateCause :: Entry.devDeviceState :: (List.range s.portCount).flatMap holdPortKeys

theorem State.enterHold_eq {s : State} (on : s.isOff = false) (free : s.held = false) (cause : Nat) :
    s.enterHold cause = (((s.setN Entry.devStateCause cause).each (List.range s.portCount) State.holdPort).each (List.range 128)
      State.abandonLap).setN Entry.devDeviceState 6 := by
  simp [State.enterHold, on, free]

/-- The ports' part of the entry to FAULT_HOLD. -/
theorem Keeps.each_holdPort (s : State) (l : List Nat) : Keeps s (s.each l State.holdPort) (l.flatMap holdPortKeys) :=
  Keeps.each _ _ _ fun t n hn => (Keeps.holdPort t n).mono fun _ hk => List.mem_flatMap.2 ⟨n, hn, hk⟩

/-- An entry outside the ports' records that R33 does not name. -/
theorem State.not_mem_holdPortKeys (s : State) {k : Nat} (pairs : k ≠ Entry.pvPvPairs) (outside : k < 0x3400 * 256 ∨ 0x3410 * 256 ≤ k) :
    k ∉ (List.range s.portCount).flatMap holdPortKeys := by
  have count : s.portCount ≤ 16 := by
    unfold State.portCount
    split <;> decide
  simp only [List.mem_flatMap, List.mem_range, holdPortKeys, List.mem_cons, List.not_mem_nil, or_false, pairs, not_exists, not_and]
  intro n hn
  show ¬ (k = (0x3400 + n) * 256 + 2 ∨ k = (0x3400 + n) * 256 + 9 ∨ k = (0x3400 + n) * 256 + 10 ∨ k = (0x3400 + n) * 256 + 17)
  omega

theorem State.slotRt_congr {s t : State} (h : t.herds = s.herds) (k : Nat) : t.slotRt k = s.slotRt k := by
  simp only [State.slotRt, h]

/-- The entry to FAULT_HOLD changes the entries that R33 names and abandons the laps. -/
theorem Keeps.enterHold {s : State} (on : s.isOff = false) (free : s.held = false) (cause : Nat) :
    Keeps { s with herds := (s.enterHold cause).herds } (s.enterHold cause) s.holdKeys := by
  obtain ⟨x, hx⟩ := State.each_abandonLap (List.range 128)
    ((s.setN Entry.devStateCause cause).each (List.range s.portCount) State.holdPort)
  have kept : Keeps { s with herds := x } (s.enterHold cause) s.holdKeys := by
    rw [State.enterHold_eq on free, hx]
    have ports := (Keeps.setN s Entry.devStateCause cause (by simp [State.holdKeys])).trans
      ((Keeps.each_holdPort _ (List.range s.portCount)).mono (more := s.holdKeys) (by simp +contextual [State.holdKeys]))
    exact (ports.withHerds x).trans (Keeps.setN _ _ _ (by simp [State.holdKeys]))
  rwa [kept.herds]

/-- At the entry to FAULT_HOLD every running lap is abandoned (R276). -/
theorem State.slotRt_enterHold {s : State} (on : s.isOff = false) (free : s.held = false) (cause k : Nat) :
    (s.enterHold cause).slotRt k = if k < 128 then (s.slotRt k).stopped else s.slotRt k := by
  have device : ∀ t : State, (t.setN Entry.devDeviceState 6).herds = t.herds := fun t =>
    (Keeps.setN t _ _ (List.mem_singleton_self _)).herds
  rw [State.enterHold_eq on free, State.slotRt_congr (device _), State.slotRt_each_abandonLap,
    State.slotRt_congr (Keeps.each_holdPort _ _).herds, State.slotRt_congr (Keeps.setN s _ cause (List.mem_singleton_self _)).herds]
  simp only [List.mem_range]

theorem State.not_mem_holdKeys (s : State) {k : Nat} (cause : k ≠ Entry.devStateCause) (device : k ≠ Entry.devDeviceState)
    (pairs : k ≠ Entry.pvPvPairs) (outside : k < 0x3400 * 256 ∨ 0x3410 * 256 ≤ k) : k ∉ s.holdKeys := by
  simp only [State.holdKeys, List.mem_cons, cause, device, false_or]
  exact s.not_mem_holdPortKeys pairs outside

/-- Beside the device state, the entries in FAULT_HOLD are those that its entry by the ports leaves. -/
theorem State.raw_enterHold {s : State} (on : s.isOff = false) (free : s.held = false) (cause : Nat) {k : Nat}
    (device : k ≠ Entry.devDeviceState) (lost : k ≠ Entry.canEventsLost) :
    (s.enterHold cause).raw k = ((s.setN Entry.devStateCause cause).each (List.range s.portCount) State.holdPort).raw k := by
  obtain ⟨x, hx⟩ := State.each_abandonLap (List.range 128)
    ((s.setN Entry.devStateCause cause).each (List.range s.portCount) State.holdPort)
  rw [State.enterHold_eq on free, hx, State.raw_setN_ne _ device.symm lost]
  rfl

/-- A pass over ports turns none on or off. -/
theorem State.portState_each_holdPort (s : State) (l : List Nat) (n : Nat) :
    (s.each l State.holdPort).portState n = 0 ↔ s.portState n = 0 := by
  induction l generalizing s with
  | nil => exact Iff.rfl
  | cons m r ih => exact (ih (s.holdPort m)).trans (State.portState_holdPort_eq_zero s m n)

/-- The entry to FAULT_HOLD of a device that is neither OFF nor there already (R33). -/
theorem State.enterHold_enters {s : State} (on : s.isOff = false) (free : s.held = false) (cause : Nat) :
    s.entersHold (s.enterHold cause) cause := by
  refine ⟨?_, ?_, fun n hn => ?_, State.slotRt_enterHold on free cause⟩
  · rw [State.device, State.enterHold_eq on free, State.n_setN _ _ _ (by decide)]
  · rw [State.n_congr (State.raw_enterHold on free cause (by decide) (by decide)),
      (Keeps.each_holdPort _ _).n (s.not_mem_holdPortKeys (by decide) (by decide)) (by decide), State.n_setN _ _ _ (by decide)]
  · have entered : ∀ sub, sub % 256 ≠ 1 → sub % 256 ≠ 8 → (s.enterHold cause).n (key (0x3400 + n) sub) =
        ((s.setN Entry.devStateCause cause).each (List.range s.portCount) State.holdPort).n (key (0x3400 + n) sub) := fun sub h1 h8 =>
      State.n_congr (State.raw_enterHold on free cause (key_ne_of_sub h1) (key_ne_of_sub h8))
    have held : (s.enterHold cause).portHeld n := by
      rw [State.portHeld, State.portState, entered _ (by decide) (by decide), entered _ (by decide) (by decide),
        entered _ (by decide) (by decide), State.vouched_congr (State.n_congr (State.raw_enterHold on free cause (by decide) (by decide)))]
      exact State.each_mem (P := fun n t => t.portHeld n) (fun t n => (State.holdPort_held t n).1)
        (fun _ _ _ h => State.portHeld_holdPort h) _ _ n (List.mem_range.2 hn)
    have off : (s.enterHold cause).portState n = 0 ↔ s.portState n = 0 := by
      rw [State.portState, entered _ (by decide) (by decide)]
      refine (State.portState_each_holdPort _ _ n).trans ?_
      rw [State.portState, State.n_setN_ne _ _ (key_ne_of_index (by omega)) (key_ne_of_sub (by decide))]
      exact Iff.rfl
    obtain ⟨pair, stopped | ⟨safe, because, blank⟩⟩ := held
    · exact ⟨pair, by rw [stopped, if_pos (off.1 stopped)], fun h => absurd (off.1 stopped) h⟩
    · refine ⟨pair, ?_, fun _ => ⟨because, blank⟩⟩
      rw [safe, if_neg fun h => by rw [off.2 h] at safe; cases safe]

/-! What stays abandoned (R120, R150, R276): no operation of a report resumes a lap or returns a frame to an engine. -/

/-- Whether a slot runs no lap but an abandoned one. -/
def State.lapOver (s : State) (k : Nat) : Prop := ∀ l, (s.slotRt k).lap = some l → l.abandoned = true

/-- What is abandoned in `s` is so in `t`, and the same blocks are unreadable. -/
structure KeepsAbandoned (s t : State) : Prop where
  laps : ∀ k, s.lapOver k → t.lapOver k
  engines : ∀ g, Assoc.find s.vision.stereo g = none → Assoc.find t.vision.stereo g = none
  blocks : t.security.badBlocks = s.security.badBlocks

namespace KeepsAbandoned

theorem refl (s : State) : KeepsAbandoned s s := ⟨fun _ h => h, fun _ h => h, rfl⟩

theorem trans {s t u : State} (h : KeepsAbandoned s t) (g : KeepsAbandoned t u) : KeepsAbandoned s u :=
  ⟨fun k a => g.laps k (h.laps k a), fun k a => g.engines k (h.engines k a), g.blocks.trans h.blocks⟩

/-- A change of other units. -/
theorem of_eq {s t : State} (herds : t.herds = s.herds) (stereo : t.vision.stereo = s.vision.stereo)
    (blocks : t.security.badBlocks = s.security.badBlocks) : KeepsAbandoned s t :=
  ⟨fun k h => by rwa [State.lapOver, State.slotRt_congr herds], fun g h => by rwa [stereo], blocks⟩

theorem of_keeps {s t : State} {keys : List Nat} (h : Keeps s t keys) : KeepsAbandoned s t :=
  of_eq h.herds (congrArg Vision.stereo h.vision) h.badBlocks

theorem setN (s : State) (k n : Nat) : KeepsAbandoned s (s.setN k n) := of_keeps (Keeps.setN s k n (List.mem_singleton_self k))
theorem setB (s : State) (k : Nat) (b : Bytes) : KeepsAbandoned s (s.setB k b) := of_keeps (Keeps.setB s k b (List.mem_singleton_self k))
theorem bump (s : State) (k : Nat) : KeepsAbandoned s (s.bump k) := of_keeps (Keeps.bump s k (List.mem_singleton_self k))
theorem add (s : State) (k d : Nat) : KeepsAbandoned s (s.add k d) := of_keeps (Keeps.add s k d (List.mem_singleton_self k))

theorem each {α : Type} (s : State) (l : List α) (f : State → α → State) (h : ∀ t a, KeepsAbandoned t (f t a)) :
    KeepsAbandoned s (s.each l f) := by
  induction l generalizing s with
  | nil => exact refl s
  | cons a r ih => exact (h s a).trans (ih (f s a))

theorem abandonLap (s : State) (k : Nat) : KeepsAbandoned s (s.abandonLap k) := by
  obtain ⟨x, hx⟩ := State.each_abandonLap [k] s
  refine ⟨fun j before => ?_, fun g h => ?_, ?_⟩
  · intro l running
    rw [State.slotRt_abandonLap] at running
    split at running
    · exact SlotRt.abandoned_of_stopped running
    · exact before l running
  · rw [show s.abandonLap k = { s with herds := x } from hx]
    exact h
  · rw [show s.abandonLap k = { s with herds := x } from hx]

/-- A store shorter than a block makes no unreadable block readable (R380, R382). -/
theorem writeMem (s : State) (p o : Nat) {b : Bytes} (short : b.length < blockBytes) : KeepsAbandoned s (s.writeMem p o b) := by
  simp only [State.writeMem]
  split
  · refine of_eq rfl rfl (List.filter_eq_self.2 fun k _ => ?_)
    simp only [Bool.not_eq_true', Bool.and_eq_false_iff, decide_eq_false_iff_not]
    rw [blockBytes] at *
    omega
  · exact refl s

theorem holdPort (s : State) (n : Nat) : KeepsAbandoned s (s.holdPort n) := of_keeps (Keeps.holdPort s n)

theorem enterHold (s : State) (cause : Nat) : KeepsAbandoned s (s.enterHold cause) := by
  simp only [State.enterHold]
  split
  · exact refl s
  · split
    · split
      · exact setN s _ _
      · exact refl s
    · exact (setN s _ _).trans ((each _ _ _ holdPort).trans ((each _ _ _ abandonLap).trans (setN _ _ _)))

theorem settleAll (s : State) (cause : Nat) : KeepsAbandoned s (s.settleAll cause) := by
  simp only [State.settleAll]
  split
  · exact enterHold s _
  · exact of_keeps (Keeps.settle s cause)

/-! The weights of a stream (R354). -/

theorem logArrival (s : State) (p kind port stream frame value : Nat) :
    KeepsAbandoned s (s.logArrival p kind port stream frame value) := by
  simp only [State.logArrival]
  split
  · exact refl s
  · exact (writeMem s _ _ (by rw [leBytes, List.length_map, List.length_range]; decide)).trans (setN _ _ _)

theorem setAdaptOf (s : State) (i : Nat) (a : AdaptStream) : KeepsAbandoned s (s.setAdaptOf i a) := of_eq rfl rfl rfl

theorem activate (s : State) (i slot : Nat) : KeepsAbandoned s (s.activate i slot) := by
  simp only [State.activate]
  split
  · exact setAdaptOf s _ _
  · exact (setAdaptOf s _ _).trans (logArrival _ _ _ _ _ _ _)

theorem restartCandidate (s : State) (p i : Nat) : KeepsAbandoned s (s.restartCandidate p i) := by
  simp only [State.restartCandidate]
  split
  · exact setAdaptOf s _ _
  · exact refl s

theorem afterCommand (s : State) (p i : Nat) : KeepsAbandoned s (s.afterCommand p i) :=
  (setAdaptOf s _ _).trans (restartCandidate _ _ _)

theorem countAnchors (s : State) (i : Nat) : KeepsAbandoned s (s.countAnchors i) := by
  simp only [State.countAnchors]
  exact (setN s _ _).trans ((setN _ _ _).trans (setN _ _ _))

theorem jobEnded (s : State) (j : GenJob) : KeepsAbandoned s (s.jobEnded j) := by
  simp only [State.jobEnded]
  split
  · simp only [State.freeRetired]
    refine trans ?_ (countAnchors _ _)
    exact of_eq rfl rfl rfl
  · exact refl s

theorem dropJob (s : State) (id : Nat) : KeepsAbandoned s (s.dropJob id) := by
  simp only [State.dropJob]
  split
  · exact refl s
  · refine trans ?_ (jobEnded _ _)
    split
    · exact of_eq rfl rfl rfl
    · exact of_eq rfl rfl rfl

theorem dropJobs (s : State) (f : GenJob → Bool) : KeepsAbandoned s (s.dropJobs f) := each _ _ _ fun t j => dropJob t j.id

theorem weightsLost (s : State) (i : Nat) (ofCandidate : Bool) : KeepsAbandoned s (s.weightsLost i ofCandidate) := by
  simp only [State.weightsLost]
  split
  · exact refl s
  · split
    · exact afterCommand s _ _
    · split
      · exact refl s
      · refine trans ?_ (bump _ _)
        refine trans ?_ (setAdaptOf _ _ _)
        refine trans ?_ (activate _ _ _)
        exact dropJobs s _

/-! The frames of engines (R120). -/

theorem resolveDepth (s : State) (p ordinal : Nat) (d : DepthState) : KeepsAbandoned s (s.resolveDepth p ordinal d) := of_eq rfl rfl rfl

theorem abandonPairFrame (s : State) (f : PairFrame) : KeepsAbandoned s (s.abandonPairFrame f) :=
  (bump s _).trans (resolveDepth _ _ _ _)

theorem abandonOn (s : State) (g : Nat) : KeepsAbandoned s (s.abandonOn g) := by
  simp only [State.abandonOn]
  split
  · exact refl s
  · have dropped : KeepsAbandoned s { s with vision := { s.vision with stereo := Assoc.drop s.vision.stereo g } } :=
      ⟨fun _ h => h, fun j h => by simp [Assoc.find_drop, h], rfl⟩
    exact dropped.trans (abandonPairFrame _ _)

theorem flowAbandon (s : State) (f : Nat) : KeepsAbandoned s (s.flowAbandon f) := by
  simp only [State.flowAbandon]
  split
  · exact refl s
  · exact of_eq rfl rfl rfl

theorem abandonReaders (s : State) (l : List UnitCode) : KeepsAbandoned s (s.abandonReaders l) := by
  refine each s l _ fun t u => ?_
  split
  · exact (abandonOn t _).trans (setN _ _ _)
  · split
    · exact (flowAbandon t _).trans (setN _ _ _)
    · exact refl t
  · exact refl t

/-! The report itself (R410, R414 to R416). -/

/-- A change of the fault collector's record. -/
theorem withFc (s : State) (f : Fc) : KeepsAbandoned s { s with fc := f } := of_eq rfl rfl rfl

theorem mergeInto (s : State) (number : Nat) (cls : FaultClass) (ports : List Nat) : KeepsAbandoned s (s.mergeInto number cls ports) :=
  (withFc s _).trans (bump _ _)

theorem openEvent (s : State) (e : FaultEvent) : KeepsAbandoned s (s.openEvent e) :=
  (withFc s _).trans (of_keeps (Keeps.openEvent s e))

theorem postEvent (s : State) (number : Nat) : KeepsAbandoned s (s.postEvent number) := by
  simp only [State.postEvent]
  split
  · exact refl _
  · exact of_keeps (Keeps.postValue _ _ _ _ [])

theorem closeEvent (s : State) (number status : Nat) : KeepsAbandoned s (s.closeEvent number status) := by
  simp only [State.closeEvent, State.countOpen]
  refine trans ?_ (postEvent _ _)
  refine trans ?_ (setN _ _ _)
  exact withFc s _

theorem takeReport (s : State) (reporter u : UnitCode) (cls : FaultClass) (detail : Nat) (ports : List Nat) (reaction : Nat) :
    KeepsAbandoned s (s.takeReport reporter u cls detail ports reaction).1 := by
  simp only [State.takeReport]
  split
  · exact bump s _
  · split
    · exact mergeInto s _ _ _
    · split
      · split
        · exact refl s
        · exact (mergeInto s _ _ _).trans (bump _ _)
      · exact (each s _ _ fun t e => closeEvent t _ _).trans (openEvent _ _)

theorem markPermanent (s : State) (u : UnitCode) : KeepsAbandoned s (s.markPermanent u) := by
  have fenced : KeepsAbandoned s (s.markFenced u) := by
    simp only [State.markFenced]
    split
    · exact refl s
    · exact withFc s _
  simp only [State.markPermanent]
  split
  · exact fenced
  · exact fenced.trans ((withFc _ _).trans (add _ _ _))

theorem setPortRt (s : State) (n : Nat) (r : PortRt) : KeepsAbandoned s (s.setPortRt n r) := of_eq rfl rfl rfl

theorem enterSafe (s : State) (n cause : Nat) (blank : Bool) : KeepsAbandoned s (s.enterSafe n cause blank) := by
  simp only [State.enterSafe]
  split
  · refine trans ?_ (setPortRt _ _ _)
    exact (of_keeps (Keeps.setPortState s n 5)).trans ((setN _ _ _).trans ((setN _ _ _).trans (bump _ _)))
  · split
    · exact setPortRt s _ _
    · exact refl s

/-- A report on a unit that its class does not fence. -/
theorem actOn (s : State) (reporter : UnitCode) {u : UnitCode} {cls : FaultClass} (unfenced : fences u cls = false) (detail : Nat)
    (ports : List Nat) : KeepsAbandoned s (s.actOn reporter u cls detail ports) := by
  simp only [State.actOn, unfenced, Bool.false_and, Bool.false_eq_true, if_false]
  refine trans ?_ (settleAll _ _)
  refine trans (takeReport s reporter u cls detail (s.portsEntering u cls ports) (s.reactionTo u cls)) ?_
  generalize s.takeReport reporter u cls detail (s.portsEntering u cls ports) (s.reactionTo u cls) = taken
  have marked : KeepsAbandoned taken.1 (if (taken.2 = .overflowed && taken.1.fenced u) = true then taken.1.markPermanent u else taken.1) := by
    split
    · exact markPermanent _ _
    · exact refl _
  split
  · exact marked
  · exact marked.trans (each _ _ _ fun t n => enterSafe t _ _ _)

/-! The anchor ports (R370, R372). -/

theorem showSchedule (s : State) (p : Nat) (admitted : Bool) : KeepsAbandoned s (s.showSchedule p admitted) := by
  simp only [State.showSchedule]
  exact (setN s _ _).trans ((setN _ _ _).trans (setN _ _ _))

theorem setSchedule (s : State) (p state error : Nat) : KeepsAbandoned s (s.setSchedule p state error) :=
  (setN s _ _).trans (setN _ _ _)

theorem setPartRt (s : State) (p : Nat) (r : PartRt) : KeepsAbandoned s (s.setPartRt p r) := of_eq rfl rfl rfl

theorem recheckSchedule (s : State) (p : Nat) : KeepsAbandoned s (s.recheckSchedule p) := by
  simp only [State.recheckSchedule, State.closeWindows]
  split
  · exact showSchedule s _ _
  · refine trans (setPartRt s p { s.partRt p with inUse := none, applyNext := false, windows := [] }) ?_
    split
    · exact (setPartRt _ _ _).trans ((setSchedule _ _ _ _).trans (showSchedule _ _ _))
    · split
      · exact (setPartRt _ _ _).trans ((setB _ _ _).trans ((setSchedule _ _ _ _).trans (showSchedule _ _ _)))
      · exact (setSchedule _ _ _ _).trans (showSchedule _ _ _)

theorem anchorSweep (s : State) : KeepsAbandoned s s.anchorSweep := by
  refine each s userPartitions _ fun t p => ?_
  split
  · exact refl t
  · split
    · exact refl t
    · exact (setN t _ _).trans (recheckSchedule _ _)

end KeepsAbandoned

/-! An uncorrectable error in LPDDR6 (R413), step by step. -/

/-- What has read an unreadable block, abandoned (R120, R150, R354). -/
def State.abandonHit (s : State) (hit : DataHit) : State :=
  ((s.abandonReaders hit.engines).each hit.slots fun t (k : Fin 128) => t.abandonLap k).each hit.weights fun t e => t.weightsLost e.1 e.2

/-- A block noted as unreadable, and its row for repair (R381, R382, R413). -/
def State.markBlock (s : State) (block : Nat) (integrity : Bool) : State :=
  let t := if integrity then s.bump Entry.secIntegrityErrors else s
  let bad := t.security.badBlocks
  ({ t with security := { t.security with badBlocks := if bad.contains block then bad else bad ++ [block] } } : State).recordRow block

/-- The errors of a channel in the last second, with one now (R413). -/
def State.channelTimes (s : State) (channel : Nat) : List Nat :=
  lastSecond ((s.fc.channelErrors.filter fun e => e.1 = channel).map (·.2)) s.fc.ms

/-- An error noted at its channel. -/
def State.noteError (s : State) (channel : Nat) : State :=
  { s with fc := { s.fc with
      channelErrors := (s.fc.channelErrors.filter fun e => e.1 ≠ channel) ++ (s.channelTimes channel).map fun m => (channel, m) } }

theorem State.memoryError_eq (s : State) (reporter channel : UnitCode) (block : Nat) (integrity : Bool) (ports : List Nat) (hit : DataHit) :
    s.memoryError reporter channel block integrity ports hit =
      (let t := ((s.bump Entry.faultMemoryUncorrectable).abandonHit hit).markBlock block integrity
       let u := (t.noteError channel.inst).actOn reporter channel (if ports.isEmpty then .uncorrectable else .presentation) block ports
       if 256 < (t.channelTimes channel.inst).length then u.enterHold 6 else u) := rfl

/-- A unit of LPDDR6 is not fenced (R410). -/
theorem fences_lpddr {u : UnitCode} (kind : u.kind = .lpddr) (cls : FaultClass) : fences u cls = false := by
  simp only [fences, kind]

theorem KeepsAbandoned.recordRow (s : State) (block : Nat) : KeepsAbandoned s (s.recordRow block) := by
  simp only [State.recordRow]
  split
  · exact .of_eq rfl rfl rfl
  · refine .trans ?_ (.bump _ _)
    exact .of_eq rfl rfl rfl

theorem State.abandonLap_over (s : State) (k : Nat) : (s.abandonLap k).lapOver k := fun l h => by
  rw [State.slotRt_abandonLap, if_pos rfl] at h
  exact SlotRt.abandoned_of_stopped h

theorem State.abandonOn_free (s : State) (g : Nat) : Assoc.find (s.abandonOn g).vision.stereo g = none := by
  simp only [State.abandonOn]
  split
  · assumption
  · exact (KeepsAbandoned.abandonPairFrame _ _).engines g (by simp [Assoc.find_drop])

/-- The stereo engines that a report names have no frame (R120). -/
theorem State.abandonReaders_free (s : State) (l : List UnitCode) :
    ∀ u ∈ l, u.kind = .stereo → Assoc.find (s.abandonReaders l).vision.stereo u.inst = none := by
  unfold State.abandonReaders
  refine State.each_mem (P := fun u t => u.kind = .stereo → Assoc.find t.vision.stereo u.inst = none) ?_ ?_ l s
  · intro t u kind
    simp only [kind]
    exact (KeepsAbandoned.setN _ _ _).engines _ (t.abandonOn_free u.inst)
  · intro t u v h kind
    exact (KeepsAbandoned.abandonReaders t [v]).engines _ (h kind)

/-- What has read the block is abandoned: the laps and the stereo frames that the report names. -/
theorem State.abandonHit_over (s : State) (hit : DataHit) :
    KeepsAbandoned s (s.abandonHit hit) ∧ (∀ k ∈ hit.slots, (s.abandonHit hit).lapOver k) ∧
      ∀ g ∈ hit.engines, g.kind = .stereo → Assoc.find (s.abandonHit hit).vision.stereo g.inst = none := by
  have laps : ∀ t : State, KeepsAbandoned t (t.each hit.slots fun t (k : Fin 128) => t.abandonLap k) := fun t =>
    .each _ _ _ fun _ _ => .abandonLap _ _
  have weights : ∀ t : State, KeepsAbandoned t (t.each hit.weights fun t e => t.weightsLost e.1 e.2) := fun t =>
    .each _ _ _ fun _ _ => .weightsLost _ _ _
  have stopped : ∀ t : State, ∀ k ∈ hit.slots, (t.each hit.slots fun t (k : Fin 128) => t.abandonLap k).lapOver k :=
    State.each_mem (P := fun (k : Fin 128) t => t.lapOver k) (fun t k => t.abandonLap_over k)
      (fun t k j h => (KeepsAbandoned.abandonLap t j).laps k h) hit.slots
  exact ⟨(KeepsAbandoned.abandonReaders s _).trans ((laps _).trans (weights _)), fun k hk => (weights _).laps k (stopped _ k hk),
    fun g hg kind => ((laps _).trans (weights _)).engines g.inst (s.abandonReaders_free _ g hg kind)⟩

/-- A block marked unreadable resumes nothing, and joins those that were unreadable. -/
theorem State.markBlock_over (s : State) (block : Nat) (integrity : Bool) :
    (∀ k, s.lapOver k → (s.markBlock block integrity).lapOver k) ∧
      (∀ g, Assoc.find s.vision.stereo g = none → Assoc.find (s.markBlock block integrity).vision.stereo g = none) ∧
      ∀ b, b ∈ (s.markBlock block integrity).security.badBlocks ↔ b ∈ s.security.badBlocks ∨ b = block := by
  have counted : KeepsAbandoned s (if integrity then s.bump Entry.secIntegrityErrors else s) := by
    split
    · exact .bump _ _
    · exact .refl s
  simp only [State.markBlock]
  generalize (if integrity = true then s.bump Entry.secIntegrityErrors else s) = t at counted
  have row : ∀ l, KeepsAbandoned { t with security := { t.security with badBlocks := l } }
      (({ t with security := { t.security with badBlocks := l } } : State).recordRow block) := fun l => .recordRow _ _
  refine ⟨fun k h => (row _).laps k (counted.laps k h), fun g h => (row _).engines g (counted.engines g h), fun b => ?_⟩
  rw [(row _).blocks, counted.blocks]
  split
  · rename_i known
    simp only [List.contains_eq_mem, decide_eq_true_eq] at known
    exact ⟨.inl, fun h => h.elim id fun e => e ▸ known⟩
  · simp

/-- What an error in LPDDR6 leaves: the laps and frames that have read the block abandoned, and the block unreadable (R120, R276, R381). -/
theorem faultReport_memory_over {s : State} {r : FaultReport} {u : UnitCode} {ms : Nat} {integrity : Bool} {hit : DataHit}
    {freed : Option (Fin 262144)} (subject : u = if r.cls = .wiring then r.reporter else r.suspect) (unit : s.hasUnit u = true)
    (cls : r.cls ≠ .correctable) (kind : u.kind = .lpddr) (active : s.running = true ∨ s.held = true) :
    ∃ t, exec (.faultReport r ms integrity hit freed) s = .next t ∧
      (∀ k ∈ hit.slots, ∀ l, (t.slotRt k).lap = some l → l.abandoned = true) ∧
      (∀ g ∈ hit.engines, g.kind = .stereo → Assoc.find t.vision.stereo g.inst = none) ∧
      ∀ b, b ∈ t.security.badBlocks ↔ b ∈ s.security.badBlocks ∨ b = r.detail.toNat := by
  have report := State.fcReport_memory (integrity := integrity) (ports := bitsSet hit.ports.toNat 16)
    (freed := freed.map fun (i : Fin 262144) => i.val) (hit := hit) (ms := ms) subject unit active cls kind
  rw [State.memoryError_eq] at report
  have counted := KeepsAbandoned.bump (s.atCount ms) Entry.faultMemoryUncorrectable
  obtain ⟨kept, laps, engines⟩ := State.abandonHit_over ((s.atCount ms).bump Entry.faultMemoryUncorrectable) hit
  generalize ((s.atCount ms).bump Entry.faultMemoryUncorrectable).abandonHit hit = v at report kept laps engines
  obtain ⟨lapsOver, enginesFree, blocks⟩ := State.markBlock_over v r.detail.toNat integrity
  generalize v.markBlock r.detail.toNat integrity = w at report lapsOver enginesFree blocks
  have after : KeepsAbandoned w (s.seal (s.fcReport r ms integrity (bitsSet hit.ports.toNat 16)
      (freed.map fun (i : Fin 262144) => i.val) hit).anchorSweep) := by
    have acted : KeepsAbandoned w (s.fcReport r ms integrity (bitsSet hit.ports.toNat 16)
        (freed.map fun (i : Fin 262144) => i.val) hit) := by
      rw [report]
      have reported := (KeepsAbandoned.withFc w _ : KeepsAbandoned w (w.noteError u.inst)).trans
        (KeepsAbandoned.actOn _ r.reporter (fences_lpddr kind (if (bitsSet hit.ports.toNat 16).isEmpty then .uncorrectable else .presentation))
          r.detail.toNat (bitsSet hit.ports.toNat 16))
      dsimp only
      split
      · exact reported.trans (.enterHold _ _)
      · exact reported
    exact (acted.trans (.anchorSweep _)).trans (.of_keeps (Keeps.seal s _ []))
  exact ⟨_, rfl, fun k hk => after.laps k (lapsOver k (laps k hk)), fun g hg kind => after.engines _ (enginesFree _ (engines g hg kind)),
    fun b => by rw [after.blocks, blocks, kept.blocks, counted.blocks]; rfl⟩

/-! The event that an error in LPDDR6 opens (R413, R414), where nothing has read the block. -/

theorem EntriesKept.trans {s t u : State} {keys more : List Nat} (h : EntriesKept s t keys) (g : EntriesKept t u more) :
    EntriesKept s u (keys ++ more) := fun k hk hl => by
  rw [List.mem_append, not_or] at hk
  exact (g k hk.2 hl).trans (h k hk.1 hl)

theorem Keeps.entries {s t : State} {keys : List Nat} (h : Keeps s t keys) : EntriesKept s t keys := h.1

/-- The security unit's record, the free values and the flash replaced on both sides. -/
theorem Keeps.withStores {s t : State} {keys : List Nat} (h : Keeps s t keys) (x : Security) (n : Nat) (y : Flash) :
    Keeps { s with security := x, free := n, flash := y } { t with security := x, free := n, flash := y } keys :=
  h.update (fun u => { u with security := x, free := n, flash := y }) (fun _ _ => rfl) (fun _ => rfl) (fun _ => rfl) (fun _ => rfl)
    fun _ => rfl

/-- The row recorded is of the block's channel (R413, R443). -/
theorem State.recordRow_eq (s : State) (block : Nat) :
    ∃ row : MemRow, row.channel = block % s.channelCount ∧ s.recordRow block =
      if 4096 ≤ s.flash.repairs.length then { s with free := s.free + 1 }
      else ({ s with free := s.free + 1, flash := { s.flash with repairs := s.flash.repairs ++ [row] } } : State).bump
        Entry.bootRepairListEntries := by
  refine ⟨_, ?_, rfl⟩
  rfl

/-- A row is recorded while the list has room. -/
theorem Keeps.recordRow (s : State) (block : Nat) :
    ∃ (row : MemRow) (y : Flash), row.channel = block % s.channelCount ∧
      y.repairs = (if s.flash.repairs.length < 4096 then s.flash.repairs ++ [row] else s.flash.repairs) ∧
      Keeps { s with free := s.free + 1, flash := y } (s.recordRow block) [Entry.bootRepairListEntries] := by
  obtain ⟨row, channelOf, recorded⟩ := s.recordRow_eq block
  rw [recorded]
  by_cases full : 4096 ≤ s.flash.repairs.length
  · rw [if_pos full]
    exact ⟨row, s.flash, channelOf, (if_neg (by omega)).symm, Keeps.refl _ _⟩
  · rw [if_neg full]
    exact ⟨row, { s.flash with repairs := s.flash.repairs ++ [row] }, channelOf, (if_pos (by omega)).symm, Keeps.bump _ _ (by simp)⟩

/-- The entries that the loss of a block counts in (R413, R443). -/
def lossKeys : List Nat := [Entry.faultMemoryUncorrectable, Entry.secIntegrityErrors, Entry.bootRepairListEntries]

/-- A block is lost (R413): the loss is counted and its row recorded; of the rest only the entries that `keys` lists, the laps and the
fault collector's record may change, and nothing is fenced. -/
structure LosesBlock (s t : State) (keys : List Nat) (block ms : Nat) (integrity : Bool) : Prop where
  part : t.part = s.part
  ports : t.ports = s.ports
  memory : MemoryKept s t
  entries : EntriesKept s t keys
  ms : t.fc.ms = ms
  fenced : t.fc.fenced = s.fc.fenced
  counted : t.n Entry.faultMemoryUncorrectable = (s.n Entry.faultMemoryUncorrectable + 1) % 2 ^ 32
  tag : t.n Entry.secIntegrityErrors =
    (if integrity then (s.n Entry.secIntegrityErrors + 1) % 2 ^ 32 else s.n Entry.secIntegrityErrors)
  row : ∃ row : MemRow, row.channel = block % s.channelCount ∧
    t.flash.repairs = (if s.flash.repairs.length < 4096 then s.flash.repairs ++ [row] else s.flash.repairs)

/-- A loss stays as it was counted through changes of other entries, of the laps and of the log. -/
theorem LosesBlock.after {s w t : State} {keys more : List Nat} {block ms : Nat} {integrity : Bool} (lost : LosesBlock s w keys block ms integrity)
    {f : Fc} {x : Herds} (h : Keeps { w with fc := f, herds := x } t more) (count : f.ms = w.fc.ms) (fenced : f.fenced = w.fc.fenced)
    (apart : Entry.faultMemoryUncorrectable ∉ more ∧ Entry.secIntegrityErrors ∉ more) : LosesBlock s t (keys ++ more) block ms integrity where
  part := h.part.trans lost.part
  ports := h.ports.trans lost.ports
  memory := fun a => (h.mem a).trans (lost.memory a)
  entries := lost.entries.trans h.entries
  ms := (congrArg Fc.ms h.fc).trans (count.trans lost.ms)
  fenced := (congrArg Fc.fenced h.fc).trans (fenced.trans lost.fenced)
  counted := (h.n apart.1 (by decide)).trans lost.counted
  tag := (h.n apart.2 (by decide)).trans lost.tag
  row := by
    obtain ⟨row, channelOf, repairs⟩ := lost.row
    exact ⟨row, channelOf, (congrArg Flash.repairs h.flash).trans repairs⟩

/-- The integrity errors counted (R382, R413). -/
theorem Keeps.countIntegrity (s : State) (integrity : Bool) :
    Keeps s (if integrity then s.bump Entry.secIntegrityErrors else s) [Entry.secIntegrityErrors] := by
  split
  · exact Keeps.bump s _ (by simp)
  · exact Keeps.refl s _

theorem State.n_countIntegrity (s : State) (integrity : Bool) :
    (if integrity then s.bump Entry.secIntegrityErrors else s).n Entry.secIntegrityErrors =
      if integrity then (s.n Entry.secIntegrityErrors + 1) % 2 ^ 32 else s.n Entry.secIntegrityErrors := by
  split
  · exact State.n_bump s _ 32 (by decide) (widthOf_parts (by decide +kernel))
  · rfl

theorem State.fc_markBlock (s : State) (block : Nat) (integrity : Bool) : (s.markBlock block integrity).fc = s.fc := by
  unfold State.markBlock
  obtain ⟨_, _, _, _, kept⟩ := Keeps.recordRow
    { (if integrity then s.bump Entry.secIntegrityErrors else s) with security := _ } block
  exact kept.fc.trans (Keeps.countIntegrity s integrity).fc

/-- The loss of a block before it is reported. -/
theorem State.losesBlock (s : State) (channel block ms : Nat) (integrity : Bool) :
    let w := (((s.atCount ms).bump Entry.faultMemoryUncorrectable).markBlock block integrity).noteError channel
    LosesBlock s w lossKeys block ms integrity ∧ w.herds = s.herds ∧ ∃ l, w.fc = { s.fc with ms := ms, channelErrors := l } := by
  have counted := Keeps.bump (s.atCount ms) Entry.faultMemoryUncorrectable (List.mem_singleton_self _)
  have number : ((s.atCount ms).bump Entry.faultMemoryUncorrectable).n Entry.faultMemoryUncorrectable =
      (s.n Entry.faultMemoryUncorrectable + 1) % 2 ^ 32 := State.n_bump _ _ 32 (by decide) (widthOf_parts (by decide +kernel))
  generalize (s.atCount ms).bump Entry.faultMemoryUncorrectable = a at counted number
  have tags := Keeps.countIntegrity a integrity
  have tag := State.n_countIntegrity a integrity
  unfold State.markBlock
  generalize (if integrity = true then a.bump Entry.secIntegrityErrors else a) = b at tags tag
  have both := (counted.mono (more := lossKeys) (by simp [lossKeys])).trans (tags.mono (more := lossKeys) (by simp [lossKeys]))
  dsimp only
  generalize ({ b.security with badBlocks := _ } : Security) = x
  obtain ⟨row, y, channelOf, repairs, kept⟩ := Keeps.recordRow { b with security := x } block
  have all := (both.withStores x (b.free + 1) y).trans (kept.mono (more := lossKeys) (by simp [lossKeys]))
  have part : b.part = s.part := both.part
  have channels : b.channelCount = s.channelCount := by simp only [State.channelCount, part]
  have recorded : ∀ k, k ≠ Entry.bootRepairListEntries → k ≠ Entry.canEventsLost →
      ((({ b with security := x } : State).recordRow block).noteError channel).n k = b.n k := fun k hk hl =>
    (State.n_congr (State.raw_withFc _ _ _)).trans (kept.n (by simpa using hk) hl)
  have flash : (({ b with security := x } : State).recordRow block).flash = y := kept.flash
  obtain ⟨l, noted⟩ : ∃ l, ((({ b with security := x } : State).recordRow block).noteError channel).fc =
      { s.fc with ms := ms, channelErrors := l } := ⟨_, by rw [State.noteError, all.fc]; rfl⟩
  refine ⟨⟨all.part, all.ports, all.mem, all.entries, by rw [noted], by rw [noted], ?_, ?_, row, ?_, ?_⟩, all.herds, l, noted⟩
  · exact (recorded _ (by decide) (by decide)).trans ((tags.n (by decide) (by decide)).trans number)
  · refine (recorded _ (by decide) (by decide)).trans (tag.trans ?_)
    rw [counted.n (by decide) (by decide)]
    rfl
  · exact channelOf.trans (congrArg (block % ·) channels)
  · refine Eq.trans (congrArg Flash.repairs flash) (repairs.trans ?_)
    rw [show ({ b with security := x } : State).flash = s.flash from both.flash]

/-- The reaction that a record shows for a report on a unit that is not fenced (R417). -/
theorem State.reactionTo_unfenced (s : State) {u : UnitCode} {cls : FaultClass} (unfenced : fences u cls = false)
    (plain : cls ≠ .presentation) : s.reactionTo u cls = 0 := by
  simp [State.reactionTo, unfenced, plain]

theorem State.eventOfReporter_congr {s t : State} {reporter u : UnitCode} (log : t.fc.log = s.fc.log) (fenced : t.fc.fenced = s.fc.fenced) :
    t.eventOfReporter reporter u = s.eventOfReporter reporter u := by
  simp only [State.eventOfReporter, State.openEvents, State.fenced, log, fenced]

/-- An event opened after changes elsewhere, and before changes elsewhere, is opened all the same. -/
theorem State.opensEvent_congr {s s' t t' : State} {e : FaultEvent} (log : s'.fc.log = s.fc.log)
    (total : s'.n Entry.faultEventsTotal = s.n Entry.faultEventsTotal) (fc : t'.fc = t.fc)
    (entries : ∀ k ∈ [Entry.faultEventsTotal, Entry.faultOpenEvents, Entry.faultLastEventUnit], t'.n k = t.n k) (h : s'.opensEvent t e) :
    s.opensEvent t' e := by
  obtain ⟨logged, numbered, counted, named⟩ := h
  refine ⟨?_, ?_, ?_, ?_⟩
  · rw [fc, ← log, ← total]
    exact logged
  · rw [entries _ (by simp), ← total]
    exact numbered
  · rw [entries _ (by simp), State.openEvents_congr (congrArg Fc.log fc)]
    exact counted
  · rw [entries _ (by simp)]
    exact named

theorem State.degrades_congr {s s' t : State} {cause : Nat} (device : s'.device = s.device) (h : s'.degrades t cause) : s.degrades t cause := by
  unfold State.degrades State.running at h ⊢
  rwa [device] at h

/-- FAULT_HOLD entered from a state with the same ports and herds. -/
theorem State.entersHold_congr {s s' t : State} {cause : Nat} (part : s'.part = s.part)
    (ports : ∀ n, n < 16 → s'.portState n = s.portState n) (herds : s'.herds = s.herds) (h : s'.entersHold t cause) : s.entersHold t cause := by
  have count : s'.portCount = s.portCount := by simp only [State.portCount, part]
  have few : s.portCount ≤ 16 := by
    unfold State.portCount
    split <;> decide
  obtain ⟨device, because, held, laps⟩ := h
  refine ⟨device, because, fun n hn => ?_, fun k => ?_⟩
  · rw [← ports n (by omega)]
    exact held n (count ▸ hn)
  · rw [← State.slotRt_congr herds k]
    exact laps k

/-- A report that opens an event on a unit, other than a kid or a herd, which its class does not fence (R410, R414, R32). -/
theorem State.actOn_opens {s : State} {u reporter : UnitCode} {cls : FaultClass} (unfenced : fences u cls = false)
    (permanent : s.isPermanent u = false) (event : s.eventFor u = none) (other : s.eventOfReporter reporter u = none)
    (room : s.openEvents.length < 256) (enough : s.herdMinimum ≤ s.workingHerds.length) (plain : cls ≠ .presentation)
    (herd : u.kind ≠ .herd) (kid : u.kind ≠ .kid) (detail : Nat) :
    let g := s.actOn reporter u cls detail []
    s.opensEvent g { unit := u, cls := cls, reaction := 0, reporter := reporter, detail := detail } ∧ s.degrades g (causeOf u) ∧
      Keeps { s with fc := g.fc } g eventKeys ∧ g.fc = { s.fc with log := g.fc.log } := by
  have acted := State.actOn_unfenced unfenced permanent event other room herd detail
  rw [s.reactionTo_unfenced unfenced plain] at acted
  have opened := State.openEvent_opens s { unit := u, cls := cls, reaction := 0, reporter := reporter, detail := detail }
  have kept := Keeps.openEvent s { unit := u, cls := cls, reaction := 0, reporter := reporter, detail := detail }
  have logged := State.openEvent_logs s { unit := u, cls := cls, reaction := 0, reporter := reporter, detail := detail }
  have fc : (s.openEvent { unit := u, cls := cls, reaction := 0, reporter := reporter, detail := detail }).fc =
      { s.fc with log := (s.openEvent { unit := u, cls := cls, reaction := 0, reporter := reporter, detail := detail }).fc.log } := by
    rw [(Keeps.record_openEvent s _).fc, State.record_fc]
  generalize s.openEvent { unit := u, cls := cls, reaction := 0, reporter := reporter, detail := detail } = o at *
  have part : o.part = s.part := kept.part
  have still : o.herdMinimum ≤ o.workingHerds.length := by
    rw [State.herdMinimum_congr part, State.workingHerds_congr part (by rw [fc])]
    exact enough
  have settled := Keeps.settle o (causeOf u)
  intro g
  have result : g = o.settle (causeOf u) := acted.trans (State.settleAll_eq_settle still _)
  rw [result, settled.fc]
  refine ⟨State.opensEvent_congr rfl rfl settled.fc (fun k hk => settled.n ?_ ?_) opened,
    State.degrades_congr (kept.n (by decide) (by decide)) (State.settle_degrades (State.degraded_of_event logged rfl kid) _),
    (kept.mono (by simp [eventKeys])).trans (settled.mono (by simp [eventKeys])), fc⟩
  · revert k
    decide
  · revert k
    decide

/-- An entry to FAULT_HOLD with another cause than 4 changes at most the entries of R33 and the laps. -/
theorem Keeps.enterHold_any (s : State) {cause : Nat} (other : cause ≠ 4) :
    ∃ x, Keeps { s with herds := x } (s.enterHold cause) s.holdKeys := by
  by_cases off : s.isOff = true
  · exact ⟨s.herds, by simpa [State.enterHold, off] using Keeps.refl s _⟩
  · by_cases held : s.held = true
    · exact ⟨s.herds, by simpa [State.enterHold, off, held, other] using Keeps.refl s _⟩
    · exact ⟨_, Keeps.enterHold (by simpa using off) (by simpa using held) cause⟩

/-- An error in LPDDR6 that nothing has read, as it is reported: the loss, an event, and a device DEGRADED or in FAULT_HOLD (R413, R414). -/
theorem State.fcReport_lost {s : State} {r : FaultReport} {u : UnitCode} {ms : Nat} {integrity : Bool} {freed : Option Nat}
    (subject : u = if r.cls = .wiring then r.reporter else r.suspect) (cls : r.cls ≠ .correctable) (kind : u.kind = .lpddr)
    (takes : s.takesFault r.reporter u) :
    ∃ g, LosesBlock s g (lossKeys ++ eventKeys) r.detail.toNat ms integrity ∧ g.herds = s.herds ∧
      s.opensEvent g { unit := u, cls := .uncorrectable, reaction := 0, reporter := r.reporter, detail := r.detail.toNat } ∧
      s.degrades g 6 ∧
      s.fcReport r ms integrity [] freed {} =
        if 256 ≤ (((s.fc.channelErrors.filter fun e => e.1 = u.inst).map (·.2)).filter fun m => ms < m + 1000).length then g.enterHold 6
        else g := by
  obtain ⟨unit, fenced, permanent, event, other, room, enough, anchored, active⟩ := takes
  have report := State.fcReport_memory (integrity := integrity) (ports := []) (freed := freed) (hit := {}) (ms := ms) subject unit active
    cls kind
  have nothing : ∀ v : State, v.abandonHit {} = v := fun _ => rfl
  rw [State.memoryError_eq, nothing] at report
  obtain ⟨lost, herds, l, noted⟩ := State.losesBlock s u.inst r.detail.toNat ms integrity
  have times : ((((s.atCount ms).bump Entry.faultMemoryUncorrectable).markBlock r.detail.toNat integrity).channelTimes u.inst).length =
      (((s.fc.channelErrors.filter fun e => e.1 = u.inst).map (·.2)).filter fun m => ms < m + 1000).length + 1 := by
    rw [State.channelTimes, State.fc_markBlock, (Keeps.bump _ _ (List.mem_singleton_self _)).fc, lastSecond, List.length_append]
    rfl
  simp only [times, List.isEmpty_nil, if_true] at report
  generalize (((s.atCount ms).bump Entry.faultMemoryUncorrectable).markBlock r.detail.toNat integrity) = v at report lost herds noted
  generalize v.noteError u.inst = w at report lost herds noted
  have log : w.fc.log = s.fc.log := by rw [noted]
  have permanents : w.fc.permanent = s.fc.permanent := by rw [noted]
  obtain ⟨opened, degraded, kept, fc⟩ := State.actOn_opens (s := w) (u := u) (reporter := r.reporter) (cls := .uncorrectable)
    (fences_lpddr kind _) ((State.isPermanent_congr permanents).trans permanent) ((State.eventFor_congr log).trans event)
    ((State.eventOfReporter_congr log lost.fenced).trans other) (by rwa [State.openEvents_congr log])
    (by rwa [State.herdMinimum_congr lost.part, State.workingHerds_congr lost.part lost.fenced]) (by decide) (by simp [kind])
    (by simp [kind]) r.detail.toNat
  have unchanged : ∀ k ∈ [Entry.faultEventsTotal, Entry.devDeviceState], w.n k = s.n k := fun k hk =>
    State.n_congr (lost.entries k (by revert k; decide) (by revert k; decide))
  refine ⟨w.actOn r.reporter u .uncorrectable r.detail.toNat [], lost.after kept ?_ ?_ (by decide), ?_, ?_, ?_, ?_⟩
  · rw [fc]
  · rw [fc]
  · exact kept.herds.trans herds
  · exact State.opensEvent_congr log (unchanged _ (by simp)) rfl (fun _ _ => rfl) opened
  · rw [causeOf, kind] at degraded
    exact State.degrades_congr (unchanged _ (by simp)) degraded
  · rw [report]
    simp only [Nat.lt_add_one_iff]

/-- No anchor port's entry is among those that a loss, an event and FAULT_HOLD change. -/
theorem partAnchorPort_not_mem (s : State) {p : Nat} (h : p ≤ 8) : Entry.partAnchorPort p ∉ lossKeys ++ eventKeys ++ s.holdKeys := by
  have outside : ∀ k ∈ lossKeys ++ eventKeys, k < 0x5000 * 256 ∨ 0x5009 * 256 ≤ k := by decide
  have place : Entry.partAnchorPort p = (0x5000 + p) * 256 + 0x0E := rfl
  rw [List.mem_append, not_or]
  refine ⟨fun hk => ?_, s.not_mem_holdKeys (key_ne_of_sub (by decide)) (key_ne_of_sub (by decide)) (key_ne_of_sub (by decide)) ?_⟩
  · have := outside _ hk
    omega
  · omega

/-- No port's State is among those that a loss and an event change. -/
theorem portState_not_mem {n : Nat} (h : n < 16) : Entry.portState n ∉ lossKeys ++ eventKeys := fun hk => by
  have outside : ∀ k ∈ lossKeys ++ eventKeys, k < 0x3400 * 256 ∨ 0x3410 * 256 ≤ k := by decide
  have := outside _ hk
  have place : Entry.portState n = (0x3400 + n) * 256 + 0x02 := rfl
  omega

/-- What an error in LPDDR6 that nothing has read leads to (R413, R414, R32). -/
theorem faultReport_memory_opens {s : State} {r : FaultReport} {u : UnitCode} {ms : Nat} {integrity : Bool}
    {freed : Option (Fin 262144)} (subject : u = if r.cls = .wiring then r.reporter else r.suspect)
    (cls : r.cls ≠ .correctable) (kind : u.kind = .lpddr) (takes : s.takesFault r.reporter u) :
    ∃ (t : State) (row : MemRow), exec (.faultReport r ms integrity {} freed) s = .next t ∧ t.fc.ms = ms ∧
        s.opensEvent t { unit := u, cls := .uncorrectable, reaction := 0, reporter := r.reporter, detail := r.detail.toNat } ∧
        t.n Entry.faultMemoryUncorrectable = (s.n Entry.faultMemoryUncorrectable + 1) % 2 ^ 32 ∧
        t.n Entry.secIntegrityErrors =
          (if integrity then (s.n Entry.secIntegrityErrors + 1) % 2 ^ 32 else s.n Entry.secIntegrityErrors) ∧
        row.channel = r.detail.toNat % s.channelCount ∧
        t.flash.repairs = (if s.flash.repairs.length < 4096 then s.flash.repairs ++ [row] else s.flash.repairs) ∧
        (∀ v, t.fenced v = s.fenced v) ∧ MemoryKept s t ∧
        (let recent := ((s.fc.channelErrors.filter fun e => e.1 = u.inst).map (·.2)).filter fun m => ms < m + 1000
         (recent.length < 256 → s.degrades t 6 ∧ EntriesKept s t (eventKeys ++
            [Entry.faultMemoryUncorrectable, Entry.secIntegrityErrors, Entry.bootRepairListEntries])) ∧
         (256 ≤ recent.length → s.running = true → s.entersHold t 6)) := by
  obtain ⟨g, lost, herds, opened, degraded, report⟩ := State.fcReport_lost (ms := ms) (integrity := integrity)
    (freed := freed.map fun (i : Fin 262144) => i.val) subject cls kind takes
  obtain ⟨-, -, -, -, -, -, -, anchored, -⟩ := takes
  have noPorts : bitsSet (({} : DataHit).ports.toNat) 16 = [] := by decide
  rw [← noPorts] at report
  generalize (((s.fc.channelErrors.filter fun e => e.1 = u.inst).map (·.2)).filter fun m => ms < m + 1000) = recent at report ⊢
  -- At most the entries and laps of FAULT_HOLD change once the event is open.
  obtain ⟨t, result⟩ : ∃ t, t = if 256 ≤ recent.length then g.enterHold 6 else g := ⟨_, rfl⟩
  obtain ⟨x, held⟩ : ∃ x, Keeps { g with herds := x } t g.holdKeys := by
    rw [result]
    split
    · exact Keeps.enterHold_any g (by decide)
    · exact ⟨g.herds, Keeps.refl g _⟩
  have all := lost.after (f := g.fc) held rfl rfl ⟨g.not_mem_holdKeys (by decide) (by decide) (by decide) (by decide),
    g.not_mem_holdKeys (by decide) (by decide) (by decide) (by decide)⟩
  have anchoredAfter : t.anchored := State.anchored_congr anchored all.ports fun p hp =>
    all.entries _ (partAnchorPort_not_mem g hp) (key_ne_of_sub (by decide))
  obtain ⟨row, channelOf, repairs⟩ := all.row
  have shown : s.opensEvent t { unit := u, cls := .uncorrectable, reaction := 0, reporter := r.reporter, detail := r.detail.toNat } :=
    State.opensEvent_congr rfl rfl held.fc (fun k hk => held.n (g.not_mem_holdKeys (by revert k; decide) (by revert k; decide)
      (by revert k; decide) (by revert k; decide)) (by revert k; decide)) opened
  refine ⟨s.seal t, row, exec_faultReport (report.trans result.symm) anchoredAfter, all.ms, shown, all.counted, all.tag, channelOf,
    repairs, fun v => State.fenced_congr all.fenced, all.memory, fun few => ?_, fun many running => ?_⟩
  · rw [if_neg (by omega)] at result
    subst result
    exact ⟨degraded, fun k hk => lost.entries k fun h => hk (List.mem_append.2 (List.mem_append.1 h).symm)⟩
  · rw [if_pos many] at result
    subst result
    have device : g.device = 5 := degraded.1.trans (if_pos running)
    have on : g.isOff = false := by simp [State.isOff, device]
    have free : g.held = false := by simp [State.held, device]
    exact State.entersHold_congr lost.part (fun n hn => State.n_congr (lost.entries _ (portState_not_mem hn) (key_ne_of_sub (by decide))))
      herds (State.enterHold_enters on free 6)

/-- Settles O57: one lemma for each kind of report; the merged record of an open event is `FaultEvent.withReport`. -/
theorem faultsWithoutFence : Obligations.FaultsWithoutFence := by
  intro s r ms integrity hit freed u subject unit anchored
  refine ⟨fun cls active => ?_, fun fenceable uncorrectable plain kid router fenced device enough known => ?_, fun cls booting =>
    faultReport_booting subject unit anchored cls booting, fun cls kind takes => ?_, fun cls kind takes nothing => ?_⟩
  · by_cases few : u.kind ≠ .anchorStore ∧ (u.kind = .lpddr ∨
        ((s.fc.correctable.filter fun e => e.1 = u).map (·.2) |>.filter fun m => ms < m + 1000).length < 1024)
    · obtain ⟨t, next, counted⟩ := faultReport_correctable (integrity := integrity) (hit := hit) (freed := freed) subject unit anchored cls
        active few.1 few.2
      exact ⟨t, next, fun _ _ => counted⟩
    · obtain ⟨t, next⟩ := exec_next (.faultReport r ms integrity hit freed) s
      exact ⟨t, next, fun kind count => absurd ⟨kind, count⟩ few⟩
  · have cls : r.cls = .uncorrectable ∨ r.cls = .wiring := by
      cases h : r.cls with
      | correctable => exact absurd h uncorrectable
      | uncorrectable => exact .inl rfl
      | presentation => exact absurd h plain
      | wiring => exact .inr rfl
    cases permanent : s.isPermanent u with
    | true =>
      obtain ⟨t, next, counted, kept⟩ := faultReport_onFenced (ms := ms) (integrity := integrity) (hit := hit) (freed := freed) subject unit
        anchored cls fenceable kid router fenced device enough (.inl ⟨permanent, rfl⟩)
      exact ⟨t, next, counted, fun _ => kept, fun _ notPermanent => nomatch notPermanent⟩
    | false =>
      obtain ⟨e, event⟩ := Option.isSome_iff_exists.1 (known.resolve_left (by simp [permanent]))
      obtain ⟨t, next, counted, kept⟩ := faultReport_onFenced (ms := ms) (integrity := integrity) (hit := hit) (freed := freed) subject unit
        anchored cls fenceable kid router fenced device enough (.inr ⟨e, permanent, event, rfl⟩)
      refine ⟨t, next, counted, (fun h => nomatch h), fun f _ same => ?_⟩
      obtain rfl : e = f := Option.some.inj (event.symm.trans same)
      exact kept
  · obtain ⟨-, -, -, -, -, -, -, -, active⟩ := takes
    exact faultReport_memory_over subject unit cls kind active
  · subst nothing
    exact faultReport_memory_opens subject cls kind takes

end Sys2Proof.Machine
end

section
/-! What leaves external memory as it is: every operation of the model that neither stores bytes nor records an arrival, a fence or a
completion there (R17). -/

namespace Sys2Proof.Machine

open Sys2Proof

@[simp] theorem State.mem_each {α : Type} {f : State → α → State} (h : ∀ t a, (f t a).mem = t.mem) (l : List α) (s : State) :
    (s.each l f).mem = s.mem := by
  induction l generalizing s with
  | nil => rfl
  | cons a r ih => exact (ih (f s a)).trans (h s a)

@[simp] theorem State.mem_foldl {α : Type} {f : State → α → State} (h : ∀ t a, (f t a).mem = t.mem) (l : List α) (s : State) :
    (l.foldl f s).mem = s.mem := State.mem_each h l s

/-- A pass that collects something beside the state. -/
theorem State.mem_foldl_snd {α β : Type} {f : β × State → α → β × State} (h : ∀ acc a, (f acc a).2.mem = acc.2.mem) (l : List α)
    (acc : β × State) : (l.foldl f acc).2.mem = acc.2.mem := by
  induction l generalizing acc with
  | nil => rfl
  | cons a r ih => exact (ih (f acc a)).trans (h acc a)

theorem State.mem_foldl_fst {α β : Type} {f : State × β → α → State × β} (h : ∀ acc a, (f acc a).1.mem = acc.1.mem) (l : List α)
    (acc : State × β) : (l.foldl f acc).1.mem = acc.1.mem := by
  induction l generalizing acc with
  | nil => rfl
  | cons a r ih => exact (ih (f acc a)).trans (h acc a)

@[simp] theorem State.mem_withSome {α : Type} {f : α → State} {s : State} (h : ∀ a, (f a).mem = s.mem) (o : Option α) :
    (s.withSome o f).mem = s.mem := by
  cases o with
  | none => rfl
  | some a => exact h a

@[simp] theorem State.mem_ite {c : Prop} [Decidable c] (s t : State) : (if c then s else t).mem = if c then s.mem else t.mem :=
  apply_ite State.mem c s t

@[simp] theorem State.ifOn_mem {s t : State} (h : t.mem = s.mem) : (s.ifOn t).mem = s.mem := by simp [State.ifOn, h]

@[simp] theorem State.ifRunning_mem {s t : State} (h : t.mem = s.mem) : (s.ifRunning t).mem = s.mem := by simp [State.ifRunning, h]

@[simp] theorem State.bootStep_mem {s : State} {f : State → State} (h : (f s).mem = s.mem) : (s.bootStep f).mem = s.mem := by
  simp [State.bootStep, h]


/-! Entries, interrupts, events and the units' records. -/

@[simp] theorem State.meter_mem (s : State) (k n : Nat) : (s.meter k n).mem = s.mem := rfl

@[simp] theorem State.fire_mem (s : State) (fn vector : Nat) : (s.fire fn vector).mem = s.mem := by simp [State.fire]

@[simp] theorem State.signal_mem (s : State) (fn vector : Nat) : (s.signal fn vector).mem = s.mem := by simp [State.signal]

@[simp] theorem State.signalChange_mem (s : State) (k : Nat) : (s.signalChange k).mem = s.mem := by simp [State.signalChange]

@[simp] theorem State.queueEvent_mem (s : State) (e : JEvent) : (s.queueEvent e).mem = s.mem := by simp [State.queueEvent]

@[simp] theorem State.postValue_mem (s : State) (k type : Nat) (value : Bytes) : (s.postValue k type value).mem = s.mem := by
  simp [State.postValue]

@[simp] theorem State.post_mem (s : State) (k : Nat) : (s.post k).mem = s.mem := by
  simp only [State.post]
  split <;> simp

@[simp] theorem State.set_mem (s : State) (k : Nat) (v : Value) : (s.set k v).mem = s.mem := by
  simp only [State.set]
  repeat' split
  all_goals simp

@[simp] theorem State.setZ_mem (s : State) (k : Nat) (z : Int) : (s.setZ k z).mem = s.mem := by simp [State.setZ]

@[simp] theorem State.setN_mem (s : State) (k n : Nat) : (s.setN k n).mem = s.mem := by simp [State.setN]

@[simp] theorem State.setB_mem (s : State) (k : Nat) (b : Bytes) : (s.setB k b).mem = s.mem := by simp [State.setB]

@[simp] theorem State.add_mem (s : State) (k d : Nat) : (s.add k d).mem = s.mem := by simp [State.add]

@[simp] theorem State.bump_mem (s : State) (k : Nat) : (s.bump k).mem = s.mem := by simp [State.bump]

@[simp] theorem State.setFlag_mem (s : State) (k i : Nat) (on : Bool) : (s.setFlag k i on).mem = s.mem := by simp [State.setFlag]

/-! The event log. -/

@[simp] theorem State.markFenced_mem (s : State) (u : UnitCode) : (s.markFenced u).mem = s.mem := by simp [State.markFenced]

@[simp] theorem State.markPermanent_mem (s : State) (u : UnitCode) : (s.markPermanent u).mem = s.mem := by simp [State.markPermanent]

@[simp] theorem State.markServed_mem (s : State) (u : UnitCode) : (s.markServed u).mem = s.mem := rfl

@[simp] theorem State.showPaceMin_mem (s : State) : (s.showPaceMin).mem = s.mem := by
  simp only [State.showPaceMin]
  split <;> simp

@[simp] theorem State.herdsMoved_mem (s : State) : (s.herdsMoved).mem = s.mem := by simp [State.herdsMoved]

@[simp] theorem State.amend_mem (s : State) (number : Nat) (f : FaultEvent → FaultEvent) : (s.amend number f).mem = s.mem := rfl

@[simp] theorem State.countOpen_mem (s : State) : (s.countOpen).mem = s.mem := by simp [State.countOpen]

@[simp] theorem State.record_mem (s : State) (e : FaultEvent) : (s.record_ e).mem = s.mem := by simp [State.record_]

@[simp] theorem State.postEvent_mem (s : State) (number : Nat) : (s.postEvent number).mem = s.mem := by
  simp only [State.postEvent]
  split <;> simp

@[simp] theorem State.openEvent_mem (s : State) (e : FaultEvent) : (s.openEvent e).mem = s.mem := by simp [State.openEvent]

@[simp] theorem State.notice_mem (s : State) (u : UnitCode) (reaction : Nat) : (s.notice u reaction).mem = s.mem := by simp [State.notice]

@[simp] theorem State.closeEvent_mem (s : State) (number status : Nat) : (s.closeEvent number status).mem = s.mem := by
  simp [State.closeEvent]

@[simp] theorem State.mergeInto_mem (s : State) (number : Nat) (cls : FaultClass) (ports : List Nat) :
    (s.mergeInto number cls ports).mem = s.mem := by simp [State.mergeInto]

@[simp] theorem State.takeReport_mem (s : State) (reporter suspect : UnitCode) (cls : FaultClass) (detail : Nat) (ports : List Nat)
    (reaction : Nat) :
    (s.takeReport reporter suspect cls detail ports reaction).1.mem = s.mem := by
  simp only [State.takeReport]
  repeat' split
  all_goals simp

@[simp] theorem State.settle_mem (s : State) (cause : Nat) : (s.settle cause).mem = s.mem := by simp [State.settle]

/-! Ports. -/

@[simp] theorem State.setPv_mem (s : State) (n : Nat) (on : Bool) : (s.setPv n on).mem = s.mem := by simp [State.setPv]

@[simp] theorem State.setPortState_mem (s : State) (n st : Nat) : (s.setPortState n st).mem = s.mem := by simp [State.setPortState]

@[simp] theorem State.enterSafe_mem (s : State) (n cause : Nat) (blank : Bool) : (s.enterSafe n cause blank).mem = s.mem := by
  simp [State.enterSafe]

@[simp] theorem State.enterSafeOpen_mem (s : State) (n cause : Nat) : (s.enterSafeOpen n cause).mem = s.mem := by simp [State.enterSafeOpen]

@[simp] theorem State.portFails_mem (s : State) (n cause : Nat) (blank : Bool) : (s.portFails n cause blank).mem = s.mem := by
  simp [State.portFails]

@[simp] theorem State.holdPort_mem (s : State) (n : Nat) : (s.holdPort n).mem = s.mem := by simp [State.holdPort]

@[simp] theorem State.abandonLap_mem (s : State) (k : Nat) : (s.abandonLap k).mem = s.mem := by
  simp only [State.abandonLap]
  split <;> simp

@[simp] theorem State.enterHold_mem (s : State) (cause : Nat) : (s.enterHold cause).mem = s.mem := by simp [State.enterHold]

@[simp] theorem State.settleAll_mem (s : State) (cause : Nat) : (s.settleAll cause).mem = s.mem := by simp [State.settleAll]

/-! Owners and memory in use. -/

@[simp] theorem State.refuseEnable_mem (s : State) (enable p : Nat) : (s.refuseEnable enable p).mem = s.mem := by simp [State.refuseEnable]

@[simp] theorem State.allocate_mem (s : State) (p tag n : Nat) : (s.allocate p tag n).mem = s.mem := rfl

@[simp] theorem State.release_mem (s : State) (p tag : Nat) : (s.release p tag).mem = s.mem := rfl

@[simp] theorem State.zero_mem (s : State) (keys : List Nat) : (s.zero keys).mem = s.mem := by simp [State.zero]

/-! The stream intake. -/

@[simp] theorem State.streamFlag_mem (s : State) (i bit : Nat) (on : Bool) : (s.streamFlag i bit on).mem = s.mem := by
  simp [State.streamFlag]

@[simp] theorem State.decodeTotals_mem (s : State) : (s.decodeTotals).mem = s.mem := by simp [State.decodeTotals]

@[simp] theorem State.suspendDecode_mem (s : State) : (s.suspendDecode).mem = s.mem := by simp [State.suspendDecode]

@[simp] theorem State.resumeDecode_mem (s : State) : (s.resumeDecode).mem = s.mem := by simp [State.resumeDecode]

@[simp] theorem State.reportMembership_mem (s : State) (e : Nat) : (s.reportMembership e).mem = s.mem := by simp [State.reportMembership]

@[simp] theorem State.membershipChanged_mem (s old : State) : (s.membershipChanged old).mem = s.mem := by simp [State.membershipChanged]

@[simp] theorem State.streamBegin_mem (s : State) (i : Nat) : (s.streamBegin i).mem = s.mem := by simp [State.streamBegin]

@[simp] theorem State.streamStart_mem (s : State) (i : Nat) : (s.streamStart i).mem = s.mem := by simp [State.streamStart]

@[simp] theorem State.streamEnableOn_mem (s : State) (i : Nat) : (s.streamEnableOn i).mem = s.mem := by simp [State.streamEnableOn]

@[simp] theorem State.streamStopIntake_mem (s : State) (i : Nat) : (s.streamStopIntake i).mem = s.mem := by simp [State.streamStopIntake]

@[simp] theorem State.streamStopped_mem (s : State) (i : Nat) : (s.streamStopped i).mem = s.mem := by simp [State.streamStopped]

@[simp] theorem State.releaseOldest_mem (s : State) (i : Nat) : (s.releaseOldest i).mem = s.mem := by
  simp only [State.releaseOldest]
  repeat' split
  all_goals simp

@[simp] theorem State.releaseDue_mem (s : State) (i fuel : Nat) : (s.releaseDue i fuel).mem = s.mem := by
  induction fuel generalizing s with
  | zero => rfl
  | succ fuel ih => simp [State.releaseDue, ih]

@[simp] theorem State.releases_mem (s : State) (i : Nat) : (s.releases i).mem = s.mem := by simp [State.releases]

@[simp] theorem State.showRatios_mem (s : State) (i : Nat) : (s.showRatios i).mem = s.mem := by
  simp only [State.showRatios]
  split <;> simp

@[simp] theorem State.updateRatios_mem (s : State) (i ts : Nat) (arrival : List (Nat × Nat)) : (s.updateRatios i ts arrival).mem = s.mem :=
  by simp [State.updateRatios]

@[simp] theorem State.dropRatios_mem (s : State) (n : Nat) : (s.dropRatios n).mem = s.mem := by simp [State.dropRatios]

@[simp] theorem State.relatch_mem (s : State) (i : Nat) : (s.relatch i).mem = s.mem := by simp [State.relatch]

@[simp] theorem State.acceptPacket_mem (s : State) (i : Nat) (r : RtpPacket) (piece : Nat) (types : List Nat) (ms : Nat)
    (lines : List Nat) :
    (s.acceptPacket i r piece types ms lines).mem = s.mem := by simp [State.acceptPacket]

@[simp] theorem State.takePacket_mem (s : State) (i : Nat) (r : RtpPacket) (ms : Nat) (lines : List Nat) :
    (s.takePacket i r ms lines).mem = s.mem := by
  simp only [State.takePacket]
  split <;> simp

@[simp] theorem State.classify_mem (s : State) (e : Nat) (u : UdpPacket) (r : RtpPacket) (ms : Nat) (lines : List Nat) :
    (s.classify e u r ms lines).mem = s.mem := by
  unfold State.classify
  dsimp only
  split
  · exact State.takePacket_mem ..
  · split <;> exact State.bump_mem ..

@[simp] theorem State.loseFrame_mem (s : State) (i : Nat) (lossyFrame taint : Bool) : (s.loseFrame i lossyFrame taint).mem = s.mem := by
  simp [State.loseFrame]

/-! Stereo matching. -/

@[simp] theorem State.pairFlag_mem (s : State) (p bit : Nat) (on : Bool) : (s.pairFlag p bit on).mem = s.mem := by simp [State.pairFlag]

@[simp] theorem State.stereoTotals_mem (s : State) : (s.stereoTotals).mem = s.mem := by simp [State.stereoTotals]

@[simp] theorem State.showEngine_mem (s : State) (g : Nat) : (s.showEngine g).mem = s.mem := by simp [State.showEngine]

@[simp] theorem State.showEngines_mem (s : State) : (s.showEngines).mem = s.mem := by simp [State.showEngines]

@[simp] theorem State.resolveDepth_mem (s : State) (p ordinal : Nat) (d : DepthState) : (s.resolveDepth p ordinal d).mem = s.mem := rfl

@[simp] theorem State.discardWait_mem (s : State) (p : Nat) (left : Bool) : (s.discardWait p left).mem = s.mem := by
  simp only [State.discardWait]
  split
  · simp
  · split <;> simp

@[simp] theorem State.discardWaits_mem (s : State) (p : Nat) : (s.discardWaits p).mem = s.mem := by simp [State.discardWaits]

@[simp] theorem State.abandonPairFrame_mem (s : State) (f : PairFrame) : (s.abandonPairFrame f).mem = s.mem := by
  simp [State.abandonPairFrame]

@[simp] theorem State.dropPairFrames_mem (s : State) (p : Nat) : (s.dropPairFrames p).mem = s.mem := by simp [State.dropPairFrames]

@[simp] theorem State.suspendPair_mem (s : State) (p : Nat) : (s.suspendPair p).mem = s.mem := by simp [State.suspendPair]

@[simp] theorem State.showPair_mem (s : State) (p : Nat) : (s.showPair p).mem = s.mem := by simp [State.showPair]

@[simp] theorem State.suspendStereo_mem (s : State) : (s.suspendStereo).mem = s.mem := by
  simp only [State.suspendStereo, State.stereoTotals_mem]
  rw [State.mem_each fun t p => by simp, State.mem_each fun t p => by simp]

@[simp] theorem State.resumeStereo_mem (s : State) : (s.resumeStereo).mem = s.mem := by simp [State.resumeStereo]

@[simp] theorem State.pairStart_mem (s : State) (p : Nat) : (s.pairStart p).mem = s.mem := by simp [State.pairStart]

@[simp] theorem State.pairEnableOn_mem (s : State) (p : Nat) : (s.pairEnableOn p).mem = s.mem := by simp [State.pairEnableOn]

@[simp] theorem State.pairEnableOff_mem (s : State) (p : Nat) : (s.pairEnableOff p).mem = s.mem := by simp [State.pairEnableOff]

@[simp] theorem State.pairStopped_mem (s : State) (p : Nat) : (s.pairStopped p).mem = s.mem := by simp [State.pairStopped]

@[simp] theorem State.checkPairStreams_mem (s : State) : (s.checkPairStreams).mem = s.mem := by simp [State.checkPairStreams]

@[simp] theorem State.queuePairFrame_mem (s : State) (f : PairFrame) : (s.queuePairFrame f).mem = s.mem := by simp [State.queuePairFrame]

@[simp] theorem State.offerToPair_mem (s : State) (p : Nat) (left : Bool) (w : WaitFrame) : (s.offerToPair p left w).mem = s.mem := by
  simp only [State.offerToPair]
  repeat' split
  all_goals simp

@[simp] theorem State.offerToPairs_mem (s : State) (i : Nat) (f : Frame) (alone : List Nat) : (s.offerToPairs i f alone).mem = s.mem := by
  simp [State.offerToPairs]

@[simp] theorem State.stereoComplete_mem (s : State) (g : Nat) : (s.stereoComplete g).mem = s.mem := by
  simp only [State.stereoComplete]
  split
  · simp
  · split <;> simp

/-! Flow. -/

@[simp] theorem State.allocFlow_mem (s : State) (i : Nat) : (s.allocFlow i).mem = s.mem := by simp [State.allocFlow]

@[simp] theorem State.recomputeServed_mem (s : State) : (s.recomputeServed).mem = s.mem := by simp [State.recomputeServed]

@[simp] theorem State.setFlow_mem (s : State) (i ordinal : Nat) (f : FlowState) : (s.setFlow i ordinal f).mem = s.mem := rfl

@[simp] theorem State.offerToFlow_mem (s : State) (i ordinal : Nat) : (s.offerToFlow i ordinal).mem = s.mem := by simp [State.offerToFlow]

@[simp] theorem State.flowStart_mem (s : State) (f : Nat) : (s.flowStart f).mem = s.mem := by
  simp only [State.flowStart]
  split
  · simp
  · split <;> simp

@[simp] theorem State.flowComplete_mem (s : State) (f : Nat) : (s.flowComplete f).mem = s.mem := by
  simp only [State.flowComplete]
  split
  · simp
  · split <;> simp

@[simp] theorem State.flowAbandon_mem (s : State) (f : Nat) : (s.flowAbandon f).mem = s.mem := by
  simp only [State.flowAbandon]
  split <;> simp

@[simp] theorem State.flowStopStream_mem (s : State) (i : Nat) : (s.flowStopStream i).mem = s.mem := by simp [State.flowStopStream]

/-! Anchors. -/

@[simp] theorem State.countAnchors_mem (s : State) (i : Nat) : (s.countAnchors i).mem = s.mem := by simp [State.countAnchors]

@[simp] theorem State.putAnchor_mem (s : State) (index : Nat) (a : Anchor) : (s.putAnchor index a).mem = s.mem := rfl

@[simp] theorem State.dropAnchor_mem (s : State) (index : Nat) : (s.dropAnchor index).mem = s.mem := rfl

@[simp] theorem State.genFlag_mem (s : State) (i bit : Nat) (on : Bool) : (s.genFlag i bit on).mem = s.mem := by simp [State.genFlag]

@[simp] theorem State.allocAnchor_mem (s : State) (a : Anchor) : (s.allocAnchor a).2.mem = s.mem := by
  simp only [State.allocAnchor]
  repeat' split
  all_goals simp

@[simp] theorem State.freeAnchors_mem (s : State) (i : Nat) (mastersOnly : Bool) : (s.freeAnchors i mastersOnly).mem = s.mem := by
  simp [State.freeAnchors]

@[simp] theorem State.updateAnchors_mem (s : State) (i : Nat) (f : TrueFrame) : (s.updateAnchors i f).mem = s.mem := by
  rw [State.updateAnchors, State.countAnchors_mem]
  refine State.mem_each (fun t e => ?_) _ _
  split <;> simp

@[simp] theorem State.createAnchors_mem (s : State) (i : Nat) (f : TrueFrame) : (s.createAnchors i f).mem = s.mem := by
  simp [State.createAnchors]

@[simp] theorem State.makeShadows_mem (s : State) (i ordinal : Nat) : (s.makeShadows i ordinal).mem = s.mem := by
  simp only [State.makeShadows, State.countAnchors_mem, State.setGenStream_mem]
  refine State.mem_each (fun t e => ?_) _ _
  have := t.allocAnchor_mem { e.2 with shadow := true, link := e.1, setOf := ordinal }
  split <;> simp_all

@[simp] theorem State.freeRetired_mem (s : State) (i : Nat) : (s.freeRetired i).mem = s.mem := by simp [State.freeRetired]

@[simp] theorem State.retireShadows_mem (s : State) (i : Nat) : (s.retireShadows i).mem = s.mem := by simp [State.retireShadows]

/-! Surfaces. -/

@[simp] theorem State.setTarget_mem (s : State) (p target : Nat) (g : TargetRt) : (s.setTarget p target g).mem = s.mem := rfl

/-! The arrival log. -/

@[simp] theorem State.takeShed_mem (s : State) (p : Nat) : (s.takeShed p).mem = s.mem := rfl

@[simp] theorem State.setAdaptOf_mem (s : State) (i : Nat) (a : AdaptStream) : (s.setAdaptOf i a).mem = s.mem := rfl

@[simp] theorem State.clearAdaptRing_mem (s : State) (i : Nat) : (s.clearAdaptRing i).mem = s.mem := by simp [State.clearAdaptRing]

@[simp] theorem State.resetHistory_mem (s : State) (i ordinal : Nat) (collapse : Bool) : (s.resetHistory i ordinal collapse).mem = s.mem :=
  by simp [State.resetHistory]

/-! Jobs. -/

@[simp] theorem State.setJobs_mem (s : State) (l : List GenJob) : (s.setJobs l).mem = s.mem := rfl

@[simp] theorem State.amendJob_mem (s : State) (id : Nat) (f : GenJob → GenJob) : (s.amendJob id f).mem = s.mem := rfl

@[simp] theorem State.startJob_mem (s : State) (j : GenJob) : (s.startJob j).2.mem = s.mem := rfl

@[simp] theorem State.jobEnded_mem (s : State) (j : GenJob) : (s.jobEnded j).mem = s.mem := by
  simp only [State.jobEnded]
  split <;> simp

@[simp] theorem State.dropJob_mem (s : State) (id : Nat) : (s.dropJob id).mem = s.mem := by
  simp only [State.dropJob]
  split
  · simp
  · split <;> simp

@[simp] theorem State.finishJob_mem (s : State) (id : Nat) : (s.finishJob id).mem = s.mem := by
  simp only [State.finishJob]
  repeat' split
  all_goals simp

@[simp] theorem State.reapJobs_mem (s : State) (n : Nat) : (s.reapJobs n).mem = s.mem := by
  have freed (t : State) (b : Nat × Nat × Nat) : (({ t with gen := { t.gen with buffers := t.gen.buffers.filter (· ≠ b) } } : State).release
      (t.streamPartition b.1) (tagGen b.1 n)).mem = t.mem := State.release_mem ..
  simp only [State.reapJobs, State.mem_each freed, State.setJobs_mem]

@[simp] theorem State.pruneFrames_mem (s : State) (i : Nat) : (s.pruneFrames i).mem = s.mem := rfl

@[simp] theorem State.reuseOutput_mem (s : State) (p : Nat) : (s.reuseOutput p).mem = s.mem := rfl

@[simp] theorem State.stereoStart_mem (s : State) (g : Nat) : (s.stereoStart g).mem = s.mem := by
  simp only [State.stereoStart]
  repeat' split
  all_goals simp

@[simp] theorem State.startPinned_mem (s : State) : (s.startPinned).mem = s.mem := by simp [State.startPinned]

@[simp] theorem State.dropJobs_mem (s : State) (f : GenJob → Bool) : (s.dropJobs f).mem = s.mem := by simp [State.dropJobs]

@[simp] theorem State.takeJobs_mem (s : State) (k : Nat) (image : Bytes) (l : List GenJob) : (s.takeJobs k image l).mem = s.mem :=
  State.mem_each (fun t j => by simp) _ _

@[simp] theorem State.reissue_mem (s : State) (k : Nat) : (s.reissue k).mem = s.mem := rfl

/-! Frame generation. -/

@[simp] theorem State.retractSpeculative_mem (s : State) (i : Nat) : (s.retractSpeculative i).mem = s.mem := by
  simp [State.retractSpeculative]

@[simp] theorem State.setGenState_mem (s : State) (i g : Nat) : (s.setGenState i g).mem = s.mem := by simp [State.setGenState]

@[simp] theorem State.allocGen_mem (s : State) (i : Nat) : (s.allocGen i).mem = s.mem := by simp [State.allocGen]

@[simp] theorem State.goIdle_mem (s : State) (i : Nat) : (s.goIdle i).mem = s.mem := by simp [State.goIdle]

@[simp] theorem State.genFlagsAt_mem (s : State) (i : Nat) (opened : Bool) : (s.genFlagsAt i opened).mem = s.mem := by
  simp [State.genFlagsAt]

@[simp] theorem State.fenceStore_mem (s : State) : (s.fenceStore).mem = s.mem := by simp [State.fenceStore]

@[simp] theorem State.advanceGen_mem (s : State) (i : Nat) : (s.advanceGen i).mem = s.mem := by simp [State.advanceGen]

@[simp] theorem State.startLead_mem (s : State) (n i F : Nat) (f : Frame) (target : Rat) (committed : Bool) :
    (s.startLead n i F f target committed).mem = s.mem := by simp [State.startLead]

@[simp] theorem State.chooseLead_mem (s : State) (n i F : Nat) : (s.chooseLead n i F).2.mem = s.mem := by
  simp only [State.chooseLead]
  repeat' split
  all_goals simp

@[simp] theorem State.chooseStream_mem (s : State) (n i F : Nat) : (s.chooseStream n i F).2.mem = s.mem := by
  simp only [State.chooseStream]
  repeat' split
  all_goals simp

@[simp] theorem State.placeView_mem (s : State) (n F : Nat) (l : LayerDesc) (c : ViewChoice) : (s.placeView n F l c).2.mem = s.mem := by
  simp only [State.placeView]
  split
  · split <;> simp
  · simp

@[simp] theorem State.placeRender_mem (s : State) (n F : Nat) (l : LayerDesc) : (s.placeRender n F l).2.mem = s.mem := by
  simp only [State.placeRender]
  repeat' split
  all_goals simp

@[simp] theorem State.showQuality_mem (s : State) (n : Nat) : (s.showQuality n).mem = s.mem := by simp [State.showQuality]

@[simp] theorem State.idleSweep_mem (s : State) : (s.idleSweep).mem = s.mem := by simp [State.idleSweep]

@[simp] theorem State.holdLead_mem (s : State) (n : Nat) (v : ViewChoice) : (s.holdLead n v).mem = s.mem := by
  simp only [State.holdLead]
  repeat' split
  all_goals simp

@[simp] theorem State.checkFallback_mem (s : State) (i : Nat) : (s.checkFallback i).mem = s.mem := by simp [State.checkFallback]

@[simp] theorem State.measureLead_mem (s : State) (i : Nat) (f : Frame) : (s.measureLead i f).mem = s.mem := by
  simp only [State.measureLead]
  repeat' split
  all_goals simp

@[simp] theorem State.quietFrame_mem (s : State) (i : Nat) (f : Frame) : (s.quietFrame i f).mem = s.mem := by simp [State.quietFrame]

@[simp] theorem State.amendFrame_mem (s : State) (i ordinal : Nat) (f : Frame → Frame) : (s.amendFrame i ordinal f).mem = s.mem := rfl

@[simp] theorem State.judgeHistory_mem (s : State) (i : Nat) (f : Frame) : (s.judgeHistory i f).mem = s.mem := by simp [State.judgeHistory]

@[simp] theorem State.genLossy_mem (s : State) (i : Nat) : (s.genLossy i).mem = s.mem := by simp [State.genLossy]

@[simp] theorem State.dropLate_mem (s : State) (f : GenJob → Bool) : (s.dropLate f).2.mem = s.mem := by simp [State.dropLate]

@[simp] theorem State.settleRender_mem (s : State) (n F : Nat) (v : RenderChoice) : (s.settleRender n F v).2.mem = s.mem := by
  simp [State.settleRender]

/-! Port frames. -/

@[simp] theorem State.putUpViews_mem (s : State) (n : Nat) (l : List UpView) (old : Nat) : (s.putUpViews n l old).mem = s.mem := rfl

@[simp] theorem State.startUpViews_mem (s : State) (n : Nat) (table : Bytes) : (s.startUpViews n table).mem = s.mem := by
  simp [State.startUpViews]

@[simp] theorem State.moveUpViews_mem (s : State) (n : Nat) (table : Bytes) : (s.moveUpViews n table).mem = s.mem := by
  simp [State.moveUpViews]

@[simp] theorem State.freeOldUp_mem (s : State) (n : Nat) : (s.freeOldUp n).mem = s.mem := by simp [State.freeOldUp]

@[simp] theorem State.applyTable_mem (s : State) (n : Nat) (table : Bytes) : (s.applyTable n table).mem = s.mem := by
  simp [State.applyTable]

@[simp] theorem State.writeLayers_mem (s : State) (n : Nat) (table : Bytes) : (s.writeLayers n table).mem = s.mem := by
  simp [State.writeLayers]

@[simp] theorem State.portFlags_mem (s : State) (n : Nat) : (s.portFlags n).mem = s.mem := by simp [State.portFlags]

@[simp] theorem State.sendPortFrame_mem (s : State) (n : Nat) : (s.sendPortFrame n).mem = s.mem := by simp [State.sendPortFrame]

@[simp] theorem State.portBegin_mem (s : State) (n : Nat) : (s.portBegin n).mem = s.mem := by simp [State.portBegin]

@[simp] theorem State.portStart_mem (s : State) (n : Nat) : (s.portStart n).mem = s.mem := by
  simp only [State.portStart]
  split
  · simp
  · split <;> simp

@[simp] theorem State.portEnableOn_mem (s : State) (n : Nat) : (s.portEnableOn n).mem = s.mem := by
  simp only [State.portEnableOn]
  split <;> simp

@[simp] theorem State.portBeginStop_mem (s : State) (n : Nat) : (s.portBeginStop n).mem = s.mem := by simp [State.portBeginStop]

@[simp] theorem State.portEnableOff_mem (s : State) (n : Nat) : (s.portEnableOff n).mem = s.mem := by simp [State.portEnableOff]

@[simp] theorem State.portStopped_mem (s : State) (n : Nat) : (s.portStopped n).mem = s.mem := by
  simp only [State.portStopped]
  repeat' split
  all_goals simp

@[simp] theorem State.goLive_mem (s : State) (n : Nat) : (s.goLive n).mem = s.mem := by simp [State.goLive]

@[simp] theorem State.showHold_mem (s : State) (n : Nat) : (s.showHold n).mem = s.mem := by
  simp only [State.showHold]
  split <;> simp

@[simp] theorem State.refreshViews_mem (s : State) (n F : Nat) : (s.refreshViews n F).mem = s.mem := by
  unfold State.refreshViews
  split
  · rfl
  · split
    · rfl
    · dsimp only
      rw [State.setPortRt_mem, State.mem_foldl_snd, State.mem_foldl_snd]
      · intro acc l
        split
        · rfl
        · simp only [State.placeView_mem]
          split <;> simp
      · intro acc l
        split
        · rfl
        · exact State.placeRender_mem ..

@[simp] theorem State.failNext_mem (s : State) (n cause : Nat) (blank : Bool) : (s.failNext n cause blank).mem = s.mem := by
  simp [State.failNext]

@[simp] theorem State.failNow_mem (s : State) (n cause : Nat) (blank : Bool) : (s.failNow n cause blank).mem = s.mem := by
  simp [State.failNow]

@[simp] theorem State.checkFresh_mem (s : State) (n F : Nat) (views : List ViewChoice) : (s.checkFresh n F views).mem = s.mem := by
  simp [State.checkFresh]

@[simp] theorem State.checkPredicted_mem (s : State) (n F : Nat) : (s.checkPredicted n F).mem = s.mem := by
  simp only [State.checkPredicted]
  split <;> simp

@[simp] theorem State.piuDisagrees_mem (s : State) : (s.piuDisagrees).mem = s.mem := by simp [State.piuDisagrees]

@[simp] theorem State.checkTag_mem (s : State) (n layer crcA crcB : Nat) : (s.checkTag n layer crcA crcB).mem = s.mem := by
  simp only [State.checkTag]
  repeat' split
  all_goals simp

@[simp] theorem State.checkRect_mem (s : State) (n i crcA crcB : Nat) : (s.checkRect n i crcA crcB).mem = s.mem := by
  simp only [State.checkRect]
  repeat' split
  all_goals simp

@[simp] theorem State.rclkFails_mem (s : State) (n : Nat) : (s.rclkFails n).mem = s.mem := by simp [State.rclkFails]

@[simp] theorem State.rclkReturns_mem (s : State) (n : Nat) : (s.rclkReturns n).mem = s.mem := by simp [State.rclkReturns]

@[simp] theorem State.loseGenlock_mem (s : State) (n : Nat) : (s.loseGenlock n).mem = s.mem := by simp [State.loseGenlock]

@[simp] theorem State.fsyncAt_mem (s : State) (n : Nat) (e : Int) (periodTenths : Nat) : (s.fsyncAt n e periodTenths).mem = s.mem := by
  simp [State.fsyncAt]

@[simp] theorem State.fsyncTaken_mem (s : State) (n : Nat) (rising : Bool) (e : Int) (periodTenths : Nat) :
    (s.fsyncTaken n rising e periodTenths).mem = s.mem := by simp [State.fsyncTaken]

@[simp] theorem State.genlockGone_mem (s : State) (n : Nat) : (s.genlockGone n).mem = s.mem := by simp [State.genlockGone]

@[simp] theorem State.ackSafe_mem (s : State) (n : Nat) : (s.ackSafe n).mem = s.mem := by simp [State.ackSafe]

@[simp] theorem State.resetRender_mem (s : State) (n : Nat) : (s.resetRender n).mem = s.mem := rfl

/-! Rings. -/

@[simp] theorem State.ringBell_mem (s : State) (fn r tail : Nat) : (s.ringBell fn r tail).mem = s.mem := by
  simp only [State.ringBell]
  repeat' split
  all_goals simp

@[simp] theorem State.countJob_mem (s : State) (r : Nat) (total : Nat) (f : Ring → Ring) : (s.countJob r total f).mem = s.mem := by
  simp [State.countJob]

@[simp] theorem State.releaseHeld_mem (s : State) : (s.releaseHeld).mem = s.mem := rfl

@[simp] theorem State.holdOutputs_mem (s : State) : (s.holdOutputs).mem = s.mem := by simp [State.holdOutputs]

/-! The raster pipeline. -/

@[simp] theorem State.setPasses_mem (s : State) (l : List Pass) : (s.setPasses l).mem = s.mem := rfl

@[simp] theorem State.setPass_mem (s : State) (q : Pass) : (s.setPass q).mem = s.mem := rfl

@[simp] theorem State.restartHistory_mem (s : State) (p target count : Nat) : (s.restartHistory p target count).mem = s.mem := by
  simp [State.restartHistory]

@[simp] theorem State.showReserve_mem (s : State) : (s.showReserve).mem = s.mem := by simp [State.showReserve]

@[simp] theorem State.idleTiles_mem (s : State) (units : List Nat) : (s.idleTiles units).mem = s.mem := by simp [State.idleTiles]

/-! Tiles. -/

@[simp] theorem State.tileFenced_mem (s : State) (u : Nat) : (s.tileFenced u).mem = s.mem := rfl

/-! Ray queries. -/

@[simp] theorem State.setQueries_mem (s : State) (l : List QueryJob) : (s.setQueries l).mem = s.mem := rfl

@[simp] theorem State.startQueries_mem (s : State) : (s.startQueries).mem = s.mem := by
  refine State.mem_each (fun t u => ?_) _ _
  split
  · rfl
  · split <;> simp

@[simp] theorem State.rayFenced_mem (s : State) (u : Nat) : (s.rayFenced u).mem = s.mem := by simp [State.rayFenced]

@[simp] theorem State.dropQueries_mem (s : State) (p : Nat) : (s.dropQueries p).mem = s.mem := by simp [State.dropQueries]

/-! Table images. -/

@[simp] theorem State.showPositions_mem (s : State) (p : Nat) : (s.showPositions p).mem = s.mem := by simp [State.showPositions]

/-! Slots and laps. -/

@[simp] theorem State.showSlot_mem (s : State) (k : Nat) : (s.showSlot k).mem = s.mem := by
  simp only [State.showSlot]
  split <;> simp

@[simp] theorem State.showHerds_mem (s : State) (p : Nat) : (s.showHerds p).mem = s.mem := by simp [State.showHerds]

@[simp] theorem State.swapIn_mem (s : State) (k : Nat) : (s.swapIn k).mem = s.mem := by
  simp only [State.swapIn]
  split
  · simp
  · split <;> simp

@[simp] theorem State.stageSlot_mem (s : State) (k : Nat) : (s.stageSlot k).mem = s.mem := by
  simp only [State.stageSlot]
  repeat' split
  all_goals simp

@[simp] theorem State.stageLoaded_mem (s : State) (k : Nat) : (s.stageLoaded k).mem = s.mem := by
  simp only [State.stageLoaded]
  split
  · simp
  · split <;> simp

@[simp] theorem State.herdsChanged_mem (s : State) (p : Nat) (lost : Bool) : (s.herdsChanged p lost).mem = s.mem := by
  simp [State.herdsChanged]

@[simp] theorem State.applyReload_mem (s : State) (k : Nat) (fb : Bool) : (s.applyReload k fb).mem = s.mem := by simp [State.applyReload]

@[simp] theorem State.reloadDone_mem (s : State) (p : Nat) : (s.reloadDone p).mem = s.mem := by
  refine State.mem_each (fun t k => ?_) _ _
  split <;> simp

@[simp] theorem State.useModel_mem (s : State) (p h : Nat) (pin : Bool) (m : ModelEntry) : (s.useModel p h pin m).mem = s.mem := by
  simp [State.useModel]

@[simp] theorem State.makeResident_mem (s : State) (k p : Nat) (t : TableImage) : (s.makeResident k p t).mem = s.mem := by
  simp [State.makeResident]

@[simp] theorem State.reloadBank_mem (s : State) (p h : Nat) (t : TableImage) (leg : Nat) : (s.reloadBank p h t leg).mem = s.mem := by
  simp only [State.reloadBank]
  repeat' split
  all_goals simp

@[simp] theorem State.reloadBanks_mem (s : State) (k p : Nat) (t : TableImage) : (s.reloadBanks k p t).mem = s.mem := by
  simp [State.reloadBanks]

@[simp] theorem State.preempt_mem (s : State) (k p : Nat) : (s.preempt k p).mem = s.mem := by simp [State.preempt]

@[simp] theorem State.beginLap_mem (s : State) (k : Nat) (t : TableImage) (lanes : List Nat) (window : Option Nat) (port : Nat) :
    (s.beginLap k t lanes window port).mem = s.mem := by
  simp only [State.beginLap]
  split <;> simp

@[simp] theorem State.beforeLap_mem (s : State) (k : Nat) : (s.beforeLap k).mem = s.mem := by simp [State.beforeLap]

@[simp] theorem State.lapStarts_mem (s : State) (k lines : Nat) : (s.lapStarts k lines).mem = s.mem := by
  simp only [State.lapStarts]
  repeat' split
  all_goals simp

@[simp] theorem State.withLeg_mem (s : State) (k pos op : Nat) (fits : Nat → Bool) (f : Lap → Lap) :
    (s.withLeg k pos op fits f).mem = s.mem := by
  simp only [State.withLeg]
  split
  · simp
  · split <;> simp

@[simp] theorem State.publishStats_mem (s : State) (p : Nat) (w : StatsWindow) : (s.publishStats p w).mem = s.mem := by
  rw [State.publishStats]
  simp only [State.setPartRt_mem, State.mem_each fun (t : State) (h : Nat) => State.setHerdRt_mem t h _, State.setN_mem, State.setB_mem]

@[simp] theorem State.countStats_mem (s : State) (p k : Nat) (l : Lap) (widened : List Nat) : (s.countStats p k l widened).mem = s.mem := by
  have noted (t : State) (e : Nat × Nat × Nat × Nat × Nat) : (t.setHerdRt e.1 { t.herdRt e.1 with
      stats := addChannel (t.herdRt e.1).stats e.2.1 e.2.2.1 e.2.2.2.1 e.2.2.2.2 }).mem = t.mem := rfl
  simp only [State.countStats]
  split
  · rfl
  · split <;> simp [State.mem_each noted]

@[simp] theorem State.addUnits_mem (s : State) (k low : Nat) : (s.addUnits k low).1.mem = s.mem := by simp [State.addUnits]

@[simp] theorem State.flushUnits_mem (s : State) (p : Nat) : (s.flushUnits p).mem = s.mem := by simp [State.flushUnits]

@[simp] theorem State.countAbandoned_mem (s : State) (b : Baton) : (s.countAbandoned b).mem = s.mem := by simp [State.countAbandoned]

@[simp] theorem State.purgeBatons_mem (s : State) (k number : Nat) : (s.purgeBatons k number).mem = s.mem := by simp [State.purgeBatons]

@[simp] theorem State.abandonBaton_mem (s : State) (b : Baton) : (s.abandonBaton b).mem = s.mem := by
  simp only [State.abandonBaton]
  split
  · simp
  · split <;> simp

@[simp] theorem State.reissueJobs_mem (s : State) (k : Nat) (l : Lap) : (s.reissueJobs k l).mem = s.mem := by simp [State.reissueJobs]

@[simp] theorem State.widenJob_mem (s : State) (p id layer : Nat) : (s.widenJob p id layer).mem = s.mem := by simp [State.widenJob]

/-! Tracks. -/

@[simp] theorem State.setQueue_mem (s : State) (q : Queue) : (s.setQueue q).mem = s.mem := rfl

@[simp] theorem State.deliver_mem (s : State) (b : Baton) : (s.deliver b).mem = s.mem := by simp [State.deliver]

@[simp] theorem State.setLap_mem (s : State) (k : Nat) (l : Lap) : (s.setLap k l).mem = s.mem := rfl

@[simp] theorem State.convRun_mem (s : State) (station queue : Nat) (b : Baton) : (s.convRun station queue b).mem = s.mem := by
  simp only [State.convRun]
  split
  · split <;> simp
  · simp

@[simp] theorem State.countSend_mem (s : State) (b : Baton) : (s.countSend b).mem = s.mem := by
  simp only [State.countSend]
  split <;> split <;> simp

@[simp] theorem State.countTaken_mem (s : State) (b : Baton) : (s.countTaken b).mem = s.mem := by
  simp only [State.countTaken]
  split <;> simp

@[simp] theorem State.dropBaton_mem (s : State) (b : Baton) : (s.dropBaton b).mem = s.mem := by
  simp only [State.dropBaton]
  split <;> split <;> simp

@[simp] theorem State.takeBatons_mem (s : State) (station queue count : Nat) : (s.takeBatons station queue count).1.mem = s.mem := by
  simp only [State.takeBatons]
  split <;> simp

/-! Arithmetic. -/

@[simp] theorem State.countArith_mem (s : State) (u : OpUnit) (sats nans : Nat) : (s.countArith u sats nans).mem = s.mem := by
  simp [State.countArith]

@[simp] theorem State.refuseOp_mem (s : State) (u : OpUnit) : (s.refuseOp u).mem = s.mem := by simp [State.refuseOp]

@[simp] theorem State.output_mem (s : State) (u : OpUnit) (f : Nat) (rows : List (List Nat)) (exps : List Int) :
    (s.output u f rows exps).mem = s.mem := rfl

@[simp] theorem State.outputRows_mem (s : State) (u : OpUnit) (f : Nat) (rows : List RowOut) : (s.outputRows u f rows).mem = s.mem := by
  simp [State.outputRows]

@[simp] theorem State.measure_mem (s : State) (u : OpUnit) (c : ConvConfig) (l : List (Nat × Nat × Nat)) :
    (s.measure u c l).mem = s.mem := by
  simp only [State.measure]
  split
  · simp
  · split <;> simp

@[simp] theorem State.convertOp_mem (s : State) (u : OpUnit) (c : ConvConfig) (rows : List (List Nat)) (mask : List (List Bool)) :
    (s.convertOp u c rows mask).mem = s.mem := by simp [State.convertOp]

@[simp] theorem State.statsOp_mem (s : State) (u : OpUnit) (c : ConvConfig) (source codes : List (List Nat)) (exps : List Int)
    (mask : List (List Bool)) :
    (s.statsOp u c source codes exps mask).mem = s.mem := by simp [State.statsOp]

@[simp] theorem State.gradconvOp_mem (s : State) (u : OpUnit) (rows : List (List Nat)) : (s.gradconvOp u rows).mem = s.mem := by
  simp [State.gradconvOp]

@[simp] theorem State.mompackOp_mem (s : State) (u : OpUnit) (second : Bool) (rows : List (List Nat)) :
    (s.mompackOp u second rows).mem = s.mem := by simp [State.mompackOp]

@[simp] theorem State.momunpackOp_mem (s : State) (u : OpUnit) (second : Bool) (rows : List (List Nat)) (exps : List Int) :
    (s.momunpackOp u second rows exps).mem = s.mem := rfl

@[simp] theorem State.masterupdOp_mem (s : State) (u : OpUnit) (masters updates : List Nat) :
    (s.masterupdOp u masters updates).mem = s.mem := rfl

@[simp] theorem State.setKidAcc_mem (s : State) (u : OpUnit) (acc : List Nat) : (s.setKidAcc u acc).mem = s.mem := rfl

@[simp] theorem State.mmaOp_mem (s : State) (u : OpUnit) (fa fw : Nat) (steps : List (List Nat × List Nat)) :
    (s.mmaOp u fa fw steps).mem = s.mem := by simp [State.mmaOp]

@[simp] theorem State.outlierOp_mem (s : State) (u : OpUnit) (acts weights : List (List Nat)) : (s.outlierOp u acts weights).mem = s.mem :=
  rfl

@[simp] theorem State.rescaleOp_mem (s : State) (u : OpUnit) (c : ConvConfig) (j : RescaleJob) (relu : Bool) :
    (s.rescaleOp u c j relu).mem = s.mem := by simp [State.rescaleOp]

@[simp] theorem State.wideOp_mem (s : State) (u : OpUnit) (c : ConvConfig) (acts weights : List (List Nat)) (j : RescaleJob) (relu : Bool) :
    (s.wideOp u c acts weights j relu).mem = s.mem := by simp [State.wideOp]

/-! Convolutions. -/

@[simp] theorem State.convwinOp_mem (s : State) (u : OpUnit) (g : AddrConfig) (fw : Nat) (x : Tensor) (w : List (List Nat)) :
    (s.convwinOp u g fw x w).mem = s.mem := by simp [State.convwinOp]

@[simp] theorem State.expandOp_mem (s : State) (u : OpUnit) (g : AddrConfig) (x : Tensor) (firstRow : Nat) :
    (s.expandOp u g x firstRow).mem = s.mem := rfl

/-! Adaptation. -/

@[simp] theorem State.startCandidate_mem (s : State) (p i : Nat) : (s.startCandidate p i).mem = s.mem := rfl

@[simp] theorem State.restartCandidate_mem (s : State) (p i : Nat) : (s.restartCandidate p i).mem = s.mem := by
  simp [State.restartCandidate]

@[simp] theorem State.adaptStops_mem (s : State) (p i : Nat) : (s.adaptStops p i).mem = s.mem := by simp [State.adaptStops]

@[simp] theorem State.adaptBegins_mem (s : State) (p i w h : Nat) : (s.adaptBegins p i w h).mem = s.mem := by simp [State.adaptBegins]

@[simp] theorem State.dropSamples_mem (s : State) (p n : Nat) : (s.dropSamples p n).mem = s.mem := by simp [State.dropSamples]

@[simp] theorem State.queueSample_mem (s : State) (p i target : Nat) : (s.queueSample p i target).mem = s.mem := by simp [State.queueSample]

@[simp] theorem State.ringCopies_mem (s : State) (p i ordinal : Nat) (picture : Picture) : (s.ringCopies p i ordinal picture).mem = s.mem :=
  by simp [State.ringCopies]

@[simp] theorem State.adaptResumes_mem (s : State) (p : Nat) : (s.adaptResumes p).mem = s.mem := by simp [State.adaptResumes]

@[simp] theorem State.trainCandidate_mem (s : State) (lanes : List AdaptSample) (generator i : Nat) :
    (s.trainCandidate lanes generator i).mem = s.mem := by simp [State.trainCandidate]

@[simp] theorem State.trainSample_mem (s : State) (p : Nat) (e : AdaptSample) : (s.trainSample p e).mem = s.mem := by
  simp [State.trainSample]

@[simp] theorem State.rejectCandidate_mem (s : State) (p i : Nat) : (s.rejectCandidate p i).mem = s.mem := by simp [State.rejectCandidate]

@[simp] theorem State.afterCommand_mem (s : State) (p i : Nat) : (s.afterCommand p i).mem = s.mem := by simp [State.afterCommand]

@[simp] theorem State.adaptPartStarts_mem (s : State) (p : Nat) : (s.adaptPartStarts p).mem = s.mem := by simp [State.adaptPartStarts]

/-! Peer links. -/

@[simp] theorem State.showLanes_mem (s : State) (z : Nat) (l : List Nat) : (s.showLanes z l).mem = s.mem := by simp [State.showLanes]

@[simp] theorem State.driveFrame_mem (s : State) (z : Nat) (f : ZFrame) : (s.driveFrame z f).mem = s.mem := by simp [State.driveFrame]

@[simp] theorem State.sendFrame_mem (s : State) (z type : Nat) (body : Bytes) : (s.sendFrame z type body).mem = s.mem := by
  simp [State.sendFrame]

@[simp] theorem State.sendAnswer_mem (s : State) (z type : Nat) : (s.sendAnswer z type).mem = s.mem := by simp [State.sendAnswer]

@[simp] theorem State.sendMessage_mem (s : State) (z : Nat) (b : Bytes) : (s.sendMessage z b).mem = s.mem := by simp [State.sendMessage]

@[simp] theorem State.resendFrom_mem (s : State) (z number : Nat) : (s.resendFrom z number).mem = s.mem := by simp [State.resendFrom]

@[simp] theorem State.takeAck_mem (s : State) (z ack : Nat) : (s.takeAck z ack).mem = s.mem := by
  rw [State.takeAck]
  split
  · rfl
  · exact State.mem_each (fun t e => by simp) _ _

@[simp] theorem State.sendBaton_mem (s : State) (z : Nat) (b : Baton) : (s.sendBaton z b).mem = s.mem := by simp [State.sendBaton]

@[simp] theorem State.unreachable_mem (s : State) (b : Baton) : (s.unreachable b).mem = s.mem := by simp [State.unreachable]

@[simp] theorem State.udpBegin_mem (s : State) (device : Nat) : (s.udpBegin device).mem = s.mem := by simp [State.udpBegin]

@[simp] theorem State.sendWaiting_mem (s : State) : (s.sendWaiting).mem = s.mem := by
  unfold State.sendWaiting
  dsimp only
  refine (State.mem_foldl_fst (fun acc b => ?_) _ _).trans rfl
  split
  · exact State.unreachable_mem ..
  · split
    · rfl
    · split <;> simp

@[simp] theorem State.sendRemote_mem (s : State) (b : Baton) : (s.sendRemote b).mem = s.mem := by simp [State.sendRemote]

@[simp] theorem State.sendRoutes_mem (s : State) (z : Nat) : (s.sendRoutes z).mem = s.mem := by simp [State.sendRoutes]

@[simp] theorem State.announce_mem (s : State) : (s.announce).mem = s.mem := by simp [State.announce]

@[simp] theorem State.useRoute_mem (s : State) (device hops link : Nat) : (s.useRoute device hops link).mem = s.mem := by
  simp only [State.useRoute]
  split
  · simp
  · split <;> simp

@[simp] theorem State.settleRoute_mem (s : State) (offers : List (Nat × Nat × Nat)) (device : Nat) :
    (s.settleRoute offers device).mem = s.mem := by
  simp only [State.settleRoute]
  repeat' split
  all_goals simp

@[simp] theorem State.updateRoutes_mem (s : State) : (s.updateRoutes).mem = s.mem := by simp [State.updateRoutes]

@[simp] theorem State.applyRoute_mem (s : State) (device : Nat) : (s.applyRoute device).mem = s.mem := by
  simp only [State.applyRoute]
  repeat' split
  all_goals simp

@[simp] theorem State.showUdp_mem (s : State) : (s.showUdp).mem = s.mem := by simp [State.showUdp]

@[simp] theorem State.destroyKey_mem (s : State) (k : KeyName) : (s.destroyKey k).mem = s.mem := rfl

@[simp] theorem State.makeKey_mem (s : State) (k : KeyName) (n : Nat) : (s.makeKey k n).mem = s.mem := by simp [State.makeKey]

@[simp] theorem State.closeSession_mem (s : State) (z : Nat) : (s.closeSession z).1.mem = s.mem := by simp [State.closeSession]

@[simp] theorem State.linkFails_mem (s : State) (z state : Nat) : (s.linkFails z state).mem = s.mem := by simp [State.linkFails]

@[simp] theorem State.refuseSession_mem (s : State) (z : Nat) : (s.refuseSession z).mem = s.mem := by simp [State.refuseSession]

@[simp] theorem State.linkTrained_mem (s : State) (z : Nat) : (s.linkTrained z).mem = s.mem := by simp [State.linkTrained]

@[simp] theorem State.sendHandshake_mem (s : State) (z : Nat) : (s.sendHandshake z).mem = s.mem := by simp [State.sendHandshake]

@[simp] theorem State.chainReceived_mem (s : State) (z : Nat) (c : PeerChain) : (s.chainReceived z c).mem = s.mem := by
  simp [State.chainReceived]

@[simp] theorem State.keyExchange_mem (s : State) (z : Nat) (ok : Bool) : (s.keyExchange z ok).mem = s.mem := by simp [State.keyExchange]

@[simp] theorem State.rekey_mem (s : State) (z : Nat) (ok : Bool) : (s.rekey z ok).mem = s.mem := by simp [State.rekey]

@[simp] theorem State.retrySession_mem (s : State) (z : Nat) : (s.retrySession z).mem = s.mem := by simp [State.retrySession]

@[simp] theorem State.retrain_mem (s : State) (z : Nat) : (s.retrain z).mem = s.mem := by simp [State.retrain]

@[simp] theorem State.retrained_mem (s : State) (z : Nat) : (s.retrained z).mem = s.mem := by simp [State.retrained]

/-! Faults. -/

@[simp] theorem State.showSpares_mem (s : State) (h : Nat) : (s.showSpares h).mem = s.mem := by simp [State.showSpares]

@[simp] theorem State.abandonLaps_mem (s : State) (p : Nat) : (s.abandonLaps p).mem = s.mem := by simp [State.abandonLaps]

@[simp] theorem State.fenceKid_mem (s : State) (h k : Nat) : (s.fenceKid h k).mem = s.mem := by
  simp only [State.fenceKid]
  split <;> simp

@[simp] theorem State.herdLost_mem (s : State) (p : Nat) : (s.herdLost p).mem = s.mem := by simp [State.herdLost]

@[simp] theorem State.fenceHerd_mem (s : State) (h : Nat) : (s.fenceHerd h).mem = s.mem := by simp [State.fenceHerd]

@[simp] theorem State.returnHerd_mem (s : State) (h : Nat) : (s.returnHerd h).mem = s.mem := by simp [State.returnHerd]

@[simp] theorem State.fenceSlice_mem (s : State) (d : Nat) : (s.fenceSlice d).mem = s.mem := by
  simp only [State.fenceSlice]
  split <;> simp

@[simp] theorem State.abandonOn_mem (s : State) (g : Nat) : (s.abandonOn g).mem = s.mem := by
  simp only [State.abandonOn]
  split <;> simp

@[simp] theorem State.abandonReaders_mem (s : State) (readers : List UnitCode) : (s.abandonReaders readers).mem = s.mem := by
  refine State.mem_each (fun t u => ?_) _ _
  split <;> simp

@[simp] theorem State.fenceStereo_mem (s : State) (g : Nat) : (s.fenceStereo g).mem = s.mem := by simp [State.fenceStereo]

@[simp] theorem State.fencePort_mem (s : State) (n : Nat) : (s.fencePort n).mem = s.mem := by simp [State.fencePort]

@[simp] theorem State.portNoData_mem (s : State) (e : Nat) : (s.portNoData e).mem = s.mem := by simp [State.portNoData]

@[simp] theorem State.fenceCsi_mem (s : State) (c : Nat) : (s.fenceCsi c).mem = s.mem := by simp [State.fenceCsi]

@[simp] theorem State.recordRow_mem (s : State) (block : Nat) : (s.recordRow block).mem = s.mem := by
  simp only [State.recordRow]
  split <;> simp

@[simp] theorem State.inputNotice_mem (s : State) (u : UnitCode) : (s.inputNotice u).mem = s.mem := by simp [State.inputNotice]

@[simp] theorem State.testsBad_mem (s : State) (u : UnitCode) : (s.testsBad u).mem = s.mem := by simp [State.testsBad]

@[simp] theorem State.countAer_mem (s : State) (u : UnitCode) (cls : FaultClass) : (s.countAer u cls).mem = s.mem := by
  simp only [State.countAer]
  split <;> simp

@[simp] theorem State.closeFenced_mem (s : State) (e : FaultEvent) : (s.closeFenced e).mem = s.mem := by simp [State.closeFenced]

@[simp] theorem State.repeatHealthTest_mem (s : State) (healthy : Bool) : (s.repeatHealthTest healthy).mem = s.mem := by
  simp [State.repeatHealthTest]

@[simp] theorem State.quietEnds_mem (s : State) (u : UnitCode) (ms : Nat) (healthy : Bool) : (s.quietEnds u ms healthy).mem = s.mem := by
  simp only [State.quietEnds]
  repeat' split
  all_goals simp

/-! Streams. -/

@[simp] theorem State.streamOpened_mem (s : State) (i : Nat) : (s.streamOpened i).mem = s.mem := by simp [State.streamOpened]

@[simp] theorem State.streamOn_mem (s : State) (i : Nat) : (s.streamOn i).mem = s.mem := by simp [State.streamOn]

@[simp] theorem State.overrun_mem (s : State) (i : Nat) : (s.overrun i).mem = s.mem := by simp [State.overrun]

@[simp] theorem State.decodeNext_mem (s : State) (d : Nat) (l : List SliceJob) : (s.decodeNext d l).mem = s.mem := by
  induction l generalizing s with
  | nil => rfl
  | cons j rest ih => simp [State.decodeNext, ih]

@[simp] theorem State.decodeStarts_mem (s : State) (d : Nat) : (s.decodeStarts d).mem = s.mem := by simp [State.decodeStarts]

@[simp] theorem State.amendCsi_mem (s : State) (c i : Nat) (f : CsiFrame → CsiFrame) : (s.amendCsi c i f).mem = s.mem := rfl

@[simp] theorem State.csiDrop_mem (s : State) (c : Nat) : (s.csiDrop c).mem = s.mem := by simp [State.csiDrop]

@[simp] theorem State.csiLost_mem (s : State) (i : Nat) : (s.csiLost i).mem = s.mem := by simp [State.csiLost]

@[simp] theorem State.csiBegin_mem (s : State) (c vc i : Nat) : (s.csiBegin c vc i).mem = s.mem := by simp [State.csiBegin]

@[simp] theorem State.csiApart_mem (s : State) (c i : Nat) : (s.csiApart c i).mem = s.mem := by
  simp only [State.csiApart]
  split
  · simp
  · split <;> simp

@[simp] theorem State.csiPacket_mem (s : State) (c : Nat) (q : CsiPacket) : (s.csiPacket c q).mem = s.mem := by
  have lossy (t : State) (i : Nat) : (t.amendCsi c i fun f => { f with lossy := true }).mem = t.mem := State.amendCsi_mem ..
  cases q <;> simp [State.csiPacket, State.mem_each lossy]

@[simp] theorem State.csiLine_mem (s : State) (c : Nat) (l : CsiLine) : (s.csiLine c l).mem = s.mem := by
  have lossy (t : State) (i : Nat) : (t.amendCsi c i fun f => { f with lossy := true }).mem = t.mem := State.amendCsi_mem ..
  simp [State.csiLine, State.mem_each lossy]

@[simp] theorem State.csiDown_mem (s : State) (c : Nat) : (s.csiDown c).mem = s.mem := by
  rw [State.csiDown]
  split
  · rfl
  · exact (State.mem_each (fun _ _ => State.amendCsi_mem ..) _ _).trans (State.setN_mem ..)

@[simp] theorem State.csiUp_mem (s : State) (c : Nat) : (s.csiUp c).mem = s.mem := by simp [State.csiUp]

@[simp] theorem State.retractsNext_mem (s : State) (i : Nat) (changed : Bool) : (s.retractsNext i changed).mem = s.mem := rfl

/-! Partitions. -/

@[simp] theorem State.showBlocks_mem (s : State) : (s.showBlocks).mem = s.mem := by simp [State.showBlocks]

@[simp] theorem State.assign_mem (s : State) (o : Owned) (p : Nat) : (s.assign o p).mem = s.mem := by simp [State.assign]

@[simp] theorem State.scrubNext_mem (s : State) (p : Nat) : (s.scrubNext p).mem = s.mem := by
  simp only [State.scrubNext]
  split
  · simp
  · split <;> simp

@[simp] theorem State.scrubBegins_mem (s : State) (p : Nat) (l : List Nat) : (s.scrubBegins p l).mem = s.mem := by simp [State.scrubBegins]

@[simp] theorem State.scrubShown_mem (s : State) (p : Nat) : (s.scrubShown p).mem = s.mem := by simp [State.scrubShown]

@[simp] theorem State.placeCompose_mem (s : State) (p : Nat) : (s.placeCompose p).mem = s.mem := by simp [State.placeCompose]

@[simp] theorem State.replaceCompose_mem (s : State) (p : Nat) : (s.replaceCompose p).mem = s.mem := by simp [State.replaceCompose]

@[simp] theorem State.takeKeys_mem (s : State) (p : Nat) : (s.takeKeys p).mem = s.mem := by simp [State.takeKeys]

@[simp] theorem State.partBegins_mem (s : State) (p : Nat) : (s.partBegins p).mem = s.mem := by simp [State.partBegins]

@[simp] theorem State.partStart_mem (s : State) (p : Nat) : (s.partStart p).mem = s.mem := by
  simp only [State.partStart]
  split <;> simp

@[simp] theorem State.partOn_mem (s : State) (p : Nat) : (s.partOn p).mem = s.mem := by
  simp only [State.partOn]
  split <;> simp

@[simp] theorem State.partLive_mem (s : State) (p : Nat) : (s.partLive p).mem = s.mem := by simp [State.partLive]

@[simp] theorem State.herdResets_mem (s : State) (h : Nat) : (s.herdResets h).mem = s.mem := by simp [State.herdResets]

@[simp] theorem State.teardown_mem (s : State) (p : Nat) : (s.teardown p).mem = s.mem := by
  have noted (t : State) (h : Nat) : (t.setHerdRt h { t.herdRt h with banks := [] }).mem = t.mem := rfl
  simp only [State.teardown]
  split
  · rfl
  · simp [State.mem_each noted]

@[simp] theorem State.scrubEnds_mem (s : State) (p : Nat) : (s.scrubEnds p).mem = s.mem := by simp [State.scrubEnds]

@[simp] theorem State.keysReturn_mem (s : State) : (s.keysReturn).mem = s.mem := by simp [State.keysReturn]

@[simp] theorem State.moveRatios_mem (s : State) (p n : Nat) : (s.moveRatios p n).mem = s.mem := by simp [State.moveRatios]

/-! Firmware. -/

@[simp] theorem State.setFwArea_mem (s : State) (a : Nat) (l : List Host.Cell) : (s.setFwArea a l).mem = s.mem := by simp [State.setFwArea]

@[simp] theorem State.fwBusy_mem (s : State) : (s.fwBusy).mem = s.mem := by simp [State.fwBusy]

@[simp] theorem State.fwUnstage_mem (s : State) : (s.fwUnstage).mem = s.mem := by simp [State.fwUnstage]

@[simp] theorem State.fwStage_mem (s : State) : (s.fwStage).mem = s.mem := by simp [State.fwStage]

@[simp] theorem State.fwVerified_mem (s : State) (signatureOk : Bool) : (s.fwVerified signatureOk).mem = s.mem := by simp [State.fwVerified]

@[simp] theorem State.fwDiscard_mem (s : State) : (s.fwDiscard).mem = s.mem := by simp [State.fwDiscard]

@[simp] theorem State.selectArea_mem (s : State) (a : Nat) : (s.selectArea a).mem = s.mem := rfl

@[simp] theorem State.fwSwitch_mem (s : State) : (s.fwSwitch).mem = s.mem := by
  simp only [State.fwSwitch]
  repeat' split
  all_goals simp

@[simp] theorem State.fwPartition_mem (s : State) (p : Nat) : (s.fwPartition p).mem = s.mem := by simp [State.fwPartition]

@[simp] theorem State.fwSwitched_mem (s : State) : (s.fwSwitched).mem = s.mem := by simp [State.fwSwitched]

/-! Batons and sessions. -/

@[simp] theorem State.freeFrames_mem (s : State) (z n : Nat) : (s.freeFrames z n).mem = s.mem := rfl

@[simp] theorem State.handshakeFrame_mem (s : State) (z : Nat) (h : Handshake) : (s.handshakeFrame z h).mem = s.mem := by
  simp only [State.handshakeFrame]
  repeat' split
  all_goals simp

@[simp] theorem State.sendOwed_mem (s : State) (z : Nat) : (s.sendOwed z).mem = s.mem := by simp [State.sendOwed]

@[simp] theorem State.freePayload_mem (s : State) (b : Baton) : (s.freePayload b).mem = s.mem := by
  simp only [State.freePayload]
  split <;> simp

@[simp] theorem State.ackTimeout_mem (s : State) (z : Nat) : (s.ackTimeout z).mem = s.mem := by simp [State.ackTimeout]

/-! The schedule. -/

@[simp] theorem State.showSchedule_mem (s : State) (p : Nat) (admitted : Bool) : (s.showSchedule p admitted).mem = s.mem := by
  simp [State.showSchedule]

@[simp] theorem State.setSchedule_mem (s : State) (p state error : Nat) : (s.setSchedule p state error).mem = s.mem := by
  simp [State.setSchedule]

@[simp] theorem State.closeWindows_mem (s : State) (p : Nat) : (s.closeWindows p).mem = s.mem := rfl

@[simp] theorem State.scheduleWritten_mem (s : State) (p : Nat) (b : Bytes) : (s.scheduleWritten p b).mem = s.mem := by
  simp [State.scheduleWritten]

@[simp] theorem State.recheckSchedule_mem (s : State) (p : Nat) : (s.recheckSchedule p).mem = s.mem := by simp [State.recheckSchedule]

@[simp] theorem State.anchorSweep_mem (s : State) : (s.anchorSweep).mem = s.mem := by
  refine State.mem_each (fun t p => ?_) _ _
  split <;> simp

@[simp] theorem State.windowOverrun_mem (s : State) (p : Nat) : (s.windowOverrun p).mem = s.mem := by simp [State.windowOverrun]

@[simp] theorem State.windowOpens_mem (s : State) (p w : Nat) : (s.windowOpens p w).mem = s.mem := by
  simp only [State.windowOpens]
  repeat' split
  all_goals simp

@[simp] theorem State.reportSlack_mem (s : State) (p w slack : Nat) : (s.reportSlack p w slack).mem = s.mem := rfl

@[simp] theorem State.windowCloses_mem (s : State) (p w : Nat) (lastLines : Option Nat) : (s.windowCloses p w lastLines).mem = s.mem := by
  simp only [State.windowCloses]
  repeat' split
  all_goals simp

/-! Keys and reports. -/

@[simp] theorem State.trngFails_mem (s : State) : (s.trngFails).mem = s.mem := by simp [State.trngFails]

@[simp] theorem State.showIde_mem (s : State) : (s.showIde).mem = s.mem := by simp [State.showIde]

@[simp] theorem State.ideEnds_mem (s : State) (fn : Nat) : (s.ideEnds fn).mem = s.mem := by simp [State.ideEnds]

@[simp] theorem State.ideKm_mem (s : State) (fn : Nat) (keys : Bool) : (s.ideKm fn keys).mem = s.mem := by simp [State.ideKm]

@[simp] theorem State.reportRequested_mem (s : State) (slot mask : Nat) : (s.reportRequested slot mask).mem = s.mem := by
  simp [State.reportRequested]

@[simp] theorem State.reportMade_mem (s : State) (slot : Nat) : (s.reportMade slot).mem = s.mem := by
  simp only [State.reportMade]
  repeat' split
  all_goals simp

/-! Ethernet. -/

@[simp] theorem State.mdioCommand_mem (s : State) (command : Nat) : (s.mdioCommand command).mem = s.mem := by simp [State.mdioCommand]

@[simp] theorem State.holdoffEnds_mem (s : State) (fn vector : Nat) : (s.holdoffEnds fn vector).mem = s.mem := by simp [State.holdoffEnds]

/-! Power, clocks and pace. -/

@[simp] theorem State.showRails_mem (s : State) : (s.showRails).mem = s.mem := by simp [State.showRails]

@[simp] theorem State.showJunctions_mem (s : State) (l : List Int) : (s.showJunctions l).mem = s.mem := by simp [State.showJunctions]

@[simp] theorem State.postJunction_mem (s : State) : (s.postJunction).mem = s.mem := by simp [State.postJunction]

@[simp] theorem State.junctionRead_mem (s : State) (l : List Int) : (s.junctionRead l).mem = s.mem := by simp [State.junctionRead]

@[simp] theorem State.showPace_mem (s : State) : (s.showPace).mem = s.mem := by simp [State.showPace]

@[simp] theorem State.paceMoves_mem (s : State) (quarter : Bool) : (s.paceMoves quarter).mem = s.mem := by simp [State.paceMoves]

@[simp] theorem State.pmbus_mem (s : State) (command : Nat) (word : Option Nat) : (s.pmbus command word).mem = s.mem := rfl

@[simp] theorem State.driveVout_mem (s : State) (mv : Nat) : (s.driveVout mv).mem = s.mem := rfl

@[simp] theorem State.readVout_mem (s : State) : (s.readVout).mem = s.mem := rfl

@[simp] theorem State.fixedChecked_mem (s : State) (readback : Option Nat) : (s.fixedChecked readback).mem = s.mem := by
  simp only [State.fixedChecked]
  repeat' split
  all_goals simp

@[simp] theorem State.takeSlacks_mem (s : State) : (s.takeSlacks).mem = s.mem := by simp [State.takeSlacks]

@[simp] theorem State.noQuiet_mem (s : State) : (s.noQuiet).mem = s.mem := rfl

@[simp] theorem State.showPower_mem (s : State) (watts : Option Nat) : (s.showPower watts).mem = s.mem := by simp [State.showPower]

@[simp] theorem State.showMeters_mem (s : State) : (s.showMeters).mem = s.mem := by
  refine State.mem_each (fun t k => ?_) _ _
  split <;> simp

@[simp] theorem State.showInputs_mem (s : State) : (s.showInputs).mem = s.mem := by simp [State.showInputs]

@[simp] theorem State.safeEdge_mem (s : State) (level toggling : Bool) : (s.safeEdge level toggling).mem = s.mem := by simp [State.safeEdge]

@[simp] theorem State.toggleQuiet_mem (s : State) : (s.toggleQuiet).mem = s.mem := by
  simp [State.toggleQuiet]

/-! Writes of entries. -/

@[simp] theorem State.store_mem (s : State) (k : Nat) (v : Value) : (s.store k v).mem = s.mem := by simp [State.store]

@[simp] theorem State.eventsFollow_mem (s : State) : (s.eventsFollow).mem = s.mem := rfl

@[simp] theorem State.beginSave_mem (s : State) (l : List (Nat × Value)) : (s.beginSave l).mem = s.mem := by simp [State.beginSave]

@[simp] theorem State.saves_mem (s : State) : (s.saves).mem = s.mem := by
  simp only [State.saves]
  split <;> simp

@[simp] theorem State.saveEnds_mem (s : State) (ok : Bool) : (s.saveEnds ok).mem = s.mem := by
  simp only [State.saveEnds]
  split
  · simp
  · split <;> simp

@[simp] theorem State.fillAllowedWritten_mem (s : State) (i k : Nat) (v : Value) : (s.fillAllowedWritten i k v).mem = s.mem := by
  simp [State.fillAllowedWritten]

@[simp] theorem State.fwCommand_mem (s : State) (n : Nat) : (s.fwCommand n).mem = s.mem := by
  simp only [State.fwCommand]
  split
  · simp
  · split <;> simp

@[simp] theorem State.debugEffect_mem (s : State) (v : Value) : (s.debugEffect v).mem = s.mem := by simp [State.debugEffect]

@[simp] theorem State.countClamp_mem (s : State) (who : Requester) : (s.countClamp who).mem = s.mem := by
  simp only [State.countClamp]
  split <;> simp

/-! Bring-up. -/

@[simp] theorem State.bootStops_mem (s : State) (cause : Nat) : (s.bootStops cause).mem = s.mem := by simp [State.bootStops]

@[simp] theorem State.restores_mem (s : State) : (s.restores).mem = s.mem := by
  simp only [State.restores]
  split
  · simp
  · simpa using State.mem_foldl (f := fun (t : State) (e : Nat × Value) => t.put e.1 e.2) (fun _ _ => rfl) _ s

@[simp] theorem State.bootSupply_mem (s : State) (vout : Option Nat) : (s.bootSupply vout).mem = s.mem := by
  simp only [State.bootSupply]
  split
  · simp
  · split <;> simp

@[simp] theorem State.bootFirmware_mem (s : State) (env : BootEnv) : (s.bootFirmware env).mem = s.mem := by
  simp only [State.bootFirmware]
  split <;> simp

@[simp] theorem State.bootModes_mem (s : State) : (s.bootModes).mem = s.mem := by simp [State.bootModes]

@[simp] theorem State.bootMemory_mem (s : State) (env : BootEnv) : (s.bootMemory env).mem = s.mem := by simp [State.bootMemory]

@[simp] theorem State.bootScreen_mem (s : State) (env : BootEnv) : (s.bootScreen env).mem = s.mem := by simp [State.bootScreen]

@[simp] theorem State.bootKids_mem (s : State) (test : List UnitCode) (h : Nat) : (s.bootKids test h).mem = s.mem := by
  simp [State.bootKids]

/-! CAN FD. -/

@[simp] theorem State.canCounts_mem (s : State) (rx tx : Nat) : (s.canCounts rx tx).mem = s.mem := by simp [State.canCounts]

@[simp] theorem State.canHeard_mem (s : State) : (s.canHeard).mem = s.mem := by simp [State.canHeard]

@[simp] theorem State.jalmonSend_mem (s : State) (cls seq : Nat) (data : Bytes) : (s.jalmonSend cls seq data).mem = s.mem := by
  simp only [State.jalmonSend]
  split <;> simp

@[simp] theorem State.canTransmit_mem (s : State) (seq : Nat) (data : Bytes) : (s.canTransmit seq data).mem = s.mem := by
  simp [State.canTransmit]

@[simp] theorem State.canReply_mem (s : State) (seq cmd key type : Nat) (value : Bytes) : (s.canReply seq cmd key type value).mem = s.mem :=
  by simp [State.canReply]

@[simp] theorem State.canAbort_mem (s : State) (seq key code : Nat) : (s.canAbort seq key code).mem = s.mem := by simp [State.canAbort]

@[simp] theorem State.canSegment_mem (s : State) (seq : Nat) (last : Bool) (segment : Nat) (data : Bytes) :
    (s.canSegment seq last segment data).mem = s.mem := by simp [State.canSegment]

@[simp] theorem State.canRead_mem (s : State) (f : JalmonFrame) : (s.canRead f).mem = s.mem := by simp [State.canRead]

@[simp] theorem State.opensTransfer_mem (s : State) (x : Transfer) : (s.opensTransfer x).mem = s.mem := rfl

@[simp] theorem State.closesTransfer_mem (s : State) : (s.closesTransfer).mem = s.mem := rfl

@[simp] theorem State.canReadStart_mem (s : State) (f : JalmonFrame) : (s.canReadStart f).mem = s.mem := by simp [State.canReadStart]

@[simp] theorem State.canWriteStart_mem (s : State) (f : JalmonFrame) : (s.canWriteStart f).mem = s.mem := by simp [State.canWriteStart]

@[simp] theorem State.readSegment_mem (s : State) (x : Transfer) : (s.readSegment x).mem = s.mem := by simp [State.readSegment]

@[simp] theorem State.canCancels_mem (s : State) (f : JalmonFrame) : (s.canCancels f).mem = s.mem := by
  simp only [State.canCancels]
  split <;> simp

@[simp] theorem State.segmentLate_mem (s : State) : (s.segmentLate).mem = s.mem := by
  simp only [State.segmentLate]
  split <;> simp

@[simp] theorem State.busError_mem (s : State) (e : CanBusError) : (s.busError e).mem = s.mem := by
  simp only [State.busError]
  repeat' split
  all_goals simp

@[simp] theorem State.rejoinsBus_mem (s : State) : (s.rejoinsBus).mem = s.mem := by simp [State.rejoinsBus]

@[simp] theorem State.queueLost_mem (s : State) : (s.queueLost).mem = s.mem := by simp [State.queueLost]

@[simp] theorem State.sendEvent_mem (s : State) : (s.sendEvent).mem = s.mem := by
  simp only [State.sendEvent]
  split
  · simp
  · split <;> simp

/-! Mailboxes. -/

@[simp] theorem State.mailboxAbort_mem (s : State) (fn command code : Nat) : (s.mailboxAbort fn command code).mem = s.mem := by
  simp [State.mailboxAbort]

@[simp] theorem State.mailboxRead_mem (s : State) (fn k : Nat) : (s.mailboxRead fn k).mem = s.mem := by simp [State.mailboxRead]

@[simp] theorem State.mailboxDone_mem (s : State) (fn : Nat) : (s.mailboxDone fn).mem = s.mem := by simp [State.mailboxDone]

@[simp] theorem State.mailboxAck_mem (s : State) (fn value : Nat) : (s.mailboxAck fn value).mem = s.mem := by simp [State.mailboxAck]

end Sys2Proof.Machine
end

section
/-! The canonical form of external memory (R17, R381): every operation that stores bytes keeps it. -/

namespace Sys2Proof.Machine

open Sys2Proof

@[simp] theorem Memory.wf_nil : Memory.wf [] = true := rfl

@[simp] theorem Memory.wf_ite {c : Prop} [Decidable c] (m m' : List Host.Cell) :
    Memory.wf (if c then m else m') = true ↔ if c then Memory.wf m = true else Memory.wf m' = true := by
  split <;> rfl

@[simp] theorem State.toOff_mem (s : State) : s.toOff.mem = [] := rfl

@[simp] theorem State.restarts_mem (s : State) : s.restarts.mem = [] := rfl

theorem State.ite_wf {c : Prop} [Decidable c] {s t : State} (hs : Memory.wf s.mem = true) (ht : Memory.wf t.mem = true) :
    Memory.wf (if c then s else t).mem = true := by
  split
  · exact hs
  · exact ht

theorem State.each_wf {α : Type} {f : State → α → State} (h : ∀ t a, Memory.wf t.mem = true → Memory.wf (f t a).mem = true) {s : State}
    (wf : Memory.wf s.mem = true) (l : List α) : Memory.wf (s.each l f).mem = true := by
  induction l generalizing s with
  | nil => exact wf
  | cons a r ih => exact ih (h s a wf)

/-- A pass that collects something beside the state. -/
theorem State.foldl_snd_wf {α β : Type} {f : β × State → α → β × State}
    (h : ∀ acc a, Memory.wf acc.2.mem = true → Memory.wf (f acc a).2.mem = true) {acc : β × State} (wf : Memory.wf acc.2.mem = true)
    (l : List α) : Memory.wf (l.foldl f acc).2.mem = true := by
  induction l generalizing acc with
  | nil => exact wf
  | cons a r ih => exact ih (h acc a wf)

theorem State.foldl_fst_wf {α β : Type} {f : State × β → α → State × β}
    (h : ∀ acc a, Memory.wf acc.1.mem = true → Memory.wf (f acc a).1.mem = true) {acc : State × β} (wf : Memory.wf acc.1.mem = true)
    (l : List α) : Memory.wf (l.foldl f acc).1.mem = true := by
  induction l generalizing acc with
  | nil => exact wf
  | cons a r ih => exact ih (h acc a wf)

@[simp] theorem State.ifOn_wf {s t : State} (hs : Memory.wf s.mem = true) (ht : Memory.wf t.mem = true) :
    Memory.wf (s.ifOn t).mem = true := State.ite_wf hs ht

@[simp] theorem State.ifRunning_wf {s t : State} (hs : Memory.wf s.mem = true) (ht : Memory.wf t.mem = true) :
    Memory.wf (s.ifRunning t).mem = true := State.ite_wf ht hs


/-! The arrival log. -/

@[simp] theorem State.logArrival_wf {s : State} (wf : Memory.wf s.mem = true) (p kind port stream frame value : Nat) :
    Memory.wf (s.logArrival p kind port stream frame value).mem = true := by simp [State.logArrival, State.writeMem_wf, wf]

@[simp] theorem State.activate_wf {s : State} (wf : Memory.wf s.mem = true) (i slot : Nat) : Memory.wf (s.activate i slot).mem = true := by
  simp [State.activate, wf]

/-! Frame generation. -/

@[simp] theorem State.chooseAll_wf {s : State} (wf : Memory.wf s.mem = true) (n : Nat) : Memory.wf (s.chooseAll n).mem = true := by
  simp only [State.chooseAll]
  refine State.each_wf (fun t i ht => by rwa [State.pruneFrames_mem]) ?_ _
  rw [State.reapJobs_mem]
  refine State.logArrival_wf ?_ _ _ _ _ _ _
  rw [State.setPortRt_mem, State.mem_each, State.mem_foldl_snd, State.mem_foldl_snd, State.mem_foldl_snd]
  · simpa using wf
  · exact fun acc i => State.chooseStream_mem ..
  · intro acc l
    split
    · rfl
    · exact State.placeView_mem ..
  · exact fun acc l => State.placeRender_mem ..
  · intro t c
    split
    · split <;> rfl
    · rfl

@[simp] theorem State.makeReady_wf {s : State} (wf : Memory.wf s.mem = true) (i ordinal : Nat) :
    Memory.wf (s.makeReady i ordinal).mem = true := by
  simp only [State.makeReady]
  split <;> simp [wf]

@[simp] theorem State.endReplay_wf {s : State} (wf : Memory.wf s.mem = true) (p : Nat) : Memory.wf (s.endReplay p).mem = true := by
  refine State.each_wf (fun t e ht => State.makeReady_wf ht _ _) ?_ _
  simpa using wf

@[simp] theorem State.replayTo_wf {s : State} (wf : Memory.wf s.mem = true) (p n F : Nat) (fuel : Nat) :
    Memory.wf (s.replayTo p n F fuel).mem = true := by
  induction fuel generalizing s with
  | zero => exact State.endReplay_wf wf _
  | succ k ih =>
    simp only [State.replayTo]
    repeat' split
    all_goals simp [ih, wf]

@[simp] theorem State.viewLate_wf {s : State} (wf : Memory.wf s.mem = true) (n F : Nat) (l : LayerDesc) (v : ViewChoice) (pic : Pic)
    (named : Bool) :
    Memory.wf (s.viewLate n F l v pic named).2.mem = true := by simp [State.viewLate, wf]

@[simp] theorem State.settleView_wf {s : State} (wf : Memory.wf s.mem = true) (n F : Nat) (v : ViewChoice) :
    Memory.wf (s.settleView n F v).2.mem = true := by
  simp only [State.settleView]
  repeat' split
  all_goals simp [wf]

@[simp] theorem State.settleViews_wf {s : State} (wf : Memory.wf s.mem = true) (n F : Nat) : Memory.wf (s.settleViews n F).mem = true := by
  simp only [State.settleViews]
  split
  · exact wf
  · refine State.ite_wf wf ?_
    rw [State.mem_each fun _ _ => State.holdLead_mem ..]
    simp only [State.mem_ite, State.setPartRt_mem, ite_self, State.mem_each fun _ _ => State.add_mem .., State.setPortRt_mem, State.add_mem]
    refine State.foldl_snd_wf (fun acc v ht => ?_) ?_ _
    · rwa [State.settleRender_mem]
    · refine State.foldl_snd_wf (fun acc v ht => ?_) ?_ _
      · exact State.settleView_wf ht ..
      · exact wf

/-! Port frames. -/

@[simp] theorem State.writeRecord_wf {s : State} (wf : Memory.wf s.mem = true) (n : Nat) : Memory.wf (s.writeRecord n).mem = true := by
  simp only [State.writeRecord]
  split <;> simp [State.writeMem_wf, wf]

@[simp] theorem State.frameStart_wf {s : State} (wf : Memory.wf s.mem = true) (n holdCrc : Nat) :
    Memory.wf (s.frameStart n holdCrc).mem = true := by simp [State.frameStart, wf]

@[simp] theorem State.composeAt_wf {s : State} (wf : Memory.wf s.mem = true) (n : Nat) : Memory.wf (s.composeAt n).mem = true := by
  simp only [State.composeAt]
  split
  · simp [wf]
  · split <;> simp [wf]

@[simp] theorem State.composeDone_wf {s : State} (wf : Memory.wf s.mem = true) (n crc : Nat) :
    Memory.wf (s.composeDone n crc).mem = true := by
  simp only [State.composeDone]
  split <;> simp [wf]

@[simp] theorem State.composeIsLate_wf {s : State} (wf : Memory.wf s.mem = true) (n : Nat) : Memory.wf (s.composeIsLate n).mem = true := by
  simp only [State.composeIsLate]
  split <;> simp [wf]

@[simp] theorem State.choiceAt_wf {s : State} (wf : Memory.wf s.mem = true) (n : Nat) : Memory.wf (s.choiceAt n).mem = true := by
  simp [State.choiceAt, wf]

/-! Rings. -/

@[simp] theorem State.takeEntry_wf {s : State} (wf : Memory.wf s.mem = true) (p r : Nat) : Memory.wf (s.takeEntry p r).mem = true := by
  simp [State.takeEntry, State.writeMem_wf, wf]

@[simp] theorem State.complete_wf {s : State} (wf : Memory.wf s.mem = true) (p r index tag : Nat) (irq : Bool) (cause : Nat) :
    Memory.wf (s.complete p r index tag irq cause).mem = true := by
  simp only [State.complete]
  split <;> simp [State.writeMem_wf, wf]

@[simp] theorem State.endJob_wf {s : State} (wf : Memory.wf s.mem = true) (id cause : Nat) : Memory.wf (s.endJob id cause).mem = true := by
  simp only [State.endJob]
  split <;> simp [wf]

@[simp] theorem State.takeAndEnd_wf {s : State} (wf : Memory.wf s.mem = true) (p r e cause : Nat) :
    Memory.wf (s.takeAndEnd p r e cause).mem = true := by simp [State.takeAndEnd, wf]

@[simp] theorem State.takeJob_wf {s : State} (wf : Memory.wf s.mem = true) (p r e : Nat) (f : RingJob → RingJob) :
    Memory.wf (s.takeJob p r e f).mem = true := by simp [State.takeJob, wf]

theorem State.withEntry_wf {s : State} (wf : Memory.wf s.mem = true) {r kind : Nat} {f : Nat → Nat → State}
    (act : ∀ p e, Memory.wf (f p e).mem = true) : Memory.wf (s.withEntry r kind f).mem = true := by
  unfold State.withEntry
  split
  · exact State.ite_wf (act _ _) wf
  · exact wf

@[simp] theorem State.ringNop_wf {s : State} (wf : Memory.wf s.mem = true) (r : Nat) : Memory.wf (s.ringNop r).mem = true :=
  State.withEntry_wf wf fun _ _ => State.takeAndEnd_wf wf ..

@[simp] theorem State.ringFence_wf {s : State} (wf : Memory.wf s.mem = true) (r : Nat) :
    Memory.wf (s.ringFence r).mem = true := State.withEntry_wf wf fun p e => by
  split
  · exact State.takeAndEnd_wf wf ..
  · exact wf

@[simp] theorem State.ringMalformed_wf {s : State} (wf : Memory.wf s.mem = true) (r : Nat) : Memory.wf (s.ringMalformed r).mem = true := by
  simp only [State.ringMalformed]
  split <;> simp [wf]

@[simp] theorem State.ringCopy_wf {s : State} (wf : Memory.wf s.mem = true) (r : Nat) :
    Memory.wf (s.ringCopy r).mem = true := State.withEntry_wf wf fun p e => by
  dsimp only
  split
  · exact State.takeJob_wf wf ..
  · exact State.takeAndEnd_wf wf ..

@[simp] theorem State.copyDone_wf {s : State} (wf : Memory.wf s.mem = true) (id : Nat) (host : Bytes) :
    Memory.wf (s.copyDone id host).mem = true := by
  simp only [State.copyDone]
  repeat' split
  all_goals simp [State.writeMem_wf, wf]

@[simp] theorem State.copyFails_wf {s : State} (wf : Memory.wf s.mem = true) (id : Nat) : Memory.wf (s.copyFails id).mem = true := by
  simp only [State.copyFails]
  split <;> simp [wf]

@[simp] theorem State.ringCompute_wf {s : State} (wf : Memory.wf s.mem = true) (r : Nat) : Memory.wf (s.ringCompute r).mem = true := by
  refine State.withEntry_wf wf fun p e => ?_
  dsimp only
  split
  · exact State.takeAndEnd_wf wf ..
  · split
    · exact wf
    · simp [State.takeJob_wf wf]

@[simp] theorem State.endJobs_wf {s : State} (wf : Memory.wf s.mem = true) (f : RingJob → Bool) (cause : Nat) :
    Memory.wf (s.endJobs f cause).mem = true := by
  refine State.each_wf (fun t a ht => ?_) wf _
  simp [ht]

/-! The raster pipeline. -/

@[simp] theorem State.showTarget_wf {s : State} (wf : Memory.wf s.mem = true) (p target : Nat) (drawing : Option Nat) :
    Memory.wf (s.showTarget p target drawing).mem = true := by simp [State.showTarget, State.writeMem_wf, wf]

@[simp] theorem State.refuseHeader_wf {s : State} (wf : Memory.wf s.mem = true) (p r e : Nat) :
    Memory.wf (s.refuseHeader p r e).mem = true := by simp [State.refuseHeader, wf]

@[simp] theorem State.openPass_wf {s : State} (wf : Memory.wf s.mem = true) (p r e h d buffer : Nat) :
    Memory.wf (s.openPass p r e h d buffer).mem = true := by
  simp only [State.openPass, State.holdOutputs_mem]
  refine State.showTarget_wf ?_ _ _ _
  simp [State.takeJob_wf wf]

@[simp] theorem State.passOpens_wf {s : State} (wf : Memory.wf s.mem = true) (r : Nat) : Memory.wf (s.passOpens r).mem = true := by
  refine State.withEntry_wf wf fun p e => ?_
  dsimp only
  split
  · exact wf
  · split
    · split
      · exact State.refuseHeader_wf wf ..
      · split
        · split
          · exact wf
          · exact State.openPass_wf wf ..
        · exact wf
    · exact State.takeAndEnd_wf wf ..

@[simp] theorem State.abandonPass_wf {s : State} (wf : Memory.wf s.mem = true) (q : Pass) (cause : Nat) :
    Memory.wf (s.abandonPass q cause).mem = true := by
  simp only [State.abandonPass, State.releaseHeld_mem]
  refine State.each_wf (fun t b ht => State.endJob_wf ht _ _) (State.endJob_wf ?_ _ _) _
  rw [State.restartHistory_mem]
  refine State.showTarget_wf ?_ _ _ _
  simpa using wf

@[simp] theorem State.binMore_wf {s : State} (wf : Memory.wf s.mem = true) (q : Pass) : Memory.wf (s.binMore q).mem = true := by
  simp only [State.binMore]
  split
  · simp [wf]
  · split <;> simp [wf]

@[simp] theorem State.resumeBins_wf {s : State} (wf : Memory.wf s.mem = true) (p : Nat) : Memory.wf (s.resumeBins p).mem = true := by
  refine State.each_wf (fun t a ht => ?_) wf _
  split <;> simp [ht]

@[simp] theorem State.binOn_wf {s : State} (wf : Memory.wf s.mem = true) (q : Pass) : Memory.wf (s.binOn q).mem = true := by
  simp [State.binOn, wf]

@[simp] theorem State.batchBins_wf {s : State} (wf : Memory.wf s.mem = true) (r : Nat) : Memory.wf (s.batchBins r).mem = true := by
  refine State.withEntry_wf wf fun p e => ?_
  dsimp only
  split
  · exact wf
  · split
    · split
      · split
        · exact State.refuseHeader_wf wf ..
        · split
          · exact State.takeAndEnd_wf wf ..
          · split
            · exact wf
            · exact State.binOn_wf (State.takeJob_wf wf ..) _
      · exact State.refuseHeader_wf wf ..
    · exact State.takeAndEnd_wf wf ..

@[simp] theorem State.partialDone_wf {s : State} (wf : Memory.wf s.mem = true) (p : Nat) : Memory.wf (s.partialDone p).mem = true := by
  simp only [State.partialDone]
  split <;> simp [wf]

/-! Tiles. -/

@[simp] theorem State.writeFree_wf {s : State} (wf : Memory.wf s.mem = true) (p o n : Nat) : Memory.wf (s.writeFree p o n).mem = true := by
  refine State.each_wf (fun t a ht => ?_) wf _
  simp [State.writeMem_wf, ht]

@[simp] theorem State.writePlane_wf {s : State} (wf : Memory.wf s.mem = true) (q : Pass) (tile base bytes : Nat) (codes : List Nat) :
    Memory.wf (s.writePlane q tile base bytes codes).mem = true :=
  State.each_wf (fun _ _ ht => State.writeFree_wf ht _ _ _) (State.each_wf (fun _ _ ht => State.writeMem_wf _ _ _ _ ht) wf _) _

@[simp] theorem State.tileStarts_wf {s : State} (wf : Memory.wf s.mem = true) (u : Nat) (left : List Nat) :
    Memory.wf (s.tileStarts u left).mem = true := by
  simp only [State.tileStarts]
  split
  · simp [wf]
  · split <;> simp [wf]

theorem State.placeDepth_mem {s t : State} {q : Pass} {tile : Nat} {codes : List Nat} {r : Reserved}
    (placed : s.placeDepth q tile codes = some (t, r)) : t.mem = s.mem := by
  simp only [State.placeDepth] at placed
  split at placed
  · cases placed
  · cases placed
    rfl

@[simp] theorem State.tileEnds_wf {s : State} (wf : Memory.wf s.mem = true) (u : Nat) (shaded : List (List Nat)) :
    Memory.wf (s.tileEnds u shaded).mem = true := by
  unfold State.tileEnds
  split
  · exact wf
  · split
    · exact wf
    · extract_lets d k pixels n colours m planes part base t1 t2 t3 q' t4
      have written : Memory.wf t2.mem = true := by
        have colour : Memory.wf t1.mem = true := State.each_wf (fun t j ht => State.writePlane_wf ht ..) wf _
        dsimp only [t2]
        split
        · exact State.each_wf (fun t j ht => State.writePlane_wf ht ..) colour _
        · exact colour
      have passed : Memory.wf t4.mem = true := by simpa [t4, t3] using written
      split
      · split
        · exact State.resumeBins_wf (State.abandonPass_wf passed _ _) _
        · rename_i placed
          refine State.resumeBins_wf ?_ _
          simpa [State.placeDepth_mem placed] using passed
      · exact State.resumeBins_wf (by simpa using passed) _

@[simp] theorem State.resolveTile_wf {s : State} (wf : Memory.wf s.mem = true) (q : Pass) (tile : Nat) :
    Memory.wf (s.resolveTile q tile).mem = true := by simp [State.resolveTile, wf]

@[simp] theorem State.writeMotion_wf {s : State} (wf : Memory.wf s.mem = true) (q : Pass) (tile : Nat) :
    Memory.wf (s.writeMotion q tile).mem = true := by
  refine State.each_wf (fun t a ht => ?_) wf _
  simp [State.writeMem_wf, ht]

@[simp] theorem State.passEnds_wf {s : State} (wf : Memory.wf s.mem = true) (p : Nat) : Memory.wf (s.passEnds p).mem = true := by
  simp only [State.passEnds]
  split
  · exact wf
  · rename_i q _
    refine State.resumeBins_wf ?_ _
    rw [State.releaseHeld_mem]
    refine State.each_wf (fun t b ht => State.endJob_wf ht _ _) (State.endJob_wf (State.showTarget_wf ?_ _ _ _) _ _) _
    have resolved : Memory.wf (if descSamples q.desc = 1 then s
        else s.each (List.range (tileCount q.desc)) fun t k => t.resolveTile q k).mem = true := by
      split
      · exact wf
      · exact State.each_wf (fun t k ht => State.resolveTile_wf ht _ _) wf _
    simp only [State.showReserve_mem, State.bump_mem, State.setTarget_mem, State.setPasses_mem]
    split
    · exact State.each_wf (fun t k ht => State.writeMotion_wf ht _ _) resolved _
    · exact resolved

@[simp] theorem State.passLate_wf {s : State} (wf : Memory.wf s.mem = true) (p : Nat) : Memory.wf (s.passLate p).mem = true := by
  simp only [State.passLate]
  split <;> simp [wf]

@[simp] theorem State.dropPasses_wf {s : State} (wf : Memory.wf s.mem = true) (p : Nat) : Memory.wf (s.dropPasses p).mem = true := by
  refine State.each_wf (fun t a ht => ?_) wf _
  simp [ht]

/-! Ray queries. -/

@[simp] theorem State.queryTaken_wf {s : State} (wf : Memory.wf s.mem = true) (r : Nat) : Memory.wf (s.queryTaken r).mem = true := by
  refine State.withEntry_wf wf fun p e => ?_
  dsimp only
  split
  · exact wf
  · split
    · split
      · exact State.takeAndEnd_wf wf ..
      · simp [State.takeJob_wf wf]
    · exact State.takeAndEnd_wf wf ..

@[simp] theorem State.queryEnds_wf {s : State} (wf : Memory.wf s.mem = true) (u : Nat) : Memory.wf (s.queryEnds u).mem = true := by
  simp only [State.queryEnds]
  split
  · exact wf
  · rw [State.startQueries_mem]
    refine State.endJob_wf ?_ _ _
    split
    · simpa using wf
    · simp only [State.meter_mem, State.add_mem]
      refine State.each_wf (fun t e ht => ?_) (by simpa using wf) _
      split
      · exact State.writeMem_wf _ _ _ _ ht
      · exact State.writeFree_wf ht ..

/-! Slots and laps. -/

@[simp] theorem State.emptySlot_wf {s : State} (wf : Memory.wf s.mem = true) (k : Nat) : Memory.wf (s.emptySlot k).mem = true := by
  simp [State.emptySlot, wf]

@[simp] theorem State.unloadSlot_wf {s : State} (wf : Memory.wf s.mem = true) (k : Nat) : Memory.wf (s.unloadSlot k).mem = true := by
  simp [State.unloadSlot, wf]

@[simp] theorem State.atBoundary_wf {s : State} (wf : Memory.wf s.mem = true) (k : Nat) : Memory.wf (s.atBoundary k).mem = true := by
  simp [State.atBoundary, wf]

theorem State.endLane_wf {s : State} (wf : Memory.wf s.mem = true) (p : Nat) (t : TableImage) (l : Lap) (lane : Nat) :
    Memory.wf (s.endLane p t l lane).1.mem = true := by
  unfold State.endLane
  extract_lets id finish
  have finished : Memory.wf (finish s).mem = true := by
    dsimp only [finish]
    split
    · exact State.endJob_wf wf _ _
    · split <;> simp [wf]
  split
  · exact wf
  · split
    · split
      · rwa [State.bump_mem]
      · rwa [State.widenJob_mem]
    · exact finished

@[simp] theorem State.lapEnds_wf {s : State} (wf : Memory.wf s.mem = true) (k tenNs : Nat) : Memory.wf (s.lapEnds k tenNs).mem = true := by
  simp only [State.lapEnds]
  split
  · refine State.ite_wf wf ?_
    rw [State.takeShed_mem]
    refine State.atBoundary_wf ?_ _
    rw [State.flushUnits_mem]
    rw [State.mem_each fun _ _ => State.setHerdRt_mem ..]
    refine State.ite_wf ?_ ?_
    · rw [State.mem_each fun _ _ => State.bump_mem .., State.reissueJobs_mem, State.bump_mem, State.setSlotRt_mem]
      rwa [State.purgeBatons_mem]
    · rw [State.countStats_mem, State.mem_each fun _ _ => by simp]
      simp only [State.mem_ite, State.bump_mem, State.setN_mem, State.reissueJobs_mem, ite_self]
      refine State.foldl_fst_wf (fun acc lane ht => ?_) ?_ _
      · exact State.endLane_wf ht ..
      · simpa using wf
  · exact wf

/-! Tensors. -/

@[simp] theorem State.storeRows_wf {s : State} (wf : Memory.wf s.mem = true) (u : OpUnit) (g : AddrConfig) (f mode channels ho : Nat)
    (rows : List RowOut) :
    Memory.wf (s.storeRows u g f mode channels ho rows).mem = true := by
  simp only [State.storeRows]
  split
  · exact wf
  · refine State.each_wf (fun t e ht => ?_) wf _
    split
    · exact State.writeMem_wf _ _ _ _ (State.writeMem_wf _ _ _ _ ht)
    · exact State.writeMem_wf _ _ _ _ ht

/-! Convolutions. -/

@[simp] theorem State.planarOut_wf {s : State} (wf : Memory.wf s.mem = true) (u : OpUnit) (g : AddrConfig) (c : ConvConfig)
    (channels : Nat) (rows : List RowOut) :
    Memory.wf (s.planarOut u g c channels rows).mem = true := by simp [State.planarOut, wf]

@[simp] theorem State.groupconvOp_wf {s : State} (wf : Memory.wf s.mem = true) (u : OpUnit) (g : AddrConfig) (c : ConvConfig) (x : Tensor)
    (w : List (List Nat)) (j : RescaleJob) :
    Memory.wf (s.groupconvOp u g c x w j).mem = true := by simp [State.groupconvOp, wf]

@[simp] theorem State.blockconvOp_wf {s : State} (wf : Memory.wf s.mem = true) (u : OpUnit) (g : AddrConfig) (c : ConvConfig) (x : Tensor)
    (w : List (List Int)) (j : RescaleJob) :
    Memory.wf (s.blockconvOp u g c x w j).mem = true := by simp [State.blockconvOp, wf]

@[simp] theorem State.poolOp_wf {s : State} (wf : Memory.wf s.mem = true) (u : OpUnit) (g : AddrConfig) (c : ConvConfig) (x : Tensor) :
    Memory.wf (s.poolOp u g c x).mem = true := by simp [State.poolOp, wf]

@[simp] theorem State.planariseOp_wf {s : State} (wf : Memory.wf s.mem = true) (u : OpUnit) (g : AddrConfig) (rows : List (List Nat)) :
    Memory.wf (s.planariseOp u g rows).mem = true := by simp [State.planariseOp, wf]

/-! Adaptation. -/

@[simp] theorem State.adaptFree_wf {s : State} (wf : Memory.wf s.mem = true) (i : Nat) : Memory.wf (s.adaptFree i).mem = true := by
  simp [State.adaptFree, wf]

@[simp] theorem State.adaptSweep_wf {s : State} (wf : Memory.wf s.mem = true) (p : Nat) : Memory.wf (s.adaptSweep p).mem = true := by
  refine State.each_wf (fun t a ht => ?_) wf _
  simp [ht]

@[simp] theorem State.adaptSweepAll_wf {s : State} (wf : Memory.wf s.mem = true) : Memory.wf s.adaptSweepAll.mem = true := by
  refine State.each_wf (fun t a ht => ?_) wf _
  simp [ht]

@[simp] theorem State.adaptFrame_wf {s : State} (wf : Memory.wf s.mem = true) (i ordinal : Nat) :
    Memory.wf (s.adaptFrame i ordinal).mem = true := by
  simp only [State.adaptFrame]
  repeat' split
  all_goals simp [wf]

@[simp] theorem State.trainingStarts_wf {s : State} (wf : Memory.wf s.mem = true) (k : Nat) :
    Memory.wf (s.trainingStarts k).mem = true := by
  simp only [State.trainingStarts]
  have idle : Memory.wf ((s.adaptSweep ((s.beforeLap k).slotRunner k)).adaptResumes ((s.beforeLap k).slotRunner k)).mem = true := by
    simpa using State.adaptSweep_wf wf _
  split
  · exact idle
  · refine State.ite_wf idle ?_
    rw [State.mem_each fun _ _ => State.setAdaptOf_mem .., State.setAdaptPart_mem, State.beginLap_mem]
    simpa using State.adaptSweep_wf (by simpa using wf) _

@[simp] theorem State.promote_wf {s : State} (wf : Memory.wf s.mem = true) (p i : Nat) : Memory.wf (s.promote p i).mem = true := by
  simp [State.promote, wf]

@[simp] theorem State.testEnds_wf {s : State} (wf : Memory.wf s.mem = true) (p i : Nat) : Memory.wf (s.testEnds p i).mem = true := by
  simp only [State.testEnds]
  split <;> simp [wf]

@[simp] theorem State.trainingEnds_wf {s : State} (wf : Memory.wf s.mem = true) (k : Nat) : Memory.wf (s.trainingEnds k).mem = true := by
  simp only [State.trainingEnds]
  split
  · exact wf
  · refine State.ite_wf wf (State.ite_wf (by rw [State.mem_each fun _ _ => State.setAdaptOf_mem ..]; simpa using wf)
      (State.each_wf (fun t i ht => State.testEnds_wf ht _ _) ?_ _))
    simpa using wf

@[simp] theorem State.budgetPeriod_wf {s : State} (wf : Memory.wf s.mem = true) (p : Nat) : Memory.wf (s.budgetPeriod p).mem = true := by
  simp [State.budgetPeriod, wf]

@[simp] theorem State.applyCommand_wf {s : State} (wf : Memory.wf s.mem = true) (p w : Nat) :
    Memory.wf (s.applyCommand p w).mem = true := by
  simp only [State.applyCommand]
  repeat' split
  all_goals simp [wf]

@[simp] theorem State.adaptCommand_wf {s : State} (wf : Memory.wf s.mem = true) (p w : Nat) : Memory.wf (s.adaptCommand p w).mem = true :=
  by simp [State.adaptCommand, wf]

@[simp] theorem State.adaptDrain_wf {s : State} (wf : Memory.wf s.mem = true) (p : Nat) : Memory.wf (s.adaptDrain p).mem = true := by
  simp only [State.adaptDrain]
  split
  · exact wf
  · refine State.each_wf (fun t e ht => ?_) (by simpa using wf) _
    split
    · split
      · simpa using ht
      · exact State.applyCommand_wf ht ..
    · split
      · exact State.promote_wf ht ..
      · exact ht

@[simp] theorem State.weightsLost_wf {s : State} (wf : Memory.wf s.mem = true) (i : Nat) (ofCandidate : Bool) :
    Memory.wf (s.weightsLost i ofCandidate).mem = true := by simp [State.weightsLost, wf]

@[simp] theorem State.adaptMode_wf {s : State} (wf : Memory.wf s.mem = true) (i mode : Nat) : Memory.wf (s.adaptMode i mode).mem = true :=
  by simp [State.adaptMode, wf]

/-! Faults. -/

@[simp] theorem State.endHostCopies_wf {s : State} (wf : Memory.wf s.mem = true) (f : RingJob → Bool) :
    Memory.wf (s.endHostCopies f).mem = true := by
  refine State.each_wf (fun t a ht => ?_) wf _
  simp [ht]

@[simp] theorem State.hostLinkLost_wf {s : State} (wf : Memory.wf s.mem = true) (state : Nat) :
    Memory.wf (s.hostLinkLost state).mem = true := by simp [State.hostLinkLost, wf]

@[simp] theorem State.fenceEffect_wf {s : State} (wf : Memory.wf s.mem = true) (u : UnitCode) : Memory.wf (s.fenceEffect u).mem = true := by
  simp only [State.fenceEffect]
  split
  case h_7 => exact State.each_wf (fun t q ht => State.abandonPass_wf ht _ _) wf _
  all_goals simp [wf]

@[simp] theorem State.logFence_wf {s : State} (wf : Memory.wf s.mem = true) (u : UnitCode) : Memory.wf (s.logFence u).mem = true := by
  refine State.each_wf (fun t a ht => ?_) wf _
  simp [ht]

@[simp] theorem State.fence_wf {s : State} (wf : Memory.wf s.mem = true) (u : UnitCode) : Memory.wf (s.fence u).mem = true := by
  simp [State.fence, wf]

@[simp] theorem State.unfence_wf {s : State} (wf : Memory.wf s.mem = true) (u : UnitCode) : Memory.wf (s.unfence u).mem = true := by
  simp only [State.unfence]
  split
  case h_5 => exact State.each_wf (fun t p ht => State.resumeBins_wf ht _) (by simpa using wf) _
  all_goals simp [wf]

@[simp] theorem State.actOn_wf {s : State} (wf : Memory.wf s.mem = true) (reporter suspect : UnitCode) (cls : FaultClass) (detail : Nat)
    (ports : List Nat) :
    Memory.wf (s.actOn reporter suspect cls detail ports).mem = true := by simp [State.actOn, wf]

@[simp] theorem State.checkKids_wf {s : State} (wf : Memory.wf s.mem = true) (reporter suspect : UnitCode) :
    Memory.wf (s.checkKids reporter suspect).mem = true := by simp [State.checkKids, wf]

@[simp] theorem State.checkRoutes_wf {s : State} (wf : Memory.wf s.mem = true) (suspect : UnitCode) :
    Memory.wf (s.checkRoutes suspect).mem = true := by
  simp only [State.checkRoutes]
  split
  · exact State.each_wf (fun t u ht => State.checkKids_wf (State.actOn_wf ht ..) _ _) wf _
  · exact wf

@[simp] theorem State.correctable_wf {s : State} (wf : Memory.wf s.mem = true) (u : UnitCode) : Memory.wf (s.correctable u).mem = true := by
  simp only [State.correctable]
  split
  · simpa using wf
  · split
    · exact State.checkRoutes_wf (State.checkKids_wf (State.actOn_wf (by simpa using wf) ..) _ _) _
    · simpa using wf

@[simp] theorem State.anchorError_wf {s : State} (wf : Memory.wf s.mem = true) (freed : Option Nat) :
    Memory.wf (s.anchorError freed).mem = true := by
  simp only [State.anchorError]
  repeat' split
  all_goals simp [wf]

@[simp] theorem State.memoryError_wf {s : State} (wf : Memory.wf s.mem = true) (reporter channel : UnitCode) (block : Nat)
    (integrity : Bool) (ports : List Nat) (hit : DataHit) :
    Memory.wf (s.memoryError reporter channel block integrity ports hit).mem = true := by
  have lost : Memory.wf ((((s.bump Entry.faultMemoryUncorrectable).abandonReaders hit.engines).each hit.slots
      fun t (k : Fin 128) => t.abandonLap k).each hit.weights fun t e => t.weightsLost e.1 e.2).mem = true :=
    State.each_wf (fun t e ht => State.weightsLost_wf ht _ _) (by simpa using wf) _
  unfold State.memoryError
  dsimp only
  rw [State.mem_ite, State.enterHold_mem, ite_self]
  refine State.actOn_wf ?_ _ _ _ _ _
  simpa using lost

@[simp] theorem State.fcReport_wf {s : State} (wf : Memory.wf s.mem = true) (r : FaultReport) (ms : Nat) (integrity : Bool)
    (ports : List Nat) (freed : Option Nat) (hit : DataHit) :
    Memory.wf (s.fcReport r ms integrity ports freed hit).mem = true := by
  unfold State.fcReport
  have timed : Memory.wf ({ s with fc := { s.fc with ms := ms } } : State).mem = true := wf
  generalize ({ s with fc := { s.fc with ms := ms } } : State) = t at timed
  dsimp only
  generalize (if r.cls = .wiring then r.reporter else r.suspect) = suspect
  have counted : Memory.wf (t.countAer suspect r.cls).mem = true := by rwa [State.countAer_mem]
  refine State.ite_wf timed (State.ite_wf (State.ite_wf timed (by rwa [State.testsBad_mem])) ?_)
  split
  case h_8 => exact State.checkRoutes_wf (State.checkKids_wf (State.actOn_wf counted ..) _ _) _
  all_goals simp [timed]

@[simp] theorem State.selfReport_wf {s : State} (wf : Memory.wf s.mem = true) (u : UnitCode) : Memory.wf (s.selfReport u).mem = true := by
  simp [State.selfReport, wf]

@[simp] theorem State.recoveryEnds_wf {s : State} (wf : Memory.wf s.mem = true) (u : UnitCode) (passed : Bool) (ms : Nat) :
    Memory.wf (s.recoveryEnds u passed ms).mem = true := by
  simp only [State.recoveryEnds]
  split <;> simp [wf]

/-! Streams. -/

@[simp] theorem State.streamOff_wf {s : State} (wf : Memory.wf s.mem = true) (i : Nat) : Memory.wf (s.streamOff i).mem = true := by
  simp [State.streamOff, wf]

@[simp] theorem State.streamDone_wf {s : State} (wf : Memory.wf s.mem = true) (i : Nat) : Memory.wf (s.streamDone i).mem = true := by
  simp [State.streamDone, wf]

@[simp] theorem State.trueFrame_wf {s : State} (wf : Memory.wf s.mem = true) (i timestamp : Nat) (arrival : List (Nat × Nat))
    (picture : Picture) (motion : List MotionRecord) (alone : List Nat) :
    Memory.wf (s.trueFrame i timestamp arrival picture motion alone).mem = true := by simp [State.trueFrame, wf]

@[simp] theorem State.decodeEnds_wf {s : State} (wf : Memory.wf s.mem = true) (d : Nat) (r : DecodeResult) :
    Memory.wf (s.decodeEnds d r).mem = true := by
  simp only [State.decodeEnds]
  split <;> simp [wf]

@[simp] theorem State.csiEnds_wf {s : State} (wf : Memory.wf s.mem = true) (c i : Nat) (f : CsiFrame) (lines : List Nat) :
    Memory.wf (s.csiEnds c i f lines).mem = true := by simp [State.csiEnds, wf]

@[simp] theorem State.csiFrameEnds_wf {s : State} (wf : Memory.wf s.mem = true) (c vc errors : Nat) (lines : List Nat) :
    Memory.wf (s.csiFrameEnds c vc errors lines).mem = true := by
  unfold State.csiFrameEnds
  have corrected : Memory.wf (if errors = 1 then s.bump (Entry.csiEccCorrected c) else s).mem = true := by simpa using wf
  dsimp only
  refine State.ite_wf wf (State.ite_wf (by rwa [State.csiDrop_mem]) (State.ite_wf (by rwa [State.csiDrop_mem]) ?_))
  rw [State.showEngines_mem]
  exact State.each_wf (fun t f ht => State.csiEnds_wf ht ..) (by rwa [State.bump_mem]) _

@[simp] theorem State.frameReady_wf {s : State} (wf : Memory.wf s.mem = true) (i : Nat) : Memory.wf (s.frameReady i).mem = true := by
  simp only [State.frameReady]
  split <;> simp [wf]

@[simp] theorem State.choicePoint_wf {s : State} (wf : Memory.wf s.mem = true) (n : Nat) : Memory.wf (s.choicePoint n).mem = true := by
  have chosen := State.choiceAt_wf wf n
  exact State.each_wf (fun t w ht => State.adaptFrame_wf ht _ _) chosen _

@[simp] theorem State.modeWritten_wf {s : State} (wf : Memory.wf s.mem = true) (i mode : Nat) :
    Memory.wf (s.modeWritten i mode).mem = true := by simp [State.modeWritten, wf]

/-! Partitions. -/

@[simp] theorem State.unloadOwned_wf {s : State} (wf : Memory.wf s.mem = true) (k : Nat) : Memory.wf (s.unloadOwned k).mem = true := by
  simp [State.unloadOwned, wf]

@[simp] theorem State.partOff_wf {s : State} (wf : Memory.wf s.mem = true) (p : Nat) : Memory.wf (s.partOff p).mem = true := by
  unfold State.partOff
  split
  · dsimp only
    refine State.each_wf (fun t k ht => State.unloadOwned_wf ht _) ?_ _
    rw [State.dropQueries_mem]
    refine State.endJobs_wf (State.dropPasses_wf (State.each_wf (fun t i ht => State.streamOff_wf ht _) ?_ _) _) _ _
    simpa using wf
  · split <;> simpa using wf

@[simp] theorem State.scrubDone_wf {s : State} (wf : Memory.wf s.mem = true) (p g : Nat) (ok : Bool) :
    Memory.wf (s.scrubDone p g ok).mem = true := by
  simp only [State.scrubDone]
  split <;> simp [Memory.blankRange_wf, wf]

@[simp] theorem State.herdCleared_wf {s : State} (wf : Memory.wf s.mem = true) (h : Nat) (cleared : Bool) :
    Memory.wf (s.herdCleared h cleared).mem = true := by
  simp only [State.herdCleared]
  split
  · exact wf
  · split
    · exact State.selfReport_wf wf _
    · exact State.adaptDrain_wf (by simpa using wf) _

/-! Firmware. -/

@[simp] theorem State.fwData_wf {s : State} (wf : Memory.wf s.mem = true) (b : Bytes) : Memory.wf (s.fwData b).mem = true := by
  simp [State.fwData, wf]

/-! Batons and sessions. -/

@[simp] theorem State.batonRefused_wf {s : State} (wf : Memory.wf s.mem = true) (b : Baton) (u : UnitCode) :
    Memory.wf (s.batonRefused b u).mem = true := by simp [State.batonRefused, wf]

@[simp] theorem State.batonSent_wf {s : State} (wf : Memory.wf s.mem = true) (b : Baton) : Memory.wf (s.batonSent b).mem = true := by
  simp only [State.batonSent]
  split <;> simp [wf]

@[simp] theorem State.batonArrives_wf {s : State} (wf : Memory.wf s.mem = true) (z : Nat) (b : Baton) :
    Memory.wf (s.batonArrives z b).mem = true := by
  simp only [State.batonArrives]
  split
  · simp [wf]
  · split <;> simp [wf]

@[simp] theorem State.batonFrame_wf {s : State} (wf : Memory.wf s.mem = true) (z : Nat) (body : Bytes) :
    Memory.wf (s.batonFrame z body).mem = true := by simp [State.batonFrame, wf]

@[simp] theorem State.tagFails_wf {s : State} (wf : Memory.wf s.mem = true) (z : Nat) (excess : Bool) :
    Memory.wf (s.tagFails z excess).mem = true := by
  simp only [State.tagFails]
  split
  · split
    · split
      · exact State.each_wf (fun t l ht => State.actOn_wf ht ..) (by simpa using wf) _
      · simpa using wf
    · simpa using wf
  · simpa using wf

@[simp] theorem State.frameTaken_wf {s : State} (wf : Memory.wf s.mem = true) (z : Nat) (f : ZennikFrame) :
    Memory.wf (s.frameTaken z f).mem = true := by
  simp only [State.frameTaken]
  split <;> simp [wf]

@[simp] theorem State.frameReceived_wf {s : State} (wf : Memory.wf s.mem = true) (z : Nat) (f : ZennikFrame) :
    Memory.wf (s.frameReceived z f).mem = true := by simp [State.frameReceived, wf]

@[simp] theorem State.framesReceived_wf {s : State} (wf : Memory.wf s.mem = true) (z : Nat) (l : List ZennikFrame) :
    Memory.wf (s.framesReceived z l).mem = true := by
  refine State.each_wf (fun t a ht => ?_) wf _
  simp [ht]

@[simp] theorem State.stationRefuses_wf {s : State} (wf : Memory.wf s.mem = true) (station : Nat) (b : Baton) (sender : UnitCode) :
    Memory.wf (s.stationRefuses station b sender).mem = true := by
  simp only [State.stationRefuses]
  repeat' split
  all_goals simp [wf]

@[simp] theorem State.batonsTaken_wf {s : State} (wf : Memory.wf s.mem = true) (station queue count : Nat) :
    Memory.wf (s.batonsTaken station queue count).mem = true := by
  simp only [State.batonsTaken]
  split
  · exact wf
  · exact State.each_wf (fun t e ht => State.stationRefuses_wf ht ..) (by simpa using wf) _

@[simp] theorem State.laneError_wf {s : State} (wf : Memory.wf s.mem = true) (z l : Nat) (excess : Bool) :
    Memory.wf (s.laneError z l excess).mem = true := by simp [State.laneError, wf]

/-! The schedule. -/

@[simp] theorem State.moveAnchor_wf {s : State} (wf : Memory.wf s.mem = true) (p n : Nat) : Memory.wf (s.moveAnchor p n).mem = true := by
  simp [State.moveAnchor, wf]

@[simp] theorem State.takeArrivalMode_wf {s : State} (wf : Memory.wf s.mem = true) (p : Nat) :
    Memory.wf (s.takeArrivalMode p).mem = true := by
  simp only [State.takeArrivalMode]
  split
  · exact wf
  · refine State.adaptSweep_wf (State.each_wf (fun t e ht => State.adaptFrame_wf (State.makeReady_wf ht _ _) _ _) ?_ _) _
    simpa using wf

@[simp] theorem State.frameStarts_wf {s : State} (wf : Memory.wf s.mem = true) (n holdCrc : Nat) :
    Memory.wf (s.frameStarts n holdCrc).mem = true := by simp [State.frameStarts, wf]

@[simp] theorem State.composePoint_wf {s : State} (wf : Memory.wf s.mem = true) (n : Nat) : Memory.wf (s.composePoint n).mem = true := by
  simp [State.composePoint, wf]

/-! Keys and reports. -/

@[simp] theorem State.ideFails_wf {s : State} (wf : Memory.wf s.mem = true) (fn : Nat) : Memory.wf (s.ideFails fn).mem = true := by
  simp [State.ideFails, wf]

/-! Ethernet. -/

@[simp] theorem State.datagram_wf {s : State} (wf : Memory.wf s.mem = true) (u : UdpPacket) : Memory.wf (s.datagram u).mem = true := by
  simp only [State.datagram]
  split <;> simp [wf]

@[simp] theorem State.udpIn_wf {s : State} (wf : Memory.wf s.mem = true) (e : Nat) (u : UdpPacket) (ms : Nat) (lines : List Nat) :
    Memory.wf (s.udpIn e u ms lines).mem = true := by
  simp only [State.udpIn]
  split
  · simp [wf]
  · split <;> simp [wf]

@[simp] theorem State.ethPayload_wf {s : State} (wf : Memory.wf s.mem = true) (e : Nat) (p : EthPayload) (ms : Nat) (lines : List Nat) :
    Memory.wf (s.ethPayload e p ms lines).mem = true := by
  simp only [State.ethPayload]
  split <;> simp [wf]

@[simp] theorem State.ethReceived_wf {s : State} (wf : Memory.wf s.mem = true) (e : Nat) (f : EthFrame) (ms : Nat) (lines : List Nat) :
    Memory.wf (s.ethReceived e f ms lines).mem = true := by simp [State.ethReceived, wf]

@[simp] theorem State.functionReset_wf {s : State} (wf : Memory.wf s.mem = true) (fn : Nat) : Memory.wf (s.functionReset fn).mem = true :=
  by simp [State.functionReset, wf]

@[simp] theorem State.linkLost_wf {s : State} (wf : Memory.wf s.mem = true) : Memory.wf s.linkLost.mem = true := by
  simp [State.linkLost, wf]

/-! Power, clocks and pace. -/

@[simp] theorem State.supplySample_wf {s : State} (wf : Memory.wf s.mem = true) (mv : List Nat) :
    Memory.wf (s.supplySample mv).mem = true := by
  simp only [State.supplySample]
  repeat' split
  all_goals simp [wf]

@[simp] theorem State.paceMeasured_wf {s : State} (wf : Memory.wf s.mem = true) (h pace : Nat) :
    Memory.wf (s.paceMeasured h pace).mem = true := by
  unfold State.paceMeasured
  dsimp only
  refine State.ite_wf wf (State.ite_wf (State.selfReport_wf ?_ _) ?_) <;> simpa using wf

@[simp] theorem State.supplyFails_wf {s : State} (wf : Memory.wf s.mem = true) : Memory.wf s.supplyFails.mem = true := by
  simp [State.supplyFails, wf]

@[simp] theorem State.notAcked_wf {s : State} (wf : Memory.wf s.mem = true) : Memory.wf s.notAcked.mem = true := by
  simp [State.notAcked, wf]

@[simp] theorem State.writeVout_wf {s : State} (wf : Memory.wf s.mem = true) (mv : Nat) (acked : Bool) :
    Memory.wf (s.writeVout mv acked).mem = true := by simp [State.writeVout, wf]

@[simp] theorem State.voutChecked_wf {s : State} (wf : Memory.wf s.mem = true) (reading : Option Nat) :
    Memory.wf (s.voutChecked reading).mem = true := by
  simp only [State.voutChecked]
  split
  · simp [wf]
  · split <;> simp [wf]

@[simp] theorem State.setShed_wf {s : State} (wf : Memory.wf s.mem = true) (n : Nat) : Memory.wf (s.setShed n).mem = true := by
  simp only [State.setShed]
  split
  · exact wf
  · refine State.each_wf (fun t p ht => ?_) (by simpa using wf) _
    have logged := State.logArrival_wf ht p arrShed 0 0 (t.anchorFrame p) n
    split
    · simpa using logged
    · exact logged

@[simp] theorem State.paceSteps_wf {s : State} (wf : Memory.wf s.mem = true) (slack : Nat) (acked : Bool) :
    Memory.wf (s.paceSteps slack acked).mem = true := by simp [State.paceSteps, wf]

@[simp] theorem State.paceInterval_wf {s : State} (wf : Memory.wf s.mem = true) (readback : Option Nat) (acked : Bool)
    (watts : Option Nat) :
    Memory.wf (s.paceInterval readback acked watts).mem = true := by simp [State.paceInterval, wf]

@[simp] theorem State.watchdog_wf {s : State} (wf : Memory.wf s.mem = true) (reporter suspect : UnitCode) (baton : Option Baton) :
    Memory.wf (s.watchdog reporter suspect baton).mem = true := by simp [State.watchdog, wf]

/-! Writes of entries. -/

@[simp] theorem State.restoresDefaults_wf {s : State} (wf : Memory.wf s.mem = true) : Memory.wf s.restoresDefaults.mem = true := by
  simp [State.restoresDefaults, wf]

theorem State.enableEffect_wf {s : State} (wf : Memory.wf s.mem = true) (k : Nat) (on : Bool) :
    ∀ t ∈ s.enableEffect k on, Memory.wf t.mem = true := by
  unfold State.enableEffect
  repeat' split
  all_goals simp [wf]

theorem State.actEffect_wf {s : State} (wf : Memory.wf s.mem = true) (k : Nat) (v : Value) :
    ∀ t ∈ s.actEffect k v, Memory.wf t.mem = true := by
  unfold State.actEffect
  dsimp only
  repeat' split
  all_goals simp [wf]

theorem State.tableEffect_wf {s : State} (wf : Memory.wf s.mem = true) (k : Nat) (v : Value) :
    ∀ t ∈ s.tableEffect k v, Memory.wf t.mem = true := by
  unfold State.tableEffect
  dsimp only
  repeat' split
  all_goals simp [wf]

theorem State.soleEffect_wf {s : State} (wf : Memory.wf s.mem = true) (k : Nat) (v : Value) :
    ∀ t ∈ s.soleEffect k v, Memory.wf t.mem = true := by
  unfold State.soleEffect
  dsimp only
  repeat' split
  all_goals simp [wf]

@[simp] theorem State.entryEffect_wf {s : State} (wf : Memory.wf s.mem = true) (k : Nat) (v : Value) :
    Memory.wf (s.entryEffect k v).mem = true := by
  unfold State.entryEffect
  split
  · rename_i e
    exact State.enableEffect_wf wf _ _ _ e
  · split
    · rename_i e
      exact State.actEffect_wf wf _ _ _ e
    · split
      · rename_i e
        exact State.tableEffect_wf wf _ _ _ e
      · split
        · rename_i e
          exact State.soleEffect_wf wf _ _ _ e
        · split
          · simpa using wf
          · split
            · simpa using wf
            · split
              · simpa using wf
              · split
                · exact State.adaptSweepAll_wf (by simpa using wf)
                · simpa using wf

@[simp] theorem State.written_wf {s : State} (wf : Memory.wf s.mem = true) (k : Nat) (v : Value) :
    Memory.wf (s.written k v).mem = true := by
  unfold State.written
  split
  · exact wf
  · split
    · split
      · exact rfl
      · exact wf
    · split
      · exact State.entryEffect_wf wf _ _
      · split
        · exact wf
        · split
          · split
            · rename_i e
              exact State.soleEffect_wf wf _ _ _ e
            · split <;> simp [wf]
          · simpa using wf

@[simp] theorem State.acceptWrite_wf {s : State} (wf : Memory.wf s.mem = true) (who : Requester) (k : Nat) (b : Bytes) :
    Memory.wf (s.acceptWrite who k b).mem = true := by
  simp only [State.acceptWrite]
  split <;> simp [wf]

@[simp] theorem State.writeBy_wf {s : State} (wf : Memory.wf s.mem = true) (who : Requester) (k : Nat) (b : Bytes) :
    Memory.wf (s.writeBy who k b).1.mem = true := by
  simp only [State.writeBy]
  split <;> simp [wf]

@[simp] theorem State.adaptWrite_wf {s : State} (wf : Memory.wf s.mem = true) (p command : Nat) (ops : Nat → Bool) :
    Memory.wf (s.adaptWrite p command ops).mem = true := by simp [State.adaptWrite, wf]

/-! Bring-up. -/

@[simp] theorem State.boardFlash_wf {s : State} (wf : Memory.wf s.mem = true) (env : BootEnv) : Memory.wf (s.boardFlash env).mem = true :=
  by simp [State.boardFlash, wf]

theorem State.bootStep_wf {s : State} (wf : Memory.wf s.mem = true) {f : State → State}
    (act : ∀ t, Memory.wf t.mem = true → Memory.wf (f t).mem = true) : Memory.wf (s.bootStep f).mem = true :=
  State.ite_wf wf (act s wf)

@[simp] theorem State.bootBegins_wf {s : State} (wf : Memory.wf s.mem = true) (env : BootEnv) : Memory.wf (s.bootBegins env).mem = true :=
  by simp [State.bootBegins, wf]

@[simp] theorem State.bootFence_wf {s : State} (wf : Memory.wf s.mem = true) (u : UnitCode) : Memory.wf (s.bootFence u).mem = true := by
  simp [State.bootFence, wf]

@[simp] theorem State.bootZennik_wf {s : State} (wf : Memory.wf s.mem = true) (z mask : Nat) :
    Memory.wf (s.bootZennik z mask).mem = true := by
  simp only [State.bootZennik]
  split
  · rw [State.setN_mem]
    exact State.each_wf (fun t l ht => State.bootFence_wf ht _) (by simpa using wf) _
  · simpa using wf

@[simp] theorem State.bootCsi_wf {s : State} (wf : Memory.wf s.mem = true) (c mask : Nat) : Memory.wf (s.bootCsi c mask).mem = true := by
  simp [State.bootCsi, wf]

@[simp] theorem State.bootDsi_wf {s : State} (wf : Memory.wf s.mem = true) (n mask : Nat) : Memory.wf (s.bootDsi n mask).mem = true := by
  simp [State.bootDsi, wf]

@[simp] theorem State.bootLanes_wf {s : State} (wf : Memory.wf s.mem = true) (env : BootEnv) : Memory.wf (s.bootLanes env).mem = true := by
  simp only [State.bootLanes]
  refine State.each_wf (fun t i ht => State.bootDsi_wf ht _ _) ?_ _
  refine State.each_wf (fun t i ht => State.bootCsi_wf ht _ _) ?_ _
  refine State.each_wf (fun t i ht => State.bootFence_wf ht _) ?_ _
  refine State.each_wf (fun t i ht => State.bootZennik_wf ht _ _) ?_ _
  split <;> simp [wf]

@[simp] theorem State.bootReconcile_wf {s : State} (wf : Memory.wf s.mem = true) (env : BootEnv) :
    Memory.wf (s.bootReconcile env).mem = true := by
  unfold State.bootReconcile
  extract_lets crc test fc t1 t2 t3 t4 defects t5 mgmt
  have fenced : Memory.wf t4.mem = true := State.each_wf (fun t u ht => State.bootFence_wf ht _) (by simpa [t3, t2, t1] using wf) _
  have noticed : Memory.wf t5.mem = true := by simpa [t5] using fenced
  repeat' split
  all_goals simpa using noticed

@[simp] theorem State.applyStored_wf {s : State} (wf : Memory.wf s.mem = true) : Memory.wf s.applyStored.mem = true := by
  unfold State.applyStored
  exact State.each_wf (fun t e ht => State.entryEffect_wf ht _ _) (by exact wf) _

@[simp] theorem State.bootReady_wf {s : State} (wf : Memory.wf s.mem = true) (env : BootEnv) : Memory.wf (s.bootReady env).mem = true := by
  simp [State.bootReady, wf]

@[simp] theorem State.bootOn_wf {s : State} (wf : Memory.wf s.mem = true) (env : BootEnv) : Memory.wf (s.bootOn env).mem = true := by
  unfold State.bootOn
  refine State.bootStep_wf (State.bootStep_wf (State.bootStep_wf ?_ fun t ht => State.bootLanes_wf ht _)
    fun t ht => State.bootReconcile_wf ht _) fun t ht => State.bootReady_wf ht _
  simpa using wf

@[simp] theorem State.bootHeat_wf {s : State} (wf : Memory.wf s.mem = true) (env : BootEnv) : Memory.wf (s.bootHeat env).mem = true := by
  simp [State.bootHeat, wf]

@[simp] theorem State.bringUp_wf {s : State} (wf : Memory.wf s.mem = true) (env : BootEnv) : Memory.wf (s.bringUp env).mem = true := by
  unfold State.bringUp
  split
  · exact wf
  · have begun := State.bootBegins_wf wf env
    generalize s.bootBegins env = t at begun
    refine State.bootStep_wf (State.bootStep_wf begun fun t ht => ?_) fun t ht => State.bootHeat_wf ht _
    rwa [State.bootFirmware_mem]

/-! CAN FD. -/

@[simp] theorem State.canWrite_wf {s : State} (wf : Memory.wf s.mem = true) (f : JalmonFrame) : Memory.wf (s.canWrite f).mem = true := by
  simp [State.canWrite, wf]

@[simp] theorem State.writeSegment_wf {s : State} (wf : Memory.wf s.mem = true) (x : Transfer) (last : Bool) (data : Bytes) :
    Memory.wf (s.writeSegment x last data).mem = true := by simp [State.writeSegment, wf]

@[simp] theorem State.canData_wf {s : State} (wf : Memory.wf s.mem = true) (g : JalmonSegment) : Memory.wf (s.canData g).mem = true := by
  simp only [State.canData]
  split <;> simp [wf]

/-! Mailboxes. -/

@[simp] theorem State.mailboxWrite_wf {s : State} (wf : Memory.wf s.mem = true) (fn k : Nat) : Memory.wf (s.mailboxWrite fn k).mem = true :=
  by simp [State.mailboxWrite, wf]

/-! Commands. -/

theorem State.canRequest_wf {s : State} (wf : Memory.wf s.mem = true) (f : JalmonFrame) (command : Nat) {act : State → State}
    (acts : ∀ t, Memory.wf t.mem = true → Memory.wf (act t).mem = true) : Memory.wf (s.canRequest f command act).mem = true := by
  have heard : Memory.wf s.canHeard.mem = true := by rwa [State.canHeard_mem]
  exact State.ite_wf heard (State.ite_wf wf (State.ite_wf (by rwa [State.canAbort_mem]) (acts _ heard)))

theorem State.mailboxRequest_wf {s : State} (wf : Memory.wf s.mem = true) (fn : Nat) (writes : List BarWrite) (command : Nat) (read : Bool)
    {act : State → State} (acts : ∀ t, Memory.wf t.mem = true → Memory.wf (act t).mem = true) :
    Memory.wf (s.mailboxRequest fn writes command read act).mem = true := by
  refine State.ite_wf wf (State.ite_wf wf (State.ite_wf ?_ (acts _ ?_)))
  · rwa [State.setBox_mem, State.bump_mem]
  · rwa [State.bump_mem]

theorem State.onUnit_wf {s : State} (wf : Memory.wf s.mem = true) (u : OpUnit) {f : State → State}
    (act : ∀ t, Memory.wf t.mem = true → Memory.wf (f t).mem = true) : Memory.wf (s.onUnit u f).mem = true :=
  State.ite_wf (act s wf) wf

theorem State.withSource_wf {s : State} (wf : Memory.wf s.mem = true) (u : OpUnit) (g : AddrConfig) (x : Tensor) {f : Tensor → State}
    (act : ∀ y, Memory.wf (f y).mem = true) : Memory.wf (s.withSource u g x f).mem = true :=
  State.ite_wf (by rwa [State.refuseOp_mem]) (act _)

theorem State.answer_wf {s t u : State} (wf : Memory.wf t.mem = true) (next : s.answer t = .next u) : Memory.wf u.mem = true := by
  cases next
  rwa [State.seal_mem]

theorem State.onHerd_wf {s t u : State} {h : Nat} (hs : Memory.wf s.mem = true) (ht : Memory.wf t.mem = true)
    (next : s.onHerd h t = .next u) : Memory.wf u.mem = true := State.answer_wf (State.ite_wf ht hs) next

theorem State.onPort_wf {s t u : State} {n : Nat} (hs : Memory.wf s.mem = true) (ht : Memory.wf t.mem = true)
    (next : s.onPort n t = .next u) : Memory.wf u.mem = true := State.answer_wf (State.ite_wf ht hs) next

/-- Every command keeps the canonical form: its operation does, and the answer only brings the epochs up to date. -/
theorem exec_wf {c : Instr} {s t : State} (wf : Memory.wf s.mem = true) (next : exec c s = .next t) : Memory.wf t.mem = true := by
  cases c
  case convert | mma | rescale | outlier | wide | gradconv | mompack | momunpack | masterupd | stats | rescaleRelu | wideRelu
      | planarise =>
    refine State.onHerd_wf wf (State.onUnit_wf wf _ fun t ht => ?_) next
    simp [ht]
  case convwin | expand | groupconv | blockconv | pool =>
    refine State.onHerd_wf wf (State.onUnit_wf wf _ fun t ht => State.withSource_wf ht _ _ _ fun y => ?_) next
    simp [ht]
  case paceMonitorWindow | herdReset | herdResetComplete =>
    refine State.onHerd_wf wf ?_ next
    simp [wf]
  case rclkFault | rclkRecovered | choicePoint | renderReset | portEnable | portDisable | portStopComplete | composePoint
      | compositionComplete | composeLate | routeTagCheck | crcRectangleCheck | layerTableWrite | safeAck | fsyncEdge | genlockLost
      | portFrameStart =>
    refine State.onPort_wf wf ?_ next
    simp [wf]
  case canExpeditedRead | canExpeditedWrite | canInitiateSegmentedRead | canInitiateSegmentedWrite | canCancel =>
    refine State.answer_wf (State.canRequest_wf wf _ _ fun t ht => ?_) next
    simp [ht]
  case mbxRead | mbxWrite | mbxUnknownCommand =>
    refine State.answer_wf (State.mailboxRequest_wf wf _ _ _ _ fun t ht => ?_) next
    simp [ht]
  case lapBoundary k tenNs =>
    have trained : Memory.wf (if s.trains k then s.trainingEnds k else s).mem = true := State.ite_wf (State.trainingEnds_wf wf _) wf
    exact State.answer_wf (State.ifRunning_wf wf (State.adaptSweep_wf (State.lapEnds_wf trained _ _) _)) next
  case restart env => exact State.answer_wf (State.ite_wf (State.bringUp_wf (s := s.restarts) rfl env) wf) next
  case pcieReset =>
    refine State.answer_wf (State.ifOn_wf wf ?_) next
    rw [State.setN_mem]
    exact State.each_wf (fun t fn ht => State.functionReset_wf ht _) (State.linkLost_wf wf) _
  all_goals
    refine State.answer_wf ?_ next
    simp [wf]

/-- Settles O3: a step is the idle step or the command at the front of the queue, whose rest is no part of memory. -/
theorem stepsKeepCanonicalMemory : Obligations.StepsKeepCanonicalMemory := by
  intro s t wf next
  unfold step at next
  split at next
  · cases next
    exact wf
  · rename_i c rest _
    exact exec_wf (s := { s with pending := rest }) wf next

end Sys2Proof.Machine
end

section
namespace Sys2Proof.Machine

open Sys2Proof

/-- After reset no entry is listed, so each reads its default. -/
theorem State.raw_reset (k : Nat) : State.reset.raw k = State.reset.default k := rfl

/-- Settles O2: the dictionary and the units' records list nothing after reset; the defaults that it names are read off the catalog. -/
theorem resetState : Obligations.ResetState := by
  refine ⟨by decide +kernel, State.raw_reset, fun _ => rfl, rfl, rfl, rfl, fun _ => rfl, rfl, rfl, rfl, rfl, ?_, ?_, ?_⟩
  · exact by decide +kernel
  · exact by decide +kernel
  · exact by decide +kernel

end Sys2Proof.Machine
end

section
namespace Sys2Proof.Machine

open Sys2Proof

/-! What the units hold, where a change keeps all but entries; the records of partitions. -/

theorem MemoryKept.of_mem {s t : State} (h : t.mem = s.mem) : MemoryKept s t := fun a => by rw [h]

theorem Keeps.memoryKept {s t : State} {keys : List Nat} (h : Keeps s t keys) : MemoryKept s t := h.2.1

theorem Keeps.parts {s t : State} {keys : List Nat} (h : Keeps s t keys) : t.parts = s.parts :=
  (congrArg (fun u : State => u.parts) h.rest : (State.rest t).parts = (State.rest s).parts)

theorem Keeps.pace {s t : State} {keys : List Nat} (h : Keeps s t keys) : t.pace = s.pace :=
  (congrArg (fun u : State => u.pace) h.rest : (State.rest t).pace = (State.rest s).pace)

theorem Keeps.boot {s t : State} {keys : List Nat} (h : Keeps s t keys) : t.boot = s.boot :=
  (congrArg (fun u : State => u.boot) h.rest : (State.rest t).boot = (State.rest s).boot)

theorem Keeps.b {s t : State} {keys : List Nat} (h : Keeps s t keys) {k : Nat} (hk : k ∉ keys) (hl : k ≠ Entry.canEventsLost) :
    t.b k = s.b k := State.b_congr (h.raw hk hl)

theorem Keeps.partRt {s t : State} {keys : List Nat} (h : Keeps s t keys) (p : Nat) : t.partRt p = s.partRt p := by
  simp only [State.partRt, h.parts]

/-- A partition's record set on both sides. -/
theorem Keeps.setPartRt {s t : State} {keys : List Nat} (h : Keeps s t keys) (p : Nat) (r : PartRt) :
    Keeps (s.setPartRt p r) (t.setPartRt p r) keys := by
  simp only [State.setPartRt, h.parts]
  exact h.update (fun u => { u with parts := Assoc.put s.parts p r }) (fun _ _ => rfl) (fun _ => rfl) (fun _ => rfl)
      (fun _ => rfl) fun _ => rfl

theorem State.partRt_setPartRt (s : State) (p : Nat) (r : PartRt) : (s.setPartRt p r).partRt p = r := Assoc.get_put_same ..

theorem Assoc.put_put {α : Type} (m : List (Nat × α)) (k : Nat) (v w : α) : Assoc.put (Assoc.put m k v) k w = Assoc.put m k w := by
  induction m with
  | nil => simp [Assoc.put]
  | cons e r ih =>
    by_cases same : e.1 = k
    · simp [Assoc.put, same]
    · simp [Assoc.put, same, ih]

theorem State.setPartRt_setPartRt (s : State) (p : Nat) (r x : PartRt) : (s.setPartRt p r).setPartRt p x = s.setPartRt p x := by
  simp only [State.setPartRt, Assoc.put_put]

/-- An entry of a record after those of the CAN controllers is not the count of lost events. -/
theorem ne_lost_of_record {i a : Nat} (h : 0x1102 ≤ i) : key i a ≠ Entry.canEventsLost := by
  show i * 256 + a ≠ 0x1101 * 256 + 8
  omega

theorem key_div (i : Nat) {a : Nat} (h : a < 256) : key i a / 256 = i := by
  simp only [key]
  omega

/-- Entries of different records differ. -/
theorem key_ne_of_record {i j a b : Nat} (h : i ≠ j) (ha : a < 256) (hb : b < 256) : key i a ≠ key j b := by
  simp only [key]
  omega

/-- Entries outside the partitions' records leave the anchors. -/
theorem Keeps.anchorPort {s t : State} {keys : List Nat} (h : Keeps s t keys)
    (outside : ∀ k ∈ keys, k / 256 < 0x5000 ∨ 0x5008 < k / 256) (p : Nat) : t.anchorPort p = s.anchorPort p := by
  refine State.anchorPort_congr fun low => h.raw (fun listed => ?_) (ne_lost_of_record (by omega))
  have := outside _ listed
  simp only [Entry.partAnchorPort, key] at this
  omega

/-- Counts of one entry after one another count once by their number. -/
theorem State.n_each_count {α : Type} (s : State) (l : List α) {f : State → α → State} {k w : Nat}
    (count : ∀ t a, (f t a).n k = (t.n k + 1) % 2 ^ w) : (s.each l f).n k = countedUp w (s.n k) l.length := by
  simp only [State.each]
  induction l generalizing s with
  | nil => rfl
  | cons a r ih =>
    rw [List.foldl_cons, ih, count]
    simp only [countedUp, List.length_cons, Nat.add_one_ne_zero, if_false]
    split
    · simp_all
    · rw [Nat.mod_add_mod, Nat.add_right_comm, Nat.add_assoc]

end Sys2Proof.Machine
end

section
namespace Sys2Proof.Machine

open Sys2Proof

/-! OFF and FAULT_HOLD as the supply, clock and junction monitors lead to them (R32, R33). -/

theorem State.isOff_eq_false {s : State} (h : s.device ≠ 0) : s.isOff = false := by simpa [State.isOff] using h

theorem State.held_eq_false {s : State} (h : s.device ≠ 6) : s.held = false := by simpa [State.held] using h

/-- FAULT_HOLD is entered from `s` where what leads to it leaves the device state, the ports' states and the laps. -/
theorem State.entersHold_after {s u : State} (part : u.part = s.part) (herds : u.herds = s.herds) (device : u.device = s.device)
    (ports : ∀ n, n < 16 → u.portState n = s.portState n) (on : s.device ≠ 0) (free : s.device ≠ 6) (cause : Nat) :
    s.entersHold (u.enterHold cause) cause :=
  State.entersHold_congr part ports herds
    (State.enterHold_enters (State.isOff_eq_false (device ▸ on)) (State.held_eq_false (device ▸ free)) cause)

/-- A device in FAULT_HOLD does not enter it again; cause 4 replaces the cause (R33, R35). -/
theorem State.enterHold_held {s : State} (device : s.device = 6) (cause : Nat) :
    s.enterHold cause = if cause = 4 then s.setN Entry.devStateCause 4 else s := by
  simp [State.enterHold, State.isOff, State.held, device]

/-- Entries outside the ports' records are no port's State. -/
theorem portState_ne {n k : Nat} (outside : k / 256 < 0x3400 ∨ 0x3410 ≤ k / 256) (h : n < 16) : Entry.portState n ≠ k := by
  have place : Entry.portState n = (0x3400 + n) * 256 + 0x02 := rfl
  omega

/-- Entries outside the ports' records leave the ports' states. -/
theorem Keeps.portState {s t : State} {keys : List Nat} (h : Keeps s t keys) (outside : ∀ k ∈ keys, k / 256 < 0x3400 ∨ 0x3410 ≤ k / 256)
    {n : Nat} (hn : n < 16) : t.portState n = s.portState n :=
  h.n (fun hk => portState_ne (outside _ hk) hn rfl) (portState_ne (by decide) hn)

/-- FAULT_HOLD entered after a change of entries outside the ports' records. -/
theorem Keeps.entersHold {s u : State} {keys : List Nat} (h : Keeps s u keys) (device : Entry.devDeviceState ∉ keys)
    (outside : ∀ k ∈ keys, k / 256 < 0x3400 ∨ 0x3410 ≤ k / 256) (on : s.device ≠ 0) (free : s.device ≠ 6) (cause : Nat) :
    s.entersHold (u.enterHold cause) cause :=
  State.entersHold_after h.part h.herds (h.n device (by decide)) (fun _ hn => h.portState outside hn) on free cause

/-! OFF (R32 step 1, R475). -/

/-- The numbers of the rails whose reading meets a condition. -/
theorem mem_railsWhere {mv : List Nat} {f : Nat → Nat × Nat → Bool} {n : Nat} :
    n ∈ railsWhere mv f ↔ ∃ i v r, i < 8 ∧ mv[i]? = some v ∧ railRanges[i]? = some r ∧ f (2 * v) r = true ∧ n = i + 1 := by
  simp only [railsWhere, List.mem_filterMap, List.mem_range]
  constructor
  · rintro ⟨i, hi, h⟩
    split at h
    · rename_i v r hv hr
      split at h
      · rename_i meets
        cases h
        exact ⟨i, v, r, hi, hv, hr, meets, rfl⟩
      · cases h
    · cases h
  · rintro ⟨i, v, r, hi, hv, hr, meets, rfl⟩
    exact ⟨i, hi, by simp [hv, hr, meets]⟩

/-- A rail below its range leads to OFF. -/
theorem State.supplySample_low {s : State} {mv : List Nat} {i v : Nat} {r : Nat × Nat} (hi : i < 8) (hv : mv[i]? = some v)
    (hr : railRanges[i]? = some r) (low : 2 * v < r.1) :
    s.supplySample mv = { s.toOff with boot := { s.toOff.boot with suppliesOk := false } } := by
  have found : i + 1 ∈ railsWhere mv fun v r => v < r.1 := mem_railsWhere.2 ⟨i, v, r, hi, hv, hr, by simpa using low, rfl⟩
  have some : (!(railsWhere mv fun v r => v < r.1).isEmpty) = true := by
    simp [List.ne_nil_of_mem found]
  simp only [State.supplySample, if_pos some]

/-! FAULT_HOLD (R33, R475, R479, R485). -/

theorem sysclkFailure_off {s : State} (off : s.device = 0) : exec .sysclkFailure s = .next (s.seal s) :=
  congrArg (fun t => s.answer t) (if_pos (by simp [State.isOff, off]))

theorem sysclkFailure_on {s : State} (on : s.device ≠ 0) :
    exec .sysclkFailure s = .next (s.seal ((s.setN Entry.supplySysclkState 1).enterHold 8)) :=
  congrArg (fun t => s.answer t) (if_neg (by simp [State.isOff, on]))

/-- A SYSCLK failure (R479). -/
theorem sysclkFailure_holds (s : State) : ∃ t, exec .sysclkFailure s = .next t ∧ MemoryKept s t ∧
    (s.device = 0 → Keeps s t []) ∧ (s.device ≠ 0 → t.n Entry.supplySysclkState = 1) ∧
    (s.device ≠ 0 → s.device ≠ 6 → s.entersHold t 8) ∧ (s.device = 6 → Keeps s t [Entry.supplySysclkState]) := by
  by_cases off : s.device = 0
  · exact ⟨_, sysclkFailure_off off, .of_mem rfl, fun _ => Keeps.seal s s _, fun on => absurd off on, fun on => absurd off on,
      fun held => Keeps.seal s s _⟩
  · have noted := Keeps.setN s Entry.supplySysclkState 1 (List.mem_singleton_self _)
    refine ⟨_, sysclkFailure_on off, .of_mem (by simp), fun h => absurd h off, fun _ => ?_, fun _ free => ?_, fun held => ?_⟩
    · obtain ⟨x, kept⟩ := Keeps.enterHold_any (s.setN Entry.supplySysclkState 1) (cause := 8) (by decide)
      rw [State.seal_n, kept.n (State.not_mem_holdKeys _ (by decide) (by decide) (by decide) (by decide)) (by decide)]
      exact State.n_setN s _ _ (by decide)
    · exact noted.entersHold (by decide) (by decide) off free 8
    · rw [State.enterHold_held ((noted.n (by decide) (by decide)).trans held)]
      exact noted.trans (Keeps.seal _ _ _)

/-- The entries that a read of the junction sensors changes. -/
def junctionKeys : List Nat :=
  [Entry.devJunctionMax, Entry.supplyJunctionMin, Entry.supplyJunctionSensors, Entry.supplyThermalWarnings]

theorem Keeps.showJunctions (s : State) (l : List Int) : Keeps s (s.showJunctions l) junctionKeys :=
  ((Keeps.setZ s _ _ (by simp [junctionKeys])).trans (Keeps.setZ _ _ _ (by simp [junctionKeys]))).trans
    (Keeps.setB _ _ _ (by simp [junctionKeys]))

theorem greatestOf_ge {l : List Int} {z : Int} (h : z ∈ l) : z ≤ greatestOf l := by
  obtain ⟨m, -, found, most⟩ := minBy_mem (fun z : Int => -z) l (List.ne_nil_of_mem h)
  have := most z h
  simp only [greatestOf, found, Option.getD_some]
  omega

/-- The junctions shown and a rise to the grade's maximum noted: what a read of 110 °C does before FAULT_HOLD (R485). -/
theorem State.junctionRead_hot {s : State} {l : List Int} (on : s.device ≠ 0) (hot : ∃ z ∈ l, 1100 ≤ z) :
    ∃ u, s.junctionRead l = u.enterHold 4 ∧ u.mem = s.mem ∧ Keeps s u junctionKeys := by
  obtain ⟨z, hz, high⟩ := hot
  have most := greatestOf_ge hz
  have goes : ¬ (s.isOff || l.isEmpty) = true := by simp [State.isOff, on, List.ne_nil_of_mem hz]
  have holds : (1100 : Int) ≤ greatestOf l := by omega
  refine ⟨_, (if_neg goes).trans (if_pos holds), by simp, ?_⟩
  split
  · exact ((Keeps.showJunctions s l).trans (Keeps.bump _ _ (by simp [junctionKeys]))).trans (Keeps.postValue _ _ _ _ _)
  · exact Keeps.showJunctions s l

/-- A rail above its range, with none below: what the sample does before FAULT_HOLD (R475). -/
theorem State.supplySample_high {s : State} {mv : List Nat} (on : s.device ≠ 0)
    (none : ∀ (i v : Nat) (r : Nat × Nat), mv[i]? = some v → railRanges[i]? = some r → r.1 ≤ 2 * v)
    (high : ∃ (i v : Nat) (r : Nat × Nat), mv[i]? = some v ∧ railRanges[i]? = some r ∧ r.2 < 2 * v) :
    ∃ (u : State) (i v : Nat) (r : Nat × Nat), mv[i]? = some v ∧ railRanges[i]? = some r ∧ r.2 < 2 * v ∧
      s.supplySample mv = (u.setN Entry.supplySupplyFault (i + 1)).enterHold 7 ∧ u.mem = s.mem ∧
      Keeps { s with pace := { s.pace with rails := mv } } u [Entry.supplySupplyVoltages, Entry.supplySupplyFault] := by
  obtain ⟨i, v, r, hv, hr, above⟩ := high
  have hi : i < 8 := (List.getElem?_eq_some_iff.1 hr).1
  have found : i + 1 ∈ railsWhere mv fun v r => r.2 < v := mem_railsWhere.2 ⟨i, v, r, hi, hv, hr, by simpa using above, rfl⟩
  obtain ⟨n, last⟩ := Option.isSome_iff_exists.1 (List.getLast?_isSome.2 (List.ne_nil_of_mem found))
  obtain ⟨j, w, q, -, hw, hq, beyond, rfl⟩ := mem_railsWhere.1 (List.mem_of_getLast? last)
  have low : (railsWhere mv fun v r => v < r.1) = [] := List.eq_nil_iff_forall_not_mem.2 fun n hn => by
    obtain ⟨j, w, q, -, hw, hq, under, -⟩ := mem_railsWhere.1 hn
    have := none j w q hw hq
    simp at under
    omega
  have live : ¬ s.isOff = true := by simp [State.isOff, on]
  refine ⟨_, j, w, q, hw, hq, by simpa using beyond, by simp only [State.supplySample, low, last, if_neg live]; rfl, ?_, ?_⟩
  · simp
  · split
    · exact Keeps.refl _ _
    · simp only [State.showRails]
      split
      · exact Keeps.refl _ _
      · exact Keeps.setB _ _ _ (by simp)

/-- Settles O6: OFF is the state of `State.toOff`; FAULT_HOLD is entered after entries that no port's record holds. -/
theorem powerLossAndHold : Obligations.PowerLossAndHold := by
  refine ⟨fun s mv => ⟨⟨_, rfl, fun _ => rfl, fun _ => rfl, rfl, rfl⟩, ?_⟩, sysclkFailure_holds, fun s l on hot => ?_,
      fun s mv on none high => ?_⟩
  · rintro ⟨i, v, r, hi, hv, hr, low⟩
    exact ⟨_, congrArg (fun t => s.answer t) (State.supplySample_low hi hv hr low), fun _ => rfl, fun _ => rfl, rfl, rfl⟩
  · obtain ⟨u, read, memory, kept⟩ := State.junctionRead_hot on hot
    have enters : s.device ≠ 6 → s.entersHold (u.enterHold 4) 4 := fun free => kept.entersHold (by decide) (by decide) on free 4
    refine ⟨_, congrArg (fun t => s.answer t) read, .of_mem (by simpa using memory), ?_, enters, fun held => ?_⟩
    · by_cases held : s.device = 6
      · rw [State.seal_n, State.enterHold_held ((kept.n (by decide) (by decide)).trans held)]
        exact State.n_setN u _ _ (by decide)
      · exact (enters held).2.1
    · rw [State.enterHold_held ((kept.n (by decide) (by decide)).trans held)]
      exact ((kept.mono (by decide)).trans (Keeps.setN u _ _ (by decide))).trans (Keeps.seal _ _ _)
  · obtain ⟨u, i, v, r, hv, hr, above, sample, memory, kept⟩ := State.supplySample_high on none high
    have faulted := kept.trans (Keeps.setN u Entry.supplySupplyFault (i + 1) (by simp))
    refine ⟨_, congrArg (fun t => s.answer t) sample, .of_mem (by simpa using memory), ⟨i, v, r, hv, hr, above, ?_⟩, fun free => ?_,
        fun held => ?_⟩
    · obtain ⟨x, after⟩ := Keeps.enterHold_any (u.setN Entry.supplySupplyFault (i + 1)) (cause := 7) (by decide)
      rw [State.seal_n, after.n (State.not_mem_holdKeys _ (by decide) (by decide) (by decide) (by decide)) (by decide)]
      exact State.n_setN u _ _ (by decide)
    · exact faulted.entersHold (by decide) (by decide) on free 7
    · rw [State.enterHold_held ((faulted.n (by decide) (by decide)).trans held)]
      exact faulted.trans (Keeps.seal _ _ _)

end Sys2Proof.Machine
end

section
namespace Sys2Proof.Machine

open Sys2Proof

/-! The track (R14, R15, R264): what a queue holds after a change, and the changes of laps and herds, which leave every queue. -/

/-- The queue that is kept for a station is that station's. -/
theorem State.queue_names (s : State) (st q : Nat) : (s.queue st q).station = st ∧ (s.queue st q).queue = q := by
  unfold State.queue
  cases found : s.herds.queues.find? fun x => x.station = st && x.queue = q with
  | none => exact ⟨rfl, rfl⟩
  | some x => simpa using List.find?_some found

theorem State.setQueue_same (s : State) (x : Queue) :
    ((s.setQueue x).queue x.station x.queue).batons = x.batons ∧ ((s.setQueue x).queue x.station x.queue).waiting = x.waiting := by
  have others : (s.herds.queues.filter fun y => !(y.station = x.station && y.queue = x.queue)).find?
      (fun y => y.station = x.station && y.queue = x.queue) = none := by
    rw [List.find?_eq_none]
    intro y hy
    simpa [imp_iff_not_or] using (List.mem_filter.1 hy).2
  simp only [State.queue, State.setQueue, List.find?_append, others, Option.none_or]
  split
  · rename_i blank
    obtain ⟨batons, waiting⟩ : x.batons = [] ∧ x.waiting = [] := by simpa using blank
    exact ⟨batons.symm, waiting.symm⟩
  · simp

theorem State.setQueue_other (s : State) (x : Queue) {st q : Nat} (other : ¬ (st = x.station ∧ q = x.queue)) :
    (s.setQueue x).queue st q = s.queue st q := by
  have kept : (s.herds.queues.filter fun y => !(y.station = x.station && y.queue = x.queue)).find?
      (fun y => y.station = st && y.queue = q) = s.herds.queues.find? fun y => y.station = st && y.queue = q := by
    rw [List.find?_filter]
    congr 1
    funext y
    grind
  have last : (if (x.batons.isEmpty && x.waiting.isEmpty) = true then [] else [x]).find?
      (fun y => y.station = st && y.queue = q) = none := by
    split
    · rfl
    · simp only [List.find?_singleton]
      grind
  simp only [State.queue, State.setQueue, List.find?_append, last, Option.or_none, kept]

/-- Nothing but the laps and the herds' records differs: every queue and every other unit is the same. -/
structure LapsOnly (s t : State) : Prop where
  rest : t = { s with herds := t.herds }
  queues : t.herds.queues = s.herds.queues

namespace LapsOnly

theorem refl (s : State) : LapsOnly s s := ⟨rfl, rfl⟩

theorem trans {s t u : State} (h : LapsOnly s t) (g : LapsOnly t u) : LapsOnly s u :=
  ⟨g.rest.trans (by rw [h.rest]), g.queues.trans h.queues⟩

theorem setHerdRt (s : State) (h : Nat) (r : HerdRt) : LapsOnly s (s.setHerdRt h r) := ⟨rfl, rfl⟩

theorem setLap (s : State) (k : Nat) (l : Lap) : LapsOnly s (s.setLap k l) := ⟨rfl, rfl⟩

theorem countSend (s : State) (b : Baton) : LapsOnly s (s.countSend b) := by
  have lap : LapsOnly s (match s.lapOf b with
      | none => s
      | some l => s.setLap b.slot.toNat { l with inFlight := l.inFlight + 1, barrier := if l.inFlight = 0 then [] else l.barrier }) := by
    split
    · exact refl s
    · exact setLap ..
  unfold State.countSend
  dsimp only
  split
  · exact lap
  · exact lap.trans (setHerdRt ..)

theorem countTaken (s : State) (b : Baton) : LapsOnly s (s.countTaken b) := by
  unfold State.countTaken
  split
  · exact refl s
  · exact setLap ..

theorem convRun (s : State) (station queue : Nat) (b : Baton) : LapsOnly s (s.convRun station queue b) := by
  unfold State.convRun
  split
  · split
    · exact refl s
    · exact setLap ..
  · exact refl s

theorem each {α : Type} (s : State) (l : List α) (f : State → α → State) (h : ∀ t a, LapsOnly t (f t a)) : LapsOnly s (s.each l f) := by
  simp only [State.each]
  induction l generalizing s with
  | nil => exact refl s
  | cons a r ih => exact (h s a).trans (ih _)

theorem queue {s t : State} (h : LapsOnly s t) (st q : Nat) : t.queue st q = s.queue st q := by simp only [State.queue, h.queues]

theorem stationExists {s t : State} (h : LapsOnly s t) (n : Nat) : t.stationExists n = s.stationExists n := by rw [h.rest]; rfl

theorem deviceNumber {s t : State} (h : LapsOnly s t) : t.deviceNumber = s.deviceNumber := by rw [h.rest]; rfl

end LapsOnly

/-! Sending (R14, R15, R272). -/

/-- A baton of a lap is of the same lap after its laps changed by one that keeps its number. -/
theorem State.lapOf_congr {s t : State} {b : Baton} (h : (t.slotRt b.slot.toNat).lap = (s.slotRt b.slot.toNat).lap) :
    t.lapOf b = s.lapOf b := by
  simp only [State.lapOf, h]

theorem State.lapOf_countSend (s : State) (b : Baton) :
    ((s.countSend b).lapOf b).map Lap.inFlight = (s.lapOf b).map (fun l => l.inFlight + 1) := by
  have herd : (s.countSend b).lapOf b = (match s.lapOf b with
      | none => s
      | some l => s.setLap b.slot.toNat { l with inFlight := l.inFlight + 1, barrier := if l.inFlight = 0 then [] else l.barrier }).lapOf b :=
          by
    unfold State.countSend
    dsimp only
    split
    · rfl
    · exact State.lapOf_congr rfl
  rw [herd]
  cases found : s.lapOf b with
  | none => simp [found]
  | some l =>
    have number : l.number = b.lap.toNat := by
      unfold State.lapOf at found
      grind
    simp [State.lapOf, State.setLap, State.slotRt_setSlotRt, number]

/-- A baton delivered changes its destination queue alone (R14, R15). -/
theorem State.deliver_queue (s : State) (b : Baton) :
    (let q := s.queue b.dstStation.toNat b.dstQueue.toNat
     let q' := (s.deliver b).queue b.dstStation.toNat b.dstQueue.toNat
     if s.stationExists b.dstStation.toNat = true ∧ q.batons.length < 2 ∧ q.waiting = [] then q'.batons = q.batons ++ [b] ∧ q'.waiting = []
     else q'.batons = q.batons ∧ q'.waiting = q.waiting ++ [b]) ∧
    ∀ st q, ¬ (st = b.dstStation.toNat ∧ q = b.dstQueue.toNat) → (s.deliver b).queue st q = s.queue st q := by
  obtain ⟨station, number⟩ := s.queue_names b.dstStation.toNat b.dstQueue.toNat
  have set (x : Queue) (hs : x.station = b.dstStation.toNat) (hq : x.queue = b.dstQueue.toNat) :
      (((s.setQueue x).queue b.dstStation.toNat b.dstQueue.toNat).batons = x.batons ∧
        ((s.setQueue x).queue b.dstStation.toNat b.dstQueue.toNat).waiting = x.waiting) ∧
      ∀ st q, ¬ (st = b.dstStation.toNat ∧ q = b.dstQueue.toNat) → (s.setQueue x).queue st q = s.queue st q :=
    ⟨hs ▸ hq ▸ s.setQueue_same x, fun st q other => s.setQueue_other x (by rwa [hs, hq])⟩
  by_cases free : s.stationExists b.dstStation.toNat = true ∧ (s.queue b.dstStation.toNat b.dstQueue.toNat).batons.length < 2 ∧
      (s.queue b.dstStation.toNat b.dstQueue.toNat).waiting = []
  · have path : s.deliver b = s.setQueue { s.queue b.dstStation.toNat b.dstQueue.toNat with
        batons := (s.queue b.dstStation.toNat b.dstQueue.toNat).batons ++ [b] } := if_pos (by simpa [and_assoc] using free)
    obtain ⟨⟨batons, waiting⟩, others⟩ := path ▸ set { s.queue b.dstStation.toNat b.dstQueue.toNat with
        batons := (s.queue b.dstStation.toNat b.dstQueue.toNat).batons ++ [b] } station number
    exact ⟨(if_pos free).mpr ⟨batons, waiting.trans free.2.2⟩, others⟩
  · have path : s.deliver b = s.setQueue { s.queue b.dstStation.toNat b.dstQueue.toNat with
        waiting := (s.queue b.dstStation.toNat b.dstQueue.toNat).waiting ++ [b] } := if_neg (by simpa [and_assoc] using free)
    obtain ⟨kept, others⟩ := path ▸ set { s.queue b.dstStation.toNat b.dstQueue.toNat with
        waiting := (s.queue b.dstStation.toNat b.dstQueue.toNat).waiting ++ [b] } station number
    exact ⟨(if_neg free).mpr kept, others⟩

theorem State.deliver_only (s : State) (b : Baton) :
    s.deliver b = { s with herds := (s.deliver b).herds } ∧ (s.deliver b).herds.slots = s.herds.slots := by
  unfold State.deliver
  dsimp only
  split
  · exact ⟨rfl, rfl⟩
  · exact ⟨rfl, rfl⟩

/-- A baton for a station of this device is counted and delivered. -/
theorem State.batonSent_within {s : State} {b c : Baton} (running : s.running = true) (free : s.sendBlocked b = false)
    (sent : s.relayed b = some c) (here : c.dstDevice.toNat = s.deviceNumber) : s.batonSent b = (s.countSend c).deliver c := by
  have number := here.trans (LapsOnly.countSend s c).deviceNumber.symm
  simp [State.batonSent, running, free, sent, number]

/-! Taking (R264, R267). -/

/-- Sorting changes the order alone. -/
theorem insertBy_perm {α : Type} (f : α → Int) (x : α) (l : List α) : (insertBy f x l).Perm (x :: l) := by
  induction l with
  | nil => exact .refl _
  | cons y r ih =>
    unfold insertBy
    split
    · exact .refl _
    · exact (ih.cons y).trans (.swap x y r)

theorem sortBy_perm {α : Type} (f : α → Int) (l : List α) : (sortBy f l).Perm l := by
  have sorted (acc : List α) : (l.foldl (fun acc x => insertBy f x acc) acc).Perm (l ++ acc) := by
    induction l generalizing acc with
    | nil => exact .refl _
    | cons x r ih => exact (ih _).trans (((insertBy_perm f x acc).append_left r).trans List.perm_middle)
  simpa [sortBy] using sorted []

/-- The queue of a station once a leg has taken `count` batons: the next wait for no credit (R264). -/
def Queue.after (q : Queue) (count : Nat) : Queue :=
  let left := ((sortBy batonOrder q.batons).take count).foldl (fun l b => l.erase b) q.batons ++ q.waiting
  { q with batons := left.take 2, waiting := left.drop 2 }

/-- A leg that takes what its station accepts: the queue moves on, the laps count, and none is refused. -/
theorem State.takeBatons_accepted {s : State} {st q count : Nat} (present : count ≤ (s.queue st q).batons.length)
    (accepted : ∀ b ∈ (sortBy batonOrder (s.queue st q).batons).take count, s.accepts st b = true) :
    (s.takeBatons st q count).2 = [] ∧ LapsOnly (s.setQueue ((s.queue st q).after count)) (s.takeBatons st q count).1 := by
  unfold State.takeBatons
  simp only [if_neg (Nat.not_lt.2 present)]
  have u := LapsOnly.each (s.setQueue ((s.queue st q).after count)) ((sortBy batonOrder (s.queue st q).batons).take count)
    (fun t b => t.countTaken b) LapsOnly.countTaken
  refine ⟨?_, u.trans (LapsOnly.each _ _ _ fun t b => LapsOnly.convRun t st q b)⟩
  simp only [List.partition_eq_filter_filter, List.filter_eq_nil_iff, Function.comp]
  intro b hb
  simp [accepted b hb]

/-- Batons that the station accepts are taken and nothing else happens. -/
theorem State.batonsTaken_accepted {s : State} {st q count : Nat} (running : s.running = true)
    (present : count ≤ (s.queue st q).batons.length)
    (good : ∀ b ∈ (s.queue st q).batons, s.accepts st b = true ∧ b.srcDevice.toNat = s.deviceNumber) :
    LapsOnly (s.setQueue ((s.queue st q).after count)) (s.batonsTaken st q count) := by
  have from_queue {b : Baton} (h : b ∈ (sortBy batonOrder (s.queue st q).batons).take count) : b ∈ (s.queue st q).batons :=
    (sortBy_perm ..).mem_iff.1 (List.mem_of_mem_take h)
  obtain ⟨none, only⟩ := State.takeBatons_accepted present fun b hb => (good b (from_queue hb)).1
  have number : (s.takeBatons st q count).1.deviceNumber = s.deviceNumber := only.deviceNumber
  have mine : ((sortBy batonOrder (s.queue st q).batons).take count).filter
      (fun b => b.srcDevice.toNat ≠ (s.takeBatons st q count).1.deviceNumber) = [] :=
    List.filter_eq_nil_iff.2 fun b hb => by simp [number, (good b (from_queue hb)).2]
  have path : s.batonsTaken st q count = (s.takeBatons st q count).1 := by
    simp only [State.batonsTaken, running, none, mine]
    simp [Nat.not_lt.2 present, State.each]
  exact path ▸ only

/-- Settles O43: a baton within the device is delivered after its send is counted; a leg's batons leave their queue alone. -/
theorem batonsCarried : Obligations.BatonsCarried := by
  refine ⟨fun s b c running free sent here => ?_, fun s st q count running => ⟨fun few => ?_, fun present good => ?_⟩⟩
  · have count := LapsOnly.countSend s c
    obtain ⟨dest, others⟩ := (s.countSend c).deliver_queue c
    obtain ⟨only, slots⟩ := (s.countSend c).deliver_only c
    refine ⟨_, congrArg (fun t => s.answer t) (State.batonSent_within running free sent here), ?_, fun st q other => ?_, ?_, ?_⟩
    · simp only [count.queue, count.stationExists] at dest
      exact dest
    · exact (others st q other).trans (count.queue st q)
    · rw [← s.lapOf_countSend c]
      exact congrArg (Option.map _) (State.lapOf_congr (congrArg (fun l => (Assoc.get l c.slot.toNat {}).lap) slots))
    · have same : (s.countSend c).deliver c = { s with herds := ((s.countSend c).deliver c).herds } := only.trans (by rw [count.rest])
      exact same ▸ Keeps.seal s _ _
  · have path : s.batonsTaken st.toNat q.toNat count = s := if_pos (by simp [few])
    exact ⟨_, congrArg (fun t => s.answer t) path, Keeps.seal s s _⟩
  · have only := State.batonsTaken_accepted running present good
    obtain ⟨station, number⟩ := s.queue_names st.toNat q.toNat
    have set := s.setQueue_same ((s.queue st.toNat q.toNat).after count)
    refine ⟨_, rfl, ?_, ?_⟩
    · have kept : (s.seal (s.batonsTaken st.toNat q.toNat count)).queue st.toNat q.toNat =
          (s.setQueue ((s.queue st.toNat q.toNat).after count)).queue st.toNat q.toNat := only.queue _ _
      rw [kept]
      simpa only [Queue.after, station, number] using set
    · have same : s.batonsTaken st.toNat q.toNat count = { s with herds := (s.batonsTaken st.toNat q.toNat count).herds } := only.rest
      exact same ▸ Keeps.seal s _ _

end Sys2Proof.Machine
end

section
namespace Sys2Proof.Machine

open Sys2Proof

/-! Writes of schedules (R371, R372). -/

/-- The entries that show how a schedule is used. -/
def scheduleShown (p : Nat) : List Nat := [Entry.schedLoadLines p, Entry.schedLimitLines p, Entry.schedFallbackFits p]

theorem Keeps.showSchedule (s : State) (p : Nat) (admitted : Bool) : Keeps s (s.showSchedule p admitted) (scheduleShown p) :=
  ((Keeps.setN s _ _ (by simp [scheduleShown])).trans (Keeps.setN _ _ _ (by simp [scheduleShown]))).trans
    (Keeps.setN _ _ _ (by simp [scheduleShown]))

/-- An admitted schedule shows the sum of its windows' lengths. -/
theorem State.showSchedule_load {s : State} {p n : Nat} (anchored : s.anchorPort p = some n) :
    (s.showSchedule p true).n (Entry.schedLoadLines p) =
      (windowsOf (s.b (Entry.schedSchedule p))).foldl (fun a x => a + x.length) 0 := by
  simp only [State.showSchedule, anchored, if_true]
  rw [State.n_setN_ne _ _ (key_ne_of_sub (by decide)) (ne_lost_of_record (by omega)),
    State.n_setN_ne _ _ (key_ne_of_sub (by decide)) (ne_lost_of_record (by omega)), State.n_setN _ _ _ (ne_lost_of_record (by omega))]

theorem Keeps.setSchedule (s : State) (p state error : Nat) :
    Keeps s (s.setSchedule p state error) [Entry.schedScheduleState p, Entry.schedAdmitError p] :=
  (Keeps.setN s _ _ (by simp)).trans (Keeps.setN _ _ _ (by simp))

theorem State.setSchedule_state (s : State) (p state error : Nat) :
    (s.setSchedule p state error).n (Entry.schedScheduleState p) = state := by
  rw [State.setSchedule, State.n_setN_ne _ _ (key_ne_of_sub (by decide)) (ne_lost_of_record (by omega)),
    State.n_setN _ _ _ (ne_lost_of_record (by omega))]

theorem State.setSchedule_error (s : State) (p state error : Nat) : (s.setSchedule p state error).n (Entry.schedAdmitError p) = error :=
  State.n_setN _ _ _ (ne_lost_of_record (by omega))

theorem schedSchedule_unstated (p : Nat) : Entry.schedSchedule p ∉ [Entry.schedScheduleState p, Entry.schedAdmitError p] := by
  simp only [List.mem_cons, List.not_mem_nil, or_false, Entry.schedSchedule, Entry.schedScheduleState, Entry.schedAdmitError, key]
  omega

/-- A schedule stored and shown, with the partition's record set (R372). -/
def State.storeSchedule (s : State) (p : Nat) (b : Bytes) (r : PartRt) (state error : Nat) (admitted : Bool) : State :=
  (((s.setB (Entry.schedSchedule p) b).setPartRt p r).setSchedule p state error).showSchedule p admitted

theorem State.storeSchedule_shows (s : State) (p : Nat) (b : Bytes) (r : PartRt) (state error : Nat) (admitted : Bool) :
    (s.storeSchedule p b r state error admitted).n (Entry.schedAdmitError p) = error ∧
    (s.storeSchedule p b r state error admitted).n (Entry.schedScheduleState p) = state ∧
    (s.storeSchedule p b r state error admitted).b (Entry.schedSchedule p) = b ∧
    Keeps (s.setPartRt p r) (s.storeSchedule p b r state error admitted) [Entry.schedSchedule p, Entry.schedScheduleState p,
      Entry.schedAdmitError p, Entry.schedLoadLines p, Entry.schedLimitLines p, Entry.schedFallbackFits p] := by
  have stored := (Keeps.setB s (Entry.schedSchedule p) b (List.mem_singleton_self _)).setPartRt p r
  have stated := Keeps.setSchedule ((s.setB (Entry.schedSchedule p) b).setPartRt p r) p state error
  have shown := Keeps.showSchedule (((s.setB (Entry.schedSchedule p) b).setPartRt p r).setSchedule p state error) p admitted
  have apart {a : Nat} (h : a = 1 ∨ a = 2 ∨ a = 3) : key (0x5200 + p) a ∉ scheduleShown p := by
    simp only [scheduleShown, List.mem_cons, List.not_mem_nil, or_false, Entry.schedLoadLines, Entry.schedLimitLines,
        Entry.schedFallbackFits, key]
    omega
  unfold State.storeSchedule
  refine ⟨?_, ?_, ?_, ?_⟩
  · rw [shown.n (apart (.inr (.inr rfl))) (ne_lost_of_record (by omega)), State.setSchedule_error]
  · rw [shown.n (apart (.inr (.inl rfl))) (ne_lost_of_record (by omega)), State.setSchedule_state]
  · rw [shown.b (apart (.inl rfl)) (ne_lost_of_record (by omega)), stated.b (schedSchedule_unstated p) (ne_lost_of_record (by omega))]
    exact State.b_setB s _ _ (ne_lost_of_record (by omega))
  · exact ((stored.mono (by simp)).trans (stated.mono (by simp))).trans (shown.mono (by simp [scheduleShown]))

/-- A write to a Schedule goes to the schedule's checks. -/
theorem State.entryEffect_schedule (s : State) (p : Fin 8) (b : Bytes) :
    s.entryEffect (Entry.schedSchedule (p + 1)) (.bytes b) = s.scheduleWritten (p + 1) b := by
  fin_cases p <;> rfl

theorem State.written_schedule {s : State} (running : s.running = true) (managed : s.boot.managing = true) (p : Fin 8) (b : Bytes) :
    s.written (Entry.schedSchedule (p + 1)) (.bytes b) = s.scheduleWritten (p + 1) b := by
  have served : (!s.answers) = false := by
    simp [State.running] at running
    simp [State.answers, State.isOff, managed]
    omega
  have free : s.held = false := by
    simp [State.running] at running
    simp [State.held]
    omega
  simp only [State.written, served, free, running, if_true, Bool.false_eq_true, if_false, State.entryEffect_schedule]

/-- Only a schedule of a partition without an anchor is held. -/
theorem State.admitError_anchored {s : State} {p : Nat} {b : Bytes} (passed : s.admitError p b = 0) : ∃ n, s.anchorPort p = some n := by
  cases anchor : s.anchorPort p with
  | none => simp [State.admitError, anchor] at passed
  | some n => exact ⟨n, rfl⟩

theorem State.scheduleWritten_admitted {s : State} {p : Nat} {b : Bytes} (passed : s.admitError p b = 0) :
    s.scheduleWritten p b = s.storeSchedule p b { s.partRt p with held := none, applyNext := true } 1 0 true := by
  simp only [State.scheduleWritten, State.storeSchedule, passed, if_true, (Keeps.setB s _ b (List.mem_singleton_self _)).partRt]

theorem State.scheduleWritten_held {s : State} {p : Nat} {b : Bytes} (waits : s.admitError p b = 5) :
    s.scheduleWritten p b =
      s.storeSchedule p b { s.partRt p with held := some b, inUse := none, applyNext := false, windows := [] } 3 5 false := by
  simp only [State.scheduleWritten, State.storeSchedule, waits, if_true, State.closeWindows, State.partRt_setPartRt,
    State.setPartRt_setPartRt, (Keeps.setB s _ b (List.mem_singleton_self _)).partRt]
  rfl

theorem State.scheduleWritten_refused {s : State} {p : Nat} {b : Bytes} (fails : s.admitError p b ≠ 0) (anchored : s.admitError p b ≠ 5) :
    s.scheduleWritten p b = s.setSchedule p 2 (s.admitError p b) := by
  simp only [State.scheduleWritten, if_neg fails, if_neg anchored]

theorem State.storeSchedule_load {s : State} {p n : Nat} {b : Bytes} (r : PartRt) (state error : Nat) (anchored : s.anchorPort p = some n) :
    (s.storeSchedule p b r state error true).n (Entry.schedLoadLines p) = (windowsOf b).foldl (fun a x => a + x.length) 0 := by
  have stored := (Keeps.setB s (Entry.schedSchedule p) b (List.mem_singleton_self _)).setPartRt p r
  have stated := Keeps.setSchedule ((s.setB (Entry.schedSchedule p) b).setPartRt p r) p state error
  have anchor : (((s.setB (Entry.schedSchedule p) b).setPartRt p r).setSchedule p state error).anchorPort p = some n := by
    rw [← anchored]
    refine State.anchorPort_congr fun low => (stated.raw ?_ (ne_lost_of_record (by omega))).trans
      (stored.raw ?_ (ne_lost_of_record (by omega)))
    · simp only [List.mem_cons, List.not_mem_nil, or_false, Entry.schedScheduleState, Entry.schedAdmitError, key]
      omega
    · simp only [List.mem_cons, List.not_mem_nil, or_false, Entry.schedSchedule, key]
      omega
  have schedule : (((s.setB (Entry.schedSchedule p) b).setPartRt p r).setSchedule p state error).b (Entry.schedSchedule p) = b := by
    rw [stated.b (schedSchedule_unstated p) (ne_lost_of_record (by omega))]
    exact State.b_setB s _ _ (ne_lost_of_record (by omega))
  rw [State.storeSchedule, State.showSchedule_load anchor, schedule]

/-! Windows (R373, R22). -/

/-- A window that opens: the slots that still run are skipped and counted. -/
theorem State.windowOpens_of {s : State} {p w : Nat} {b : Bytes} {x : Window} (isOpen : s.partOpen p = true)
    (used : (s.partRt p).inUse = some b)
    (listed : (windowsOf b)[w]? = some x) :
    let skipped := x.slots.filter fun k => decide ((s.slotRt k).lap ≠ none ∧ (s.slotRt k).active.map TableImage.trigger = some 0)
    s.windowOpens p w = (s.setPartRt p { s.partRt p with
      windows := ((s.partRt p).windows.filter fun y => y.number ≠ w) ++
        [{ number := w, slots := x.slots, done := skipped, late := !skipped.isEmpty }] }).each skipped fun t _ => t.windowOverrun p := by
  have skips (k : Nat) : ((s.slotRt k).lap.isSome && (match (s.slotRt k).active with | some t => decide (t.trigger = 0) | none => false)) =
      decide ((s.slotRt k).lap ≠ none ∧ (s.slotRt k).active.map TableImage.trigger = some 0) := by
    cases (s.slotRt k).lap <;> cases (s.slotRt k).active <;> simp
  simp only [State.windowOpens, used, listed, isOpen, ← skips]
  rfl

/-- The overruns of a window that closes: each lap that still runs counts, and no longer belongs to the window. -/
def State.lapOverruns (s : State) (p : Nat) (running : List Nat) : State :=
  s.each running fun t k =>
    (t.windowOverrun p).setSlotRt k { t.slotRt k with lap := (t.slotRt k).lap.map fun l => { l with window := none } }

/-- The record of a slot whose lap belongs to no window any more. -/
def SlotRt.unwindowed (r : SlotRt) : SlotRt := { r with lap := r.lap.map fun l => { l with window := none } }

theorem SlotRt.unwindowed_unwindowed (r : SlotRt) : r.unwindowed.unwindowed = r.unwindowed := by
  cases lap : r.lap <;> simp [SlotRt.unwindowed, lap]

theorem State.lapOverruns_slotRt (s : State) (p : Nat) (running : List Nat) (k : Nat) :
    (s.lapOverruns p running).slotRt k = if k ∈ running then (s.slotRt k).unwindowed else s.slotRt k := by
  simp only [State.lapOverruns, State.each]
  induction running generalizing s with
  | nil => rfl
  | cons j r ih =>
    have counted (k : Nat) : (s.windowOverrun p).slotRt k = s.slotRt k :=
      State.slotRt_congr (Keeps.bump s (Entry.schedWindowOverruns p) (List.mem_singleton_self _)).herds k
    rw [List.foldl_cons, ih, State.slotRt_setSlotRt, counted]
    by_cases first : j = k
    · subst first
      simp only [if_true, List.mem_cons, true_or]
      split
      · exact SlotRt.unwindowed_unwindowed _
      · rfl
    · simp only [if_neg first, List.mem_cons, Ne.symm first, false_or]

/-- The overruns change their count and the laps alone. -/
theorem Keeps.lapOverruns (s : State) (p : Nat) (running : List Nat) :
    Keeps { s with herds := (s.lapOverruns p running).herds } (s.lapOverruns p running) [Entry.schedWindowOverruns p] := by
  simp only [State.lapOverruns, State.each]
  induction running generalizing s with
  | nil => exact Keeps.refl s _
  | cons j r ih =>
    exact ((Keeps.bump s (Entry.schedWindowOverruns p) (List.mem_singleton_self _)).withHerds _).trans (ih _)

/-- WindowOverruns is a 32-bit counter (R377). -/
theorem State.windowOverrun_count (s : State) {p : Nat} (h : p ∈ List.range' 1 8) :
    (s.windowOverrun p).n (Entry.schedWindowOverruns p) = (s.n (Entry.schedWindowOverruns p) + 1) % 2 ^ 32 := by
  have width : ∀ p ∈ List.range' 1 8, widthOf .hkz8840 (Entry.schedWindowOverruns p) = 32 ∧
      widthOf .hkz8830 (Entry.schedWindowOverruns p) = 32 := by decide +kernel
  exact State.n_bump s _ 32 (ne_lost_of_record (by omega)) (widthOf_parts (width p h))

theorem State.lapOverruns_count (s : State) {p : Nat} (h : p ∈ List.range' 1 8) (running : List Nat) :
    (s.lapOverruns p running).n (Entry.schedWindowOverruns p) = countedUp 32 (s.n (Entry.schedWindowOverruns p)) running.length :=
  State.n_each_count s running fun t _ => t.windowOverrun_count h

/-- A window that closes: the laps that still run are counted and the slack is reported (R373, R22). -/
theorem State.windowCloses_of {s : State} {p w : Nat} {o : OpenWindow} (last : Option Nat)
    (found : (s.partRt p).windows.find? (fun y => y.number = w) = some o) :
    let length := (((s.partRt p).inUse.bind fun b => (windowsOf b)[w]?).map Window.length).getD 0
    let running := o.slots.filter fun k => decide (s.slotRunner k = p ∧ (s.slotRt k).lap.bind Lap.window = some w)
    let t := (s.setPartRt p { s.partRt p with windows := (s.partRt p).windows.filter fun y => y.number ≠ w }).lapOverruns p running
    s.windowCloses p w last = { t with pace := { t.pace with slacks := t.pace.slacks ++
      (if o.laps = 0 then [] else if o.late = true ∨ running ≠ [] then [(p, w, 0)]
        else last.toList.map fun l => (p, w, (length - l) * 100 / max 1 length)) } } := by
  have runs (k : Nat) : (decide (s.slotRunner k = p) &&
      (match (s.slotRt k).lap with | some l => decide (l.window = some w) | none => false)) =
      decide (s.slotRunner k = p ∧ (s.slotRt k).lap.bind Lap.window = some w) := by
    cases (s.slotRt k).lap <;> simp
  intro length running t
  have same : s.windowCloses p w last = if o.laps = 0 then t else if o.late || !running.isEmpty then t.reportSlack p w 0
      else match last with | none => t | some l => t.reportSlack p w ((length - l) * 100 / max 1 length) := by
    simp only [State.windowCloses, found, t, running, length, ← runs]
    rfl
  rw [same]
  by_cases none : o.laps = 0
  · simp [none]
  · by_cases late : o.late = true ∨ running ≠ []
    · have shown : (o.late || !running.isEmpty) = true := by simpa using late
      simp only [if_neg none, if_pos late, if_pos shown]
      rfl
    · have shown : ¬ (o.late || !running.isEmpty) = true := by simpa using late
      simp only [if_neg none, if_neg late, if_neg shown]
      cases last <;> simp [State.reportSlack]

/-- Settles O55: the three outcomes of the checks, then the windows; the slots that a window counts are those the definitions filter. -/
theorem schedulesAndWindows : Obligations.SchedulesAndWindows := by
  rintro s p q b w rfl
  have partition : p.val + 1 ∈ List.range' 1 8 := by
    simp only [List.mem_range'_1]
    omega
  refine ⟨fun running managed short => ?_, fun x isOpen used listed => ?_, fun o last found => ?_⟩
  case refine_1 =>
    have write : exec (.scheduleWrite p b) s = .next (s.seal (s.scheduleWritten (p + 1) b)) := by
      rw [← State.written_schedule running managed p b]
      exact congrArg (fun l => s.answer (s.written (Entry.schedSchedule (p + 1)) (.bytes l))) (List.take_of_length_le short)
    refine ⟨_, write, ?_⟩
    simp only [State.seal_n, State.seal_b]
    by_cases passed : s.admitError (p + 1) b = 0
    · obtain ⟨error, state, schedule, kept⟩ := s.storeSchedule_shows (p + 1) b
        { s.partRt (p + 1) with held := none, applyNext := true } 1 0 true
      rw [State.scheduleWritten_admitted passed, passed]
      obtain ⟨n, anchored⟩ := State.admitError_anchored passed
      exact ⟨error, fun _ => ⟨state, schedule, State.storeSchedule_load _ 1 0 anchored, kept.trans (Keeps.seal _ _ _)⟩,
        fun h => absurd h (by decide), fun h => absurd rfl h⟩
    · by_cases waits : s.admitError (p + 1) b = 5
      · obtain ⟨error, state, schedule, kept⟩ := s.storeSchedule_shows (p + 1) b
          { s.partRt (p + 1) with held := some b, inUse := none, applyNext := false, windows := [] } 3 5 false
        rw [State.scheduleWritten_held waits, waits]
        exact ⟨error, fun h => absurd h (by decide), fun _ => ⟨state, schedule, kept.trans (Keeps.seal _ _ _)⟩, fun _ h => absurd rfl h⟩
      · rw [State.scheduleWritten_refused passed waits]
        exact ⟨State.setSchedule_error .., fun h => absurd h passed, fun h => absurd h waits,
          fun _ _ => ⟨State.setSchedule_state .., (Keeps.setSchedule ..).trans (Keeps.seal _ _ _)⟩⟩
  · have opened := State.windowOpens_of isOpen used listed
    refine ⟨_, congrArg (fun t => s.answer t) opened, ?_, ?_⟩
    · exact State.n_each_count _ _ fun t _ => t.windowOverrun_count partition
    · exact (Keeps.each _ _ _ fun t _ _ => Keeps.bump t _ (List.mem_singleton_self _)).trans (Keeps.seal _ _ _)
  · have closed := State.windowCloses_of last found
    have kept (running : List Nat) := Keeps.lapOverruns (s.setPartRt (p + 1) { s.partRt (p + 1) with
      windows := (s.partRt (p + 1)).windows.filter fun y => y.number ≠ w.val }) (p + 1) running
    refine ⟨_, congrArg (fun t => s.answer t) closed, ?_, ?_, ?_, fun k => ?_, (kept _).memoryKept, fun k hk hl => (kept _).raw hk hl⟩
    · exact congrArg PartRt.windows (((kept _).partRt (p + 1)).trans (State.partRt_setPartRt ..))
    · exact State.lapOverruns_count _ partition _
    · have pace := (kept (o.slots.filter fun k => decide (s.slotRunner k = p + 1 ∧ (s.slotRt k).lap.bind Lap.window = some w.val))).pace
      rw [State.seal_pace]
      dsimp only
      rw [pace]
      rfl
    · exact State.lapOverruns_slotRt ..

end Sys2Proof.Machine
end

section
namespace Sys2Proof.Machine

open Sys2Proof

/-! Records and entries of one port. -/

theorem State.portRt_setPortRt (s : State) (j n : Nat) (r : PortRt) : (s.setPortRt j r).portRt n = if j = n then r else s.portRt n :=
  Assoc.get_put ..

theorem State.portRt_setPortRt_same (s : State) (n : Nat) (r : PortRt) : (s.setPortRt n r).portRt n = r := Assoc.get_put_same ..

theorem Keeps.portRt {s t : State} {keys : List Nat} (h : Keeps s t keys) (n : Nat) : t.portRt n = s.portRt n := by
  simp only [State.portRt, h.ports]

/-- A port's record set on both sides. -/
theorem Keeps.setPortRt {s t : State} {keys : List Nat} (h : Keeps s t keys) (n : Nat) (r : PortRt) :
    Keeps (s.setPortRt n r) (t.setPortRt n r) keys := by
  simp only [State.setPortRt, h.ports]
  exact h.update (fun u => { u with ports := Assoc.put s.ports n r }) (fun _ _ => rfl) (fun _ => rfl) (fun _ => rfl)
      (fun _ => rfl) fun _ => rfl

theorem Keeps.fenced {s t : State} {keys : List Nat} (h : Keeps s t keys) (u : UnitCode) : t.fenced u = s.fenced u := by
  simp only [State.fenced, h.fc]

/-- A port's timing is that of its record, or of its timing entries. -/
theorem Keeps.timing {s t : State} {keys : List Nat} (h : Keeps s t keys) {n : Nat} (outside : ∀ k ∈ keys, k / 256 ≠ 0x3410 + n) :
    t.timing n = s.timing n := by
  have entry (a : Nat) (low : a < 256) : t.raw (key (0x3410 + n) a) = s.raw (key (0x3410 + n) a) := by
    refine h.raw (fun listed => outside _ listed ?_) (ne_lost_of_record (by omega))
    simp only [key]
    omega
  have entries : t.timingEntries n = s.timingEntries n := by
    unfold State.timingEntries State.on State.n
    rw [entry 1 (by decide), entry 2 (by decide), entry 3 (by decide), entry 4 (by decide), entry 5 (by decide), entry 6 (by decide),
      entry 7 (by decide), entry 8 (by decide), entry 9 (by decide), entry 10 (by decide), entry 11 (by decide), entry 14 (by decide),
      entry 17 (by decide)]
  simp only [State.timing, entries, h.portRt]

/-- Whether a port runs follows its state, its record and the fences. -/
theorem Keeps.portRuns {s t : State} {keys : List Nat} (h : Keeps s t keys) {n : Nat} (outside : Entry.portState n ∉ keys) :
    t.portRuns n = s.portRuns n := by
  simp only [State.portRuns, State.portFenced, h.portRt, h.fenced, State.portState, h.n outside (ne_lost_of_record (by omega))]
  rfl

/-! Genlock (R235, R489). -/

theorem State.setFlag_testBit (s : State) {k : Nat} (lost : k ≠ Entry.canEventsLost) (i : Nat) (on : Bool) :
    ((s.setFlag k i on).n k).testBit i = on := by
  rw [State.setFlag, State.n_setN s _ _ lost, withBit_testBit, if_pos rfl]

/-- What the loss of the synchronisation leaves of a port's record. -/
def PortRt.unlocked (r : PortRt) : PortRt := { r with lockRun := 0, frontAdjust := 0 }

theorem State.loseGenlock_shows (s : State) {n : Nat} (port : n < 16) :
    (s.loseGenlock n).n (Entry.timingGenlockState n) = 3 ∧ ((s.loseGenlock n).n (Entry.portFlags n)).testBit 0 = true ∧
    (s.loseGenlock n).n Entry.pinsFsyncLost = (if s.n (Entry.timingGenlockState n) = 3 then s.n Entry.pinsFsyncLost
      else (s.n Entry.pinsFsyncLost + 1) % 2 ^ 32) ∧
    Keeps (s.setPortRt n (s.portRt n).unlocked) (s.loseGenlock n)
      [Entry.timingGenlockState n, Entry.portFlags n, Entry.pinsFsyncLost] := by
  obtain ⟨u, path, counted, lost⟩ : ∃ u, s.loseGenlock n = (u.setN (Entry.timingGenlockState n) 3).setFlag (Entry.portFlags n) 0 true ∧
      Keeps (s.setPortRt n (s.portRt n).unlocked) u [Entry.pinsFsyncLost] ∧
      u.n Entry.pinsFsyncLost = (if s.n (Entry.timingGenlockState n) = 3 then s.n Entry.pinsFsyncLost
        else (s.n Entry.pinsFsyncLost + 1) % 2 ^ 32) := by
    refine ⟨if s.n (Entry.timingGenlockState n) = 3 then s.setPortRt n (s.portRt n).unlocked
      else (s.setPortRt n (s.portRt n).unlocked).bump Entry.pinsFsyncLost, rfl, ?_⟩
    split
    · exact ⟨Keeps.refl _ _, rfl⟩
    · exact ⟨Keeps.bump _ _ (List.mem_singleton_self _), State.n_bump _ _ 32 (by decide) (widthOf_parts (by decide +kernel))⟩
  have locked := Keeps.setN u (Entry.timingGenlockState n) 3 (List.mem_singleton_self _)
  have shown := Keeps.setFlag (u.setN (Entry.timingGenlockState n) 3) (Entry.portFlags n) 0 true (List.mem_singleton_self _)
  rw [path]
  refine ⟨?_, State.setFlag_testBit _ (ne_lost_of_record (by omega)) _ _, ?_, ?_⟩
  · rw [shown.n (mt List.mem_singleton.1 (key_ne_of_sub (by decide))) (ne_lost_of_record (by omega)),
      State.n_setN _ _ _ (ne_lost_of_record (by omega))]
  · rw [← lost, shown.n (mt List.mem_singleton.1 (key_ne_of_record (by omega) (by decide) (by decide))) (by decide),
      locked.n (mt List.mem_singleton.1 (key_ne_of_record (by omega) (by decide) (by decide))) (by decide)]
  · exact ((counted.mono (by simp)).trans (locked.mono (by simp))).trans (shown.mono (by simp))

/-- What an edge that the port follows leaves of its record: the run towards the lock and the move of the next frame start. -/
def PortRt.followed (r : PortRt) (front : Nat) (e : Int) : PortRt :=
  { r with lockRun := if e.natAbs ≤ 1 then min 8 (r.lockRun + 1) else 0, frontAdjust := max (1 - (front : Int)) (clampInt (-8) 8 e) }

theorem State.fsyncAt_shows {s : State} {n : Nat} (runs : s.portRuns n = true) (sync : (s.timing n).sync = true) (e : Int) {period : Nat}
    (near : 9 ≤ period) :
    (s.fsyncAt n e period).n (Entry.timingGenlockState n) = (if 8 ≤ ((s.portRt n).followed (s.timing n).vFront e).lockRun then 2 else 1) ∧
    ((s.fsyncAt n e period).n (Entry.portFlags n)).testBit 0 = false ∧
    Keeps (s.setPortRt n ((s.portRt n).followed (s.timing n).vFront e)) (s.fsyncAt n e period)
      [Entry.timingGenlockState n, Entry.portFlags n] := by
  have path : s.fsyncAt n e period = ((s.setPortRt n ((s.portRt n).followed (s.timing n).vFront e)).setN (Entry.timingGenlockState n)
      (if 8 ≤ ((s.portRt n).followed (s.timing n).vFront e).lockRun then 2 else 1)).setFlag (Entry.portFlags n) 0 false := by
    simp only [State.fsyncAt, sync, runs, if_neg (Nat.not_lt.2 near)]
    rfl
  have locked := Keeps.setN (s.setPortRt n ((s.portRt n).followed (s.timing n).vFront e)) (Entry.timingGenlockState n)
    (if 8 ≤ ((s.portRt n).followed (s.timing n).vFront e).lockRun then 2 else 1) (List.mem_singleton_self _)
  have shown := Keeps.setFlag ((s.setPortRt n ((s.portRt n).followed (s.timing n).vFront e)).setN (Entry.timingGenlockState n)
    (if 8 ≤ ((s.portRt n).followed (s.timing n).vFront e).lockRun then 2 else 1)) (Entry.portFlags n) 0 false (List.mem_singleton_self _)
  rw [path]
  refine ⟨?_, State.setFlag_testBit _ (ne_lost_of_record (by omega)) _ _, (locked.mono (by simp)).trans (shown.mono (by simp))⟩
  rw [shown.n (mt List.mem_singleton.1 (key_ne_of_sub (by decide))) (ne_lost_of_record (by omega)),
    State.n_setN _ _ _ (ne_lost_of_record (by omega))]

/-- An edge more than a tenth of a frame early lets the port run free. -/
theorem State.fsyncAt_early {s : State} {n : Nat} (runs : s.portRuns n = true) (sync : (s.timing n).sync = true) (e : Int) {period : Nat}
    (early : period < 9) : s.fsyncAt n e period = s.loseGenlock n := by
  simp only [State.fsyncAt, sync, runs, if_pos early]
  rfl

/-! The reference clock (R30, R254). -/

/-- The entries that a fault report changes. -/
def reportKeys : List Nat := [Entry.faultEventsTotal, Entry.faultOpenEvents, Entry.faultLastEventUnit, Entry.faultReportsMerged,
  Entry.faultEventsOverflowed]

/-- A change of the fault collector and of entries. -/
theorem Keeps.withFcOf {s t : State} {x : Fc} {keys : List Nat} (h : Keeps { s with fc := x } t keys) :
    Keeps { s with fc := t.fc } t keys := by
  rw [h.fc]
  exact h

/-- A report merged into an event changes the log and its count. -/
theorem Keeps.mergeInto (s : State) (number : Nat) (cls : FaultClass) (ports : List Nat) :
    Keeps { s with fc := (s.mergeInto number cls ports).fc } (s.mergeInto number cls ports) reportKeys :=
  Keeps.withFcOf (Keeps.bump (s.amend number _) Entry.faultReportsMerged (by simp [reportKeys]))

/-- A report on a unit that is no herd changes the fault log and its entries alone. -/
theorem Keeps.takeReport (s : State) (reporter : UnitCode) {suspect : UnitCode} (kind : suspect.kind ≠ .herd) (cls : FaultClass)
    (detail : Nat) (ports : List Nat) (reaction : Nat) :
    Keeps { s with fc := (s.takeReport reporter suspect cls detail ports reaction).1.fc }
      (s.takeReport reporter suspect cls detail ports reaction).1 reportKeys := by
  have inner : (s.openEvents.filter fun e => suspect.kind == .herd && unitContains suspect e.unit) = [] :=
    List.filter_eq_nil_iff.2 fun e _ => by simp [kind]
  unfold State.takeReport
  split
  · exact (Keeps.bump s Entry.faultReportsMerged (by simp [reportKeys])).withFcOf (x := s.fc)
  · split
    · exact Keeps.mergeInto ..
    · split
      · split
        · exact Keeps.refl _ _
        · exact ((Keeps.mergeInto ..).trans (Keeps.bump _ Entry.faultEventsOverflowed (by simp [reportKeys]))).withFcOf
      · rw [inner]
        exact (Keeps.openEvent s _).mono (by simp [reportKeys])

/-- The ratios of a port that anchors no partition are dropped without a change of an entry. -/
theorem State.dropRatios_unanchored {s : State} {n : Nat} (free : ∀ p, s.anchorPort p ≠ some n) :
    s.dropRatios n = { s with streams := (s.dropRatios n).streams } := by
  have drops (l : List Nat) (t : State) (streams : t = { s with streams := t.streams }) :
      let u := t.each l fun t i =>
        let c := t.ctx i
        let t := t.setCtx i { c with ratios := Assoc.drop c.ratios n }
        if t.anchorPort (t.streamPartition i) = some n then t.showRatios i else t
      u = { s with streams := u.streams } := by
    induction l generalizing t with
    | nil => exact streams
    | cons i r ih =>
      refine ih _ ?_
      dsimp only
      rw [if_neg]
      · rw [streams]
        rfl
      · rw [streams]
        exact free _
  exact drops _ s rfl

/-- SAFE with cause 6, of a port in state `st` (R254, R30). -/
def State.rclkSafe (s : State) (n st : Nat) : State :=
  let t := if st = 5 then s else (s.setPortState n 5).bump (Entry.portSafeEntries n)
  let t := t.setN (Entry.portSafeCause n) 6
  if st = 5 then t else t.setN (Entry.portSafeKind n) (t.safeKind n false)

theorem Keeps.vouched {s t : State} {keys : List Nat} (h : Keeps s t keys) (n : Nat) (outside : Entry.pvPvPairs ∉ keys) :
    t.vouched n = s.vouched n := State.vouched_congr (h.n outside (by decide))

theorem State.portState_setPortState (s : State) (n st : Nat) (port : n < 16) : (s.setPortState n st).portState n = st := by
  have pairs := Keeps.setN (s.setN (Entry.portState n) st) Entry.pvPvPairs
    (withBit (withBit ((s.setN (Entry.portState n) st).n Entry.pvPvPairs) (2 * n + 1) (st = 2)) (2 * n) (!decide (st = 2)))
        (List.mem_singleton_self _)
  exact (pairs.n (mt List.mem_singleton.1 (key_ne_of_record (by omega) (by decide) (by decide))) (ne_lost_of_record (by omega))).trans
    (State.n_setN _ _ _ (ne_lost_of_record (by omega)))

theorem State.rclkSafe_shows {s : State} {n st : Nat} (port : n < 16) (h : s.portState n = st) :
    (s.rclkSafe n st).portState n = 5 ∧ (s.rclkSafe n st).n (Entry.portSafeCause n) = 6 ∧
    (st ≠ 5 → (s.rclkSafe n st).vouched n = false) ∧
    Keeps s (s.rclkSafe n st) [Entry.portState n, Entry.pvPvPairs, Entry.portSafeCause n, Entry.portSafeKind n,
        Entry.portSafeEntries n] := by
  by_cases safe : st = 5
  · have path : s.rclkSafe n st = s.setN (Entry.portSafeCause n) 6 := by simp [State.rclkSafe, safe]
    have caused := Keeps.setN s (Entry.portSafeCause n) 6 (List.mem_singleton_self _)
    rw [path]
    exact ⟨((caused.n (mt List.mem_singleton.1 (key_ne_of_sub (by decide))) (ne_lost_of_record (by omega))).trans h).trans safe,
      State.n_setN _ _ _ (ne_lost_of_record (by omega)), fun free => absurd safe free, caused.mono (by simp)⟩
  · obtain ⟨kind, path⟩ : ∃ kind, s.rclkSafe n st =
        (((s.setPortState n 5).bump (Entry.portSafeEntries n)).setN (Entry.portSafeCause n) 6).setN (Entry.portSafeKind n) kind :=
      ⟨_, by simp only [State.rclkSafe, if_neg safe]; rfl⟩
    have parked := Keeps.setPortState s n 5
    have kinded := Keeps.setN (((s.setPortState n 5).bump (Entry.portSafeEntries n)).setN (Entry.portSafeCause n) 6)
        (Entry.portSafeKind n) kind
      (List.mem_singleton_self _)
    have after : Keeps (s.setPortState n 5) (s.rclkSafe n st) [Entry.portSafeCause n, Entry.portSafeKind n, Entry.portSafeEntries n] :=
      path ▸ ((Keeps.bump _ _ (by simp)).trans (Keeps.setN _ _ _ (by simp))).trans (kinded.mono (by simp))
    refine ⟨?_, ?_, fun _ => ?_, (parked.mono (by simp)).trans (after.mono (by simp))⟩
    · refine (after.n ?_ (ne_lost_of_record (by omega))).trans (State.portState_setPortState s n 5 port)
      simp only [List.mem_cons, List.not_mem_nil, or_false, Entry.portSafeCause, Entry.portSafeKind, Entry.portSafeEntries, key]
      omega
    · rw [path, kinded.n (mt List.mem_singleton.1 (key_ne_of_sub (by decide))) (ne_lost_of_record (by omega)),
        State.n_setN _ _ _ (ne_lost_of_record (by omega))]
    · rw [after.vouched n, State.setPortState, State.vouched_setPv, if_pos rfl]
      · rfl
      · simp only [List.mem_cons, List.not_mem_nil, or_false, Entry.pvPvPairs, Entry.portSafeCause, Entry.portSafeKind,
          Entry.portSafeEntries, key]
        omega

/-- The record of a port whose reference clock is lost. -/
def PortRt.unclocked (r : PortRt) : PortRt := { r with waitRclk := true, counting := false, exitCount := 0, acked := false }

/-- The report of a port whose reference clock fails (R30). -/
def State.rclkReported (s : State) (n : Nat) : State :=
  (s.takeReport ⟨.port, n⟩ ⟨.port, n⟩ .presentation 0 (if s.portState n = 2 then [n] else []) 6).1

theorem State.rclkFails_shown {s : State} {n : Nat} (shows : s.shows n = true) :
    s.rclkFails n = (((((s.rclkReported n).rclkSafe n (s.portState n)).setPortRt n
      (((s.rclkReported n).rclkSafe n (s.portState n)).portRt n).unclocked).dropRatios n).settle 1).portFlags n := by
  have counts : s.portState n ≠ 0 := by
    intro off
    simp [State.shows, off] at shows
  simp only [State.rclkFails, if_neg counts, if_pos shows]
  rfl

/-- A port whose reference clock fails (R254 step 7). -/
theorem State.rclkFails_safe {s : State} {n : Nat} (port : n < 16) (shows : s.shows n = true) (free : ∀ p, s.anchorPort p ≠ some n)
    (anchored : s.anchored) :
    (s.rclkFails n).portState n = 5 ∧ (s.rclkFails n).n (Entry.portSafeCause n) = 6 ∧
    ((s.rclkFails n).portRt n).waitRclk = true ∧ ((s.rclkFails n).portRt n).counting = false ∧
    (s.portState n ≠ 5 → (s.rclkFails n).vouched n = false) ∧ MemoryKept s (s.rclkFails n) ∧
    EntriesKept s (s.rclkFails n) [Entry.portState n, Entry.pvPvPairs, Entry.portSafeCause n, Entry.portSafeKind n, Entry.portSafeEntries n,
      Entry.portFlags n, Entry.faultEventsTotal, Entry.faultOpenEvents, Entry.faultLastEventUnit, Entry.faultReportsMerged,
      Entry.faultEventsOverflowed, Entry.devDeviceState, Entry.devStateCause] ∧ (s.rclkFails n).anchored := by
  have path := State.rclkFails_shown shows
  have reported : Keeps { s with fc := (s.rclkReported n).fc } (s.rclkReported n) reportKeys :=
    Keeps.takeReport s ⟨.port, n⟩ (suspect := ⟨.port, n⟩) (fun kind => by cases kind) .presentation 0 _ 6
  generalize s.rclkReported n = t at path reported
  have state : t.portState n = s.portState n :=
    reported.n (by simp only [reportKeys, List.mem_cons, List.not_mem_nil, or_false, Entry.portState, Entry.faultEventsTotal,
        Entry.faultOpenEvents,
      Entry.faultLastEventUnit, Entry.faultReportsMerged, Entry.faultEventsOverflowed, key]; omega) (ne_lost_of_record (by omega))
  obtain ⟨parked, caused, unvouched, kept⟩ := State.rclkSafe_shows port state
  generalize t.rclkSafe n (s.portState n) = v at path parked caused unvouched kept
  have outside : ∀ k ∈ [Entry.portState n, Entry.pvPvPairs, Entry.portSafeCause n, Entry.portSafeKind n, Entry.portSafeEntries n],
      k / 256 < 0x5000 ∨ 0x5008 < k / 256 := by
    intro k listed
    simp only [List.mem_cons, List.not_mem_nil, or_false, Entry.portState, Entry.pvPvPairs, Entry.portSafeCause, Entry.portSafeKind,
      Entry.portSafeEntries, key] at listed
    omega
  have anchors (p : Nat) : v.anchorPort p = s.anchorPort p := (kept.anchorPort outside p).trans (reported.anchorPort (by decide) p)
  obtain ⟨x, dropped⟩ : ∃ x, (v.setPortRt n (v.portRt n).unclocked).dropRatios n =
      { v.setPortRt n (v.portRt n).unclocked with streams := x } :=
    ⟨_, State.dropRatios_unanchored fun p => (anchors p).symm ▸ free p⟩
  have settled := Keeps.settle { v.setPortRt n (v.portRt n).unclocked with streams := x } 1
  have last : Keeps { v.setPortRt n (v.portRt n).unclocked with streams := x } (s.rclkFails n)
      [Entry.devStateCause, Entry.devDeviceState, Entry.portFlags n] := by
    rw [path, dropped]
    exact (settled.mono (by simp)).trans (Keeps.setN _ _ _ (by simp))
  have outside' : ∀ a, a < 256 → a ≠ 15 → key (0x3400 + n) a ∉ [Entry.devStateCause, Entry.devDeviceState, Entry.portFlags n] := by
    intro a low other
    simp only [List.mem_cons, List.not_mem_nil, or_false, Entry.devStateCause, Entry.devDeviceState, Entry.portFlags, key]
    omega
  have record : (s.rclkFails n).portRt n = (v.portRt n).unclocked := (last.portRt n).trans (State.portRt_setPortRt_same v n _)
  refine ⟨?_, ?_, ?_, ?_, fun live => ?_, ?_, ?_, ?_⟩
  · exact (last.n (outside' 2 (by decide) (by decide)) (ne_lost_of_record (by omega))).trans parked
  · exact (last.n (outside' 9 (by decide) (by decide)) (ne_lost_of_record (by omega))).trans caused
  · rw [record]
    rfl
  · rw [record]
    rfl
  · exact (last.vouched n (by simp only [List.mem_cons, List.not_mem_nil, or_false, Entry.devStateCause, Entry.devDeviceState,
      Entry.portFlags, Entry.pvPvPairs, key]; omega)).trans (unvouched live)
  · exact fun a => (last.memoryKept a).trans ((kept.memoryKept a).trans (reported.memoryKept a))
  · exact fun k hk hl => ((last.mono (by simp)).raw hk hl).trans
      (((kept.mono (by simp)).raw hk hl).trans ((reported.mono (by simp [reportKeys])).raw hk hl))
  · intro p a anchor
    have same : s.anchorPort p = some a := by
      rw [← anchor, last.anchorPort _ p]
      · exact (anchors p).symm
      · intro k listed
        simp only [List.mem_cons, List.not_mem_nil, or_false, Entry.devStateCause, Entry.devDeviceState, Entry.portFlags, key] at listed
        omega
    have other : n ≠ a := fun h => free p (h ▸ same)
    rw [last.portRt a]
    exact (congrArg PortRt.counting ((State.portRt_setPortRt v n a _).trans
      ((if_neg other).trans ((kept.portRt a).trans (reported.portRt a))))).trans (anchored p a same)

/-- The record of a port whose reference clock is back (R254 step 7): nothing but what a stop keeps. -/
def PortRt.restarted (r : PortRt) : PortRt :=
  { timing := r.timing, applied := r.applied, nextTable := r.nextTable, ratios := r.ratios, upBuffers := r.upBuffers
    upViews := r.upViews, upOld := r.upOld, histThreshold := r.histThreshold, renderReset := r.renderReset
    recordRing := r.recordRing, sequence := r.sequence, black := true }

/-- The frame count and the causes shown from 0. -/
theorem State.zero_counters (s : State) (n : Nat) :
    let t := s.zero [Entry.portFrameCount n, Entry.portSafeCause n, Entry.portSafeKind n]
    t.n (Entry.portFrameCount n) = 0 ∧ t.n (Entry.portSafeCause n) = 0 ∧ t.n (Entry.portSafeKind n) = 0 ∧
      Keeps s t [Entry.portFrameCount n, Entry.portSafeCause n, Entry.portSafeKind n] := by
  have counted := Keeps.setN s (Entry.portFrameCount n) 0 (List.mem_singleton_self _)
  have caused := Keeps.setN (s.setN (Entry.portFrameCount n) 0) (Entry.portSafeCause n) 0 (List.mem_singleton_self _)
  have kinded := Keeps.setN ((s.setN (Entry.portFrameCount n) 0).setN (Entry.portSafeCause n) 0) (Entry.portSafeKind n) 0
    (List.mem_singleton_self _)
  refine ⟨?_, ?_, State.n_setN _ _ _ (ne_lost_of_record (by omega)),
      (counted.mono (by simp)).trans ((caused.mono (by simp)).trans (kinded.mono (by simp)))⟩
  · exact (kinded.n (mt List.mem_singleton.1 (key_ne_of_sub (by decide))) (ne_lost_of_record (by omega))).trans
      ((caused.n (mt List.mem_singleton.1 (key_ne_of_sub (by decide))) (ne_lost_of_record (by omega))).trans
        (State.n_setN _ _ _ (ne_lost_of_record (by omega))))
  · exact (kinded.n (mt List.mem_singleton.1 (key_ne_of_sub (by decide))) (ne_lost_of_record (by omega))).trans
      (State.n_setN _ _ _ (ne_lost_of_record (by omega)))

theorem State.rclkReturns_starting {s : State} {n : Nat} (port : n < 16) (safe : s.portState n = 5) (waits : (s.portRt n).waitRclk = true)
    (free : s.held = false) :
    (s.rclkReturns n).portState n = 1 ∧ (s.rclkReturns n).vouched n = false ∧ (s.rclkReturns n).n (Entry.portFrameCount n) = 0 ∧
    (s.rclkReturns n).n (Entry.portSafeCause n) = 0 ∧ (s.rclkReturns n).n (Entry.portSafeKind n) = 0 ∧
    Keeps (s.setPortRt n (s.portRt n).restarted) (s.rclkReturns n)
      [Entry.portState n, Entry.pvPvPairs, Entry.portFrameCount n, Entry.portSafeCause n, Entry.portSafeKind n, Entry.portFlags n] := by
  have path : s.rclkReturns n = ((((s.setPortRt n (s.portRt n).restarted).setPortState n 1).zero
      [Entry.portFrameCount n, Entry.portSafeCause n, Entry.portSafeKind n]).portFlags n) := by
    simp only [State.rclkReturns, waits, free, if_pos safe]
    rfl
  have started := Keeps.setPortState (s.setPortRt n (s.portRt n).restarted) n 1
  have state := State.portState_setPortState (s.setPortRt n (s.portRt n).restarted) n 1 port
  have unvouched : ((s.setPortRt n (s.portRt n).restarted).setPortState n 1).vouched n = false :=
    (State.vouched_setPv _ n n _).trans (if_pos rfl)
  obtain ⟨count, cause, kind, zeroed⟩ := State.zero_counters ((s.setPortRt n (s.portRt n).restarted).setPortState n 1) n
  have flagged : Keeps (((s.setPortRt n (s.portRt n).restarted).setPortState n 1).zero
      [Entry.portFrameCount n, Entry.portSafeCause n, Entry.portSafeKind n]) (s.rclkReturns n) [Entry.portFlags n] :=
    path ▸ Keeps.setN _ _ _ (List.mem_singleton_self _)
  have shown {a : Nat} (sub : a % 256 ≠ 15 % 256) : key (0x3400 + n) a ∉ [Entry.portFlags n] := mt List.mem_singleton.1 (key_ne_of_sub sub)
  have pairs : Entry.pvPvPairs ∉ [Entry.portFrameCount n, Entry.portSafeCause n, Entry.portSafeKind n] := by
    simp only [List.mem_cons, List.not_mem_nil, or_false, Entry.pvPvPairs, Entry.portFrameCount, Entry.portSafeCause, Entry.portSafeKind,
        key]
    omega
  refine ⟨?_, ?_, ?_, ?_, ?_, ((started.mono (by simp)).trans (zeroed.mono (by simp))).trans (flagged.mono (by simp))⟩
  · refine (flagged.n (shown (by decide)) (ne_lost_of_record (by omega))).trans ((zeroed.n ?_ (ne_lost_of_record (by omega))).trans state)
    simp only [List.mem_cons, List.not_mem_nil, or_false, Entry.portFrameCount, Entry.portSafeCause, Entry.portSafeKind, key]
    omega
  · rw [flagged.vouched n (mt List.mem_singleton.1 (key_ne_of_record (by omega) (by decide) (by decide))), zeroed.vouched n pairs,
      unvouched]
  · exact (flagged.n (shown (by decide)) (ne_lost_of_record (by omega))).trans count
  · exact (flagged.n (shown (by decide)) (ne_lost_of_record (by omega))).trans cause
  · exact (flagged.n (shown (by decide)) (ne_lost_of_record (by omega))).trans kind

/-- An edge's level alone moves no genlock. -/
theorem State.fsyncTaken_on {s : State} (on : s.device ≠ 0) (n : Nat) (rising : Bool) (e : Int) (period : Nat) :
    s.fsyncTaken n rising e period = if rising then (s.setFlag Entry.pinsFsyncLevels n rising).fsyncAt n e period
      else s.setFlag Entry.pinsFsyncLevels n rising := if_neg (by simpa [State.isOff] using on)

theorem State.genlockGone_runs {s : State} {n : Nat} (runs : s.portRuns n = true) (sync : (s.timing n).sync = true) :
    s.genlockGone n = s.loseGenlock n := if_neg (by simp [runs, sync])

@[simp] theorem State.seal_portRt (s t : State) (n : Nat) : (s.seal t).portRt n = t.portRt n := rfl
@[simp] theorem State.seal_portState (s t : State) (n : Nat) : (s.seal t).portState n = t.portState n := rfl
@[simp] theorem State.seal_vouched (s t : State) (n : Nat) : (s.seal t).vouched n = t.vouched n := rfl

/-- What a command does to a port that the part has. -/
theorem State.onPort_next {s t : State} {n : Nat} (count : n < s.portCount) : s.onPort n t = .next (s.seal t) :=
  congrArg (fun t => s.answer t) (if_pos count)

/-- Settles O32: each clause follows the shown entries of one operation of the port, whose record the kept state sets. -/
theorem portClocksFollow : Obligations.PortClocksFollow := by
  refine ⟨fun s n count on => ⟨fun e period => ?_, fun e period runs sync => ?_, fun runs sync => ?_⟩,
    fun s n count => ⟨fun shows running free anchored => ?_, fun safe waits free => ?_⟩⟩
  · refine ⟨_, State.onPort_next count, ?_, ?_⟩
    · rw [State.fsyncTaken_on on]
      exact State.setFlag_testBit s (by decide) _ _
    · rw [State.fsyncTaken_on on]
      exact (Keeps.setFlag s _ _ _ (List.mem_singleton_self _)).trans (Keeps.seal _ _ _)
  · refine ⟨_, State.onPort_next count, ?_⟩
    rw [State.fsyncTaken_on on, if_pos rfl]
    have level := Keeps.setFlag s Entry.pinsFsyncLevels n true (List.mem_singleton_self _)
    have bit := State.setFlag_testBit s (k := Entry.pinsFsyncLevels) (by decide) n true
    have runs' := (level.portRuns (mt List.mem_singleton.1 (key_ne_of_record (by omega) (by decide) (by decide)))).trans runs
    have timing : (s.setFlag Entry.pinsFsyncLevels n true).timing n = s.timing n := level.timing fun k listed => by
      rw [List.mem_singleton.1 listed]
      simp only [Entry.pinsFsyncLevels, key]
      omega
    by_cases near : 9 ≤ period
    · obtain ⟨state, flag, kept⟩ := State.fsyncAt_shows runs' (timing.symm ▸ sync) e near
      rw [timing, level.portRt] at state kept
      have record := (kept.portRt n).trans (State.portRt_setPortRt_same ..)
      have outside : Entry.pinsFsyncLevels ∉ [Entry.timingGenlockState n, Entry.portFlags n] := by
        simp only [List.mem_cons, List.not_mem_nil, or_false, Entry.pinsFsyncLevels, Entry.timingGenlockState, Entry.portFlags, key]
        omega
      simp only [State.seal_n, State.seal_portRt, record]
      refine ⟨?_, fun _ => ⟨rfl, rfl, state, flag⟩, fun early => absurd near (Nat.not_le.2 early), ?_⟩
      · exact (congrArg (fun v : Nat => v.testBit n) (kept.n outside (by decide))).trans bit
      · exact (((level.setPortRt n _).mono (by simp)).trans (kept.mono (by simp))).trans (Keeps.seal _ _ _)
    · obtain ⟨state, flag, lost, kept⟩ := State.loseGenlock_shows (s.setFlag Entry.pinsFsyncLevels n true) n.isLt
      rw [level.portRt] at kept
      have record := (kept.portRt n).trans (State.portRt_setPortRt_same ..)
      have outside : Entry.pinsFsyncLevels ∉ [Entry.timingGenlockState n, Entry.portFlags n, Entry.pinsFsyncLost] := by
        simp only [List.mem_cons, List.not_mem_nil, or_false, Entry.pinsFsyncLevels, Entry.timingGenlockState, Entry.portFlags,
          Entry.pinsFsyncLost, key]
        omega
      rw [State.fsyncAt_early runs' (timing.symm ▸ sync) e (Nat.not_le.1 near)]
      simp only [State.seal_n, State.seal_portRt, record]
      refine ⟨?_, fun far => absurd far near, fun _ => ⟨state, rfl, flag⟩, ?_⟩
      · exact (congrArg (fun v : Nat => v.testBit n) (kept.n outside (by decide))).trans bit
      · exact (((level.setPortRt n _).mono (by simp)).trans (kept.mono (by simp))).trans (Keeps.seal _ _ _)
  · obtain ⟨state, flag, lost, kept⟩ := State.loseGenlock_shows s n.isLt
    refine ⟨_, State.onPort_next count, ?_⟩
    rw [State.genlockGone_runs runs sync]
    simp only [State.seal_n, State.seal_portRt]
    have record := (kept.portRt n).trans (State.portRt_setPortRt_same ..)
    refine ⟨state, congrArg PortRt.lockRun record, flag, lost, ?_⟩
    exact (record ▸ kept).trans (Keeps.seal _ _ _)
  · obtain ⟨state, cause, waits, uncounted, unvouched, memory, entries, after⟩ := State.rclkFails_safe n.isLt shows free anchored
    refine ⟨_, State.onPort_next count, ?_⟩
    rw [State.anchorSweep_of_anchored after]
    simp only [State.seal_n, State.seal_portRt, State.seal_portState, State.seal_vouched]
    exact ⟨state, cause, waits, uncounted, unvouched, memory, entries⟩
  · obtain ⟨state, unvouched, frames, cause, kind, kept⟩ := State.rclkReturns_starting n.isLt safe waits free
    have record := (kept.portRt n).trans (State.portRt_setPortRt_same ..)
    exact ⟨_, State.onPort_next count, state, unvouched, frames, cause, kind, congrArg PortRt.waitRclk record,
      congrArg PortRt.counting record, (congrArg PortRt.timing record).trans rfl, kept.memoryKept, kept.entries⟩

end Sys2Proof.Machine
end

section
namespace Sys2Proof.Machine

open Sys2Proof

/-! A frame start in its steps (R237, R243, R254): the frame before is sent, the next is counted, the port state settles, what is shown. -/

/-- Whether a port's last frame passed its checks (R254 step 2). -/
def PortRt.passed (r : PortRt) : Bool :=
  r.counting && !r.failed && (match r.scan with | some c => c.frame = r.frames | none => false)

/-- The number of the frame that starts (R28). -/
def PortRt.nextFrame (r : PortRt) : Nat := if r.counting then r.frames + 1 else 0

/-- The composition that is due for a frame (R237). -/
def PortRt.dueScan (r : PortRt) : Option Composed :=
  match r.composed with | some c => if c.frame = r.nextFrame then some c else none | none => none

/-- The record of a port as its next frame begins. -/
def PortRt.begun (r : PortRt) (state : Nat) : PortRt :=
  let count := if state ≠ 5 then 0 else if !r.carrying then r.exitCount else if r.passed then r.exitCount + 1 else 0
  { r with
    counting := true, frames := r.nextFrame, hold := if r.counting then r.qualify else r.hold, scan := r.dueScan
    composed := if r.dueScan.isSome then none else r.composed
    failed := r.failedNext, failedNext := false, exitCount := count, acked := r.acked && count ≠ 0, frontAdjust := 0 }

/-- The frame before the next is checked and sent. -/
def State.frameEnds (s : State) (n holdCrc : Nat) : State :=
  (if s.holdFails n holdCrc then s.bump (Entry.safeHoldIntegrityFailures n) else s).sendPortFrame n

/-- The next frame counted. -/
def State.frameCounted (s : State) (n : Nat) : State :=
  (s.setPortRt n ((s.portRt n).begun (s.portState n))).setN (Entry.portFrameCount n) ((s.portRt n).nextFrame % 2 ^ 32)

/-- The port state as the checks leave it (R254 steps 2 and 4). -/
def State.frameSettles (t : State) (n : Nat) (passed bad : Bool) : State :=
  if t.portState n = 1 then
    (if passed && !t.safeReqOn && !t.held && !(t.portRt n).failed && !t.unitsFenced n then t.goLive n else t)
  else if t.portState n = 5 then
    (if t.canExit n then t.goLive n
    else if t.n (Entry.portSafeKind n) = 1 && (bad || (t.portRt n).blankNext || t.mustBlank n) then
      t.setN (Entry.portSafeKind n) 2
    else t)
  else t

/-- What the port shows of the frame, and its counters and records. -/
def State.frameShown (t : State) (n F : Nat) : State :=
  let t := t.setPortRt n { t.portRt n with
    carrying := decide (t.portState n = 5), black := t.portState n = 3 || (t.portRt n).scan.isNone
    recordOn := t.on (Entry.portGenRecordEnable n), pvAtStart := decide (t.portState n = 2) }
  let wait := (t.portRt n).scan.isNone && (t.portRt n).composing.isSome && t.portState n ≠ 5 && t.portState n ≠ 3
  let t := if wait then t else t.setPortRt n { t.portRt n with active := t.activeNow n }
  let t := t.bump (codeCounter n ((t.portRt n).code F))
  let t := if ((t.portRt n).composing.map Composed.frame) = some F then t else t.writeRecord n
  (t.showHold n).portFlags n

theorem State.frameStart_steps {s : State} {n : Nat} (holdCrc : Nat) (runs : s.portRuns n = true) :
    s.frameStart n holdCrc = (((s.frameEnds n holdCrc).frameCounted n).frameSettles n ((s.frameEnds n holdCrc).portRt n).passed
      (s.holdFails n holdCrc)).frameShown n ((s.frameEnds n holdCrc).portRt n).nextFrame := by
  unfold State.frameStart
  rw [if_neg (by simp [runs])]
  extract_lets bad s₀ s₁ r passed hold F scan count t₁ counted settled src t₂ wait src' t₃ t₄ t₅
  have sent : s.frameEnds n holdCrc = s₁ := rfl
  have begun : s₁.frameCounted n = counted := rfl
  have settles : counted.frameSettles n (s₁.portRt n).passed (s.holdFails n holdCrc) = settled := rfl
  rw [sent, begun, settles]
  clear_value settled
  rfl

/-- What every step of a frame start keeps: the entries that it does not list, the memory, the pins, the fences and the partitions. -/
structure FrameKeeps (s t : State) (keys : List Nat) : Prop where
  entries : EntriesKept s t keys
  memory : MemoryKept s t
  inputs : t.inputs = s.inputs
  fc : t.fc = s.fc
  parts : t.parts = s.parts

namespace FrameKeeps

theorem refl (s : State) (keys : List Nat) : FrameKeeps s s keys := ⟨fun _ _ _ => rfl, fun _ => rfl, rfl, rfl, rfl⟩

theorem trans {s t u : State} {keys : List Nat} (h : FrameKeeps s t keys) (g : FrameKeeps t u keys) : FrameKeeps s u keys :=
  ⟨fun k hk hl => (g.entries k hk hl).trans (h.entries k hk hl), fun a => (g.memory a).trans (h.memory a), g.inputs.trans h.inputs,
    g.fc.trans h.fc, g.parts.trans h.parts⟩

theorem mono {s t : State} {keys more : List Nat} (h : FrameKeeps s t keys) (sub : ∀ k ∈ keys, k ∈ more) : FrameKeeps s t more :=
  { h with entries := fun k hk hl => h.entries k (fun listed => hk (sub k listed)) hl }

theorem of_keeps {s t : State} {keys : List Nat} (h : Keeps s t keys) : FrameKeeps s t keys :=
  ⟨h.entries, h.memoryKept, (congrArg (fun u : State => u.inputs) h.rest : (State.rest t).inputs = (State.rest s).inputs), h.fc, h.parts⟩

theorem setPortRt (s : State) (n : Nat) (r : PortRt) (keys : List Nat) : FrameKeeps s (s.setPortRt n r) keys :=
  ⟨fun _ _ _ => rfl, fun _ => rfl, rfl, rfl, rfl⟩

theorem n {s t : State} {keys : List Nat} (h : FrameKeeps s t keys) {k : Nat} (hk : k ∉ keys) (hl : k ≠ Entry.canEventsLost) :
    t.n k = s.n k := State.n_congr (h.entries k hk hl)

theorem vouched {s t : State} {keys : List Nat} (h : FrameKeeps s t keys) (n : Nat) (pairs : Entry.pvPvPairs ∉ keys) :
    t.vouched n = s.vouched n := State.vouched_congr (h.n pairs (by decide))

theorem portState {s t : State} {keys : List Nat} (h : FrameKeeps s t keys) {n : Nat} (state : Entry.portState n ∉ keys) :
    t.portState n = s.portState n := h.n state (ne_lost_of_record (by omega))

end FrameKeeps

/-- The frame before is sent without a change of the port's record. -/
theorem State.frameEnds_keeps (s : State) (n holdCrc : Nat) :
    FrameKeeps s (s.frameEnds n holdCrc) [Entry.safeHoldIntegrityFailures n] ∧ (s.frameEnds n holdCrc).ports = s.ports := by
  have sent (t : State) : FrameKeeps t (t.sendPortFrame n) [Entry.safeHoldIntegrityFailures n] ∧ (t.sendPortFrame n).ports = t.ports := by
    unfold State.sendPortFrame
    split
    · exact ⟨⟨fun _ _ _ => rfl, fun _ => rfl, rfl, rfl, rfl⟩, rfl⟩
    · exact ⟨.refl t _, rfl⟩
  unfold State.frameEnds
  split
  · have counted := Keeps.bump s (Entry.safeHoldIntegrityFailures n) (List.mem_singleton_self _)
    exact ⟨(FrameKeeps.of_keeps counted).trans (sent _).1, (sent _).2.trans counted.ports⟩
  · exact sent s

/-- The fields of a port's record that a frame start settles as it counts the frame. -/
structure PortRt.SameFrame (r q : PortRt) : Prop where
  counting : q.counting = r.counting
  frames : q.frames = r.frames
  failed : q.failed = r.failed
  failedNext : q.failedNext = r.failedNext
  scan : q.scan = r.scan
  recordRing : q.recordRing = r.recordRing

theorem PortRt.SameFrame.refl (r : PortRt) : r.SameFrame r := ⟨rfl, rfl, rfl, rfl, rfl, rfl⟩

theorem PortRt.SameFrame.trans {r q p : PortRt} (h : r.SameFrame q) (g : q.SameFrame p) : r.SameFrame p :=
  ⟨g.counting.trans h.counting, g.frames.trans h.frames, g.failed.trans h.failed, g.failedNext.trans h.failedNext, g.scan.trans h.scan,
    g.recordRing.trans h.recordRing⟩

theorem PortRt.SameFrame.of_eq {r q : PortRt} (h : q = r) : r.SameFrame q := h ▸ .refl r

theorem PortRt.SameFrame.set {s : State} {n : Nat} {r q : PortRt} (h : r.SameFrame q) : r.SameFrame ((s.setPortRt n q).portRt n) :=
  h.trans (.of_eq (State.portRt_setPortRt_same s n q))

theorem State.frameCounted_shows (s : State) (n : Nat) :
    FrameKeeps s (s.frameCounted n) [Entry.portFrameCount n] ∧ (s.frameCounted n).portRt n = (s.portRt n).begun (s.portState n) ∧
    (s.frameCounted n).n (Entry.portFrameCount n) = (s.portRt n).nextFrame % 2 ^ 32 := by
  have counted := Keeps.setN (s.setPortRt n ((s.portRt n).begun (s.portState n))) (Entry.portFrameCount n)
    ((s.portRt n).nextFrame % 2 ^ 32) (List.mem_singleton_self _)
  exact ⟨(FrameKeeps.setPortRt ..).trans (.of_keeps counted), (counted.portRt n).trans (State.portRt_setPortRt_same ..),
    State.n_setN _ _ _ (ne_lost_of_record (by omega))⟩

/-- The entries that a change of a port's state changes. -/
def stateKeys (n : Nat) : List Nat := [Entry.portState n, Entry.pvPvPairs, Entry.portSafeCause n, Entry.portSafeKind n]

@[simp] theorem State.setPortRt_portState (s : State) (n m : Nat) (r : PortRt) : (s.setPortRt n r).portState m = s.portState m := rfl
@[simp] theorem State.setPortRt_vouched (s : State) (n m : Nat) (r : PortRt) : (s.setPortRt n r).vouched m = s.vouched m := rfl

/-- The record of a port that becomes LIVE. -/
def PortRt.live (r : PortRt) : PortRt := { r with exitCount := 0, acked := false, blankNext := false, carrying := false }

theorem State.goLive_eq (s : State) (n : Nat) :
    s.goLive n = ((s.setPortState n 2).zero [Entry.portSafeCause n, Entry.portSafeKind n]).setPortRt n
      (((s.setPortState n 2).zero [Entry.portSafeCause n, Entry.portSafeKind n]).portRt n).live := rfl

/-- A port that becomes LIVE asserts its PV pair (R243). -/
theorem State.goLive_shows (s : State) {n : Nat} (port : n < 16) :
    FrameKeeps s (s.goLive n) (stateKeys n) ∧ (s.portRt n).SameFrame ((s.goLive n).portRt n) ∧ (s.goLive n).portState n = 2 ∧
    (s.goLive n).vouched n = true := by
  have live := Keeps.setPortState s n 2
  have zeroed : Keeps (s.setPortState n 2) ((s.setPortState n 2).zero [Entry.portSafeCause n, Entry.portSafeKind n])
      [Entry.portSafeCause n, Entry.portSafeKind n] := (Keeps.setN _ _ _ (by simp)).trans (Keeps.setN _ _ _ (by simp))
  have apart : Entry.portState n ∉ [Entry.portSafeCause n, Entry.portSafeKind n] ∧
      Entry.pvPvPairs ∉ [Entry.portSafeCause n, Entry.portSafeKind n] := by
    simp only [List.mem_cons, List.not_mem_nil, or_false, Entry.portState, Entry.pvPvPairs, Entry.portSafeCause, Entry.portSafeKind, key]
    omega
  have record := (zeroed.portRt n).trans (live.portRt n)
  have state := (FrameKeeps.of_keeps zeroed).portState apart.1
  have vouches := (FrameKeeps.of_keeps zeroed).vouched n apart.2
  rw [State.goLive_eq, State.setPortRt_portState, State.setPortRt_vouched, State.portRt_setPortRt_same, record, state, vouches]
  refine ⟨?_, ⟨rfl, rfl, rfl, rfl, rfl, rfl⟩, State.portState_setPortState s n 2 port, (State.vouched_setPv _ n n _).trans (if_pos rfl)⟩
  exact ((FrameKeeps.of_keeps live).mono (by simp [stateKeys])).trans
    (((FrameKeeps.of_keeps zeroed).mono (by simp [stateKeys])).trans (.setPortRt ..))

/-- The checks' outcome: the PV pair still follows the state, a LIVE port stays LIVE, a STARTING one that passed becomes LIVE. -/
theorem State.frameSettles_shows (s : State) {n : Nat} (port : n < 16) (passed bad : Bool)
    (pair : s.vouched n = decide (s.portState n = 2)) :
    FrameKeeps s (s.frameSettles n passed bad) (stateKeys n) ∧ (s.portRt n).SameFrame ((s.frameSettles n passed bad).portRt n) ∧
    (s.frameSettles n passed bad).vouched n = decide ((s.frameSettles n passed bad).portState n = 2) ∧
    (s.portState n = 2 → (s.frameSettles n passed bad).portState n = 2) ∧
    (s.portState n = 1 → passed = true → s.safeReqOn = false → s.held = false → (s.portRt n).failed = false → s.unitsFenced n = false →
      (s.frameSettles n passed bad).portState n = 2) := by
  obtain ⟨lives, same, state, vouches⟩ := s.goLive_shows port
  have goes : FrameKeeps s (s.goLive n) (stateKeys n) ∧ (s.portRt n).SameFrame ((s.goLive n).portRt n) ∧
      (s.goLive n).vouched n = decide ((s.goLive n).portState n = 2) := ⟨lives, same, by rw [vouches, state]; rfl⟩
  have stays : FrameKeeps s s (stateKeys n) ∧ (s.portRt n).SameFrame (s.portRt n) ∧ s.vouched n = decide (s.portState n = 2) :=
    ⟨.refl s _, .refl _, pair⟩
  unfold State.frameSettles
  by_cases starting : s.portState n = 1
  · rw [if_pos starting]
    split
    · exact ⟨goes.1, goes.2.1, goes.2.2, fun _ => state, fun _ _ _ _ _ _ => state⟩
    · rename_i fails
      exact ⟨stays.1, stays.2.1, stays.2.2, id, fun _ hp hr hh hf hu => absurd (by simp [hp, hr, hh, hf, hu]) fails⟩
  · rw [if_neg starting]
    by_cases safe : s.portState n = 5
    · rw [if_pos safe]
      split
      · exact ⟨goes.1, goes.2.1, goes.2.2, fun _ => state, fun h => absurd h starting⟩
      · split
        · have kinded := Keeps.setN s (Entry.portSafeKind n) 2 (List.mem_singleton_self _)
          have kept := (FrameKeeps.of_keeps kinded).portState (n := n) (mt List.mem_singleton.1 (key_ne_of_sub (by decide)))
          have vouch := kinded.vouched n (mt List.mem_singleton.1 (key_ne_of_record (by omega) (by decide) (by decide)))
          refine ⟨(FrameKeeps.of_keeps kinded).mono (by simp [stateKeys]), .of_eq (kinded.portRt n), ?_, fun h => kept.trans h,
            fun h => absurd h starting⟩
          rw [kept, vouch, pair]
        · exact ⟨stays.1, stays.2.1, stays.2.2, id, fun h => absurd h starting⟩
    · rw [if_neg safe]
      exact ⟨stays.1, stays.2.1, stays.2.2, id, fun h => absurd h starting⟩

/-- A port without a record ring writes no frame record. -/
theorem State.writeRecord_ringless {s : State} {n : Nat} (ringless : (s.portRt n).recordRing = none) : s.writeRecord n = s := by
  simp only [State.writeRecord, ringless]

/-- A code's counter is one of the five (R139). -/
theorem codeCounter_mem (n code : Nat) : codeCounter n code ∈ (List.range 5).map (codeCounter n) := by
  match code with
  | 0 | 1 | 2 | 3 => exact List.mem_map_of_mem (by decide)
  | c + 4 => exact List.mem_map_of_mem (f := codeCounter n) (a := 4) (by decide)

/-- The entries that show a frame. -/
def frameKeys (n : Nat) : List Nat :=
  [Entry.safeHoldFrameCount n, Entry.safeHoldAge n, Entry.portFlags n] ++ (List.range 5).map (codeCounter n)

theorem Keeps.showHold (s : State) (n : Nat) : Keeps s (s.showHold n) (frameKeys n) := by
  unfold State.showHold
  split
  · exact Keeps.refl s _
  · exact (Keeps.setN _ _ _ (by simp [frameKeys])).trans (Keeps.setN _ _ _ (by simp [frameKeys]))

/-- What is shown of the frame leaves what was counted and settled. -/
theorem State.frameShown_keeps (s : State) {n : Nat} (F : Nat) (ringless : (s.portRt n).recordRing = none) :
    FrameKeeps s (s.frameShown n F) (frameKeys n) ∧ (s.portRt n).SameFrame ((s.frameShown n F).portRt n) := by
  unfold State.frameShown
  extract_lets src t wait src' u v w
  have first : FrameKeeps s t (frameKeys n) ∧ (s.portRt n).SameFrame (t.portRt n) :=
    ⟨.setPortRt .., .set ⟨rfl, rfl, rfl, rfl, rfl, rfl⟩⟩
  have second : FrameKeeps t u (frameKeys n) ∧ (t.portRt n).SameFrame (u.portRt n) := by
    show FrameKeeps t (if wait = true then t else _) _ ∧ (t.portRt n).SameFrame ((if wait = true then t else _ : State).portRt n)
    split
    · exact ⟨.refl t _, .refl _⟩
    · exact ⟨.setPortRt .., .set ⟨rfl, rfl, rfl, rfl, rfl, rfl⟩⟩
  have counted : Keeps u v (frameKeys n) := Keeps.bump u _ (List.mem_append_right _ (codeCounter_mem ..))
  have same : (s.portRt n).SameFrame (v.portRt n) := (first.2.trans second.2).trans (.of_eq (counted.portRt n))
  have ring : v.writeRecord n = v := State.writeRecord_ringless (same.recordRing.trans ringless)
  have unwritten : w = v := by
    show (if _ then v else v.writeRecord n) = v
    rw [ring, ite_self]
  rw [unwritten]
  have shown : Keeps v ((v.showHold n).portFlags n) (frameKeys n) := (Keeps.showHold v n).trans (Keeps.setN _ _ _ (by simp [frameKeys]))
  exact ⟨(first.1.trans second.1).trans (.of_keeps (counted.trans shown)), same.trans (.of_eq (shown.portRt n))⟩

/-- The entries that show the load of the flow engines. -/
def flowKeys : List Nat := [Entry.visionFlowDemand, Entry.visionFlowCapacity, Entry.visionFlowServedLoad, Entry.visionFlowServedMap]

/-- The flow engines' load shown again: no port's record and no other entry. -/
theorem State.recomputeServed_keeps (s : State) : EntriesKept s s.recomputeServed flowKeys ∧ s.recomputeServed.ports = s.ports := by
  have alloc (l : List Nat) (t : State) : EntriesKept t (t.each l State.allocFlow) flowKeys ∧
      (t.each l State.allocFlow).ports = t.ports := by
    simp only [State.each]
    induction l generalizing t with
    | nil => exact ⟨fun _ _ _ => rfl, rfl⟩
    | cons i r ih =>
      have one : EntriesKept t (t.allocFlow i) flowKeys ∧ (t.allocFlow i).ports = t.ports := by
        unfold State.allocFlow
        dsimp only
        split
        · exact ⟨fun _ _ _ => rfl, rfl⟩
        · exact ⟨fun _ _ _ => rfl, rfl⟩
      obtain ⟨entries, ports⟩ := ih (t.allocFlow i)
      exact ⟨fun k hk hl => (entries k hk hl).trans (one.1 k hk hl), ports.trans one.2⟩
  unfold State.recomputeServed
  extract_lets served load map t u
  have shown : Keeps s ((u.setN Entry.visionFlowServedLoad (load served)).setB Entry.visionFlowServedMap map) flowKeys :=
    (((Keeps.setN s _ _ (by simp [flowKeys])).trans (Keeps.setN _ _ _ (by simp [flowKeys]))).trans
      (Keeps.setN _ _ _ (by simp [flowKeys]))).trans (Keeps.setB _ _ _ (by simp [flowKeys]))
  obtain ⟨entries, ports⟩ := alloc served ((u.setN Entry.visionFlowServedLoad (load served)).setB Entry.visionFlowServedMap map)
  exact ⟨fun k hk hl => (entries k hk hl).trans (shown.raw hk hl), ports.trans shown.ports⟩

/-- What a frame start of a partition's port brings to the partition: its anchor, its schedule, the mode of its arrivals (R173, R371). -/
def State.partFollows (t : State) (p n : Nat) : State :=
  let r := t.partRt p
  let t := t.setPartRt p { r with portsLeft := r.portsLeft.filter (· ≠ n) }
  let t := if t.takesAnchor p n then t.moveAnchor p n else t
  if t.anchorPort p = some n then
    let r := t.partRt p
    let t := if r.applyNext then t.setPartRt p { r with inUse := some (t.b (Entry.schedSchedule p)), applyNext := false } else t
    t.takeArrivalMode p
  else t

theorem State.frameStarts_eq {s : State} {n : Nat} (crc : Nat) (runs : s.portRuns n = true) :
    s.frameStarts n crc = if (s.frameStart n crc).n (Entry.portPartition n) = 0 then (s.frameStart n crc).recomputeServed
      else ((s.frameStart n crc).partFollows ((s.frameStart n crc).n (Entry.portPartition n)) n).recomputeServed := by
  simp only [State.frameStarts, runs]
  rfl

/-- A frame start of a port that keeps the anchor, or leaves it with another, takes no new mode of arrivals. -/
def State.anchorSettled (s : State) (p n : Nat) : Prop :=
  (s.anchorPort p = some n ∧ (s.partRt p).arrivalSeen = s.n (Entry.partArrivalMode p)) ∨
    ((s.owned p).master ≠ n ∧ ∃ m, s.anchorPort p = some m ∧ m ≠ n)

/-- The record of a partition for which a port's frame has started. -/
def PartRt.portLeaves (r : PartRt) (n : Nat) : PartRt := { r with portsLeft := r.portsLeft.filter (· ≠ n) }

/-- Such a frame start changes the partition's record alone. -/
theorem State.partFollows_settled {t : State} {p n : Nat} (settled : t.anchorSettled p n) :
    ∃ x, t.partFollows p n = { t with parts := x } := by
  have left (r : PartRt) : (t.setPartRt p r).anchorPort p = t.anchorPort p := rfl
  have owned : (t.setPartRt p ((t.partRt p).portLeaves n)).owned p = t.owned p := by
    rw [State.owned, State.partRt_setPartRt]
    rfl
  change ∃ x, (let u := if (t.setPartRt p ((t.partRt p).portLeaves n)).takesAnchor p n then
      (t.setPartRt p ((t.partRt p).portLeaves n)).moveAnchor p n else t.setPartRt p ((t.partRt p).portLeaves n)
    if u.anchorPort p = some n then
      (if (u.partRt p).applyNext then u.setPartRt p { u.partRt p with inUse := some (u.b (Entry.schedSchedule p)), applyNext := false }
        else u).takeArrivalMode p
    else u) = { t with parts := x }
  rcases settled with ⟨mine, mode⟩ | ⟨master, m, other, differs⟩
  · have stays : (t.setPartRt p ((t.partRt p).portLeaves n)).takesAnchor p n = false := by simp [State.takesAnchor, left, mine]
    have read (q : PartRt) (h : q.arrivalSeen = (t.partRt p).arrivalSeen) : (t.setPartRt p q).takeArrivalMode p = t.setPartRt p q :=
      if_pos ((congrArg PartRt.arrivalSeen (State.partRt_setPartRt t p q)).trans (h.trans mode))
    simp only [stays, Bool.false_eq_true, if_false, left, mine, if_true, State.partRt_setPartRt, State.setPartRt_setPartRt]
    split
    · rw [read]
      · exact ⟨_, rfl⟩
      · rfl
    · rw [read]
      · exact ⟨_, rfl⟩
      · rfl
  · have stays : (t.setPartRt p ((t.partRt p).portLeaves n)).takesAnchor p n = false := by
      simp [State.takesAnchor, left, other, owned, master]
    have away : ¬ (t.anchorPort p = some n) := by simpa [other] using differs
    simp only [stays, Bool.false_eq_true, if_false, left, if_neg away]
    exact ⟨_, rfl⟩

/-- A frame start that moves no anchor: beside the frame, partitions' records and the flow engines' load. -/
theorem State.frameStarts_settled {s : State} {n : Nat} (crc : Nat) (runs : s.portRuns n = true)
    (settled : (s.frameStart n crc).n (Entry.portPartition n) = 0 ∨
      (s.frameStart n crc).anchorSettled ((s.frameStart n crc).n (Entry.portPartition n)) n) :
    ∃ x, s.frameStarts n crc = { s.frameStart n crc with parts := x }.recomputeServed := by
  rw [State.frameStarts_eq crc runs]
  rcases settled with none | part
  · exact ⟨_, if_pos none⟩
  · by_cases none : (s.frameStart n crc).n (Entry.portPartition n) = 0
    · exact ⟨_, if_pos none⟩
    · obtain ⟨x, follows⟩ := State.partFollows_settled part
      exact ⟨x, by rw [if_neg none, follows]⟩

theorem codeCounter_record (n code : Nat) : codeCounter n code / 256 = 0x2810 + n := by
  unfold codeCounter
  split
  all_goals exact key_div _ (by decide)

/-- The entries that show a frame are the port's flags, its hold frame's and its code counters. -/
theorem frameKeys_records {k n : Nat} (h : k ∈ frameKeys n) : k = Entry.portFlags n ∨ k / 256 = 0x3430 + n ∨ k / 256 = 0x2810 + n := by
  rcases List.mem_append.1 h with shown | counter
  · simp only [List.mem_cons, List.not_mem_nil, or_false] at shown
    rcases shown with rfl | rfl | rfl
    · exact .inr (.inl (key_div _ (by decide)))
    · exact .inr (.inl (key_div _ (by decide)))
    · exact .inl rfl
  · obtain ⟨c, -, rfl⟩ := List.mem_map.1 counter
    exact .inr (.inr (codeCounter_record n c))

theorem portKey_not_mem_frameKeys {n a : Nat} (h : a < 256) (other : a ≠ 15) : key (0x3400 + n) a ∉ frameKeys n := by
  intro listed
  have place := frameKeys_records listed
  rw [key_div _ h] at place
  rcases place with flags | hold | code
  · exact other (by simpa [key] using flags)
  · omega
  · omega

theorem portKey_not_mem_stateKeys {n a : Nat} (h : a < 256) (port : n < 16) (other : a ≠ 2 ∧ a ≠ 9 ∧ a ≠ 10) :
    key (0x3400 + n) a ∉ stateKeys n := by
  simp only [stateKeys, List.mem_cons, List.not_mem_nil, or_false, Entry.portState, Entry.pvPvPairs, Entry.portSafeCause,
      Entry.portSafeKind, key]
  omega

/-- The entries that a frame start changes, but for the flow engines' load. -/
def startKeys (n : Nat) : List Nat :=
  [Entry.portFrameCount n, Entry.portState n, Entry.portSafeCause n, Entry.portSafeKind n, Entry.portFlags n, Entry.pvPvPairs,
    Entry.safeHoldIntegrityFailures n, Entry.safeHoldFrameCount n, Entry.safeHoldAge n] ++ (List.range 5).map (codeCounter n)

theorem startKeys_records {k n : Nat} (h : k ∈ startKeys n) :
    k / 256 = 0x3400 + n ∨ k / 256 = 0x3430 + n ∨ k / 256 = 0x2810 + n ∨ k / 256 = 0x7E01 := by
  rcases List.mem_append.1 h with shown | counter
  · simp only [List.mem_cons, List.not_mem_nil, or_false] at shown
    rcases shown with rfl | rfl | rfl | rfl | rfl | rfl | rfl | rfl | rfl
    case inr.inr.inr.inr.inr.inl => exact .inr (.inr (.inr (key_div _ (by decide))))
    case inr.inr.inr.inr.inr.inr.inl => exact .inr (.inl (key_div _ (by decide)))
    case inr.inr.inr.inr.inr.inr.inr.inl => exact .inr (.inl (key_div _ (by decide)))
    case inr.inr.inr.inr.inr.inr.inr.inr => exact .inr (.inl (key_div _ (by decide)))
    all_goals exact .inl (key_div _ (by decide))
  · obtain ⟨c, -, rfl⟩ := List.mem_map.1 counter
    exact .inr (.inr (.inl (codeCounter_record n c)))

theorem portPartition_not_mem_startKeys (n : Nat) : Entry.portPartition n ∉ startKeys n := by
  intro listed
  rcases List.mem_append.1 listed with shown | counter
  · simp only [List.mem_cons, List.not_mem_nil, or_false, Entry.portPartition, Entry.portFrameCount, Entry.portState, Entry.portSafeCause,
      Entry.portSafeKind, Entry.portFlags, Entry.pvPvPairs, Entry.safeHoldIntegrityFailures, Entry.safeHoldFrameCount, Entry.safeHoldAge,
      key] at shown
    omega
  · obtain ⟨c, -, same⟩ := List.mem_map.1 counter
    have place := codeCounter_record n c
    rw [same, key_div _ (by decide)] at place
    omega

/-- A frame start's outcome on the port (R28, R237, R243, R254). -/
theorem State.frameStart_shows {s : State} {n : Nat} (crc : Nat) (port : n < 16) (runs : s.portRuns n = true)
    (pair : s.vouched n = decide (s.portState n = 2)) (ringless : (s.portRt n).recordRing = none) :
    FrameKeeps s (s.frameStart n crc) (startKeys n) ∧
    ((s.portRt n).begun (s.portState n)).SameFrame ((s.frameStart n crc).portRt n) ∧
    (s.frameStart n crc).n (Entry.portFrameCount n) = (s.portRt n).nextFrame % 2 ^ 32 ∧
    (s.frameStart n crc).vouched n = decide ((s.frameStart n crc).portState n = 2) ∧
    (s.portState n = 2 → (s.frameStart n crc).portState n = 2) ∧
    (s.portState n = 1 → (s.portRt n).passed = true → s.safeReqOn = false → s.held = false → (s.portRt n).failedNext = false →
      s.unitsFenced n = false → (s.frameStart n crc).portState n = 2) := by
  rw [State.frameStart_steps crc runs]
  obtain ⟨ended, ports⟩ := s.frameEnds_keeps n crc
  have record : (s.frameEnds n crc).portRt n = s.portRt n := by simp only [State.portRt, ports]
  have hold {a : Nat} (ha : a < 256) : key (0x3400 + n) a ∉ [Entry.safeHoldIntegrityFailures n] :=
    mt List.mem_singleton.1 (key_ne_of_record (by omega) ha (by decide))
  have ended_state : (s.frameEnds n crc).portState n = s.portState n := ended.portState (hold (by decide))
  have ended_pair : (s.frameEnds n crc).vouched n = s.vouched n :=
    ended.vouched n (mt List.mem_singleton.1 (key_ne_of_record (by omega) (by decide) (by decide)))
  obtain ⟨counted, begun, count⟩ := (s.frameEnds n crc).frameCounted_shows n
  rw [record, ended_state] at begun
  rw [record] at count ⊢
  have counted_state := (counted.portState (n := n) (mt List.mem_singleton.1 (key_ne_of_sub (by decide)))).trans ended_state
  have counted_pair := (counted.vouched n (mt List.mem_singleton.1 (key_ne_of_record (by omega) (by decide) (by decide)))).trans ended_pair
  have upto := (ended.mono (more := startKeys n) (by simp [startKeys])).trans (counted.mono (by simp [startKeys]))
  generalize (s.frameEnds n crc).frameCounted n = t at *
  obtain ⟨settled, same, pair', live, starts⟩ := t.frameSettles_shows port (s.portRt n).passed (s.holdFails n crc)
    (by rw [counted_pair, counted_state, pair])
  have settled_count := settled.n (portKey_not_mem_stateKeys (n := n) (a := 16) (by decide) port (by decide)) (ne_lost_of_record (by omega))
  generalize t.frameSettles n (s.portRt n).passed (s.holdFails n crc) = u at *
  obtain ⟨shown, last⟩ := u.frameShown_keeps (n := n) (s.portRt n).nextFrame
      (same.recordRing.trans ((congrArg PortRt.recordRing begun).trans ringless))
  have shown_state := shown.portState (n := n) (portKey_not_mem_frameKeys (by decide) (by decide))
  have pairs : Entry.pvPvPairs ∉ frameKeys n := by
    intro listed
    rcases frameKeys_records listed with flags | hold | code
    · exact key_ne_of_record (by omega) (by decide) (by decide) flags
    · rw [key_div _ (by decide)] at hold
      omega
    · rw [key_div _ (by decide)] at code
      omega
  have shown_pair := shown.vouched n pairs
  have device : t.device = s.device := by
    refine upto.n (fun listed => ?_) (by decide)
    have := startKeys_records listed
    rw [key_div _ (by decide)] at this
    omega
  refine ⟨?_, begun ▸ same.trans last, ?_, ?_, fun h => ?_, fun h passed req free fine fenced => ?_⟩
  · exact (upto.trans (settled.mono (by simp [startKeys, stateKeys]))).trans (shown.mono (by simp +contextual [startKeys, frameKeys]))
  · exact (shown.n (portKey_not_mem_frameKeys (a := 16) (by decide) (by decide)) (ne_lost_of_record (by omega))).trans
      (settled_count.trans count)
  · rw [shown_pair, shown_state, pair']
  · exact shown_state.trans (live (counted_state.trans h))
  · refine shown_state.trans (starts (counted_state.trans h) passed ?_ ?_ ?_ ?_)
    · simpa only [State.safeReqOn, upto.inputs] using req
    · simpa only [State.held, device] using free
    · exact (congrArg PortRt.failed begun).trans fine
    · simpa only [State.unitsFenced, State.fenced, upto.fc] using fenced

/-- A port whose last frame's composition was in, of a frame that did not fail, passed its checks. -/
theorem PortRt.passed_of {r : PortRt} (counting : r.counting = true) (fine : r.failed = false)
    (scan : r.scan.map Composed.frame = some r.frames) :
    r.passed = true := by
  obtain ⟨c, found, frame⟩ := Option.map_eq_some_iff.1 scan
  simp [PortRt.passed, counting, fine, found, frame]

theorem PortRt.dueScan_frame {r : PortRt} {c : Composed} (h : r.dueScan = some c) : r.composed = some c ∧ c.frame = r.nextFrame := by
  unfold PortRt.dueScan at h
  split at h
  · rename_i d found
    split at h
    · rename_i due
      obtain rfl := Option.some.inj h
      exact ⟨found, due⟩
    · cases h
  · cases h

/-- The partition's side of a frame start reads what the frame itself leaves. -/
theorem FrameKeeps.anchorSettled {s t : State} {n p : Nat} (h : FrameKeeps s t (startKeys n)) (port : n < 16)
    (settled : s.anchorSettled p n) :
    t.anchorSettled p n := by
  have inPart {a : Nat} (ha : a < 256) (hp : p ≤ 8) : t.raw (key (0x5000 + p) a) = s.raw (key (0x5000 + p) a) := by
    refine h.entries _ (fun listed => ?_) (ne_lost_of_record (by omega))
    have := startKeys_records listed
    rw [key_div _ ha] at this
    omega
  have anchor : t.anchorPort p = s.anchorPort p := State.anchorPort_congr (inPart (by decide))
  have record : t.partRt p = s.partRt p := by simp only [State.partRt, h.parts]
  have owned : t.owned p = s.owned p := by simp only [State.owned, record]
  have low {m : Nat} (found : s.anchorPort p = some m) : p ≤ 8 := by
    by_contra high
    simp [State.anchorPort, show 8 < p by omega] at found
  unfold State.anchorSettled at settled ⊢
  rw [anchor, record, owned]
  rcases settled with ⟨mine, mode⟩ | ⟨master, m, other, differs⟩
  · exact .inl ⟨mine, mode.trans (State.n_congr (inPart (by decide) (low mine))).symm⟩
  · exact .inr ⟨master, m, other, differs⟩

/-- Settles O28: the port's outcome of `State.frameStart_shows`; the partition and the flow engines add no port's entry. -/
theorem frameStartCounts : Obligations.FrameStartCounts := by
  intro s n crc count runs pair ringless part
  obtain ⟨kept, same, shown, vouches, live, starts⟩ := State.frameStart_shows crc.toNat n.isLt runs pair ringless
  have owner : (s.frameStart n crc.toNat).n (Entry.portPartition n) = s.n (Entry.portPartition n) :=
    kept.n (portPartition_not_mem_startKeys n) (ne_lost_of_record (by omega))
  obtain ⟨x, path⟩ := State.frameStarts_settled crc.toNat runs (by
    rw [owner]
    exact part.imp_right (kept.anchorSettled n.isLt))
  obtain ⟨entries, ports⟩ := State.recomputeServed_keeps { s.frameStart n crc.toNat with parts := x }
  have record : (s.frameStarts n crc.toNat).portRt n = (s.frameStart n crc.toNat).portRt n := by simp only [State.portRt, path, ports]
  have later {k : Nat} (hk : k ∉ flowKeys) (hl : k ≠ Entry.canEventsLost) :
      (s.frameStarts n crc.toNat).raw k = (s.frameStart n crc.toNat).raw k := by
    rw [path, entries k hk hl]
    rfl
  have port {a : Nat} (ha : a < 256) : key (0x3400 + n) a ∉ flowKeys := by
    simp only [flowKeys, List.mem_cons, List.not_mem_nil, or_false, Entry.visionFlowDemand, Entry.visionFlowCapacity,
      Entry.visionFlowServedLoad, Entry.visionFlowServedMap, key]
    omega
  have state : (s.frameStarts n crc.toNat).portState n = (s.frameStart n crc.toNat).portState n :=
    State.n_congr (later (port (by decide)) (ne_lost_of_record (by omega)))
  have vouch : (s.frameStarts n crc.toNat).vouched n = (s.frameStart n crc.toNat).vouched n :=
    State.vouched_congr (State.n_congr (later (by decide) (by decide)))
  have frame : (s.frameStarts n crc.toNat).n (Entry.portFrameCount n) = (s.frameStart n crc.toNat).n (Entry.portFrameCount n) :=
    State.n_congr (later (port (by decide)) (ne_lost_of_record (by omega)))
  refine ⟨_, State.onPort_next count, ?_⟩
  simp only [State.seal_portRt, State.seal_n, State.seal_portState, State.seal_vouched, record]
  rw [same.frames, same.counting, same.failed, same.failedNext, same.scan]
  refine ⟨rfl, rfl, frame.trans shown, rfl, rfl, fun c due => PortRt.dueScan_frame due,
    vouch.trans (vouches.trans (congrArg (fun m : Nat => decide (m = 2)) state.symm)), fun h => state.trans (live h),
    fun h counting fine next scan req free fenced => state.trans (starts h (PortRt.passed_of counting fine scan) req free next fenced),
        ?_, ?_⟩
  · have memory : (s.seal (s.frameStarts n crc.toNat)).mem = (s.frameStart n crc.toNat).mem := by rw [State.seal_mem, path]; simp
    exact fun a => by rw [memory]; exact kept.memory a
  · refine fun k hk hl => (later (fun h => hk ?_) hl).trans (kept.entries k (fun h => hk ?_) hl)
    · exact List.mem_append_left _ (List.mem_append_right [Entry.portFrameCount n, Entry.portState n, Entry.portSafeCause n,
        Entry.portSafeKind n, Entry.portFlags n, Entry.pvPvPairs, Entry.safeHoldIntegrityFailures n, Entry.safeHoldFrameCount n,
        Entry.safeHoldAge n] h)
    · exact (List.mem_append.1 h).elim (fun port => List.mem_append_left _ (List.mem_append_left flowKeys port)) (List.mem_append_right _)

end Sys2Proof.Machine
end

section
namespace Sys2Proof.Machine

open Sys2Proof

/-! The pace shown (R35, R389). -/

/-- The entries that show the pace. -/
def paceKeys : List Nat :=
  [Entry.devVcoreSetpoint, Entry.devVcoreMeasured, Entry.devSlackMin, Entry.devPaceMin] ++ (List.range 8).map Entry.herdPace

/-- The first entries that show the pace. -/
def State.showSupply (s : State) : State :=
  ((s.setN Entry.devVcoreSetpoint s.pace.setpoint).setN Entry.devVcoreMeasured s.pace.measured).setN Entry.devSlackMin s.pace.slackMin

/-- The paces of the herds shown. -/
def State.showHerdPaces (s : State) (paces : List (Nat × Nat)) (l : List Nat) : State :=
  s.each l fun t h => t.withSome (Assoc.find paces h) fun p => t.setN (Entry.herdPace h) p

theorem State.showPace_eq (s : State) : s.showPace = s.showSupply.showPaceMin.showHerdPaces s.pace.paces (List.range 8) := rfl

theorem Keeps.showHerdPaces (s : State) (paces : List (Nat × Nat)) (l : List Nat) :
    Keeps s (s.showHerdPaces paces l) (l.map Entry.herdPace) := by
  refine Keeps.each s l _ fun t h listed => ?_
  cases found : Assoc.find paces h with
  | none => exact Keeps.refl t _
  | some p => exact Keeps.setN t _ _ (List.mem_map_of_mem listed)

theorem State.showHerdPaces_shows (s : State) {paces : List (Nat × Nat)} {l : List Nat} {h p : Nat} (listed : h ∈ l)
    (found : Assoc.find paces h = some p) : (s.showHerdPaces paces l).n (Entry.herdPace h) = p := by
  simp only [State.showHerdPaces, State.each]
  induction l generalizing s with
  | nil => cases listed
  | cons g r ih =>
    by_cases later : h ∈ r
    · exact ih _ later
    · have here : h = g := (List.mem_cons.1 listed).resolve_right later
      subst here
      have rest := Keeps.showHerdPaces (s.setN (Entry.herdPace h) p) paces r
      rw [List.foldl_cons]
      simp only [State.withSome, found]
      refine (rest.n (fun mem => ?_) (ne_lost_of_record (by omega))).trans (State.n_setN _ _ _ (ne_lost_of_record (by omega)))
      obtain ⟨g, hg, same⟩ := List.mem_map.1 mem
      have : g = h := by
        simp only [Entry.herdPace, key] at same
        omega
      exact later (this ▸ hg)

theorem Keeps.showSupply (s : State) : Keeps s s.showSupply [Entry.devVcoreSetpoint, Entry.devVcoreMeasured, Entry.devSlackMin] :=
  ((Keeps.setN s _ _ (by simp)).trans (Keeps.setN _ _ _ (by simp))).trans (Keeps.setN _ _ _ (by simp))

theorem State.showSupply_shows (s : State) : s.showSupply.n Entry.devVcoreSetpoint = s.pace.setpoint ∧
    s.showSupply.n Entry.devVcoreMeasured = s.pace.measured ∧ s.showSupply.n Entry.devSlackMin = s.pace.slackMin := by
  unfold State.showSupply
  refine ⟨?_, ?_, State.n_setN _ _ _ (by decide)⟩
  · rw [State.n_setN_ne _ _ (by decide) (by decide), State.n_setN_ne _ _ (by decide) (by decide), State.n_setN _ _ _ (by decide)]
  · rw [State.n_setN_ne _ _ (by decide) (by decide), State.n_setN _ _ _ (by decide)]

theorem Keeps.livePaces {s t : State} {keys : List Nat} (h : Keeps s t keys) : t.livePaces = s.livePaces := by
  simp only [State.livePaces, State.herdCount, State.fenced, h.part, h.fc, h.pace]
  rfl

/-- PaceMin is the least pace of the herds in service (R35). -/
theorem State.showPaceMin_shows (s : State) : Keeps s s.showPaceMin [Entry.devPaceMin] ∧
    (s.livePaces ≠ [] → s.showPaceMin.n Entry.devPaceMin ∈ s.livePaces ∧ ∀ m ∈ s.livePaces, s.showPaceMin.n Entry.devPaceMin ≤ m) := by
  by_cases none : s.livePaces = []
  · exact ⟨by rw [State.showPaceMin, none]; exact Keeps.refl s _, fun h => absurd none h⟩
  · obtain ⟨m, listed, found, least⟩ := minBy_mem (fun n : Nat => (n : Int)) s.livePaces none
    have path : s.showPaceMin = s.setN Entry.devPaceMin m := by rw [State.showPaceMin, found]
    rw [path]
    refine ⟨Keeps.setN s _ _ (List.mem_singleton_self _), fun _ => ?_⟩
    rw [State.n_setN s _ _ (by decide)]
    exact ⟨listed, fun n hn => by exact_mod_cast least n hn⟩

/-- Outside confidential mode the pace is shown at once. -/
theorem State.showPace_shows (s : State) : Keeps s s.showPace paceKeys ∧
    s.showPace.n Entry.devVcoreSetpoint = s.pace.setpoint ∧ s.showPace.n Entry.devVcoreMeasured = s.pace.measured ∧
    s.showPace.n Entry.devSlackMin = s.pace.slackMin ∧
    (∀ h p, h < 8 → Assoc.find s.pace.paces h = some p → s.showPace.n (Entry.herdPace h) = p) ∧
    (s.livePaces ≠ [] → s.showPace.n Entry.devPaceMin ∈ s.livePaces ∧ ∀ m ∈ s.livePaces, s.showPace.n Entry.devPaceMin ≤ m) := by
  rw [State.showPace_eq]
  have supply := Keeps.showSupply s
  obtain ⟨setpoint, measured, slack⟩ := s.showSupply_shows
  obtain ⟨least, min⟩ := s.showSupply.showPaceMin_shows
  rw [supply.livePaces] at min
  have herds := Keeps.showHerdPaces s.showSupply.showPaceMin s.pace.paces (List.range 8)
  have early (k : Nat) (h : k ∉ (List.range 8).map Entry.herdPace) (g : k ≠ Entry.devPaceMin) (hl : k ≠ Entry.canEventsLost) :
      (s.showSupply.showPaceMin.showHerdPaces s.pace.paces (List.range 8)).n k = s.showSupply.n k :=
    (herds.n h hl).trans (least.n (mt List.mem_singleton.1 g) hl)
  refine ⟨((supply.mono (by simp [paceKeys])).trans (least.mono (by simp [paceKeys]))).trans
      (herds.mono fun k h => List.mem_append_right _ h),
    ?_, ?_, ?_, fun h p low found => State.showHerdPaces_shows _ (List.mem_range.2 low) found, ?_⟩
  · rw [early Entry.devVcoreSetpoint (by decide) (by decide) (by decide), setpoint]
  · rw [early Entry.devVcoreMeasured (by decide) (by decide) (by decide), measured]
  · rw [early Entry.devSlackMin (by decide) (by decide) (by decide), slack]
  · rw [herds.n (k := Entry.devPaceMin) (by decide) (by decide)]
    exact min

/-- What the pace entries show after a change of the pace: in confidential mode what they did, else the pace (R389). -/
theorem State.paceMoves_shows (s : State) :
    (s.confidential = true → s.paceMoves false = s) ∧ (s.confidential = false → s.paceMoves false = s.showPace) ∧
    Keeps s (s.paceMoves false) paceKeys := by
  cases mode : s.confidential with
  | false =>
    have path : s.paceMoves false = s.showPace := by simp [State.paceMoves, mode]
    exact ⟨fun h => (by cases h), fun _ => path, path ▸ s.showPace_shows.1⟩
  | true =>
    have path : s.paceMoves false = s := by simp [State.paceMoves, mode]
    exact ⟨fun _ => path, fun h => (by cases h), path.symm ▸ Keeps.refl s _⟩

/-! The pace monitors (R18, R19, R24). -/

/-- The pace of a herd held; a failed voltage joins those that failed (R18, R19). -/
def Pace.measure (p : Pace) (h pace : Nat) : Pace :=
  { p with
    paces := Assoc.put p.paces h pace
    floorAt := if pace < 840 && !p.floorAt.contains p.setpoint then p.floorAt ++ [p.setpoint] else p.floorAt }

theorem Pace.mem_measure_floorAt (p : Pace) (h pace v : Nat) :
    v ∈ (p.measure h pace).floorAt ↔ v ∈ p.floorAt ∨ (pace < 840 ∧ v = p.setpoint) := by
  simp only [Pace.measure]
  split
  · rename_i adds
    obtain ⟨slow, -⟩ : pace < 840 ∧ p.setpoint ∉ p.floorAt := by simpa using adds
    simp [slow]
  · rename_i keeps
    constructor
    · exact .inl
    · rintro (old | ⟨slow, rfl⟩)
      · exact old
      · simpa [slow] using keeps

/-- A window without a pace fault (R24). -/
theorem State.paceMeasured_plain {s : State} {h pace : Nat} (on : s.device ≠ 0)
    (plain : 800 ≤ pace ∨ (s.pace.setpoint ≠ 850 ∧ s.pace.fixed = false)) :
    s.paceMeasured h pace = { s with pace := s.pace.measure h pace }.paceMoves false := by
  have live : ¬ s.isOff = true := by simpa [State.isOff] using on
  have held : (if pace < 840 && !s.pace.floorAt.contains s.pace.setpoint then
      { ({ s.pace with paces := Assoc.put s.pace.paces h pace } : Pace) with floorAt := s.pace.floorAt ++ [s.pace.setpoint] }
      else ({ s.pace with paces := Assoc.put s.pace.paces h pace } : Pace)) = s.pace.measure h pace := by
    simp only [Pace.measure]
    split
    · rfl
    · rfl
  simp only [State.paceMeasured, if_neg live, held]
  rw [if_neg]
  rcases plain with fast | ⟨low, adapts⟩
  · simp [Nat.not_lt.2 fast]
  · simp [Pace.measure, low, adapts]

/-- What a command does to a herd that the part has. -/
theorem State.onHerd_next {s t : State} {h : Nat} (count : h < s.herdCount) : s.onHerd h t = .next (s.seal t) :=
  congrArg (fun t => s.answer t) (if_pos count)

/-! READ_VOUT (R20, R23). -/

theorem apart_le {a b d : Nat} : apart a b ≤ d ↔ a ≤ b + d ∧ b ≤ a + d := by
  unfold apart
  omega

/-- A pace supply fault leaves the supply treated as fixed. -/
theorem State.supplyFails_fixed (s : State) : s.supplyFails.pace.fixed = true := by
  unfold State.supplyFails
  split
  · assumption
  · rfl

/-- The pace replaced on both sides. -/
theorem Keeps.withPace {s t : State} {keys : List Nat} (h : Keeps s t keys) (x : Pace) :
    Keeps { s with pace := x } { t with pace := x } keys :=
  h.update (fun u => { u with pace := x }) (fun _ _ => rfl) (fun _ => rfl) (fun _ => rfl) (fun _ => rfl) fun _ => rfl

/-- The state after a reading of READ_VOUT. -/
def State.voutRead (s : State) (v : Nat) : State := { s.readVout with pace := { s.pace with nacks := 0, measured := v } }.paceMoves false

theorem State.voutRead_pace (s : State) (v : Nat) : (s.voutRead v).pace = { s.pace with nacks := 0, measured := v } :=
  (State.paceMoves_shows _).2.2.pace

theorem State.voutChecked_some {s : State} (on : 3 ≤ s.device) (v : Nat) :
    s.voutChecked (some v) = if 15 < apart v s.pace.setpoint then (s.voutRead v).supplyFails
      else { s.voutRead v with pace := { s.pace with nacks := 0, measured := v, lastGood := v } } := by
  have path : s.voutChecked (some v) = if 15 < apart v (s.voutRead v).pace.setpoint then (s.voutRead v).supplyFails
      else { s.voutRead v with pace := { (s.voutRead v).pace with lastGood := v } } := if_neg (Nat.not_lt.2 on)
  rw [path, State.voutRead_pace]

theorem State.voutChecked_none {s : State} (on : 3 ≤ s.device) :
    s.voutChecked none = if 2 ≤ s.pace.nacks + 1 then { s.readVout with pace := { s.pace with nacks := s.pace.nacks + 1 } }.supplyFails
      else { s.readVout with pace := { s.pace with nacks := s.pace.nacks + 1 } } := if_neg (Nat.not_lt.2 on)

/-! Watchdogs (R26). -/

/-- The counts of the batons that the herds abandoned. -/
def abandonedKeys : List Nat := (List.range 8).map Entry.herdBatonsAbandoned

/-- A baton abandoned: its herd counts it, its lap is abandoned (R26, R276). -/
theorem Keeps.abandonBaton (s : State) (b : Baton) :
    Keeps { s with herds := (s.abandonBaton b).herds } (s.abandonBaton b) abandonedKeys := by
  have counts (t : State) : Keeps t (t.countAbandoned b) abandonedKeys := by
    simp only [State.countAbandoned]
    split
    · rename_i herd
      simp only [Bool.and_eq_true, decide_eq_true_eq] at herd
      exact Keeps.bump t _ (List.mem_map_of_mem (List.mem_range.2 (by omega)))
    · exact Keeps.refl t _
  have laps (t : State) (k : Nat) : t.abandonLap k = { t with herds := (t.abandonLap k).herds } := by
    unfold State.abandonLap
    dsimp only
    split
    · rfl
    · rfl
  have queues (t : State) (only : t = { s with herds := t.herds }) (k : Nat) :
      Keeps { s with herds := ((t.countAbandoned b).abandonLap k).herds } ((t.countAbandoned b).abandonLap k) abandonedKeys := by
    have counted := (only ▸ counts t : Keeps { s with herds := t.herds } (t.countAbandoned b) abandonedKeys)
    rw [laps (t.countAbandoned b) k]
    exact counted.withHerds _
  unfold State.abandonBaton
  dsimp only
  split
  · exact queues _ rfl _
  · split
    · exact queues _ rfl _
    · exact queues _ rfl _

/-- The expiry of a watchdog that reports: counted, with the baton concerned abandoned (R26). -/
def State.watchdogCounts (s : State) (baton : Option Baton) : State :=
  (s.bump Entry.devWatchdogCount).withSome baton (s.bump Entry.devWatchdogCount).abandonBaton

theorem Keeps.watchdogCounts (s : State) (baton : Option Baton) :
    Keeps { s with herds := (s.watchdogCounts baton).herds } (s.watchdogCounts baton) (Entry.devWatchdogCount :: abandonedKeys) := by
  have counted := Keeps.bump s Entry.devWatchdogCount (keys := Entry.devWatchdogCount :: abandonedKeys) (List.mem_cons_self ..)
  cases baton with
  | none => exact counted.herds ▸ counted
  | some b => exact (counted.withHerds _).trans ((Keeps.abandonBaton (s.bump Entry.devWatchdogCount) b).mono
      fun _ h => List.mem_cons_of_mem _ h)

theorem State.watchdogCounts_count (s : State) (baton : Option Baton) :
    (s.watchdogCounts baton).n Entry.devWatchdogCount = (s.n Entry.devWatchdogCount + 1) % 2 ^ 32 := by
  have count := State.n_bump s Entry.devWatchdogCount 32 (by decide) (widthOf_parts (by decide +kernel))
  cases baton with
  | none => exact count
  | some b => exact ((Keeps.abandonBaton (s.bump Entry.devWatchdogCount) b).n (by decide) (by decide)).trans count

/-- An expiry whose suspect is fenced under an open event merges into it (R414). -/
theorem State.watchdog_merged {s : State} {reporter suspect : UnitCode} {e : FaultEvent} {baton : Option Baton} (on : 3 ≤ s.device)
    (watched : s.watchdogOff reporter = false) (known : s.hasUnit reporter = true) (listed : s.hasUnit suspect = true)
    (permanent : s.isPermanent suspect = false) (event : s.eventFor suspect = some e) (fenced : s.fenced suspect = true)
    (kid : suspect.kind ≠ .kid) (enough : s.herdMinimum ≤ s.workingHerds.length) :
    s.watchdog reporter suspect baton = (((s.watchdogCounts baton).amend e.number (·.withReport .uncorrectable)).bump
      Entry.faultReportsMerged).settle (causeOf suspect) := by
  have kept := Keeps.watchdogCounts s baton
  have booted : ¬ (s.watchdogCounts baton).device < 3 := by
    have device : (s.watchdogCounts baton).device = s.device := kept.n (by decide) (by decide)
    omega
  have goes : ¬ (s.isOff || s.watchdogOff reporter || !s.hasUnit reporter || !s.hasUnit suspect) = true := by
    have live : s.isOff = false := State.isOff_eq_false (by omega)
    simp [live, watched, known, listed]
  have merged : Keeps ((s.watchdogCounts baton).amend e.number (·.withReport .uncorrectable))
      (((s.watchdogCounts baton).amend e.number (·.withReport .uncorrectable)).bump Entry.faultReportsMerged) [Entry.faultReportsMerged] :=
    Keeps.bump _ _ (List.mem_singleton_self _)
  have fences : (((s.watchdogCounts baton).amend e.number (·.withReport .uncorrectable)).bump Entry.faultReportsMerged).fc.fenced =
      s.fc.fenced :=
    (congrArg Fc.fenced merged.fc).trans (congrArg Fc.fenced kept.fc : (s.watchdogCounts baton).fc.fenced = s.fc.fenced)
  have part : (((s.watchdogCounts baton).amend e.number (·.withReport .uncorrectable)).bump Entry.faultReportsMerged).part = s.part :=
    merged.part.trans kept.part
  have path : s.watchdog reporter suspect baton =
      ((s.watchdogCounts baton).actOn reporter suspect .uncorrectable 0 []).checkKids reporter suspect :=
    (if_neg goes).trans (if_neg booted)
  have whole (t : State) : t.checkKids reporter suspect = t := if_neg (by simp [kid])
  rw [path, whole, State.actOn_merged ((State.isPermanent_congr (congrArg Fc.permanent kept.fc)).trans permanent)
    ((State.eventFor_congr (congrArg Fc.log kept.fc)).trans event) ((State.fenced_congr (congrArg Fc.fenced kept.fc)).trans fenced),
    State.mergeInto_none, State.settleAll_eq_settle]
  rw [State.herdMinimum_congr part, State.workingHerds_congr part fences]
  exact enough

/-- Settles O8: a window and a check leave the pace as `Pace.measure` and `State.voutRead` say; an expiry is a merged report. -/
theorem paceMeasured : Obligations.PaceMeasured := by
  refine ⟨fun s h rate count on plain => ?_, fun s on => ⟨fun v above below => ?_, fun first => ?_, fun again => ?_, fun v far => ?_⟩,
    fun s reporter suspect e baton on free watched known listed permanent event unit fenced kid enough anchored => ?_⟩
  · obtain ⟨held, moves, kept⟩ := State.paceMoves_shows { s with pace := s.pace.measure h rate }
    obtain ⟨-, setpoint, -, slack, paces, least⟩ := State.showPace_shows { s with pace := s.pace.measure h rate }
    have path := State.paceMeasured_plain (h := h) on plain
    have measured : (s.paceMeasured h rate).pace = s.pace.measure h rate := by rw [path, kept.pace]
    have found : Assoc.find (s.pace.measure h rate).paces h = some rate := Assoc.find_put_same ..
    refine ⟨_, State.onHerd_next count, ?_⟩
    simp only [State.seal_pace, State.seal_n]
    rw [measured]
    refine ⟨found, fun g other => Assoc.find_put_ne _ _ (Ne.symm other), fun v => s.pace.mem_measure_floorAt h rate v, fun mode => ?_,
      fun mode => ?_, ?_⟩
    · have live : (s.seal (s.paceMeasured h rate)).livePaces = ({ s with pace := s.pace.measure h rate } : State).livePaces := by
        rw [path]
        exact kept.livePaces
      rw [live, path, moves mode]
      exact ⟨paces h rate h.isLt found, least, setpoint, slack⟩
    · rw [path, held mode]
      exact Keeps.seal _ _ _
    · rw [path]
      exact kept.trans (Keeps.seal _ _ _)
  · have near : ¬ 15 < apart v s.pace.setpoint := Nat.not_lt.2 (apart_le.2 ⟨above, below⟩)
    have path := (State.voutChecked_some on v).trans (if_neg near)
    obtain ⟨-, moves, kept⟩ := State.paceMoves_shows { s.readVout with pace := { s.pace with nacks := 0, measured := v } }
    refine ⟨_, congrArg (fun t => s.answer t) path, rfl, fun mode => ?_, ?_⟩
    · have shown : (s.voutRead v).n Entry.devVcoreMeasured = v := by
        rw [State.voutRead, moves mode]
        exact (State.showPace_shows _).2.2.1
      exact shown
    · exact (kept.withPace _).trans (Keeps.seal _ _ _)
  · have path := (State.voutChecked_none on).trans (if_neg (by omega))
    refine ⟨_, congrArg (fun t => s.answer t) path, ?_⟩
    rw [first]
    exact Keeps.seal _ _ _
  · have path := (State.voutChecked_none on).trans (if_pos (by omega))
    exact ⟨_, congrArg (fun t => s.answer t) path, State.supplyFails_fixed _⟩
  · have apart : 15 < apart v s.pace.setpoint := Nat.not_le.1 fun near => by
      have := apart_le.1 near
      omega
    exact ⟨_, congrArg (fun t => s.answer t) ((State.voutChecked_some on v).trans (if_pos apart)), State.supplyFails_fixed _⟩
  · have path := State.watchdog_merged (baton := baton) on watched known listed permanent event fenced kid enough
    have counts := Keeps.watchdogCounts s baton
    have merged : Keeps ((s.watchdogCounts baton).amend e.number (·.withReport .uncorrectable))
        (((s.watchdogCounts baton).amend e.number (·.withReport .uncorrectable)).bump Entry.faultReportsMerged)
            [Entry.faultReportsMerged] :=
      Keeps.bump _ _ (List.mem_singleton_self _)
    have settled := Keeps.settle (((s.watchdogCounts baton).amend e.number (·.withReport .uncorrectable)).bump Entry.faultReportsMerged)
      (causeOf suspect)
    have later : Keeps ((s.watchdogCounts baton).amend e.number (·.withReport .uncorrectable)) (s.watchdog reporter suspect baton)
        [Entry.faultReportsMerged, Entry.devDeviceState, Entry.devStateCause] :=
      path ▸ (merged.mono (by simp)).trans (settled.mono (by simp))
    have counted : (s.watchdogCounts baton).anchored :=
      State.anchored_of_keeps (s := { s with herds := (s.watchdogCounts baton).herds }) anchored counts (by decide)
    have swept : (s.watchdog reporter suspect baton).anchored :=
      State.anchored_of_keeps (s := (s.watchdogCounts baton).amend e.number (·.withReport .uncorrectable)) counted later (by decide)
    have log : (s.watchdog reporter suspect baton).fc.log =
        s.fc.log.map fun x => if x.number = e.number then x.withReport .uncorrectable else x := by
      rw [later.fc, State.amend, counts.fc]
    have worse (x : FaultEvent) : x.withReport .uncorrectable =
        { x with merged := x.merged + 1, cls := if x.cls = .correctable then .uncorrectable else x.cls
                 failed := x.failed || x.recovering } := by
      cases cls : x.cls <;> simp [FaultEvent.withReport, cls, classCode]
    refine ⟨_, congrArg (fun t => s.answer t) (State.anchorSweep_of_anchored swept), ?_, ?_, ?_, ?_⟩
    · rw [State.seal_n, later.n (by decide) (by decide)]
      exact s.watchdogCounts_count baton
    · rw [State.seal_n, path, settled.n (by decide) (by decide), State.n_bump _ _ 64 (by decide) (widthOf_parts (by decide +kernel))]
      exact congrArg (fun n => (n + 1) % 2 ^ 64) (counts.n (by decide) (by decide))
    · rw [State.seal_fc, log]
      simp only [worse]
    · rw [State.seal_fc, log, ← counts.fc]
      exact later.trans (Keeps.seal _ _ _)

end Sys2Proof.Machine
end

section
namespace Sys2Proof.Machine

open Sys2Proof

/-! What ends a control interval: the pace, the power and the rates shown (R35, R389, R123). -/

theorem Keeps.showRails (s : State) : Keeps s s.showRails [Entry.supplySupplyVoltages] := by
  unfold State.showRails
  split
  · exact Keeps.refl s _
  · exact Keeps.setB s _ _ (List.mem_singleton_self _)

theorem Keeps.paceMoves (s : State) (quarter : Bool) : Keeps s (s.paceMoves quarter) (paceKeys ++ [Entry.supplySupplyVoltages]) := by
  have shown := s.showPace_shows.1.mono fun k h => List.mem_append_left [Entry.supplySupplyVoltages] h
  unfold State.paceMoves
  split
  · exact shown
  · split
    · exact shown.trans ((Keeps.showRails _).mono fun k h => List.mem_append_right _ h)
    · exact Keeps.refl s _

theorem Keeps.showPower (s : State) (watts : Option Nat) : Keeps s (s.showPower watts) [Entry.devPackagePower] := by
  cases watts with
  | none => exact Keeps.refl s _
  | some w => exact Keeps.setN s _ _ (List.mem_singleton_self _)

/-- The meters replaced on both sides. -/
theorem Keeps.withMeters {s t : State} {keys : List Nat} (h : Keeps s t keys) (x : List (Nat × List Nat)) :
    Keeps { s with meters := x } { t with meters := x } keys :=
  h.update (fun u => { u with meters := x }) (fun _ _ => rfl) (fun _ => rfl) (fun _ => rfl) (fun _ => rfl) fun _ => rfl

/-- The rates shown change their entries and the meters. -/
theorem Keeps.showMeters (s : State) : ∃ x, Keeps { s with meters := x } s.showMeters rateKeys := by
  have rates (l : List Nat) (t : State) (sub : ∀ k ∈ l, k ∈ rateKeys) : ∃ x, Keeps { t with meters := x } (t.each l fun t k =>
      match Assoc.get t.meters k [] with
      | [] => t
      | l => { t.setN k ((l.take 4).foldl (· + ·) 0 / 1000000) with meters := Assoc.put t.meters k (0 :: l.take 3) }) rateKeys := by
    simp only [State.each]
    induction l generalizing t with
    | nil => exact ⟨t.meters, Keeps.refl t _⟩
    | cons k r ih =>
      rw [List.foldl_cons]
      obtain ⟨x, later⟩ := ih (match Assoc.get t.meters k [] with
        | [] => t
        | l => { t.setN k ((l.take 4).foldl (· + ·) 0 / 1000000) with meters := Assoc.put t.meters k (0 :: l.take 3) })
        fun j h => sub j (List.mem_cons_of_mem _ h)
      refine ⟨x, Keeps.trans ?_ later⟩
      split
      · exact Keeps.refl _ _
      · exact (Keeps.setN t k _ (sub k (List.mem_cons_self ..))).withMeters x
  exact rates rateKeys s fun _ h => h

/-- The entries that the end of an interval shows. -/
def intervalKeys : List Nat := paceKeys ++ [Entry.supplySupplyVoltages, Entry.devPackagePower] ++ rateKeys

/-- What an interval shows when its steps are done. -/
def State.intervalEnds (s : State) (watts : Option Nat) : State :=
  if watts.isSome then ((s.paceMoves watts.isSome).showPower watts).showMeters else (s.paceMoves watts.isSome).showPower watts

theorem Keeps.intervalEnds (s : State) (watts : Option Nat) : ∃ x, Keeps { s with meters := x } (s.intervalEnds watts) intervalKeys := by
  have shown : Keeps s ((s.paceMoves watts.isSome).showPower watts) intervalKeys :=
    ((Keeps.paceMoves s _).mono fun k h => List.mem_append_left _ (by
      rcases List.mem_append.1 h with pace | rails
      · exact List.mem_append_left _ pace
      · exact List.mem_append_right _ (List.mem_cons.2 (.inl (List.mem_singleton.1 rails))))).trans
      ((Keeps.showPower _ watts).mono fun k h => List.mem_append_left _ (List.mem_append_right _ (List.mem_cons_of_mem _ h)))
  unfold State.intervalEnds
  split
  · obtain ⟨x, rates⟩ := Keeps.showMeters ((s.paceMoves watts.isSome).showPower watts)
    exact ⟨x, (shown.withMeters x).trans (rates.mono fun k h => List.mem_append_right _ h)⟩
  · exact ⟨s.meters, shown⟩

/-! The slacks of an interval (R22, R35). -/

/-- The entries that show the slack of the windows. -/
def slackKeys : List Nat := userPartitions.map Entry.schedWindowSlack

/-- The pace with the slacks of the interval taken. -/
def Pace.slacksTaken (p : Pace) : Pace := { p with slackMin := lowestSlack p.slacks, slacks := [] }

theorem Keeps.takeSlacks (s : State) : Keeps { s with pace := s.pace.slacksTaken } s.takeSlacks slackKeys :=
  Keeps.each _ _ _ fun t _ listed => Keeps.setB t _ _ (List.mem_map_of_mem listed)

/-- One control interval of a supply that adapts. -/
theorem State.paceInterval_adapts {s : State} (running : s.running = true) (adapts : s.pace.fixed = false) (r w : Option Nat) (q : Bool) :
    s.paceInterval r q w = (s.takeSlacks.paceSteps (lowestSlack s.pace.slacks) q).intervalEnds w := by
  have unchecked : s.fixedChecked r = s := if_pos (by simp [adapts])
  have slack : s.takeSlacks.pace.slackMin = lowestSlack s.pace.slacks := congrArg Pace.slackMin (Keeps.takeSlacks s).pace
  simp only [State.paceInterval, unchecked, running, slack]
  rfl

/-! The steps of R22's table. -/

/-- A new setpoint written, acknowledged or for the first time not: the pace alone changes, and the controller is written. -/
theorem State.writeVout_first (s : State) (mv : Nat) {acked : Bool} (first : acked = true ∨ s.pace.nacks = 0) :
    ∃ nacks, s.writeVout mv acked = { s.driveVout mv with pace := { s.pace with setpoint := mv, quiet := 0, nacks := nacks } } := by
  cases acked with
  | true => exact ⟨0, rfl⟩
  | false =>
    have nacks : s.pace.nacks = 0 := first.resolve_left (by decide)
    refine ⟨s.pace.nacks + 1, ?_⟩
    exact if_neg (by simp [State.driveVout, State.pmbus, State.emit, nacks])

/-- The level that a partition takes changes no mode of arrivals. -/
theorem State.unrecorded_takeShed {s : State} (unrecorded : s.unrecorded) (p : Nat) : (s.takeShed p).unrecorded := by
  intro q
  rw [State.takeShed, State.partRt, State.setPartRt, Assoc.get_put]
  split
  · exact unrecorded p
  · exact unrecorded q

/-- The partitions take a new shed level: their records alone change while none records arrivals (R22, R173). -/
theorem State.each_takeShed {s : State} (unrecorded : s.unrecorded) (n : Nat) (l : List Nat) :
    ∃ x, s.each l (fun t p =>
      let t := t.logArrival p arrShed 0 0 (t.anchorFrame p) n
      if t.betweenLaps p then t.takeShed p else t) = { s with parts := x } := by
  simp only [State.each]
  induction l generalizing s with
  | nil => exact ⟨s.parts, rfl⟩
  | cons p r ih =>
    have unlogged : s.logArrival p arrShed 0 0 (s.anchorFrame p) n = s := if_pos (by simp [unrecorded p])
    rw [List.foldl_cons, unlogged]
    split
    · obtain ⟨x, later⟩ := ih (State.unrecorded_takeShed unrecorded p)
      exact ⟨x, later.trans rfl⟩
    · exact ih unrecorded

/-- A shed level given a value: the level and what the partitions take of it. -/
theorem State.setShed_unrecorded {s : State} (unrecorded : s.unrecorded) (n : Nat) :
    (s.setShed n).n Entry.devShedLevel = n ∧ ∃ x, Keeps { s with parts := x } (s.setShed n) [Entry.devShedLevel] := by
  by_cases same : n = s.n Entry.devShedLevel
  · have path : s.setShed n = s := if_pos same
    exact ⟨path.symm ▸ same.symm, s.parts, path.symm ▸ Keeps.refl s _⟩
  · have given := Keeps.setN s Entry.devShedLevel n (List.mem_singleton_self _)
    have still : (s.setN Entry.devShedLevel n).unrecorded := fun p => given.partRt p ▸ unrecorded p
    obtain ⟨x, taken⟩ := State.each_takeShed still n userPartitions
    have path : s.setShed n = { s.setN Entry.devShedLevel n with parts := x } := (if_neg same).trans taken
    rw [path]
    exact ⟨State.n_setN s _ _ (by decide), x, given.update (fun u => { u with parts := x }) (fun _ _ => rfl) (fun _ => rfl) (fun _ => rfl)
      (fun _ => rfl) fun _ => rfl⟩

/-- The voltage raised: a pace or a slack too low below 850 mV (R22). -/
theorem State.paceSteps_raises {s : State} {slack : Nat} {acked : Bool}
    (urgent : (∃ m ∈ s.livePaces, m < 840) ∨ slack < s.n Entry.devPaceMargin)
    (low : s.pace.setpoint ≠ 850) (adapts : s.pace.fixed = false) :
    s.paceSteps slack acked = s.writeVout (min 850 (s.pace.setpoint + 10)) acked := by
  have urgent' : (s.livePaces.any (· < 840) || decide (slack < s.n Entry.devPaceMargin)) = true := by simpa using urgent
  simp [State.paceSteps, low, adapts, urgent']

/-- A level shed, or a short slack counted: a pace or a slack too low at 850 mV (R22). -/
theorem State.paceSteps_sheds {s : State} {slack : Nat} {acked : Bool}
    (urgent : (∃ m ∈ s.livePaces, m < 840) ∨ slack < s.n Entry.devPaceMargin)
    (top : s.pace.setpoint = 850) :
    s.paceSteps slack acked =
      let t := (if s.livePaces.any (· < 840) then s.bump Entry.devFloorBreaches else s).noQuiet
      if s.n Entry.devShedLevel < 3 then t.setShed (s.n Entry.devShedLevel + 1)
      else if slack < s.n Entry.devPaceMargin then t.bump Entry.devSlackShortCount else t := by
  have urgent' : (s.livePaces.any (· < 840) || decide (slack < s.n Entry.devPaceMargin)) = true := by simpa using urgent
  simp [State.paceSteps, top, urgent']

/-- No step, a level given back, or a quiet interval: every pace and the slack suffice (R22). -/
theorem State.paceSteps_calm {s : State} {slack : Nat} {acked : Bool} (paced : ∀ m ∈ s.livePaces, 840 ≤ m)
    (ample : s.n Entry.devPaceMargin ≤ slack) (adapts : s.pace.fixed = false) :
    s.paceSteps slack acked =
      if s.lowerSlack ≤ slack then
        if 0 < s.n Entry.devShedLevel then s.noQuiet.setShed (s.n Entry.devShedLevel - 1)
        else if 16 ≤ s.pace.quiet + 1 ∧ max 620 (s.pace.setpoint - 5) < s.pace.setpoint ∧
            max 620 (s.pace.setpoint - 5) ∉ s.pace.floorAt then
          s.writeVout (max 620 (s.pace.setpoint - 5)) acked
        else { s with pace := { s.pace with quiet := s.pace.quiet + 1 } }
      else s.noQuiet := by
  have calm : s.livePaces.any (· < 840) = false := by simpa using paced
  have enough : ¬ slack < s.n Entry.devPaceMargin := Nat.not_lt.2 ample
  by_cases level : s.n Entry.devShedLevel = 0
  · simp [State.paceSteps, calm, enough, level, adapts, and_assoc]
  · simp [State.paceSteps, calm, enough, level, adapts, Nat.pos_of_ne_zero level]

/-- The state after an interval, from the state `v` that its steps leave. -/
theorem exec_paceControlInterval {s v : State} {r w : Option Nat} {q : Bool} (running : s.running = true) (adapts : s.pace.fixed = false)
    (steps : s.takeSlacks.paceSteps (lowestSlack s.pace.slacks) q = v) :
    ∃ t, exec (.paceControlInterval r ⟨q, w⟩) s = .next t ∧ t.pace = v.pace ∧ (∀ o ∈ v.out, o ∈ t.out) ∧ EntriesKept v t intervalKeys ∧
      (MemoryKept s.takeSlacks v → MemoryKept s t) ∧
      (∀ keys, EntriesKept s.takeSlacks v keys → EntriesKept s t (intervalKeys ++ slackKeys ++ keys)) := by
  obtain ⟨x, ends⟩ := Keeps.intervalEnds v w
  have taken := Keeps.takeSlacks s
  refine ⟨_, congrArg (fun t => s.answer t) ((State.paceInterval_adapts running adapts r w q).trans (by rw [steps])), ends.pace,
      fun o sent => ?_,
    ends.entries, fun memory a => ?_, fun keys entries k hk hl => ?_⟩
  · obtain ⟨l, out, -⟩ := ends.2.2.2.1
    exact (congrArg (fun l => o ∈ l) out).mpr (List.mem_append_left _ sent)
  · exact (ends.memoryKept a).trans ((memory a).trans (taken.memoryKept a))
  · simp only [List.mem_append, not_or] at hk
    exact (ends.raw hk.1.1 hl).trans ((entries k hk.2 hl).trans (taken.raw hk.1.2 hl))

/-- What the steps read of the state in which the slacks are taken. -/
theorem State.takeSlacks_reads (s : State) :
    s.takeSlacks.pace = s.pace.slacksTaken ∧ s.takeSlacks.livePaces = s.livePaces ∧
    s.takeSlacks.lowerSlack = s.lowerSlack ∧ (s.unrecorded → s.takeSlacks.unrecorded) ∧ EntriesKept s s.takeSlacks slackKeys := by
  have taken := Keeps.takeSlacks s
  refine ⟨taken.pace, taken.livePaces, ?_, fun unrecorded p => ?_, taken.entries⟩
  · rw [State.lowerSlack, taken.n (by decide) (by decide), taken.n (by decide) (by decide)]
    rfl
  · rw [taken.partRt p]
    exact unrecorded p

/-- The write of a voltage leaves every entry and the memory. -/
theorem State.writeVout_shows (s : State) (mv : Nat) {acked : Bool} (first : acked = true ∨ s.pace.nacks = 0) :
    (∃ nacks, (s.writeVout mv acked).pace = { s.pace with setpoint := mv, quiet := 0, nacks := nacks }) ∧
    (∀ k, (s.writeVout mv acked).raw k = s.raw k) ∧ (s.writeVout mv acked).mem = s.mem ∧
    Output.pmbus (s.n Entry.devPmbusAddress) 0x21 (some (Config.linear16 mv).toNat) (s.n Entry.devPmbusRate = 1) ∈
        (s.writeVout mv acked).out := by
  obtain ⟨nacks, path⟩ := s.writeVout_first mv first
  rw [path]
  exact ⟨⟨nacks, rfl⟩, fun _ => rfl, rfl, List.mem_append_right _ (List.mem_singleton_self _)⟩

theorem EntriesKept.mono {s t : State} {keys more : List Nat} (h : EntriesKept s t keys) (sub : ∀ k ∈ keys, k ∈ more) :
    EntriesKept s t more :=
  fun k hk hl => h k (fun listed => hk (sub k listed)) hl

theorem EntriesKept.n {s t : State} {keys : List Nat} (h : EntriesKept s t keys) {k : Nat} (hk : k ∉ keys) (hl : k ≠ Entry.canEventsLost) :
    t.n k = s.n k := State.n_congr (h k hk hl)

/-- At 850 mV: a breach counted, a level shed, or a short slack counted (R22). -/
theorem State.paceSteps_top {s : State} {slack : Nat} {acked : Bool} (unrecorded : s.unrecorded)
    (urgent : (∃ m ∈ s.livePaces, m < 840) ∨ slack < s.n Entry.devPaceMargin) (top : s.pace.setpoint = 850) :
    (s.paceSteps slack acked).pace = { s.pace with quiet := 0 } ∧
    (s.n Entry.devShedLevel < 3 → (s.paceSteps slack acked).n Entry.devShedLevel = s.n Entry.devShedLevel + 1 ∧
      (s.paceSteps slack acked).n Entry.devSlackShortCount = s.n Entry.devSlackShortCount) ∧
    (3 ≤ s.n Entry.devShedLevel → (s.paceSteps slack acked).n Entry.devShedLevel = s.n Entry.devShedLevel ∧
      (s.paceSteps slack acked).n Entry.devSlackShortCount = (if slack < s.n Entry.devPaceMargin
        then (s.n Entry.devSlackShortCount + 1) % 2 ^ 32 else s.n Entry.devSlackShortCount)) ∧
    ((∃ m ∈ s.livePaces, m < 840) → (s.paceSteps slack acked).n Entry.devFloorBreaches = (s.n Entry.devFloorBreaches + 1) % 2 ^ 32) ∧
    MemoryKept s (s.paceSteps slack acked) ∧
    EntriesKept s (s.paceSteps slack acked) [Entry.devShedLevel, Entry.devFloorBreaches, Entry.devSlackShortCount] := by
  obtain ⟨u, breach, counts, kept⟩ : ∃ u, u = (if s.livePaces.any (· < 840) then s.bump Entry.devFloorBreaches else s) ∧
      ((∃ m ∈ s.livePaces, m < 840) → u.n Entry.devFloorBreaches = (s.n Entry.devFloorBreaches + 1) % 2 ^ 32) ∧
      Keeps s u [Entry.devFloorBreaches] := by
    refine ⟨_, rfl, ?_⟩
    split
    · exact ⟨fun _ => State.n_bump s _ 32 (by decide) (widthOf_parts (by decide +kernel)), Keeps.bump s _ (List.mem_singleton_self _)⟩
    · rename_i none
      exact ⟨fun slow => absurd (by simpa using slow) none, Keeps.refl s _⟩
  have path := State.paceSteps_sheds (acked := acked) urgent top
  rw [← breach] at path
  have quiet : u.noQuiet.pace = { s.pace with quiet := 0 } := congrArg (fun p : Pace => { p with quiet := 0 }) kept.pace
  have level : u.n Entry.devShedLevel = s.n Entry.devShedLevel := kept.n (by decide) (by decide)
  have short : u.n Entry.devSlackShortCount = s.n Entry.devSlackShortCount := kept.n (by decide) (by decide)
  by_cases room : s.n Entry.devShedLevel < 3
  · have path' := path.trans (if_pos room)
    obtain ⟨given, x, shed⟩ := State.setShed_unrecorded (s := u.noQuiet) (fun p => kept.partRt p ▸ unrecorded p)
        (s.n Entry.devShedLevel + 1)
    rw [path']
    refine ⟨shed.pace.trans quiet, fun _ => ⟨given, ?_⟩, fun full => absurd room (Nat.not_lt.2 full), fun slow => ?_, fun a => ?_,
        fun k hk hl => ?_⟩
    · exact (shed.n (by decide) (by decide)).trans short
    · exact (shed.n (by decide) (by decide)).trans (counts slow)
    · exact (shed.memoryKept a).trans (kept.memoryKept a)
    · exact ((shed.mono (by simp)).raw hk hl).trans ((kept.mono (by simp)).raw hk hl)
  · have path' := path.trans (if_neg room)
    rw [path']
    by_cases lacks : slack < s.n Entry.devPaceMargin
    · have counted := Keeps.bump u.noQuiet Entry.devSlackShortCount (List.mem_singleton_self _)
      rw [if_pos lacks]
      refine ⟨counted.pace.trans quiet, fun less => absurd less room, fun _ => ⟨?_, ?_⟩, fun slow => ?_, fun a => ?_, fun k hk hl => ?_⟩
      · exact (counted.n (by decide) (by decide)).trans level
      · rw [if_pos lacks, State.n_bump _ _ 32 (by decide) (widthOf_parts (by decide +kernel)), ← short]
        rfl
      · exact (counted.n (by decide) (by decide)).trans (counts slow)
      · exact (counted.memoryKept a).trans (kept.memoryKept a)
      · exact ((counted.mono (by simp)).raw hk hl).trans ((kept.mono (by simp)).raw hk hl)
    · rw [if_neg lacks]
      exact ⟨quiet, fun less => absurd less room, fun _ => ⟨level, by rw [if_neg lacks]; exact short⟩, counts, kept.memoryKept,
        fun k hk hl => (kept.mono (by simp)).raw hk hl⟩

/-- Where R22 lowers the voltage: a sixteenth quiet interval, above the least, where no pace failed before. -/
def Pace.lowers (p : Pace) : Prop :=
  16 ≤ p.quiet + 1 ∧ max 620 (p.setpoint - 5) < p.setpoint ∧ max 620 (p.setpoint - 5) ∉ p.floorAt

/-- What an interval with paces and slack enough leaves (R22). -/
theorem State.paceSteps_calm_shows {s : State} {slack : Nat} {acked : Bool} (unrecorded : s.unrecorded)
    (first : acked = true ∨ s.pace.nacks = 0)
    (paced : ∀ m ∈ s.livePaces, 840 ≤ m) (ample : s.n Entry.devPaceMargin ≤ slack) (adapts : s.pace.fixed = false) :
    (s.paceSteps slack acked).pace.slackMin = s.pace.slackMin ∧ MemoryKept s (s.paceSteps slack acked) ∧
    EntriesKept s (s.paceSteps slack acked) [Entry.devShedLevel] ∧
    (slack < s.lowerSlack → (s.paceSteps slack acked).pace.setpoint = s.pace.setpoint ∧ (s.paceSteps slack acked).pace.quiet = 0 ∧
      (s.paceSteps slack acked).n Entry.devShedLevel = s.n Entry.devShedLevel) ∧
    (s.lowerSlack ≤ slack → 0 < s.n Entry.devShedLevel → (s.paceSteps slack acked).pace.setpoint = s.pace.setpoint ∧
      (s.paceSteps slack acked).pace.quiet = 0 ∧ (s.paceSteps slack acked).n Entry.devShedLevel = s.n Entry.devShedLevel - 1) ∧
    (s.lowerSlack ≤ slack → s.n Entry.devShedLevel = 0 → s.pace.lowers → (s.paceSteps slack acked).n Entry.devShedLevel = 0 ∧
      (s.paceSteps slack acked).pace.setpoint = max 620 (s.pace.setpoint - 5) ∧ (s.paceSteps slack acked).pace.quiet = 0 ∧
      Output.pmbus (s.n Entry.devPmbusAddress) 0x21 (some (Config.linear16 (max 620 (s.pace.setpoint - 5))).toNat)
        (s.n Entry.devPmbusRate = 1) ∈ (s.paceSteps slack acked).out) ∧
    (s.lowerSlack ≤ slack → s.n Entry.devShedLevel = 0 → ¬ s.pace.lowers → (s.paceSteps slack acked).n Entry.devShedLevel = 0 ∧
      (s.paceSteps slack acked).pace.setpoint = s.pace.setpoint ∧ (s.paceSteps slack acked).pace.quiet = s.pace.quiet + 1) := by
  have path := State.paceSteps_calm (acked := acked) paced ample adapts
  by_cases ready : s.lowerSlack ≤ slack
  · rw [if_pos ready] at path
    by_cases shed : 0 < s.n Entry.devShedLevel
    · obtain ⟨given, x, gives⟩ := State.setShed_unrecorded (s := s.noQuiet) unrecorded (s.n Entry.devShedLevel - 1)
      have held : (s.noQuiet.setShed (s.n Entry.devShedLevel - 1)).pace = { s.pace with quiet := 0 } := gives.pace
      rw [path, if_pos shed]
      exact ⟨(congrArg Pace.slackMin held).trans rfl, gives.memoryKept, gives.entries, fun short => absurd ready (Nat.not_le.2 short),
        fun _ _ => ⟨(congrArg Pace.setpoint held).trans rfl, congrArg Pace.quiet held, given⟩, fun _ none => absurd shed (by omega),
        fun _ none => absurd shed (by omega)⟩
    · rw [if_neg shed] at path
      by_cases lowers : s.pace.lowers
      · obtain ⟨⟨nacks, wrote⟩, same, mem, drives⟩ := s.writeVout_shows (max 620 (s.pace.setpoint - 5)) first
        rw [path.trans (if_pos lowers)]
        exact ⟨(congrArg Pace.slackMin wrote).trans rfl, .of_mem mem, fun k _ _ => same k, fun short => absurd ready (Nat.not_le.2 short),
          fun _ some => absurd some shed, fun _ none _ => ⟨(State.n_congr (same _)).trans none, congrArg Pace.setpoint wrote,
            congrArg Pace.quiet wrote, drives⟩, fun _ _ stays => absurd lowers stays⟩
      · rw [path.trans (if_neg lowers)]
        exact ⟨rfl, fun _ => rfl, fun _ _ _ => rfl, fun short => absurd ready (Nat.not_le.2 short), fun _ some => absurd some shed,
          fun _ _ h => absurd h lowers, fun _ none _ => ⟨none, rfl, rfl⟩⟩
  · rw [path, if_neg ready]
    exact ⟨rfl, fun _ => rfl, fun _ _ _ => rfl, fun _ => ⟨rfl, rfl, rfl⟩, fun h => absurd h ready, fun h => absurd h ready,
        fun h => absurd h ready⟩

/-- Settles O9: the steps of R22's table on the state with the slacks taken, then what the end of the interval shows. -/
theorem paceControlSteps : Obligations.PaceControlSteps := by
  refine ⟨fun s r w q running adapts unrecorded first urgent => ?_, fun s r w q running adapts unrecorded first paced ample => ?_⟩
  · obtain ⟨pace, live, -, unrecords, entries⟩ := s.takeSlacks_reads
    have margin : s.takeSlacks.n Entry.devPaceMargin = s.n Entry.devPaceMargin := entries.n (by decide) (by decide)
    have level : s.takeSlacks.n Entry.devShedLevel = s.n Entry.devShedLevel := entries.n (by decide) (by decide)
    have breaches : s.takeSlacks.n Entry.devFloorBreaches = s.n Entry.devFloorBreaches := entries.n (by decide) (by decide)
    have short : s.takeSlacks.n Entry.devSlackShortCount = s.n Entry.devSlackShortCount := entries.n (by decide) (by decide)
    have urgent' : (∃ m ∈ s.takeSlacks.livePaces, m < 840) ∨ lowestSlack s.pace.slacks < s.takeSlacks.n Entry.devPaceMargin := by
      rwa [live, margin]
    by_cases top : s.pace.setpoint = 850
    · obtain ⟨paced, sheds, full, counts, mem, kept⟩ := State.paceSteps_top (acked := q) (unrecords unrecorded) urgent' (pace ▸ top)
      obtain ⟨t, path, held, -, later, memory, all⟩ := exec_paceControlInterval (r := r) (w := w) (q := q) running adapts rfl
      rw [level] at sheds full
      rw [short] at sheds full
      rw [margin] at full
      rw [live, breaches] at counts
      have held' := held.trans paced
      rw [pace] at held'
      refine ⟨t, path, congrArg Pace.slackMin held', congrArg Pace.slacks held', fun low => absurd top low, fun _ =>
        ⟨(congrArg Pace.setpoint held').trans top, congrArg Pace.quiet held', fun room => ?_, fun none => ?_, fun slow => ?_⟩,
        memory mem, (all _ kept).mono (by decide +kernel)⟩
      · exact ⟨(later.n (by decide) (by decide)).trans (sheds room).1, (later.n (by decide) (by decide)).trans (sheds room).2⟩
      · exact ⟨(later.n (by decide) (by decide)).trans (full none).1, (later.n (by decide) (by decide)).trans (full none).2⟩
      · exact (later.n (by decide) (by decide)).trans (counts slow)
    · have steps := State.paceSteps_raises (acked := q) urgent' (pace ▸ top) (pace ▸ adapts)
      obtain ⟨t, path, held, sent, later, memory, all⟩ := exec_paceControlInterval (r := r) (w := w) running adapts steps
      obtain ⟨⟨nacks, wrote⟩, same, mem, drives⟩ := s.takeSlacks.writeVout_shows (min 850 (s.takeSlacks.pace.setpoint + 10)) (acked := q)
        (by rw [pace]; exact first)
      have held' := held.trans wrote
      rw [pace] at held'
      refine ⟨t, path, congrArg Pace.slackMin held', congrArg Pace.slacks held',
          fun _ => ⟨congrArg Pace.setpoint held', congrArg Pace.quiet held',
        ?_, ?_, ?_⟩, fun h => absurd h top, memory (.of_mem mem), (all [] fun k _ _ => same k).mono (by decide +kernel)⟩
      · have sends := sent _ drives
        rw [pace, entries.n (k := Entry.devPmbusAddress) (by decide) (by decide),
          entries.n (k := Entry.devPmbusRate) (by decide) (by decide)] at sends
        exact sends
      · rw [later.n (by decide) (by decide), State.n_congr (same _), level]
      · rw [later.n (by decide) (by decide), State.n_congr (same _), breaches]
  · obtain ⟨pace, live, lower, unrecords, entries⟩ := s.takeSlacks_reads
    have margin : s.takeSlacks.n Entry.devPaceMargin = s.n Entry.devPaceMargin := entries.n (by decide) (by decide)
    have level : s.takeSlacks.n Entry.devShedLevel = s.n Entry.devShedLevel := entries.n (by decide) (by decide)
    have breaches : s.takeSlacks.n Entry.devFloorBreaches = s.n Entry.devFloorBreaches := entries.n (by decide) (by decide)
    have short : s.takeSlacks.n Entry.devSlackShortCount = s.n Entry.devSlackShortCount := entries.n (by decide) (by decide)
    obtain ⟨slacks, mem, kept, waits, gives, lowers, counts⟩ := State.paceSteps_calm_shows (s := s.takeSlacks)
      (slack := lowestSlack s.pace.slacks) (acked := q)
      (unrecords unrecorded) (by rw [pace]; exact first) (by rw [live]; exact paced) (by rw [margin]; exact ample)
          (by rw [pace]; exact adapts)
    rw [lower, level, pace] at waits gives lowers counts
    obtain ⟨t, path, held, sent, later, memory, all⟩ := exec_paceControlInterval (r := r) (w := w) (q := q) running adapts rfl
    have shed : t.n Entry.devShedLevel = (s.takeSlacks.paceSteps (lowestSlack s.pace.slacks) q).n Entry.devShedLevel :=
      later.n (by decide) (by decide)
    rw [← held] at slacks waits gives lowers counts
    rw [← shed] at waits gives lowers counts
    refine ⟨t, path, slacks.trans (congrArg Pace.slackMin pace), ?_, ?_, waits, gives, fun ready none => ?_, memory mem,
        (all _ kept).mono (by decide +kernel)⟩
    · exact (later.n (by decide) (by decide)).trans ((kept.n (by decide) (by decide)).trans breaches)
    · exact (later.n (by decide) (by decide)).trans ((kept.n (by decide) (by decide)).trans short)
    · by_cases down : s.pace.lowers
      · obtain ⟨zero, setpoint, quiet, drives⟩ := lowers ready none down
        have sends := sent _ drives
        rw [entries.n (k := Entry.devPmbusAddress) (by decide) (by decide),
          entries.n (k := Entry.devPmbusRate) (by decide) (by decide)] at sends
        exact ⟨zero, (if_pos down).mpr ⟨setpoint, quiet, sends⟩⟩
      · obtain ⟨zero, setpoint, quiet⟩ := counts ready none down
        exact ⟨zero, (if_neg down).mpr ⟨setpoint, quiet⟩⟩

end Sys2Proof.Machine
end

section
namespace Sys2Proof.Machine

open Sys2Proof

/-- A running device on which no save is busy while a snapshot waits. -/
def State.staleQueue : State :=
  { State.reset with
    dict := [(Entry.devDeviceState, .int 3)], boot := { State.reset.boot with managing := true, saveQueued := some [] } }

/-- A write of 1 to Save goes to the save (R58). -/
theorem State.entryEffect_save (s : State) : s.entryEffect Entry.dictSave (.int 1) = s.saves := rfl

theorem State.staleQueue_running : State.staleQueue.running = true := by decide

/-- SAVE on that device begins a save and discards the snapshot that waits. -/
theorem exec_save_staleQueue :
    exec .save State.staleQueue = .next (State.staleQueue.seal (State.staleQueue.beginSave State.staleQueue.saveSnapshot)) := by
  have answers : (!State.staleQueue.answers) = false := by decide
  have free : State.staleQueue.held = false := by decide
  have effect : State.staleQueue.written Entry.dictSave (.int 1) = State.staleQueue.beginSave State.staleQueue.saveSnapshot := by
    simp only [State.written, answers, free, State.staleQueue_running, Bool.false_eq_true, if_false, if_true, State.entryEffect_save]
    rfl
  exact congrArg (fun t => State.staleQueue.answer t) effect

/-- Refutes O11: the clause on a first SAVE has the waiting snapshot stay as it is, but `State.beginSave` sets it to none. A state in which
no save is busy and one waits is not excluded by the clause's hypotheses. -/
theorem not_entriesWrittenAndSaved : ¬ Obligations.EntriesWrittenAndSaved := by
  intro claim
  obtain ⟨-, saves⟩ := claim
  obtain ⟨first, -⟩ := saves State.staleQueue State.staleQueue_running rfl
  obtain ⟨t, step, -, kept⟩ := first rfl
  rw [exec_save_staleQueue] at step
  have reached : State.staleQueue.seal (State.staleQueue.beginSave State.staleQueue.saveSnapshot) = t := by injection step
  have queued : t.boot.saveQueued = some [] := congrArg Boot.saveQueued kept.boot
  have emptied : (State.staleQueue.seal (State.staleQueue.beginSave State.staleQueue.saveSnapshot)).boot.saveQueued = none :=
    congrArg Boot.saveQueued (Keeps.setN _ Entry.dictSaveStatus 1 (List.mem_singleton_self _)).boot
  rw [← reached, emptied] at queued
  cases queued

end Sys2Proof.Machine
end

section
namespace Sys2Proof.Machine

open Sys2Proof

/-! Bring-up (R32): what it gives FaultSpareKidsLeft, of which a clean bring-up's entries (`bootKeys`) say nothing. -/

/-- FaultSpareKidsLeft of the state that a step leaves. -/
def spareKidsAfter (a : Answer) : Option Value := match a with | .next t => some (t.raw Entry.faultSpareKidsLeft) | _ => none

/-- Step 10 counts the spare kids of the eight herds, 64 each. -/
theorem spareKidsAfter_board : spareKidsAfter (exec (.resetReleased (Tests.board 250)) State.reset.toOff) = some (Value.int 512) := by
  decide +kernel

/-- FaultSpareKidsLeft has no stated default. -/
theorem default_spareKidsLeft (t : State) : t.default Entry.faultSpareKidsLeft = .int 0 := by
  rw [State.default_congr (t := t) (s := { State.reset with part := t.part }) rfl]
  cases t.part
  · decide +kernel
  · decide +kernel

/-- Refutes O10: a clean bring-up of a board at 25 °C counts the spare kids in FaultSpareKidsLeft, which then reads 512; the statement has
every entry that `bootKeys` does not list at its default, and the default of this one is 0. -/
theorem not_bringUpReachesReady : ¬ Obligations.BringUpReachesReady := by
  intro claim
  obtain ⟨herds, kids, units, saveA, saveB, repairs, warm, cold, area, coldArea, -⟩ := Tests.witness_bringUpReachesReady
  obtain ⟨ready, -⟩ := claim State.reset (Tests.board 250) (Tests.board (-10)) 0 (Tests.board_clean 250 (by decide))
    (Tests.board_clean (-10) (by decide)) herds kids units saveA saveB repairs warm cold
  obtain ⟨⟨t, step, reached⟩, -⟩ := ready area
  obtain ⟨-, -, -, -, -, -, -, -, -, -, -, defaults⟩ := reached
  have shown : some (t.raw Entry.faultSpareKidsLeft) = some (Value.int 512) :=
    (congrArg spareKidsAfter step).symm.trans spareKidsAfter_board
  rw [defaults Entry.faultSpareKidsLeft (by decide) (by decide), default_spareKidsLeft] at shown
  cases shown

end Sys2Proof.Machine
end

section
namespace Sys2Proof.Machine

open Sys2Proof

/-! What the entries of the transports (records 0x1101 and 0x1102, R63) leave as it was: who reaches which entry, and the operating
state. -/

/-- Two states of one part with one boot record, whose entries of all records after those of the transports are the same. -/
structure SameDevice (s t : State) : Prop where
  part : t.part = s.part
  boot : t.boot = s.boot
  raw : ∀ i a, 0x1103 ≤ i → t.raw (key i a) = s.raw (key i a)

namespace SameDevice

theorem trans {s t u : State} (h : SameDevice s t) (g : SameDevice t u) : SameDevice s u :=
  ⟨g.part.trans h.part, g.boot.trans h.boot, fun i a far => (g.raw i a far).trans (h.raw i a far)⟩

theorem of_keeps {s t : State} {keys : List Nat} (h : Keeps s t keys) (near : ∀ k ∈ keys, k / 256 < 0x1103) : SameDevice s t := by
  refine ⟨h.part, h.boot, fun i a far => h.raw (fun listed => ?_) (ne_lost_of_record (by omega))⟩
  have := near _ listed
  simp only [key] at this
  omega

variable {s t : State} (h : SameDevice s t)
include h

theorem n (i a : Nat) (far : 0x1103 ≤ i) : t.n (key i a) = s.n (key i a) := State.n_congr (h.raw i a far)

theorem row (k : Nat) : t.row k = s.row k := State.row_congr h.part k

theorem ownerOf (k : Nat) : t.ownerOf k = s.ownerOf k := by
  have record : t.record (k / 256) = s.record (k / 256) := by simp only [State.record, h.part]
  simp only [State.ownerOf, record]
  split
  · rfl
  · rename_i r i _
    cases r.owner
    case stream | pair | herd | slot => exact h.n _ _ (by omega)
    case port =>
      have shown : t.n (Entry.portPartition i) = s.n (Entry.portPartition i) := h.n _ _ (by omega)
      simp only [shown]
    all_goals rfl

theorem confidential : t.confidential = s.confidential := by
  simp only [State.confidential, State.on_eq, h.n 0x6000 0x01 (by decide)]

theorem device : t.device = s.device := h.n 0x1800 0x01 (by decide)

theorem running : t.running = s.running := by simp only [State.running, h.device]

theorem held : t.held = s.held := by simp only [State.held, h.device]

theorem answers : t.answers = s.answers := by simp only [State.answers, State.isOff, h.device, h.boot]

theorem reaches (fn k : Nat) : t.reaches fn k = s.reaches fn k := by simp only [State.reaches, h.ownerOf, h.confidential]

theorem check (who : Requester) (k : Nat) (write : Bool) (length : Nat) : t.check who k write length = s.check who k write length := by
  simp only [State.check, h.row, h.reaches, h.held]

end SameDevice

/-! The entries that the transports count in: read-only, and without events. -/

/-- The entries that a request changes beside the one that it names. -/
def countKeys : List Nat :=
  [Entry.canRxErrorCount, Entry.canTxErrorCount, Entry.canClampCount, Entry.canEventsLost, Entry.canBusOffCount, Entry.canAbortCount,
    Entry.mbxMailboxRequests, Entry.mbxClampCount, Entry.mbxAbortCount, Entry.dictRestartPending]

/-- Whether a part's table gives an entry as read-only and without events. -/
def silentOn (p : Part) (k : Nat) : Bool := ((ofPart p).row k).all fun r => r.acc = .ro && !r.event

theorem countKeys_silentOn : ∀ k ∈ countKeys, silentOn .hkz8840 k = true ∧ silentOn .hkz8830 k = true := by decide +kernel

theorem countKeys_row {s : State} {k : Nat} {r : Row} (counts : k ∈ countKeys) (row : s.row k = some r) :
    r.acc = .ro ∧ r.event = false := by
  have silent : silentOn s.part k = true := by
    obtain ⟨large, small⟩ := countKeys_silentOn k counts
    cases s.part
    · exact large
    · exact small
  simpa [silentOn, ← State.row_part, row] using silent

/-- A write of one of them is refused (R42). -/
theorem not_countKeys_of_check {s : State} {who : Requester} {k length : Nat} (passed : s.check who k true length = 0) :
    k ∉ countKeys := by
  intro counts
  cases row : s.row k with
  | none => simp [State.check, row] at passed
  | some r =>
    simp only [State.check, row, (countKeys_row counts row).1] at passed
    split at passed
    · split at passed <;> cases passed
    · cases passed

/-- Such an entry set changes the dictionary alone. -/
theorem State.set_of_countKeys {s : State} {k : Nat} (counts : k ∈ countKeys) (v : Value) :
    s.set k v = { s with dict := (s.set k v).dict } := by
  unfold State.set
  split
  · rfl
  · split
    · rename_i r row
      rw [(countKeys_row counts row).2]
      rfl
    · rfl

theorem State.bump_of_countKeys {s : State} {k : Nat} (counts : k ∈ countKeys) : s.bump k = { s with dict := (s.bump k).dict } :=
  State.set_of_countKeys counts _

/-- The counters of 32 bits among them. -/
def wideCounters : List Nat :=
  [Entry.canClampCount, Entry.canBusOffCount, Entry.canAbortCount, Entry.mbxMailboxRequests, Entry.mbxAbortCount]

theorem State.n_bump_of_wideCounters (s : State) {k : Nat} (wide : k ∈ wideCounters) : (s.bump k).n k = (s.n k + 1) % 2 ^ 32 := by
  have widths : ∀ k ∈ wideCounters, k ≠ Entry.canEventsLost ∧ widthOf .hkz8840 k = 32 ∧ widthOf .hkz8830 k = 32 := by decide +kernel
  obtain ⟨found, width⟩ := widths k wide
  exact State.n_bump s k 32 found (widthOf_parts width)

/-! Writes that only store (R39, R41). -/

/-- A write while the units work, of an entry that a write only stores. -/
theorem State.written_plain {s : State} {k : Nat} (running : s.running = true) (answers : s.answers = true) (plain : plainEntry k)
    (v : Value) :
    s.written k v = s.store k v := by
  have free : s.held = false := by
    simp [State.running] at running
    simp [State.held]
    omega
  simp only [State.written, answers, free, running, Bool.not_true, Bool.false_eq_true, if_false, if_true, plain s v]

theorem State.store_shows (s : State) {k : Nat} (free : k ∉ countKeys) (v : Value) :
    (s.store k v).raw k = v ∧ Keeps s (s.store k v) [k, Entry.dictRestartPending] := by
  obtain ⟨lost, pending⟩ : k ≠ Entry.canEventsLost ∧ k ≠ Entry.dictRestartPending :=
    ⟨fun e => free (e ▸ by decide), fun e => free (e ▸ by decide)⟩
  have stored : Keeps s (s.set k v) [k, Entry.dictRestartPending] := Keeps.set s k v (by simp)
  unfold State.store
  split
  · exact ⟨(State.raw_setN_ne _ pending.symm lost).trans (State.raw_set s k v lost), stored.trans (Keeps.setN _ _ _ (by simp))⟩
  · exact ⟨State.raw_set s k v lost, stored⟩

theorem State.countClamp_same (s : State) (who : Requester) : SameDevice s (s.countClamp who) := by
  have counted (u : State) (k : Nat) (near : k / 256 < 0x1103) : SameDevice u (u.bump k) :=
    .of_keeps (Keeps.bump u k (List.mem_singleton_self k)) (by simpa using near)
  unfold State.countClamp
  split
  · exact counted s Entry.canClampCount (by decide)
  · rename_i fn _
    have boxed (m : Mailbox) : SameDevice s (s.setBox fn m) := ⟨rfl, rfl, fun _ _ _ => rfl⟩
    exact (boxed _).trans (counted _ Entry.mbxClampCount (by decide))

/-- An accepted write of an entry that a write only stores. -/
theorem State.acceptWrite_plain {s : State} {k : Nat} {r : Row} {b : Bytes} (row : s.row k = some r) (running : s.running = true)
    (answers : s.answers = true) (plain : plainEntry k) (who : Requester) :
    s.acceptWrite who k b = (if r.clamps b then s.countClamp who else s).store k (r.clamp b) := by
  have same := s.countClamp_same who
  simp only [State.acceptWrite, row]
  split
  · exact State.written_plain (same.running.trans running) (same.answers.trans answers) plain _
  · exact State.written_plain running answers plain _

end Sys2Proof.Machine
end

section
namespace Sys2Proof.Machine

open Sys2Proof

/-! The queue (R44). -/

theorem step_of_cons {s : State} {c : Instr} {rest : List Instr} (waiting : s.pending = c :: rest) :
    step s = exec c { s with pending := rest } := by
  rw [step, waiting]

theorem step_of_nil {s : State} (idle : s.pending = []) : step s = .next s := by
  rw [step, idle]

/-- Settles O1: the two cases of the queue. -/
theorem commandsInOrder : Obligations.CommandsInOrder := fun _ _ _ => ⟨step_of_cons, step_of_nil⟩

end Sys2Proof.Machine
end

section
namespace Sys2Proof.Machine

open Sys2Proof

/-! The error counters (R47). -/

/-- Counters shown: the CAN FD side with the state that they give, and two entries. -/
theorem State.canCounts_form (s : State) (rx tx : Nat) :
    s.canCounts rx tx = { s with
      dict := (s.canCounts rx tx).dict
      can := { s.can with transmitErrors := min 256 tx, errorPassive := 128 ≤ rx || 128 ≤ tx, busOff := 255 < tx } } := by
  have shown : (s.setN Entry.canRxErrorCount (min 255 rx)).setN Entry.canTxErrorCount (min 255 tx) = { s with
      dict := ((s.setN Entry.canRxErrorCount (min 255 rx)).setN Entry.canTxErrorCount (min 255 tx)).dict } := by
    have received := State.set_of_countKeys (s := s) (k := Entry.canRxErrorCount) (by decide) (.int (min 255 rx : Nat))
    have sent := State.set_of_countKeys (s := s.setN Entry.canRxErrorCount (min 255 rx)) (k := Entry.canTxErrorCount) (by decide)
      (.int (min 255 tx : Nat))
    rw [State.setN, sent, State.setN, received]
  unfold State.canCounts
  rw [shown]

theorem State.canCounts_counts (s : State) (rx tx : Nat) :
    (s.canCounts rx tx).n Entry.canRxErrorCount = min 255 rx ∧ (s.canCounts rx tx).n Entry.canTxErrorCount = min 255 tx :=
  ⟨(State.n_setN_ne _ _ (by decide) (by decide)).trans (State.n_setN s _ _ (by decide)), State.n_setN _ _ _ (by decide)⟩

theorem State.canCounts_entries (s : State) (rx tx : Nat) :
    EntriesKept s (s.canCounts rx tx) [Entry.canRxErrorCount, Entry.canTxErrorCount] :=
  ((Keeps.setN s _ _ (by simp)).trans (Keeps.setN _ _ _ (by simp))).entries

/-- Counters shown keep all but the three fields of the CAN FD side that they give. -/
theorem Keeps.canCounts (s : State) (rx tx : Nat) :
    Keeps { s with can := { s.can with transmitErrors := min 256 tx, errorPassive := 128 ≤ rx || 128 ≤ tx, busOff := 255 < tx } }
      (s.canCounts rx tx) [Entry.canRxErrorCount, Entry.canTxErrorCount] := by
  have entries := s.canCounts_entries rx tx
  rw [s.canCounts_form rx tx] at entries ⊢
  exact ⟨fun k outside lost => entries k outside lost, fun _ => rfl, fun _ => rfl, ⟨[], by simp, by simp⟩, rfl⟩

/-- A change of the CAN FD side, of the outputs and of the two error counters leaves the device. -/
theorem SameDevice.of_entries {s t : State} (part : t.part = s.part) (boot : t.boot = s.boot)
    (entries : EntriesKept s t [Entry.canRxErrorCount, Entry.canTxErrorCount]) : SameDevice s t := by
  refine ⟨part, boot, fun i a far => entries _ ?_ (ne_lost_of_record (by omega))⟩
  simp only [Entry.canRxErrorCount, Entry.canTxErrorCount, key, List.mem_cons, List.not_mem_nil, or_false]
  omega

theorem State.canCounts_same (s : State) (rx tx : Nat) : SameDevice s (s.canCounts rx tx) := by
  have form := s.canCounts_form rx tx
  exact .of_entries (by rw [form]) (by rw [form]) (s.canCounts_entries rx tx)

/-- Reception without error changes the error counters. -/
theorem State.canHeard_keeps (s : State) : SameDevice s s.canHeard ∧
    EntriesKept s s.canHeard [Entry.canRxErrorCount, Entry.canTxErrorCount] := by
  unfold State.canHeard
  simp only
  split
  · exact ⟨⟨rfl, rfl, fun _ _ _ => rfl⟩, fun _ _ _ => rfl⟩
  · split
    · exact ⟨s.canCounts_same _ _, s.canCounts_entries _ _⟩
    · have drawn : SameDevice s s.drawFree.2 := ⟨rfl, rfl, fun _ _ _ => rfl⟩
      exact ⟨drawn.trans (s.drawFree.2.canCounts_same _ _), s.drawFree.2.canCounts_entries _ _⟩

/-! Frames sent (R48, R50). -/

/-- A frame of this node as it goes onto the bus. -/
def State.canFrame (s : State) (cls seq : Nat) (data : Bytes) : Output :=
  .can (packFields [(16, seq), (7, s.n Entry.canNodeId), (1, 0), (5, cls)]) (fit (canLength data.length) data)

/-- A frame sent: the output, the two error counters and the state that they give. -/
theorem State.jalmonSend_form (s : State) (cls seq : Nat) (data : Bytes) :
    ∃ d tx passive off, s.jalmonSend cls seq data = { s with
      dict := d, out := s.out ++ [s.canFrame cls seq data]
      can := { s.can with transmitErrors := tx, errorPassive := passive, busOff := off } } := by
  unfold State.jalmonSend
  simp only
  split
  · exact ⟨s.dict, s.can.transmitErrors, s.can.errorPassive, s.can.busOff, rfl⟩
  · rw [State.canCounts_form]
    exact ⟨_, _, _, _, rfl⟩

theorem State.jalmonSend_entries (s : State) (cls seq : Nat) (data : Bytes) :
    EntriesKept s (s.jalmonSend cls seq data) [Entry.canRxErrorCount, Entry.canTxErrorCount] := by
  unfold State.jalmonSend
  simp only
  split
  · exact fun _ _ _ => rfl
  · exact fun k outside lost => State.canCounts_entries _ _ _ k outside lost

theorem State.jalmonSend_same (s : State) (cls seq : Nat) (data : Bytes) : SameDevice s (s.jalmonSend cls seq data) := by
  obtain ⟨d, tx, passive, off, form⟩ := s.jalmonSend_form cls seq data
  exact .of_entries (by rw [form]) (by rw [form]) (s.jalmonSend_entries cls seq data)

/-- An abort is sent and counted. -/
theorem State.canAbort_aborts (s u : State) (seq k code : Nat) : u.aborts (s.seal (u.canAbort seq k code)) seq k code := by
  refine ⟨?_, (Keeps.bump _ _ (List.mem_singleton_self _)).trans (Keeps.seal s _ _)⟩
  have sent := (u.jalmonSend_entries 0x0D seq (jalmonHeader 0x8F 0x80 k 2 0 ++ leBytes 2 code)).n (k := Entry.canAbortCount)
    (by decide) (by decide)
  rw [State.seal_n, State.canAbort, State.n_bump_of_wideCounters _ (by decide), State.canTransmit, sent]

/-! Requests (R50, R51). -/

theorem State.canRequest_asked {s : State} {f : JalmonFrame} {command : Nat} {act : State → State}
    (taken : s.canHeard.canTakes f.cls.toNat f.node.toNat = true) (ask : asks f command) :
    s.canRequest f command act = act s.canHeard := by
  obtain ⟨same, sound⟩ := ask
  simp [State.canRequest, taken, same, sound]

theorem State.canRequest_unknown {s : State} {f : JalmonFrame} {command : Nat} {act : State → State}
    (taken : s.canHeard.canTakes f.cls.toNat f.node.toNat = true) (unknown : f.command.toNat = 0 ∨ 6 < f.command.toNat)
    (row : 1 ≤ command ∧ command ≤ 6) :
    s.canRequest f command act = s.canHeard.canAbort f.seq.toNat (frameKey f) 0x0010 := by
  have other : f.command.toNat ≠ command := by omega
  have outside : ¬ (1 ≤ f.command.toNat ∧ f.command.toNat ≤ 6) := by omega
  simp [State.canRequest, taken, other, outside]

theorem State.canRequest_foreign {s : State} {f : JalmonFrame} (foreign : s.canHeard.canTakes f.cls.toNat f.node.toNat = false)
    (command : Nat) (act : State → State) : s.canRequest f command act = s.canHeard := by
  simp [State.canRequest, foreign]

/-- A value that a frame carries whole has the length that its header gives. -/
theorem frameValue_length {f : JalmonFrame} (sound : frameSound f = true) : (frameValue f).length = f.length.toNat := by
  simp only [frameSound, Bool.and_eq_true, decide_eq_true_eq] at sound
  simp only [frameValue, List.length_take]
  omega

/-- A request is taken only while the management cores answer. -/
theorem State.answers_of_canTakes {s : State} {cls node : Nat} (taken : s.canTakes cls node = true) : s.answers = true := by
  simp only [State.canTakes, State.canAlive, Bool.and_eq_true] at taken
  tauto

/-! Expedited transfers (R51, R52). -/

section
variable {s : State} {f : JalmonFrame}

theorem State.canRead_answered {r : Row} (row : s.row (frameKey f) = some r) (passed : s.check .can (frameKey f) false 0 = 0)
    (short : (s.readBytes (frameKey f)).length ≤ 56) :
    s.canRead f = s.canTransmit f.seq.toNat
      (jalmonHeader 0x81 0 (frameKey f) (s.readBytes (frameKey f)).length r.ty.code ++ s.readBytes (frameKey f)) := by
  simp [State.canRead, State.canReply, row, passed, Nat.not_lt.2 short]

theorem State.canRead_long (passed : s.check .can (frameKey f) false 0 = 0) (long : 56 < (s.readBytes (frameKey f)).length) :
    s.canRead f = s.canAbort f.seq.toNat (frameKey f) 0x0016 := by
  simp [State.canRead, passed, long]

theorem State.canRead_refused (refused : s.check .can (frameKey f) false 0 ≠ 0) :
    s.canRead f = s.canAbort f.seq.toNat (frameKey f) (s.check .can (frameKey f) false 0) := by
  simp [State.canRead, refused]

theorem State.canWrite_passed (sound : frameSound f = true) (passed : s.check .can (frameKey f) true f.length.toNat = 0) :
    s.canWrite f = (s.canTransmit f.seq.toNat (jalmonHeader 0x82 0 (frameKey f) 0 0)).acceptWrite .can (frameKey f) (frameValue f) := by
  simp [State.canWrite, State.canReply, frameValue_length sound, passed]

theorem State.canWrite_refused (sound : frameSound f = true) (refused : s.check .can (frameKey f) true f.length.toNat ≠ 0) :
    s.canWrite f = s.canAbort f.seq.toNat (frameKey f) (s.check .can (frameKey f) true f.length.toNat) := by
  simp [State.canWrite, frameValue_length sound, refused]

end

/-- A write that the CAN FD node takes, once it has answered: the clamped value, and a clamp counted where it was clamped. -/
theorem State.answered_write {s : State} {k length : Nat} {r : Row} (row : s.row k = some r) (passed : s.check .can k true length = 0)
    (running : s.running = true) (answers : s.answers = true) (plain : plainEntry k) (seq : Nat) (header b : Bytes) :
    let u := s.canTransmit seq header
    let t := u.acceptWrite .can k b
    t.raw k = r.clamp b ∧ (r.clamps b = true → t.n Entry.canClampCount = (s.n Entry.canClampCount + 1) % 2 ^ 32) ∧
    (r.clamps b = false → t.n Entry.canClampCount = s.n Entry.canClampCount) ∧
    Keeps u t [k, Entry.dictRestartPending, Entry.canClampCount] := by
  intro u t
  have same : SameDevice s u := s.jalmonSend_same 0x0D seq header
  have sent : u.n Entry.canClampCount = s.n Entry.canClampCount := (s.jalmonSend_entries 0x0D seq header).n (by decide) (by decide)
  have free := not_countKeys_of_check passed
  have effect : t = (if r.clamps b then u.bump Entry.canClampCount else u).store k (r.clamp b) :=
    State.acceptWrite_plain ((same.row k).trans row) (same.running.trans running) (same.answers.trans answers) plain .can
  have other : Entry.canClampCount ∉ [k, Entry.dictRestartPending] := by
    have : Entry.canClampCount ≠ k := fun e => free (e ▸ by decide)
    simpa using this
  cases clamped : r.clamps b
  case false =>
    rw [clamped] at effect
    obtain ⟨value, kept⟩ := u.store_shows free (r.clamp b)
    rw [← show t = u.store k (r.clamp b) from effect] at value kept
    exact ⟨value, by simp, fun _ => (kept.n other (by decide)).trans sent, kept.mono (by simp)⟩
  case true =>
    rw [clamped] at effect
    obtain ⟨value, kept⟩ := (u.bump Entry.canClampCount).store_shows free (r.clamp b)
    rw [← show t = (u.bump Entry.canClampCount).store k (r.clamp b) from effect] at value kept
    refine ⟨value, fun _ => ?_, by simp, (Keeps.bump u _ (by simp)).trans (kept.mono (by simp))⟩
    rw [kept.n other (by decide), State.n_bump_of_wideCounters _ (by decide), sent]

end Sys2Proof.Machine
end

section
namespace Sys2Proof.Machine

open Sys2Proof

/-! Expedited transfers as commands (R51, R52). -/

/-- The outcome of an expedited write that is taken. -/
theorem exec_canExpeditedWrite_taken {s : State} {f : JalmonFrame} {r : Row}
    (taken : s.canHeard.canTakes f.cls.toNat f.node.toNat = true) (ask : asks f 2) (row : s.canHeard.row (frameKey f) = some r)
    (passed : s.canHeard.check .can (frameKey f) true f.length.toNat = 0) (running : s.running = true) (plain : plainEntry (frameKey f)) :
    ∃ t, exec (.canExpeditedWrite f) s = .next t ∧ t.raw (frameKey f) = r.clamp (frameValue f) ∧
      (r.clamps (frameValue f) = true → t.n Entry.canClampCount = (s.n Entry.canClampCount + 1) % 2 ^ 32) ∧
      (r.clamps (frameValue f) = false → t.n Entry.canClampCount = s.n Entry.canClampCount) ∧
      Keeps (s.canHeard.canTransmit f.seq.toNat (jalmonHeader 0x82 0 (frameKey f) 0 0)) t
        [frameKey f, Entry.dictRestartPending, Entry.canClampCount] := by
  obtain ⟨same, entries⟩ := s.canHeard_keeps
  obtain ⟨value, clamped, exactly, kept⟩ := State.answered_write row passed (same.running.trans running)
    (State.answers_of_canTakes taken) plain f.seq.toNat (jalmonHeader 0x82 0 (frameKey f) 0 0) (frameValue f)
  rw [entries.n (k := Entry.canClampCount) (by decide) (by decide)] at clamped exactly
  refine ⟨_, congrArg s.answer ((State.canRequest_asked taken ask).trans (State.canWrite_passed ask.2 passed)), value, clamped, exactly,
    kept.trans (Keeps.seal s _ _)⟩

/-! Fault confinement (R47). -/

/-- By how much a bus error moves the receive counter (log entry 50). -/
def receiveStep (e : CanBusError) : Nat := match e with | .receive => 1 | .receiveDominant => 8 | .transmit => 0

theorem State.busError_counts {s : State} {e : CanBusError} (listens : s.canListens = true)
    (sends : e = .receive ∨ e = .receiveDominant ∨ s.canAlive = true) :
    s.busError e = s.canCounts (s.n Entry.canRxErrorCount + receiveStep e) (s.can.transmitErrors + if e = .transmit then 8 else 0) := by
  cases e with
  | receive => simp [State.busError, listens, receiveStep]
  | receiveDominant => simp [State.busError, listens, receiveStep]
  | transmit =>
    have alive : s.canAlive = true := by simpa using sends
    simp [State.busError, listens, alive, receiveStep]

theorem State.canCounts_busOff (s : State) (rx tx : Nat) : (s.canCounts rx tx).can.busOff = decide (255 < tx) := by
  rw [s.canCounts_form rx tx]

/-- Counters shown, stated through the fields that they give. -/
theorem Keeps.canCounts_shown (s : State) (rx tx : Nat) :
    Keeps { s with can := { s.can with
        transmitErrors := (s.canCounts rx tx).can.transmitErrors, errorPassive := (s.canCounts rx tx).can.errorPassive
        busOff := (s.canCounts rx tx).can.busOff } }
      (s.canCounts rx tx) [Entry.canRxErrorCount, Entry.canTxErrorCount] := by
  have can := congrArg State.can (s.canCounts_form rx tx)
  have kept := Keeps.canCounts s rx tx
  rw [can]
  exact kept

theorem State.rejoinsBus_eq {s : State} (off : s.can.busOff = true) (clocked : s.on Entry.supplySysclkState = false) :
    s.rejoinsBus = (s.canCounts 0 0).bump Entry.canBusOffCount := by
  simp [State.rejoinsBus, off, clocked]

/-! Events (R54). -/

/-- What waits after the oldest event is sent: the number of those dropped comes last. -/
theorem State.queueLost_form (s : State) :
    s.queueLost = { s with can := { s.can with
      queue := s.can.queue ++ (if s.can.droppedSince = 0 then []
        else [{ key := Entry.canEventsLost, type := 4, value := leBytes 4 s.can.droppedSince }])
      droppedSince := 0 } } := by
  unfold State.queueLost
  split
  · rename_i kept
    rw [List.append_nil, ← kept]
  · rfl

/-- The oldest queued event goes out in a frame; of the CAN FD side the queue, the counters and their state change. -/
theorem State.sendEvent_form {s : State} {e : JEvent} {r : List JEvent} (alive : s.canAlive = true) (enabled : s.can.events = true)
    (queued : s.can.queue = e :: r) :
    ∃ d tx passive off, s.sendEvent = { s with
      dict := d, out := s.out ++ [s.canFrame 0x0E s.can.eventCounter e.frame]
      can := { s.can with
        transmitErrors := tx, errorPassive := passive, busOff := off, eventCounter := (s.can.eventCounter + 1) % 2 ^ 16
        queue := r ++ (if s.can.droppedSince = 0 then []
          else [{ key := Entry.canEventsLost, type := 4, value := leBytes 4 s.can.droppedSince }])
        droppedSince := 0 } } := by
  obtain ⟨d, tx, passive, off, form⟩ := s.jalmonSend_form 0x0E s.can.eventCounter e.frame
  refine ⟨d, tx, passive, off, ?_⟩
  simp only [State.sendEvent, alive, enabled, queued, Bool.not_true, Bool.or_self, Bool.false_eq_true, if_false, State.queueLost_form, form]

theorem State.sendEvent_entries (s : State) : EntriesKept s s.sendEvent [Entry.canRxErrorCount, Entry.canTxErrorCount] := by
  unfold State.sendEvent
  split
  · exact fun _ _ _ => rfl
  · split
    · exact fun _ _ _ => rfl
    · rw [State.queueLost_form]
      exact fun k outside lost => s.jalmonSend_entries _ _ _ k outside lost

/-- Settles O12: a request that is taken goes to its row's own operation (`State.canRequest_asked`); what is sent changes the error
counters alone, and none of the entries that count posts an event. -/
theorem canTransfersAndEvents : Obligations.CanTransfersAndEvents := by
  refine ⟨?_, ?_⟩
  · rintro s f _ rfl
    refine ⟨fun taken ask => ⟨fun r row passed short => ?_, fun passed long => ?_, fun refused => ?_⟩,
      fun taken ask => ⟨fun r row passed running plain => ?_, fun refused => ?_⟩, fun taken unknown => ?_,
      fun foreign => ⟨?_, ?_⟩, fun why => ⟨_, rfl, Keeps.seal s _ _⟩⟩
    · exact ⟨_, congrArg s.answer ((State.canRequest_asked taken ask).trans (State.canRead_answered row passed short)), Keeps.seal s _ _⟩
    · exact ⟨_, congrArg s.answer ((State.canRequest_asked taken ask).trans (State.canRead_long passed long)), s.canAbort_aborts _ _ _ _⟩
    · exact ⟨_, congrArg s.answer ((State.canRequest_asked taken ask).trans (State.canRead_refused refused)), s.canAbort_aborts _ _ _ _⟩
    · exact exec_canExpeditedWrite_taken taken ask row passed running plain
    · exact ⟨_, congrArg s.answer ((State.canRequest_asked taken ask).trans (State.canWrite_refused ask.2 refused)),
        s.canAbort_aborts _ _ _ _⟩
    · exact ⟨_, congrArg s.answer (State.canRequest_unknown taken unknown (by decide)), s.canAbort_aborts _ _ _ _⟩
    · exact ⟨_, congrArg s.answer (State.canRequest_foreign foreign _ _), Keeps.seal s _ _⟩
    · exact ⟨_, congrArg s.answer (State.canRequest_foreign foreign _ _), Keeps.seal s _ _⟩
  · refine fun s => ⟨fun e listens sends => ?_, fun off clocked => ?_, fun e r alive enabled queued => ?_⟩
    · exact ⟨_, congrArg s.answer (State.busError_counts listens sends), (s.canCounts_counts _ _).1, (s.canCounts_counts _ _).2,
        s.canCounts_busOff _ _, (Keeps.canCounts_shown s _ _).trans (Keeps.seal s _ _)⟩
    · have counted : Keeps (s.canCounts 0 0) ((s.canCounts 0 0).bump Entry.canBusOffCount) [Entry.canBusOffCount] :=
        Keeps.bump _ _ (by simp)
      obtain ⟨received, sent⟩ := s.canCounts_counts 0 0
      refine ⟨_, congrArg s.answer (State.rejoinsBus_eq off clocked), (counted.n (by decide) (by decide)).trans received,
        (counted.n (by decide) (by decide)).trans sent, ?_,
        ((Keeps.canCounts s 0 0).mono (by simp)).trans ((counted.mono (by simp)).trans (Keeps.seal s _ _))⟩
      rw [State.seal_n, State.n_bump_of_wideCounters _ (by decide), (s.canCounts_entries 0 0).n (by decide) (by decide)]
    · obtain ⟨d, tx, passive, off, form⟩ := State.sendEvent_form alive enabled queued
      have entries := s.sendEvent_entries
      rw [form] at entries
      exact ⟨_, congrArg s.answer form, List.mem_append_right _ (List.mem_singleton_self _), rfl, rfl, rfl, fun _ => rfl,
        fun k outside lost => entries k outside lost, rfl⟩

end Sys2Proof.Machine
end

section
namespace Sys2Proof.Machine

open Sys2Proof

/-! Segments (R53). -/

theorem leNat_leBytes_four {n : Nat} (small : n < 2 ^ 32) : leNat (leBytes 4 n) = n := by
  simp [leBytes, leNat, List.range_succ]
  omega

/-- The header of a data segment's answer, bit by bit. -/
theorem segmentHeader (last : Bool) {segment length : Nat} (fits : segment < 2 ^ 11) (short : length ≤ 60) :
    packFields [(6, 0), (6, length), (11, segment), (1, ofBool last), (8, 0x85)] =
      0x85 * 2 ^ 24 + (if last then 2 ^ 23 else 0) + segment * 2 ^ 12 + length * 2 ^ 6 := by
  cases last <;> simp [packFields, ofBool] <;> omega

theorem State.canSegment_eq (s : State) (seq : Nat) (last : Bool) {segment : Nat} {data : Bytes} (fits : segment < 2 ^ 11)
    (short : data.length ≤ 60) :
    s.canSegment seq last segment data = s.canTransmit seq
      ((leBytes 4 (0x85 * 2 ^ 24 + (if last then 2 ^ 23 else 0) + segment * 2 ^ 12 + data.length * 2 ^ 6)).reverse ++ data) := by
  simp only [State.canSegment, segmentHeader last fits short]

theorem segmentOf_length (b : Bytes) (i : Nat) : (segmentOf b i).length ≤ 60 := List.length_take_le ..

/-- The segment of a read that is asked for next: its bytes, and the transfer after it. -/
theorem State.readSegment_eq (s : State) {x : Transfer} (fits : x.next < 2 ^ 11) :
    s.readSegment x = ({ s with can := { s.can with
        transfer := if x.data.length ≤ 60 * (x.next + 1) then none else some { x with next := x.next + 1 } } } : State).canTransmit x.seq
      ((leBytes 4 (0x85 * 2 ^ 24 + (if x.data.length ≤ 60 * (x.next + 1) then 2 ^ 23 else 0) + x.next * 2 ^ 12 +
        ((x.data.drop (60 * x.next)).take 60).length * 2 ^ 6)).reverse ++ (x.data.drop (60 * x.next)).take 60) := by
  unfold State.readSegment
  simp only [State.canSegment_eq _ _ _ fits (segmentOf_length _ _), decide_eq_true_eq]
  split
  · rfl
  · rfl

/-- A segment of a write before the last: it is kept and acknowledged. -/
theorem State.writeSegment_more (s : State) {x : Transfer} (fits : x.next < 2 ^ 11) (data : Bytes) :
    s.writeSegment x false data = ({ s with can := { s.can with
        transfer := some { x with next := x.next + 1, data := x.data ++ data } } } : State).canTransmit x.seq
      (leBytes 4 (0x85 * 2 ^ 24 + x.next * 2 ^ 12)).reverse := by
  simp [State.writeSegment, State.canSegment_eq _ _ _ fits]

/-- The last segment of a write that is whole and still allowed: acknowledged, then written. -/
theorem State.writeSegment_last {s : State} {x : Transfer} {data : Bytes} (fits : x.next < 2 ^ 11)
    (whole : (x.data ++ data).length = x.total) (passed : s.check .can x.key true x.total = 0) :
    s.writeSegment x true data = (s.closesTransfer.canTransmit x.seq
      (leBytes 4 (0x85 * 2 ^ 24 + 2 ^ 23 + x.next * 2 ^ 12)).reverse).acceptWrite .can x.key (x.data ++ data) := by
  have allowed : s.closesTransfer.check .can x.key true x.total = 0 := passed
  simp [State.writeSegment, whole, allowed, State.canSegment_eq _ _ _ fits]

section
variable {s : State} {g : JalmonSegment} {x : Transfer}

/-- A data segment that is due goes to its transfer. -/
theorem State.canData_read (opened : s.can.transfer = some x) (same : x.seq = g.seq.toNat) (due : x.next = g.segment.toNat)
    (read : x.write = false) : s.canData g = s.readSegment x := by
  simp [State.canData, opened, same, due, read]

theorem State.canData_write (opened : s.can.transfer = some x) (same : x.seq = g.seq.toNat) (due : x.next = g.segment.toNat)
    (write : x.write = true) (short : g.dataLen.toNat ≤ 60) (whole : g.dataLen.toNat ≤ g.data.length) :
    s.canData g = s.writeSegment x g.last (g.data.take g.dataLen.toNat) := by
  simp [State.canData, opened, same, due, write, Nat.not_lt.2 short, Nat.not_lt.2 whole]

theorem exec_canDataSegment_taken (taken : s.canHeard.canTakes g.cls.toNat g.node.toNat = true) :
    exec (.canDataSegment g) s = s.answer (s.canHeard.canData g) := by
  have path : exec (.canDataSegment g) s =
      s.answer (if s.canHeard.canTakes g.cls.toNat g.node.toNat then s.canHeard.canData g else s.canHeard) := rfl
  rw [path, if_pos taken]

end

/-! Opening, cancel and timeout (R53). -/

section
variable {s : State} {f : JalmonFrame}

theorem State.canReadStart_opens (free : s.can.transfer = none) (passed : s.check .can (frameKey f) false 0 = 0) :
    s.canReadStart f = (s.opensTransfer
        { write := false, seq := f.seq.toNat, key := frameKey f, total := (s.readBytes (frameKey f)).length
          data := s.readBytes (frameKey f) }).canTransmit f.seq.toNat
      (jalmonHeader 0x83 0 (frameKey f) 4 0 ++ leBytes 4 (s.readBytes (frameKey f)).length) := by
  have four (n : Nat) : (leBytes 4 n).length = 4 := rfl
  simp [State.canReadStart, State.canReply, free, passed, four]

theorem State.checkUnsized_passed {k : Nat} {r : Row} (row : s.row k = some r) (ro : r.acc ≠ .ro) (const : r.acc ≠ .const)
    (reached : s.reaches 0 k = true) (free : s.held = false) : s.checkUnsized .can k = 0 := by
  have own : r.ty.fits r.ty.bytes = true := by cases r.ty <;> rfl
  simp [State.checkUnsized, State.check, requesterFn, row, ro, const, reached, free, own]

theorem State.totalCode_passed {k total : Nat} {r : Row} (row : s.row k = some r) (small : total ≤ 65536) (fits : r.ty.fits total = true) :
    s.totalCode k (leBytes 4 total) = 0 := by
  have value : leNat (leBytes 4 total) = total := leNat_leBytes_four (by omega)
  have four : (leBytes 4 total).length = 4 := rfl
  simp [State.totalCode, row, value, four, small, fits]

theorem State.canWriteStart_opens {total : Nat} (free : s.can.transfer = none) (unsized : s.checkUnsized .can (frameKey f) = 0)
    (declared : frameValue f = leBytes 4 total) (small : total ≤ 65536) (passed : s.totalCode (frameKey f) (leBytes 4 total) = 0) :
    s.canWriteStart f = (s.opensTransfer { write := true, seq := f.seq.toNat, key := frameKey f, total := total }).canTransmit f.seq.toNat
      (jalmonHeader 0x84 0 (frameKey f) 0 0) := by
  have value : leNat (leBytes 4 total) = total := leNat_leBytes_four (by omega)
  simp [State.canWriteStart, State.canReply, free, unsized, declared, passed, value]

theorem State.canCancels_open {x : Transfer} (opened : s.can.transfer = some x) :
    s.canCancels f = ({ s with can := { s.can with transfer := none, lastCancelled := some x.seq } } : State).canTransmit f.seq.toNat
      (jalmonHeader 0x86 0 x.key 0 0) := by
  simp [State.canCancels, State.canReply, State.closesTransfer, opened]

theorem State.segmentLate_open {x : Transfer} (opened : s.can.transfer = some x) :
    s.segmentLate = { s with can := { s.can with transfer := none, lastTimedOut := some x.seq } } := by
  simp [State.segmentLate, State.closesTransfer, opened]

end

/-- Settles O13: each step of a transfer is its row's own operation on the state that heard the frame; the last segment of a write is an
answered write. -/
theorem canSegmentedTransfers : Obligations.CanSegmentedTransfers := by
  rintro s f g _ rfl
  refine ⟨fun taken free => ⟨fun ask passed => ?_, fun r total ask row ro const reached working declared small fits => ?_⟩,
    fun x taken opened same due => ?_, fun x taken ask opened => ?_, fun x opened => ?_⟩
  · exact ⟨_, congrArg s.answer ((State.canRequest_asked taken ask).trans (State.canReadStart_opens free passed)), Keeps.seal s _ _⟩
  · have unsized := State.checkUnsized_passed row ro const reached working
    have sized := State.totalCode_passed row small fits
    exact ⟨_, congrArg s.answer ((State.canRequest_asked taken ask).trans (State.canWriteStart_opens free unsized declared small sized)),
      Keeps.seal s _ _⟩
  · have next : x.next < 2 ^ 11 := due ▸ g.segment.isLt
    refine ⟨fun read => ?_, fun write short whole => ⟨fun more => ?_, fun r last row total passed running plain => ?_⟩⟩
    · exact ⟨_, (exec_canDataSegment_taken taken).trans
        (congrArg s.answer ((State.canData_read opened same due read).trans (State.readSegment_eq _ next))), Keeps.seal s _ _⟩
    · have path := State.canData_write opened same due write short whole
      rw [more] at path
      exact ⟨_, (exec_canDataSegment_taken taken).trans (congrArg s.answer (path.trans (State.writeSegment_more _ next _))),
        Keeps.seal s _ _⟩
    · have path := State.canData_write opened same due write short whole
      rw [last] at path
      obtain ⟨value, -, -, kept⟩ := State.answered_write (s := s.canHeard.closesTransfer)
        row passed (s.canHeard_keeps.1.running.trans running) (State.answers_of_canTakes taken) plain x.seq
        (leBytes 4 (0x85 * 2 ^ 24 + 2 ^ 23 + x.next * 2 ^ 12)).reverse (x.data ++ g.data.take g.dataLen.toNat)
      exact ⟨_, (exec_canDataSegment_taken taken).trans (congrArg s.answer (path.trans (State.writeSegment_last next total passed))),
        value, kept.trans (Keeps.seal s _ _)⟩
  · exact ⟨_, congrArg s.answer ((State.canRequest_asked taken ask).trans (State.canCancels_open opened)), Keeps.seal s _ _⟩
  · exact ⟨_, congrArg s.answer (State.segmentLate_open opened), Keeps.seal s _ _⟩

end Sys2Proof.Machine
end

section
namespace Sys2Proof.Machine

open Sys2Proof

/-! The mailbox record (R56): what is read back, and what the writes of the host leave. -/

@[simp] theorem State.box_setBox (s : State) (fn : Nat) (m : Mailbox) : (s.setBox fn m).box fn = m := Assoc.get_put_same ..

@[simp] theorem State.setBox_setBox (s : State) (fn : Nat) (m x : Mailbox) : (s.setBox fn m).setBox fn x = s.setBox fn x := by
  simp only [State.setBox, Assoc.put_put]

/-- A mailbox set on both sides. -/
theorem Keeps.setBox {s t : State} {keys : List Nat} (h : Keeps s t keys) (fn : Nat) (m : Mailbox) :
    Keeps (s.setBox fn m) (t.setBox fn m) keys := by
  obtain ⟨raw, mem, box, out, rest⟩ := h
  refine ⟨raw, mem, fun f => ?_, out, rest⟩
  simp only [State.box, State.setBox, Assoc.get_put]
  split
  · rfl
  · exact box f

/-- A mailbox set after a change of entries, over the one set before it. -/
theorem Keeps.setBox_over {s t : State} {keys : List Nat} {fn : Nat} {m : Mailbox} (h : Keeps (s.setBox fn m) t keys) (x : Mailbox) :
    Keeps (s.setBox fn x) (t.setBox fn x) keys := by
  simpa using h.setBox fn x

theorem Mailbox.barWrite_state (m : Mailbox) (w : BarWrite) : (m.barWrite w).state = m.state := by
  simp only [Mailbox.barWrite]
  split_ifs <;> rfl

theorem Mailbox.barWrites_state (m : Mailbox) (l : List BarWrite) : (m.barWrites l).state = m.state := by
  unfold Mailbox.barWrites
  induction l generalizing m with
  | nil => rfl
  | cons w r ih => exact (ih (m.barWrite w)).trans (m.barWrite_state w)

/-- The word of a command in its three fields (R57). -/
theorem mailboxWord_fields {op : Nat} (small : op < 256) (index : BitVec 16) (sub : BitVec 8) :
    mailboxWord op (index.toNat * 256 + sub.toNat) = op * 2 ^ 24 + sub.toNat * 2 ^ 16 + index.toNat := by
  simp only [mailboxWord, packFields]
  omega

theorem overlay_front (b d : Bytes) : overlay b 0 d = d ++ b.drop d.length := by
  simp [overlay, fit]

/-! A request taken up (R56, R57). -/

/-- The state with the host's writes to a mailbox and its request counted. -/
def State.requested (s : State) (fn : Nat) (m : Mailbox) : State := (s.setBox fn m).bump Entry.mbxMailboxRequests

section
variable {s : State} {fn : Nat} {m : Mailbox}

@[simp] theorem State.requested_box : (s.requested fn m).box fn = m := by
  rw [State.requested, State.bump_of_countKeys (by decide)]
  exact State.box_setBox s fn m

theorem Keeps.requested : Keeps (s.setBox fn m) (s.requested fn m) [Entry.mbxMailboxRequests] := Keeps.bump _ _ (by simp)

theorem State.requested_same : SameDevice s (s.requested fn m) := by
  have boxed : SameDevice s (s.setBox fn m) := ⟨rfl, rfl, fun _ _ _ => rfl⟩
  exact boxed.trans (.of_keeps Keeps.requested (by simp [Entry.mbxMailboxRequests, key]))

theorem State.requested_count : (s.requested fn m).n Entry.mbxMailboxRequests = (s.n Entry.mbxMailboxRequests + 1) % 2 ^ 32 :=
  State.n_bump_of_wideCounters _ (by decide)

theorem State.requested_aborts : (s.requested fn m).n Entry.mbxAbortCount = s.n Entry.mbxAbortCount :=
  Keeps.requested.n (s := s.setBox fn m) (by decide) (by decide)

end

section
variable {s : State} {fn : Nat} {writes : List BarWrite} (alive : s.mailboxAlive = true)
include alive

theorem State.mailboxRequest_idle (idle : (s.box fn).state = 0) (unscrubbed : s.scrubbing (requesterOf fn) = false) (command : Nat)
    (read : Bool) (act : State → State) :
    s.mailboxRequest fn writes command read act = act (s.requested fn ((s.box fn).barWrites writes)) := by
  have boxed : (s.setBox fn ((s.box fn).barWrites writes)).scrubbing (requesterOf fn) = false := unscrubbed
  simp [State.mailboxRequest, State.requested, alive, Mailbox.barWrites_state, idle, boxed]

theorem State.mailboxRequest_scrubbing (idle : (s.box fn).state = 0) (scrubs : s.scrubbing (requesterOf fn) = true) (command : Nat)
    (act : State → State) :
    s.mailboxRequest fn writes command true act = (s.requested fn ((s.box fn).barWrites writes)).setBox fn
      { ((s.box fn).barWrites writes).starts command 3 0 with buffer := List.replicate 65536 0xFF } := by
  have boxed : (s.setBox fn ((s.box fn).barWrites writes)).scrubbing (requesterOf fn) = true := scrubs
  simp only [State.mailboxRequest, State.requested, alive, Mailbox.barWrites_state, idle, boxed, Bool.not_true, Bool.false_eq_true,
    if_false, ne_eq, not_true, if_true]

/-- A request that comes while another one is in progress or unacknowledged is lost. -/
theorem State.mailboxRequest_lost (busy : (s.box fn).state ≠ 0) (command : Nat) (read : Bool) (act : State → State) :
    s.mailboxRequest fn writes command read act = s.setBox fn { (s.box fn).barWrites writes with lost := true } := by
  simp [State.mailboxRequest, alive, Mailbox.barWrites_state, busy]

end

/-! Outcomes of a request (R42, R43, R57). -/

section
variable {s : State} {fn k : Nat} {m : Mailbox}

theorem State.mailboxRead_done {r : Row} (row : s.row k = some r) (passed : s.check (requesterOf fn) k false 0 = 0) :
    (s.requested fn m).mailboxRead fn k = (s.requested fn m).setBox fn { m with
      command := mailboxWord 1 k, state := 1, outcome := 2, abort := 0, length := ((s.requested fn m).readBytes k).length
      buffer := (s.requested fn m).readBytes k ++ m.buffer.drop ((s.requested fn m).readBytes k).length, type := r.ty.code } := by
  have same : SameDevice s (s.requested fn m) := State.requested_same
  have allowed := (same.check (requesterOf fn) k false 0).trans passed
  simp [State.mailboxRead, Mailbox.starts, allowed, overlay_front, (same.row k).trans row]

theorem State.mailboxRead_refused (refused : s.check (requesterOf fn) k false 0 ≠ 0) :
    (s.requested fn m).mailboxRead fn k =
      (s.requested fn m).mailboxAbort fn (mailboxWord 1 k) (s.check (requesterOf fn) k false 0) := by
  have same : SameDevice s (s.requested fn m) := State.requested_same
  simp [State.mailboxRead, same.check, refused]

theorem State.mailboxWrite_passed (passed : s.check (requesterOf fn) k true m.length = 0) :
    (s.requested fn m).mailboxWrite fn k =
      ((s.requested fn m).setBox fn (m.starts (mailboxWord 2 k) 2 0)).acceptWrite (requesterOf fn) k (fit m.length m.buffer) := by
  have same : SameDevice s (s.requested fn m) := State.requested_same
  simp [State.mailboxWrite, same.check, passed]

theorem State.mailboxWrite_refused (refused : s.check (requesterOf fn) k true m.length ≠ 0) :
    (s.requested fn m).mailboxWrite fn k =
      (s.requested fn m).mailboxAbort fn (mailboxWord 2 k) (s.check (requesterOf fn) k true m.length) := by
  have same : SameDevice s (s.requested fn m) := State.requested_same
  simp [State.mailboxWrite, same.check, refused]

/-- An aborted request is counted, and leaves every other entry. -/
theorem State.mailboxAbort_shows (command code : Nat) :
    let t := s.seal ((s.requested fn m).mailboxAbort fn command code)
    t.n Entry.mbxAbortCount = (s.n Entry.mbxAbortCount + 1) % 2 ^ 32 ∧
    Keeps (s.setBox fn { m with command := command, state := 1, outcome := 4, abort := code }) t
      [Entry.mbxMailboxRequests, Entry.mbxAbortCount] := by
  have form : (s.requested fn m).mailboxAbort fn command code =
      ((s.requested fn m).setBox fn (m.starts command 4 code)).bump Entry.mbxAbortCount := by
    simp [State.mailboxAbort]
  rw [form]
  refine ⟨?_, ((Keeps.setBox_over Keeps.requested _).mono (by simp)).trans ((Keeps.bump _ _ (by simp)).trans (Keeps.seal s _ _))⟩
  rw [State.seal_n, State.n_bump_of_wideCounters _ (by decide)]
  exact congrArg (fun n => (n + 1) % 2 ^ 32) State.requested_aborts

/-- An accepted write of an entry that a write only stores. -/
theorem State.mailboxWrite_done {r : Row} (row : s.row k = some r) (passed : s.check (requesterOf fn) k true m.length = 0)
    (running : s.running = true) (answers : s.answers = true) (plain : plainEntry k) (whole : r.clamps (fit m.length m.buffer) = false) :
    let t := s.seal ((s.requested fn m).mailboxWrite fn k)
    t.raw k = r.clamp (fit m.length m.buffer) ∧ t.n Entry.mbxMailboxRequests = (s.n Entry.mbxMailboxRequests + 1) % 2 ^ 32 ∧
    Keeps (s.setBox fn { m with command := mailboxWord 2 k, state := 1, outcome := 2, abort := 0 }) t
      [k, Entry.dictRestartPending, Entry.mbxMailboxRequests] := by
  have same : SameDevice s (s.requested fn m) := State.requested_same
  have started : SameDevice s ((s.requested fn m).setBox fn (m.starts (mailboxWord 2 k) 2 0)) := ⟨same.part, same.boot, same.raw⟩
  have free := not_countKeys_of_check passed
  have other : Entry.mbxMailboxRequests ∉ [k, Entry.dictRestartPending] := by
    have : Entry.mbxMailboxRequests ≠ k := fun e => free (e ▸ by decide)
    simpa using this
  have effect := State.acceptWrite_plain ((started.row k).trans row) (started.running.trans running) (started.answers.trans answers) plain
    (requesterOf fn) (b := fit m.length m.buffer)
  rw [whole, if_neg Bool.false_ne_true] at effect
  rw [State.mailboxWrite_passed passed, effect]
  obtain ⟨value, kept⟩ := ((s.requested fn m).setBox fn (m.starts (mailboxWord 2 k) 2 0)).store_shows free (r.clamp (fit m.length m.buffer))
  exact ⟨value, (kept.n other (by decide)).trans State.requested_count,
    ((Keeps.setBox_over Keeps.requested _).mono (by simp)).trans ((kept.mono (by simp)).trans (Keeps.seal s _ _))⟩

end

/-! Completion and acknowledgement (R56, R456). -/

section
variable {s : State} {fn : Nat}

theorem State.mailboxDone_busy (busy : (s.box fn).state = 1) :
    s.mailboxDone fn = if (s.box fn).irq then (s.setBox fn { s.box fn with state := (s.box fn).outcome }).signal fn 0
      else s.setBox fn { s.box fn with state := (s.box fn).outcome } := by
  simp [State.mailboxDone, busy]

theorem Signalled.keeps {t : State} (h : Signalled s t) (keys : List Nat) : Keeps s t keys := by
  obtain ⟨b, o, rfl, boxes, out⟩ := h
  exact ⟨fun _ _ _ => rfl, fun _ => rfl, boxes, out, rfl⟩

theorem Keeps.mailboxDone (busy : (s.box fn).state = 1) (keys : List Nat) :
    Keeps (s.setBox fn { s.box fn with state := (s.box fn).outcome }) (s.mailboxDone fn) keys := by
  rw [State.mailboxDone_busy busy]
  split
  · exact (State.signal_form _ fn 0).keeps keys
  · exact Keeps.refl _ _

/-- A vector that did not fire lately and is not masked fires at once. -/
theorem State.signal_fires {vector : Nat} (quiet : vector ∉ (s.box fn).vectors) (unmasked : (s.box fn).vectorMasked vector = false) :
    (s.signal fn vector).out = s.out ++ [.msix fn vector] := by
  have same : ({ s.box fn with vectors := vector :: (s.box fn).vectors } : Mailbox).vectorMasked vector = false := unmasked
  simp [State.signal, State.fire, quiet, same, State.emit]

theorem State.mailboxAck_done (done : (s.box fn).state ≠ 1) :
    s.mailboxAck fn 1 = s.setBox fn { s.box fn with state := 0, lost := false } := by
  simp [State.mailboxAck, done]

theorem State.mailboxAck_ignored {value : Nat} (ignored : value ≠ 1 ∨ (s.box fn).state = 1) : s.mailboxAck fn value = s := by
  simp only [State.mailboxAck]
  split
  · rfl
  · rename_i taken
    simp at taken
    tauto

end

/-! The commands. -/

section
variable {s : State} {fn : Fin 9} {writes : List BarWrite} {index : BitVec 16} {sub : BitVec 8} (alive : s.mailboxAlive = true)
include alive

/-- A request on a mailbox that is idle, of a function that is not scrubbed. -/
theorem exec_mbx_idle (idle : (s.box fn).state = 0) (unscrubbed : s.scrubbing (requesterOf fn) = false) (c : MbxCommand) :
    let k := index.toNat * 256 + sub.toNat
    let u := s.requested fn ((s.box fn).barWrites writes)
    exec (.mbxRead fn writes index sub) s = s.answer (u.mailboxRead fn k) ∧
    exec (.mbxWrite fn writes index sub) s = s.answer (u.mailboxWrite fn k) ∧
    exec (.mbxUnknownCommand fn writes c) s =
      s.answer (u.mailboxAbort fn (mailboxWord c.command.toNat (c.index.toNat * 256 + c.sub.toNat)) 0x0010) :=
  have path (command : Nat) (read : Bool) (act : State → State) :=
    congrArg s.answer (State.mailboxRequest_idle (writes := writes) alive idle unscrubbed command read act)
  ⟨path _ _ _, path _ _ _, path _ _ _⟩

/-- A request on a mailbox that is not idle. -/
theorem exec_mbx_lost (busy : (s.box fn).state ≠ 0) {d : MbxCommand} {c : Instr}
    (request : c ∈ [Instr.mbxRead fn writes index sub, .mbxWrite fn writes index sub, .mbxUnknownCommand fn writes d]) :
    exec c s = s.answer (s.setBox fn { (s.box fn).barWrites writes with lost := true }) := by
  simp only [List.mem_cons, List.not_mem_nil, or_false] at request
  rcases request with rfl | rfl | rfl
  all_goals exact congrArg s.answer (State.mailboxRequest_lost alive busy _ _ _)

theorem exec_mbxRequestComplete_alive : exec (.mbxRequestComplete fn) s = s.answer (s.mailboxDone fn) :=
  congrArg s.answer (if_pos alive)

theorem exec_mbxAck_alive (value : BitVec 32) : exec (.mbxAck fn value) s = s.answer (s.mailboxAck fn value.toNat) :=
  congrArg s.answer (if_pos alive)

theorem State.answers_of_mailboxAlive : s.answers = true := by
  simp only [State.mailboxAlive, Bool.and_eq_true] at alive
  exact alive.1

end

/-- Settles O14: an idle mailbox goes on from `State.requested`, where the access checks are those of the state before; an outcome sets
the mailbox over the one that holds the writes of the host. -/
theorem mailboxRequests : Obligations.MailboxRequests := by
  rintro s fn writes index sub cmd _ rfl alive
  refine ⟨fun idle unscrubbed => ?_, fun idle scrubs => ?_, fun busy c request => ?_, fun busy => ?_, fun done => ?_, fun v ignored => ?_⟩
  · obtain ⟨reads, stores, unknown⟩ := exec_mbx_idle (writes := writes) (index := index) (sub := sub) alive idle unscrubbed ⟨cmd, index, sub⟩
    have readWord := mailboxWord_fields (op := 1) (by decide) index sub
    have writeWord := mailboxWord_fields (op := 2) (by decide) index sub
    have otherWord := mailboxWord_fields cmd.isLt index sub
    refine ⟨fun r row passed => ?_, fun r row passed running plain whole => ?_, fun refused => ?_, fun refused => ?_, ?_⟩
    · refine ⟨_, reads, ?_⟩
      rw [State.mailboxRead_done row passed, readWord]
      exact ⟨State.requested_count, (Keeps.setBox_over Keeps.requested _).trans (Keeps.seal s _ _)⟩
    · have outcome := State.mailboxWrite_done row passed running (State.answers_of_mailboxAlive alive) plain whole
      rw [writeWord] at outcome
      exact ⟨_, stores, outcome⟩
    · refine ⟨_, reads, ?_⟩
      rw [State.mailboxRead_refused refused, readWord]
      exact State.mailboxAbort_shows _ _
    · refine ⟨_, stores, ?_⟩
      rw [State.mailboxWrite_refused refused, writeWord]
      exact State.mailboxAbort_shows _ _
    · refine ⟨_, unknown, ?_⟩
      rw [otherWord]
      exact State.mailboxAbort_shows _ _
  · refine ⟨_, congrArg s.answer (State.mailboxRequest_scrubbing alive idle scrubs _ _), ?_⟩
    rw [mailboxWord_fields (by decide)]
    exact (Keeps.setBox_over Keeps.requested _).trans (Keeps.seal s _ _)
  · exact ⟨_, exec_mbx_lost alive busy request, Keeps.seal s _ _⟩
  · refine ⟨_, exec_mbxRequestComplete_alive alive, (Keeps.mailboxDone busy []).trans (Keeps.seal s _ _), fun irq quiet unmasked => ?_⟩
    have fired := State.signal_fires (s := s.setBox fn { s.box fn with state := (s.box fn).outcome }) (fn := fn) (vector := 0)
      (by rw [State.box_setBox]; exact quiet) (by rw [State.box_setBox]; exact unmasked)
    rw [State.mailboxDone_busy busy, if_pos irq]
    exact fired
  · exact ⟨_, (exec_mbxAck_alive alive 1).trans (congrArg s.answer (State.mailboxAck_done done)), Keeps.seal s _ _⟩
  · have other : v.toNat ≠ 1 ∨ (s.box fn).state = 1 := ignored.imp_left fun ne same => ne (BitVec.eq_of_toNat_eq same)
    exact ⟨_, (exec_mbxAck_alive alive v).trans (congrArg s.answer (State.mailboxAck_ignored other)), Keeps.seal s _ _⟩

end Sys2Proof.Machine
end

section
namespace Sys2Proof.Machine

open Sys2Proof

/-! What the reception and the decoding of one stream leave as it was (R64 to R92). -/

theorem State.ctx_setCtx (s : State) (i : Nat) (c : Ctx) : (s.setCtx i c).ctx i = c := Assoc.get_put_same ..

theorem State.ctx_setCtx_ne (s : State) {i j : Nat} (c : Ctx) (h : j ≠ i) : (s.setCtx i c).ctx j = s.ctx j :=
  Assoc.get_put_ne _ _ _ h.symm

theorem Keeps.streams {s t : State} {keys : List Nat} (h : Keeps s t keys) : t.streams = s.streams :=
  (congrArg (fun u : State => u.streams) h.rest : (State.rest t).streams = (State.rest s).streams)

theorem Keeps.ctx {s t : State} {keys : List Nat} (h : Keeps s t keys) (i : Nat) : t.ctx i = s.ctx i := by
  simp only [State.ctx, h.streams]

theorem Keeps.csi {s t : State} {keys : List Nat} (h : Keeps s t keys) : t.csi = s.csi :=
  (congrArg (fun u : State => u.csi) h.rest : (State.rest t).csi = (State.rest s).csi)

theorem Keeps.adapt {s t : State} {keys : List Nat} (h : Keeps s t keys) : t.adapt = s.adapt :=
  (congrArg (fun u : State => u.adapt) h.rest : (State.rest t).adapt = (State.rest s).adapt)

/-- A fold over changes that change nothing. -/
theorem State.each_fixed {α : Type} {s : State} {l : List α} {f : State → α → State} (fixed : ∀ a ∈ l, f s a = s) :
    s.each l f = s := by
  simp only [State.each]
  induction l with
  | nil => rfl
  | cons a r ih =>
    rw [List.foldl_cons, fixed a (List.mem_cons_self ..)]
    exact ih fun b listed => fixed b (List.mem_cons_of_mem _ listed)

theorem State.each_singleton {α : Type} (s : State) (a : α) (f : State → α → State) : s.each [a] f = f s a := rfl

theorem Assoc.mem_put {α : Type} {m : List (Nat × α)} {k : Nat} {v : α} {e : Nat × α} (h : e ∈ Assoc.put m k v) :
    e = (k, v) ∨ e ∈ m := by
  induction m with
  | nil => exact .inl (List.mem_singleton.1 h)
  | cons x r ih =>
    simp only [Assoc.put] at h
    split at h
    · rcases List.mem_cons.1 h with rfl | listed
      · exact .inl rfl
      · exact .inr (List.mem_cons_of_mem _ listed)
    · rcases List.mem_cons.1 h with rfl | listed
      · exact .inr (List.mem_cons_self ..)
      · exact (ih listed).imp_right (List.mem_cons_of_mem _)

/-! Flags of a stream (R96). -/

theorem State.hasFlag_streamFlag (s : State) (i bit j : Nat) (on : Bool) :
    (s.streamFlag i bit on).hasFlag i j = if bit = j then on else s.hasFlag i j := by
  rw [State.hasFlag, State.streamFlag, State.setFlag, State.n_setN s _ _ (ne_lost_of_record (by omega)), withBit_testBit]
  rfl

theorem Keeps.streamFlag (s : State) (i bit : Nat) (on : Bool) {keys : List Nat} (h : Entry.streamFlags i ∈ keys) :
    Keeps s (s.streamFlag i bit on) keys := Keeps.setFlag s _ bit on h

/-- A flag entry kept keeps its flags. -/
theorem EntriesKept.hasFlag {s t : State} {keys : List Nat} (h : EntriesKept s t keys) {i : Nat} (free : Entry.streamFlags i ∉ keys)
    (bit : Nat) : t.hasFlag i bit = s.hasFlag i bit := by
  simp only [State.hasFlag, h.n free (ne_lost_of_record (by omega))]

/-! Entries of progress and entries of the setup. -/

/-- The entries that reception and decoding change: none gives a stream its configuration or its partition, and none belongs to a pair, a
port or a partition. -/
def progressEntry (k : Nat) : Prop :=
  (k / 256 < 0x2400 ∧ (0x2000 ≤ k / 256 → k / 256 < 0x2200 → k % 256 = 0x02 ∨ 0x18 ≤ k % 256 ∧ k % 256 ≤ 0x20)) ∨
    (0x2480 ≤ k / 256 ∧ k / 256 < 0x3400)

theorem progressEntry_key {i a : Nat} (small : a < 256) :
    progressEntry (key i a) ↔
      (i < 0x2400 ∧ (0x2000 ≤ i → i < 0x2200 → a = 0x02 ∨ 0x18 ≤ a ∧ a ≤ 0x20)) ∨ (0x2480 ≤ i ∧ i < 0x3400) := by
  have sub : key i a % 256 = a := by simp only [key]; omega
  simp only [progressEntry, key_div i small, sub]

/-- What a step in the reception or the decoding of stream `i` leaves: the entries but those of `keys`, external memory, the ports, the CSI-2
frames in progress, the stream's configuration and every other stream; no adaptation begins. -/
structure Receives (i : Nat) (s t : State) (keys : List Nat) : Prop where
  entries : EntriesKept s t keys
  memory : MemoryKept s t
  part : t.part = s.part
  ports : t.ports = s.ports
  csi : t.csi = s.csi
  config : (t.ctx i).config = (s.ctx i).config
  others : ∀ j, j ≠ i → t.ctx j = s.ctx j
  unadapting : s.unadapting → t.unadapting

theorem State.unadapting_congr {s t : State} (h : t.adapt = s.adapt) (unadapting : s.unadapting) : t.unadapting := by
  intro p
  simp only [State.adaptPart, h]
  exact unadapting p

namespace Receives

theorem refl (i : Nat) (s : State) (keys : List Nat) : Receives i s s keys :=
  ⟨fun _ _ _ => rfl, fun _ => rfl, rfl, rfl, rfl, rfl, fun _ _ => rfl, id⟩

theorem trans {i : Nat} {s t u : State} {keys : List Nat} (h : Receives i s t keys) (g : Receives i t u keys) : Receives i s u keys :=
  ⟨fun k free found => (g.entries k free found).trans (h.entries k free found), fun a => (g.memory a).trans (h.memory a),
    g.part.trans h.part, g.ports.trans h.ports, g.csi.trans h.csi, g.config.trans h.config,
    fun j other => (g.others j other).trans (h.others j other), g.unadapting ∘ h.unadapting⟩

theorem mono {i : Nat} {s t : State} {keys more : List Nat} (h : Receives i s t keys) (sub : ∀ k ∈ keys, k ∈ more) :
    Receives i s t more := { h with entries := h.entries.mono sub }

theorem of_keeps {s t : State} {keys : List Nat} (i : Nat) (h : Keeps s t keys) : Receives i s t keys :=
  ⟨h.entries, h.memoryKept, h.part, h.ports, h.csi, congrArg Ctx.config (h.ctx i), fun j _ => h.ctx j, State.unadapting_congr h.adapt⟩

/-- A change of what other units hold. -/
theorem of_eq {s t : State} (i : Nat) {keys : List Nat} (dict : t.dict = s.dict) (mem : t.mem = s.mem) (part : t.part = s.part)
    (ports : t.ports = s.ports) (csi : t.csi = s.csi) (streams : t.streams = s.streams) (adapt : t.adapt = s.adapt) :
    Receives i s t keys := by
  have ctx (j : Nat) : t.ctx j = s.ctx j := by simp only [State.ctx, streams]
  exact ⟨fun k _ _ => State.raw_congr part dict k, MemoryKept.of_mem mem, part, ports, csi, congrArg Ctx.config (ctx i), fun j _ => ctx j,
    State.unadapting_congr adapt⟩

/-- The stream's record replaced by one with the same configuration. -/
theorem setCtx (s : State) {i : Nat} {c : Ctx} (config : c.config = (s.ctx i).config) {keys : List Nat} :
    Receives i s (s.setCtx i c) keys :=
  ⟨fun _ _ _ => rfl, fun _ => rfl, rfl, rfl, rfl, by rw [State.ctx_setCtx]; exact config, fun _ => State.ctx_setCtx_ne s c, id⟩

theorem each {α : Type} {i : Nat} (s : State) (l : List α) (f : State → α → State) {keys : List Nat}
    (h : ∀ t, ∀ a ∈ l, Receives i t (f t a) keys) : Receives i s (s.each l f) keys := by
  simp only [State.each]
  induction l generalizing s with
  | nil => exact refl i s keys
  | cons a r ih =>
    rw [List.foldl_cons]
    exact (h s a (List.mem_cons_self ..)).trans (ih _ fun t b listed => h t b (List.mem_cons_of_mem _ listed))

section
variable {i : Nat} {s t : State} {keys : List Nat} (h : Receives i s t keys)
include h

theorem config_of (j : Nat) : (t.ctx j).config = (s.ctx j).config := by
  by_cases same : j = i
  · exact same ▸ h.config
  · rw [h.others j same]

variable (progress : ∀ k ∈ keys, progressEntry k)
include progress

theorem setup {k : Nat} (fixed : ¬ progressEntry k) : t.raw k = s.raw k :=
  h.entries k (fun listed => fixed (progress k listed)) fun lost => fixed (by rw [lost]; exact .inl (by decide))

theorem setup_n {k : Nat} (fixed : ¬ progressEntry k) : t.n k = s.n k := State.n_congr (h.setup progress fixed)

theorem cfg (j : Nat) {k : Nat} (fixed : ¬ progressEntry k) : t.cfg j k = s.cfg j k := by
  simp only [State.cfg, h.config_of j, h.setup progress fixed]

theorem cfgN (j : Nat) {k : Nat} (fixed : ¬ progressEntry k) : t.cfgN j k = s.cfgN j k := by
  simp only [State.cfgN, h.cfg progress j fixed]

theorem cfgB (j : Nat) {k : Nat} (fixed : ¬ progressEntry k) : t.cfgB j k = s.cfgB j k := by
  simp only [State.cfgB, h.cfg progress j fixed]

theorem tooBig {j : Nat} (stream : j < 512) (q : Picture) : t.tooBig j q = s.tooBig j q := by
  simp only [State.tooBig, h.cfgN progress j (k := Entry.streamMaxWidth j) (mt (progressEntry_key (by decide)).1 (by omega)),
    h.cfgN progress j (k := Entry.streamMaxHeight j) (mt (progressEntry_key (by decide)).1 (by omega))]

theorem activePairs : t.activePairs = s.activePairs :=
  List.filter_congr fun p listed => by
    have pair := List.mem_range.1 listed
    exact congrArg (fun n => decide (n ≠ 0))
      (h.setup_n progress (k := Entry.pairState p) (mt (progressEntry_key (by decide)).1 (by omega)))

theorem streamPartition {j : Nat} (stream : j < 512) : t.streamPartition j = s.streamPartition j := by
  have map (p : Nat) : t.b (Entry.partStreamMap p) = s.b (Entry.partStreamMap p) :=
    State.b_congr (h.setup progress (mt (progressEntry_key (by decide)).1 (by omega)))
  simp only [State.streamPartition, map, h.setup_n progress (k := Entry.streamPartition j) (mt (progressEntry_key (by decide)).1 (by omega))]

theorem anchorPort (p : Nat) : t.anchorPort p = s.anchorPort p :=
  State.anchorPort_congr fun _ => h.setup progress (mt (progressEntry_key (by decide)).1 (by omega))

end

end Receives

/-! The engines of stereo and flow after a change of streams (R115, R120). -/

/-- State of the stereo engines. -/
def stereoStates : List Nat := (List.range 4).map Entry.stereoState

theorem Keeps.showEngines (s : State) : Keeps s s.showEngines stereoStates :=
  Keeps.each _ _ _ fun t _ listed => Keeps.setN t _ _ (List.mem_map_of_mem listed)

theorem State.checkPairStreams_unpaired {s : State} (unpaired : s.activePairs = []) : s.checkPairStreams = s.showEngines := by
  simp only [State.checkPairStreams, unpaired, State.each, List.foldl_nil]

theorem Receives.allocFlow (i : Nat) (s : State) (j : Nat) (keys : List Nat) : Receives i s (s.allocFlow j) keys := by
  simp only [State.allocFlow]
  split
  · exact .refl i s keys
  · exact .of_eq i rfl rfl rfl rfl rfl rfl rfl

theorem Receives.recomputeServed (i : Nat) (s : State) : Receives i s s.recomputeServed flowKeys := by
  unfold State.recomputeServed
  extract_lets served load map t u
  have shown : Keeps s ((u.setN Entry.visionFlowServedLoad (load served)).setB Entry.visionFlowServedMap map) flowKeys :=
    (((Keeps.setN s _ _ (by simp [flowKeys])).trans (Keeps.setN _ _ _ (by simp [flowKeys]))).trans
      (Keeps.setN _ _ _ (by simp [flowKeys]))).trans (Keeps.setB _ _ _ (by simp [flowKeys]))
  exact (Receives.of_keeps i shown).trans (.each _ _ _ fun v j _ => .allocFlow i v j flowKeys)

/-! Adaptation, where no stream adapts (R337, R341). -/

theorem State.adaptOf_off {s : State} (unadapting : s.unadapting) (i : Nat) : (s.adaptOf i).state = adaptOff := by
  obtain ⟨-, off⟩ := unadapting (s.streamPartition i)
  simp only [State.adaptOf, Assoc.get]
  cases found : Assoc.find (s.adaptPart (s.streamPartition i)).streams i with
  | none => rfl
  | some a => exact off _ (Assoc.mem_of_find _ _ _ found)

theorem State.adaptSweepAll_unadapting {s : State} (unadapting : s.unadapting) : s.adaptSweepAll = s :=
  State.each_fixed fun _ _ => State.each_fixed fun e _ => if_pos (State.adaptOf_off unadapting e.1)

/-- A stream's adaptation record replaced by one that does not adapt. -/
theorem State.setAdaptOf_unadapting {s : State} (unadapting : s.unadapting) (i : Nat) {a : AdaptStream} (off : a.state = adaptOff) :
    (s.setAdaptOf i a).unadapting := by
  intro p
  by_cases same : s.streamPartition i = p
  · obtain ⟨queue, streams⟩ := unadapting p
    subst same
    simp only [State.setAdaptOf, State.setAdaptPart, State.adaptPart, Assoc.get_put_same]
    refine ⟨queue, fun e listed => ?_⟩
    rcases Assoc.mem_put listed with rfl | before
    · exact off
    · exact streams e before
  · simp only [State.setAdaptOf, State.setAdaptPart, State.adaptPart, Assoc.get_put_ne _ _ _ same]
    exact unadapting p

/-- The ring of a stream that does not adapt, cleared: no sample waits that would be counted as dropped. -/
theorem Receives.clearAdaptRing {s : State} (unadapting : s.unadapting) (i j : Nat) (keys : List Nat) :
    Receives i s (s.clearAdaptRing j) keys := by
  obtain ⟨queue, streams⟩ := unadapting (s.streamPartition j)
  simp only [State.clearAdaptRing, queue, List.filter_nil, List.length_nil, decide_true, Bool.or_true, if_true]
  have emptied : (s.setAdaptPart (s.streamPartition j) { s.adaptPart (s.streamPartition j) with queue := [] }).unadapting := by
    intro p
    by_cases same : s.streamPartition j = p
    · subst same
      simp only [State.setAdaptPart, State.adaptPart, Assoc.get_put_same]
      exact ⟨trivial, streams⟩
    · simp only [State.setAdaptPart, State.adaptPart, Assoc.get_put_ne _ _ _ same]
      exact unadapting p
  exact ⟨fun _ _ _ => rfl, fun _ => rfl, rfl, rfl, rfl, rfl, fun _ _ => rfl,
    fun _ => State.setAdaptOf_unadapting emptied j (State.adaptOf_off emptied j)⟩

/-! Frames lost (R78, R82). -/

/-- HistoryResets of the ports. -/
def historyResets : List Nat := (List.range 16).map Entry.portUpHistoryResets

theorem Receives.genLossy {s : State} (unadapting : s.unadapting) (i : Nat) : Receives i s (s.genLossy i) historyResets := by
  unfold State.genLossy State.resetHistory
  extract_lets g o t h u v
  have counted : Receives i u v historyResets := .each _ _ _ fun w n listed => .of_keeps i <| by
    have count : u.portCount ≤ 16 := by
      simp only [State.portCount]
      split <;> decide
    have port : n < u.portCount := List.mem_range.1 (List.mem_of_mem_filter listed)
    exact Keeps.bump w _ (List.mem_map_of_mem (List.mem_range.2 (by omega)))
  have marked : Receives i s u historyResets := .of_eq i rfl rfl rfl rfl rfl rfl rfl
  have primed := marked.trans counted
  exact primed.trans (.clearAdaptRing (primed.unadapting unadapting) i i historyResets)

/-- The entries of a stream that a lost frame changes. -/
def lostKeys (i : Nat) : List Nat := [Entry.streamFramesLossy i, Entry.streamFlags i]

theorem Receives.loseFrame (s : State) (i : Nat) (lossyFrame taint : Bool) : Receives i s (s.loseFrame i lossyFrame taint) (lostKeys i) := by
  unfold State.loseFrame
  extract_lets t u v c
  have first : Keeps s t (lostKeys i) := Keeps.bump s _ (by simp [lostKeys])
  have second : Keeps t u (lostKeys i) := by
    dsimp only [u]
    split
    · exact Keeps.streamFlag t i _ _ (by simp [lostKeys])
    · exact Keeps.refl t _
  have third : Keeps u v (lostKeys i) := by
    dsimp only [v]
    split
    · exact Keeps.streamFlag u i _ _ (by simp [lostKeys])
    · exact Keeps.refl u _
  exact (Receives.of_keeps i ((first.trans second).trans third)).trans
    (.setCtx v (c := { c with resetOrdinal := c.trueCount, lastTrue := false }) rfl)

end Sys2Proof.Machine
end

section
namespace Sys2Proof.Machine

open Sys2Proof

/-! The table of a stream context (R36, R95). -/

/-- The records before the stream contexts' end below them. -/
theorem State.record_stream (s : State) {i : Nat} (stream : i < 512) : s.record (0x2000 + i) = some (Catalog.stream, i) := by
  have found (count : Record → Nat) (few : ∀ r ∈ [Catalog.id, Catalog.dict, Catalog.can, Catalog.mbx, Catalog.dev], count r = 1)
      (many : count Catalog.stream = 512) :
      (Catalog.all.find? fun r => r.base + r.first ≤ 0x2000 + i && 0x2000 + i < r.base + r.first + count r) = some Catalog.stream := by
    have below : ∀ r ∈ [Catalog.id, Catalog.dict, Catalog.can, Catalog.mbx, Catalog.dev],
        (decide (r.base + r.first ≤ 0x2000 + i) && decide (0x2000 + i < r.base + r.first + count r)) = false := by
      intro r listed
      have low : ∀ r ∈ [Catalog.id, Catalog.dict, Catalog.can, Catalog.mbx, Catalog.dev], r.base + r.first < 0x2000 := by decide
      have := low r listed
      rw [few r listed, Bool.and_eq_false_iff, decide_eq_false_iff_not, decide_eq_false_iff_not]
      omega
    have here : (decide (Catalog.stream.base + Catalog.stream.first ≤ 0x2000 + i) &&
        decide (0x2000 + i < Catalog.stream.base + Catalog.stream.first + count Catalog.stream)) = true := by
      rw [many, show Catalog.stream.base + Catalog.stream.first = 0x2000 from rfl, Bool.and_eq_true, decide_eq_true_eq, decide_eq_true_eq]
      omega
    show (([Catalog.id, Catalog.dict, Catalog.can, Catalog.mbx, Catalog.dev] ++ Catalog.stream :: _).find? _) = _
    rw [List.find?_append, List.find?_eq_none.2 fun r listed => by simpa using below r listed, Option.none_or]
    exact List.find?_cons_of_pos here
  unfold State.record
  cases s.part
  · simp only [found Record.count (by decide) rfl]
    exact congrArg (fun j => some (Catalog.stream, j)) (Nat.add_sub_cancel_left ..)
  · simp only [found Record.count30 (by decide) rfl]
    exact congrArg (fun j => some (Catalog.stream, j)) (Nat.add_sub_cancel_left ..)

theorem State.row_stream (s : State) {i a : Nat} (stream : i < 512) (small : a < 256) :
    s.row (key (0x2000 + i) a) = Catalog.stream.rows.find? fun e => e.sub == a := by
  have sub : key (0x2000 + i) a % 256 = a := by simp only [key]; omega
  have wide (e : Row) : s.narrowed (key (0x2000 + i) a) e = e := by
    simp only [State.narrowed, key_div _ small]
    split
    · rfl
    · rw [if_neg (by simp; omega), if_neg (by simp; omega)]
  simp only [State.row, key_div _ small, s.record_stream stream, sub, funext wide, Option.map_id']

/-- The counters of a stream have 32 bits. -/
theorem streamCounter_width {i a : Nat} (stream : i < 512) (counter : a ∈ [0x1A, 0x1B, 0x1C, 0x1D]) (p : Part) :
    widthOf p (key (0x2000 + i) a) = 32 := by
  have rows : ∀ a ∈ [0x1A, 0x1B, 0x1C, 0x1D], a < 256 ∧
      (Catalog.stream.rows.find? fun e => e.sub == a).map (fun r => 8 * r.ty.bytes) = some 32 := by decide
  obtain ⟨small, width⟩ := rows a counter
  unfold widthOf
  rw [State.row_stream _ stream small]
  cases row : Catalog.stream.rows.find? fun e => e.sub == a with
  | none => simp [row] at width
  | some r => simpa [row] using width

theorem State.n_bump_stream (s : State) {i a : Nat} (stream : i < 512) (counter : a ∈ [0x1A, 0x1B, 0x1C, 0x1D]) :
    (s.bump (key (0x2000 + i) a)).n (key (0x2000 + i) a) = (s.n (key (0x2000 + i) a) + 1) % 2 ^ 32 :=
  State.n_bump s _ 32 (ne_lost_of_record (by omega)) (streamCounter_width stream counter)

end Sys2Proof.Machine
end

section
namespace Sys2Proof.Machine

open Sys2Proof

/-! True frames and lost frames of a stream, on a device without active pairs (R77, R78, R86). -/

/-- The entries that a true frame shows again for the engines. -/
def engineKeys : List Nat := flowKeys ++ stereoStates

/-- The entries that a true frame without an arrival time changes. -/
def trueKeys (i : Nat) : List Nat := [Entry.streamFramesTrue i, Entry.streamFlags i, Entry.streamState i] ++ engineKeys

theorem streamKey_not_mem_engineKeys {i a : Nat} (stream : i < 512) (small : a < 256) : key (0x2000 + i) a ∉ engineKeys := fun listed => by
  have engines : ∀ k ∈ engineKeys, 0x2480 ≤ k / 256 := by decide
  have := engines _ listed
  rw [key_div _ small] at this
  omega

theorem engineKeys_progress : ∀ k ∈ engineKeys, progressEntry k := by
  have engines : ∀ k ∈ engineKeys, 0x2480 ≤ k / 256 ∧ k / 256 < 0x3400 := by decide
  exact fun k listed => .inr (engines k listed)

theorem trueKeys_progress {i : Nat} (stream : i < 512) : ∀ k ∈ trueKeys i, progressEntry k := by
  intro k listed
  rcases List.mem_append.1 listed with own | engine
  · simp only [List.mem_cons, List.not_mem_nil, or_false] at own
    rcases own with rfl | rfl | rfl <;> exact (progressEntry_key (by decide)).2 (.inl ⟨by omega, fun _ _ => by omega⟩)
  · exact engineKeys_progress k engine

/-- The stream's own entries at a true frame: counted, not lossy, LIVE where it was STARTING (R86 step 5). -/
def State.trueMarked (s : State) (i : Nat) : State :=
  let t := (s.bump (Entry.streamFramesTrue i)).streamFlag i flagLossy false
  if t.streamState i = 1 then t.setN (Entry.streamState i) 2 else t

/-- A true frame that no port's line count stamps (R77). -/
def State.trueCounted (s : State) (i timestamp : Nat) : State :=
  let t := (s.trueMarked i).checkPairStreams.recomputeServed
  t.setCtx i { t.ctx i with lastTrue := true, trueCount := (t.ctx i).trueCount + 1, trueTs := some timestamp }

theorem State.trueFrame_unstamped (s : State) (i timestamp : Nat) (q : Picture) (motion : List MotionRecord) (alone : List Nat) :
    s.trueFrame i timestamp [] q motion alone = s.trueCounted i timestamp := rfl

section
variable (s : State) (i : Nat)

theorem Keeps.trueMarked : Keeps s (s.trueMarked i) [Entry.streamFramesTrue i, Entry.streamFlags i, Entry.streamState i] := by
  have flagged := (Keeps.bump s (Entry.streamFramesTrue i) (by simp)).trans
    (Keeps.streamFlag _ i flagLossy false (keys := [Entry.streamFramesTrue i, Entry.streamFlags i, Entry.streamState i]) (by simp))
  unfold State.trueMarked
  extract_lets t
  split
  · exact flagged.trans (Keeps.setN t _ _ (by simp))
  · exact flagged

/-- An entry of the stream after another one is set. -/
theorem State.n_set_stream {k a : Nat} (v : Value) (other : k ≠ key (0x2000 + i) a) :
    (s.set k v).n (key (0x2000 + i) a) = s.n (key (0x2000 + i) a) :=
  State.n_congr (State.raw_set_ne s v other (ne_lost_of_record (by omega)))

theorem State.hasFlag_set {k : Nat} (v : Value) (bit : Nat) (other : k ≠ Entry.streamFlags i) :
    (s.set k v).hasFlag i bit = s.hasFlag i bit := by
  simp only [State.hasFlag, State.n_set_stream s i v other]

theorem State.streamState_trueMarked : (s.trueMarked i).streamState i = if s.streamState i = 1 then 2 else s.streamState i := by
  have before : ((s.bump (Entry.streamFramesTrue i)).streamFlag i flagLossy false).streamState i = s.streamState i :=
    (State.n_set_stream _ i _ (key_ne_of_sub (by decide))).trans (State.n_set_stream s i _ (key_ne_of_sub (by decide)))
  simp only [State.trueMarked, before]
  split
  · exact State.n_setN _ _ _ (ne_lost_of_record (by omega))
  · exact before

theorem State.hasFlag_trueMarked (bit : Nat) : (s.trueMarked i).hasFlag i bit = if flagLossy = bit then false else s.hasFlag i bit := by
  have before : ((s.bump (Entry.streamFramesTrue i)).streamFlag i flagLossy false).hasFlag i bit =
      if flagLossy = bit then false else s.hasFlag i bit := by
    rw [State.hasFlag_streamFlag, State.bump, State.add, State.setN, State.hasFlag_set s i _ bit (key_ne_of_sub (by decide))]
  unfold State.trueMarked
  extract_lets t
  split
  · exact (State.hasFlag_set t i _ bit (key_ne_of_sub (by decide))).trans before
  · exact before

theorem State.n_trueMarked_frames (stream : i < 512) :
    (s.trueMarked i).n (Entry.streamFramesTrue i) = (s.n (Entry.streamFramesTrue i) + 1) % 2 ^ 32 := by
  have counted : ((s.bump (Entry.streamFramesTrue i)).streamFlag i flagLossy false).n (Entry.streamFramesTrue i) =
      (s.n (Entry.streamFramesTrue i) + 1) % 2 ^ 32 :=
    (State.n_set_stream _ i _ (key_ne_of_sub (by decide))).trans (s.n_bump_stream stream (by decide))
  unfold State.trueMarked
  extract_lets t
  split
  · exact (State.n_set_stream t i _ (key_ne_of_sub (by decide))).trans counted
  · exact counted

end

section
variable {s : State} {i : Nat} (stream : i < 512) (unpaired : s.activePairs = []) (timestamp : Nat)
include stream unpaired

theorem State.activePairs_trueMarked : (s.trueMarked i).activePairs = [] := by
  rw [(Receives.of_keeps i (Keeps.trueMarked s i)).activePairs fun k listed =>
    trueKeys_progress stream k (List.mem_append_left _ listed), unpaired]

theorem Receives.trueCounted_marked : Receives i (s.trueMarked i) (s.trueCounted i timestamp) engineKeys := by
  unfold State.trueCounted
  rw [State.checkPairStreams_unpaired (State.activePairs_trueMarked stream unpaired)]
  extract_lets t
  have shown : Receives i (s.trueMarked i) t engineKeys :=
    (Receives.of_keeps i (Keeps.showEngines _)).mono (fun _ => List.mem_append_right _) |>.trans
      ((Receives.recomputeServed i _).mono fun _ => List.mem_append_left _)
  clear_value t
  refine shown.trans (.setCtx t ?_)
  rfl

theorem Receives.trueCounted : Receives i s (s.trueCounted i timestamp) (trueKeys i) :=
  ((Receives.of_keeps i (Keeps.trueMarked s i)).mono fun _ => List.mem_append_left _).trans
    ((trueCounted_marked stream unpaired timestamp).mono fun _ => List.mem_append_right _)

theorem State.n_trueCounted_frames :
    (s.trueCounted i timestamp).n (Entry.streamFramesTrue i) = (s.n (Entry.streamFramesTrue i) + 1) % 2 ^ 32 :=
  ((Receives.trueCounted_marked stream unpaired timestamp).entries.n (streamKey_not_mem_engineKeys stream (by decide))
    (ne_lost_of_record (by omega))).trans (s.n_trueMarked_frames i stream)

theorem State.streamState_trueCounted :
    (s.trueCounted i timestamp).streamState i = if s.streamState i = 1 then 2 else s.streamState i :=
  ((Receives.trueCounted_marked stream unpaired timestamp).entries.n (streamKey_not_mem_engineKeys stream (by decide))
    (ne_lost_of_record (by omega))).trans (s.streamState_trueMarked i)

theorem State.hasFlag_trueCounted (bit : Nat) :
    (s.trueCounted i timestamp).hasFlag i bit = if flagLossy = bit then false else s.hasFlag i bit :=
  ((Receives.trueCounted_marked stream unpaired timestamp).entries.hasFlag (streamKey_not_mem_engineKeys stream (by decide)) bit).trans
    (s.hasFlag_trueMarked i bit)

end

/-! A true frame with an arrival time: its pace ratios and its offer to the engines (R93, R109, R119). -/

/-- The entries of a stream's pace ratio. -/
def ratioKeys (i : Nat) : List Nat := [Entry.streamPaceRatio i, Entry.streamRatioState i, Entry.streamFlags i]

theorem Keeps.showRatios (s : State) (i : Nat) : Keeps s (s.showRatios i) (ratioKeys i) := by
  unfold State.showRatios
  split
  · exact Keeps.refl s _
  · exact ((Keeps.setN s _ _ (by simp [ratioKeys])).trans (Keeps.setN _ _ _ (by simp [ratioKeys]))).trans
      (Keeps.streamFlag _ i _ _ (by simp [ratioKeys]))

theorem Receives.updateRatios (s : State) (i timestamp : Nat) (arrival : List (Nat × Nat)) :
    Receives i s (s.updateRatios i timestamp arrival) (ratioKeys i) := by
  unfold State.updateRatios
  extract_lets c ratios
  exact (Receives.setCtx s (c := { c with ratios := ratios }) rfl).trans (.of_keeps i (Keeps.showRatios _ i))

theorem State.pairsOf_unpaired {s : State} (unpaired : s.activePairs = []) (i : Nat) (left : Bool) : s.pairsOf i left = [] := by
  simp only [State.pairsOf, unpaired, List.filter_nil]

theorem State.offerToPairs_unpaired {s : State} (unpaired : s.activePairs = []) (i : Nat) (f : Frame) (alone : List Nat) :
    s.offerToPairs i f alone = s := by
  simp only [State.offerToPairs, State.pairsOf_unpaired unpaired, State.each, List.foldl_nil]

theorem State.startPinned_unpinned {s : State} (unpinned : ∀ g, s.pinned g = []) : s.startPinned = s := by
  simp [State.startPinned, unpinned, State.each]

theorem Receives.setFlow (s : State) (i ordinal : Nat) (f : FlowState) (keys : List Nat) : Receives i s (s.setFlow i ordinal f) keys := by
  refine .setCtx s ?_
  rfl

theorem Receives.offerToFlow (s : State) (i ordinal : Nat) (keys : List Nat) : Receives i s (s.offerToFlow i ordinal) keys := by
  unfold State.offerToFlow
  extract_lets t
  have held := Receives.allocFlow i s i keys
  split
  · exact .setFlow s i ordinal _ keys
  · split
    · exact held.trans (.of_eq i rfl rfl rfl rfl rfl rfl rfl)
    · exact held.trans (.setFlow t i ordinal _ keys)

theorem Receives.pruneFrames (s : State) (i : Nat) (keys : List Nat) : Receives i s (s.pruneFrames i) keys := by
  refine .setCtx s ?_
  rfl

section
variable {s : State} {i : Nat} (stream : i < 512)
include stream

theorem ratioKeys_progress : ∀ k ∈ ratioKeys i, progressEntry k := by
  intro k listed
  simp only [ratioKeys, List.mem_cons, List.not_mem_nil, or_false] at listed
  rcases listed with rfl | rfl | rfl <;> exact (progressEntry_key (by decide)).2 (.inl ⟨by omega, fun _ _ => by omega⟩)

variable (unpaired : s.activePairs = []) (unadapting : s.unadapting)
include unpaired unadapting

/-- What any true frame leaves, with and without an arrival time. -/
theorem Receives.trueFrame (timestamp : Nat) (arrival : List (Nat × Nat)) (q : Picture) (motion : List MotionRecord) (alone : List Nat) :
    Receives i s (s.trueFrame i timestamp arrival q motion alone) (trueKeys i ++ ratioKeys i) := by
  have counted : Receives i s (s.trueCounted i timestamp) (trueKeys i ++ ratioKeys i) :=
    (Receives.trueCounted stream unpaired timestamp).mono fun _ => List.mem_append_left _
  have progress : ∀ k ∈ trueKeys i ++ ratioKeys i, progressEntry k := by
    intro k listed
    exact (List.mem_append.1 listed).elim (trueKeys_progress stream k) (ratioKeys_progress stream k)
  unfold State.trueFrame
  extract_lets _ _ _ _ e f _ g h
  replace counted : Receives i s e (trueKeys i ++ ratioKeys i) := counted
  clear_value e f
  split
  · exact counted
  · have framed : Receives i e g (trueKeys i ++ ratioKeys i) := by
      refine .setCtx e ?_
      rfl
    have rated : Receives i s h (trueKeys i ++ ratioKeys i) :=
      (counted.trans framed).trans ((Receives.updateRatios g i timestamp arrival).mono fun _ => List.mem_append_right _)
    clear_value h
    have unpairedStill : h.activePairs = [] := (rated.activePairs progress).trans unpaired
    have unpinned (n : Nat) : h.pinned n = [] := by simp only [State.pinned, unpairedStill, List.filter_nil]
    rw [State.offerToPairs_unpaired unpairedStill, State.startPinned_unpinned unpinned]
    have offered := (rated.trans (Receives.offerToFlow h i f.ordinal _)).trans (Receives.pruneFrames _ i _)
    rw [State.adaptSweepAll_unadapting (offered.unadapting unadapting)]
    exact offered

end

/-! Lost frames. -/

theorem streamKey_not_mem_historyResets {i a : Nat} (stream : i < 512) (small : a < 256) : key (0x2000 + i) a ∉ historyResets :=
  fun listed => by
    have ports : ∀ k ∈ historyResets, 0x2480 ≤ k / 256 := by decide
    have := ports _ listed
    rw [key_div _ small] at this
    omega

section
variable (s : State) (i : Nat) (lossyFrame taint : Bool)

/-- The counted loss, and the flags that it sets. -/
theorem State.n_loseFrame_frames (stream : i < 512) :
    (s.loseFrame i lossyFrame taint).n (Entry.streamFramesLossy i) = (s.n (Entry.streamFramesLossy i) + 1) % 2 ^ 32 := by
  have counted := s.n_bump_stream stream (a := 0x1D) (by decide)
  have flagged (t : State) (bit : Nat) : (t.streamFlag i bit true).n (Entry.streamFramesLossy i) = t.n (Entry.streamFramesLossy i) :=
    State.n_set_stream t i _ (key_ne_of_sub (by decide))
  have : ∀ t : State, ∀ c, (t.setCtx i c).n (Entry.streamFramesLossy i) = t.n (Entry.streamFramesLossy i) := fun _ _ => rfl
  cases lossyFrame <;> cases taint <;> simp only [State.loseFrame, this, flagged, counted, if_true, Bool.false_eq_true, if_false]

theorem State.hasFlag_loseFrame (bit : Nat) :
    (s.loseFrame i lossyFrame taint).hasFlag i bit =
      (s.hasFlag i bit || (lossyFrame && flagLossy == bit) || (taint && flagTainted == bit)) := by
  have counted : (s.bump (Entry.streamFramesLossy i)).hasFlag i bit = s.hasFlag i bit :=
    State.hasFlag_set s i _ bit (key_ne_of_sub (by decide))
  have recorded (t : State) (c : Ctx) : (t.setCtx i c).hasFlag i bit = t.hasFlag i bit := rfl
  have flagged (t : State) (b : Nat) : (t.streamFlag i b true).hasFlag i bit = (t.hasFlag i bit || b == bit) := by
    rw [State.hasFlag_streamFlag]
    by_cases same : b = bit <;> simp [same]
  cases lossyFrame <;> cases taint <;> simp [State.loseFrame, recorded, flagged, counted]

end

section
variable {s : State} {i : Nat} (unadapting : s.unadapting) (lossyFrame taint : Bool)
include unadapting

/-- What a lost frame leaves. -/
theorem Receives.lostFrame : Receives i s ((s.loseFrame i lossyFrame taint).genLossy i) (lostKeys i ++ historyResets) :=
  have lost := Receives.loseFrame s i lossyFrame taint
  (lost.mono fun _ => List.mem_append_left _).trans
    ((Receives.genLossy (lost.unadapting unadapting) i).mono fun _ => List.mem_append_right _)

variable (stream : i < 512)
include stream

theorem State.n_lostFrame_frames :
    ((s.loseFrame i lossyFrame taint).genLossy i).n (Entry.streamFramesLossy i) = (s.n (Entry.streamFramesLossy i) + 1) % 2 ^ 32 :=
  ((Receives.genLossy ((Receives.loseFrame s i lossyFrame taint).unadapting unadapting) i).entries.n
    (streamKey_not_mem_historyResets stream (by decide)) (ne_lost_of_record (by omega))).trans
    (s.n_loseFrame_frames i lossyFrame taint stream)

theorem State.hasFlag_lostFrame (bit : Nat) :
    ((s.loseFrame i lossyFrame taint).genLossy i).hasFlag i bit =
      (s.hasFlag i bit || (lossyFrame && flagLossy == bit) || (taint && flagTainted == bit)) :=
  ((Receives.genLossy ((Receives.loseFrame s i lossyFrame taint).unadapting unadapting) i).entries.hasFlag
    (streamKey_not_mem_historyResets stream (by decide)) bit).trans (s.hasFlag_loseFrame i lossyFrame taint bit)

end

/-! Release of the oldest access unit (R75). -/

theorem Receives.releaseOldest (s : State) (i : Nat) (keys : List Nat) : Receives i s (s.releaseOldest i) keys := by
  unfold State.releaseOldest
  extract_lets c
  split
  · exact .refl i s keys
  · extract_lets c' u' t
    split
    · exact .setCtx s (by rfl)
    split
    · exact .setCtx s (by rfl)
    · have taken : Receives i s t keys := .setCtx s (by rfl)
      exact taken.trans (.of_eq i rfl rfl rfl rfl rfl rfl rfl)

theorem Receives.releaseDue (s : State) (i fuel : Nat) (keys : List Nat) : Receives i s (s.releaseDue i fuel) keys := by
  induction fuel generalizing s with
  | zero => exact .refl i s keys
  | succ n ih =>
    simp only [State.releaseDue]
    split
    · exact (releaseOldest s i keys).trans (ih _)
    · exact .refl i s keys

/-! What a step shows after its epochs moved (R361): the sealed state has the entries, the memory and the records of the state itself. -/

section
variable (s t : State)

theorem State.seal_streamState (i : Nat) : (s.seal t).streamState i = t.streamState i := rfl

theorem State.seal_hasFlag (i bit : Nat) : (s.seal t).hasFlag i bit = t.hasFlag i bit := rfl

theorem State.seal_ctx (i : Nat) : (s.seal t).ctx i = t.ctx i := rfl

theorem State.seal_csiPort (c : Nat) : (s.seal t).csiPort c = t.csiPort c := rfl

variable {s t}

theorem EntriesKept.seal {u : State} {keys : List Nat} (h : EntriesKept s t keys) : EntriesKept s (u.seal t) keys := h

theorem MemoryKept.seal {u : State} (h : MemoryKept s t) : MemoryKept s (u.seal t) := h

end

end Sys2Proof.Machine
end

section
namespace Sys2Proof.Machine

open Sys2Proof

/-! Release of access units (R74, R75). -/

section
variable {s : State} {i : Nat} {u : AccessUnit} {rest : List AccessUnit} (units : (s.ctx i).units = u :: rest)
include units

theorem State.oldestIs_cons (complete : Bool) : s.oldestIs i complete = (u.complete == complete) := by
  simp [State.oldestIs, units]

/-- The oldest access unit of a context that is not suspended and has had its IRAP picture goes to the slice queue. -/
theorem State.releaseOldest_cons (running : s.hasFlag i flagSuspended = false) (saw : (s.ctx i).sawIrap = true) :
    s.releaseOldest i =
      { s.setCtx i { s.ctx i with
          units := rest, marker := u.markerSeq, releasedTs := some u.timestamp, unitCount := (s.ctx i).unitCount + 1 } with
        released := s.released ++ [{ stream := i, order := (s.ctx i).unitCount, unit := { u with lossy := !u.complete } }] } := by
  simp only [State.releaseOldest, units, running, saw]
  rfl

end

theorem State.releaseDue_undue {s : State} {i : Nat} (undue : s.releaseIsDue i = false) (fuel : Nat) : s.releaseDue i fuel = s := by
  cases fuel with
  | zero => rfl
  | succ n => simp only [State.releaseDue, undue, Bool.false_eq_true, if_false]

section
variable {s : State} {i : Nat} {u : AccessUnit} {rest : List AccessUnit} (stream : i < 512)
  (units : (s.ctx i).units = u :: rest) (running : s.hasFlag i flagSuspended = false) (saw : (s.ctx i).sawIrap = true)
  (next : ∀ v, rest.head? = some v → v.complete = true ∨ (v.lossy = false ∧ rest.length ≤ s.cfgN i (Entry.streamJitterDepth i)))
include stream units running saw next

/-- No later unit goes with the oldest one where the next is complete or still has time. -/
theorem State.releases_cons : s.releases i = s.releaseOldest i := by
  unfold State.releases
  have left : ((s.releaseOldest i).ctx i).units = rest := by
    rw [State.releaseOldest_cons units running saw]
    exact congrArg Ctx.units (State.ctx_setCtx ..)
  have depth : (s.releaseOldest i).cfgN i (Entry.streamJitterDepth i) = s.cfgN i (Entry.streamJitterDepth i) :=
    (Receives.releaseOldest s i []).cfgN (by simp) i (mt (progressEntry_key (by decide)).1 (by omega))
  refine State.releaseDue_undue ?_ _
  simp only [State.releaseIsDue, left, depth]
  cases rest with
  | nil => rfl
  | cons v later =>
    rcases next v rfl with complete | ⟨clean, short⟩
    · simp [complete]
    · have : ¬ s.cfgN i (Entry.streamJitterDepth i) ≤ later.length := by
        rw [List.length_cons] at short
        omega
      simp [clean, this]

end

/-! Decoding (R82, R83, R86). -/

/-- A free slice takes the oldest released access unit. -/
theorem State.decodeStarts_cons {s : State} {d : Nat} {j : SliceJob} {l : List SliceJob} (released : s.released = j :: l)
    (free : s.fenced ⟨.slice, d⟩ = false) (idle : s.n (Entry.sliceState d) = 0) (running : s.hasFlag j.stream flagSuspended = false)
    (room : s.buffersHeld j.stream < s.cfgN j.stream (Entry.streamDecodedFrames j.stream)) :
    s.decodeStarts d =
      (({ s with released := l, slices := Assoc.put s.slices d j }).setN (Entry.sliceState d) 1).pruneFrames j.stream := by
  simp [State.decodeStarts, free, idle, released, State.decodeNext, running, Nat.not_le.2 room]

/-- A picture that an earlier one of its stream on another slice precedes waits. -/
theorem State.decodeEnds_waits {s : State} {d : Nat} {r : DecodeResult} {j : SliceJob} (found : Assoc.find s.slices d = some j)
    (earlier : ∃ e ∈ s.slices, e.1 ≠ d ∧ e.2.stream = j.stream ∧ e.2.order < j.order) : s.decodeEnds d r = s := by
  obtain ⟨e, listed, other, same, before⟩ := earlier
  have : (s.slices.any fun e => e.1 ≠ d && e.2.stream = j.stream && e.2.order < j.order) = true :=
    List.any_eq_true.2 ⟨e, listed, by simp [other, same, before]⟩
  simp only [State.decodeEnds, found, this, if_true]

/-- The slice's own counts at the end of a picture. -/
def State.pictureDecoded (s : State) (d : Nat) (r : DecodeResult) : State :=
  let t := ({ s with slices := Assoc.drop s.slices d }).setN (Entry.sliceState d) 0
  let t := (t.bump (Entry.slicePicturesDecoded d)).meter (Entry.sliceLumaRate d) (r.picture.width * r.picture.height)
  if r.syntaxError then t.bump (Entry.sliceBitstreamErrors d) else t

/-- A picture that is not a true frame, FORMAT_UNSUPPORTED where its format is the reason. -/
def State.pictureLost (s : State) (i : Nat) (bad : Bool) : State :=
  ((if bad then s.streamFlag i flagFormat true else s).loseFrame i true true).genLossy i

/-- The entries of a slice that the end of a picture changes. -/
def sliceKeys (d : Nat) (syntaxError : Bool) : List Nat :=
  [Entry.sliceState d, Entry.slicePicturesDecoded d] ++ if syntaxError then [Entry.sliceBitstreamErrors d] else []

theorem sliceKeys_progress {d : Nat} (slice : d < 8) (syntaxError : Bool) : ∀ k ∈ sliceKeys d syntaxError, progressEntry k := by
  have within {a : Nat} (small : a < 256) : progressEntry (key (0x2240 + d) a) := (progressEntry_key small).2 (.inl (by omega))
  intro k listed
  cases syntaxError <;> simp only [sliceKeys, List.cons_append, List.nil_append, List.mem_cons, List.not_mem_nil, or_false, if_true,
    Bool.false_eq_true, if_false] at listed
  · rcases listed with rfl | rfl <;> exact within (by decide)
  · rcases listed with rfl | rfl | rfl <;> exact within (by decide)

theorem slicePicturesDecoded_width (d : Fin 8) (p : Part) : widthOf p (Entry.slicePicturesDecoded d) = 32 := by
  revert d
  cases p <;> decide +kernel

section
variable (s : State) (d : Nat) (r : DecodeResult)

theorem Receives.pictureDecoded (i : Nat) : Receives i s (s.pictureDecoded d r) (sliceKeys d r.syntaxError) := by
  unfold State.pictureDecoded
  extract_lets t u
  have emptied : Receives i s { s with slices := Assoc.drop s.slices d } (sliceKeys d r.syntaxError) :=
    .of_eq i rfl rfl rfl rfl rfl rfl rfl
  have idle := emptied.trans (.of_keeps i (Keeps.setN _ (Entry.sliceState d) 0 (by simp [sliceKeys])))
  have metered : Receives i s u (sliceKeys d r.syntaxError) :=
    (idle.trans (.of_keeps i (Keeps.bump t (Entry.slicePicturesDecoded d) (by simp [sliceKeys])))).trans
      (.of_eq i rfl rfl rfl rfl rfl rfl rfl)
  split
  next error => exact metered.trans (.of_keeps i (Keeps.bump u (Entry.sliceBitstreamErrors d) (by simp [sliceKeys, error])))
  next => exact metered

theorem State.n_pictureDecoded_state : (s.pictureDecoded d r).n (Entry.sliceState d) = 0 := by
  have idle : ((({ s with slices := Assoc.drop s.slices d }).setN (Entry.sliceState d) 0).bump
      (Entry.slicePicturesDecoded d)).n (Entry.sliceState d) = 0 :=
    (State.n_congr (State.raw_set_ne _ _ (key_ne_of_sub (by decide)) (ne_lost_of_record (by omega)))).trans
      (State.n_setN _ _ _ (ne_lost_of_record (by omega)))
  unfold State.pictureDecoded
  extract_lets t u
  split
  · exact (State.n_congr (State.raw_set_ne u _ (key_ne_of_sub (by decide)) (ne_lost_of_record (by omega)))).trans idle
  · exact idle

end

theorem State.n_pictureDecoded_pictures (s : State) (d : Fin 8) (r : DecodeResult) :
    (s.pictureDecoded d r).n (Entry.slicePicturesDecoded d) = (s.n (Entry.slicePicturesDecoded d) + 1) % 2 ^ 32 := by
  have lost (a : Nat) : key (0x2240 + d) a ≠ Entry.canEventsLost := ne_lost_of_record (by omega)
  have counted : ((({ s with slices := Assoc.drop s.slices d }).setN (Entry.sliceState d) 0).bump
      (Entry.slicePicturesDecoded d)).n (Entry.slicePicturesDecoded d) = (s.n (Entry.slicePicturesDecoded d) + 1) % 2 ^ 32 := by
    rw [State.n_bump _ _ 32 (lost _) (slicePicturesDecoded_width d)]
    exact congrArg (fun n => (n + 1) % 2 ^ 32) (State.n_congr (State.raw_set_ne { s with slices := Assoc.drop s.slices d } (.int 0)
      (key_ne_of_sub (by decide)) (lost _)))
  unfold State.pictureDecoded
  extract_lets t u
  split
  · exact (State.n_congr (State.raw_set_ne u _ (key_ne_of_sub (by decide)) (lost _))).trans counted
  · exact counted

/-- The entries that the end of a picture of stream `i` changes besides its slice's own. -/
def pictureKeys (i : Nat) : List Nat :=
  [Entry.streamFlags i] ++ (lostKeys i ++ historyResets) ++ (trueKeys i ++ ratioKeys i)

/-- No entry of the Ethernet ports, the CSI-2 ports and the slices is among them. -/
theorem key_not_mem_pictureKeys {i x a : Nat} (stream : i < 512) (low : 0x2200 ≤ x) (high : x < 0x2480) (small : a < 256) :
    key x a ∉ pictureKeys i := fun listed => by
  have engines : ∀ k ∈ engineKeys ++ historyResets, 0x2480 ≤ k / 256 := by decide
  have own {b : Nat} (few : b < 256) : key x a ≠ key (0x2000 + i) b := key_ne_of_record (by omega) small few
  have outside : key x a ∉ engineKeys ++ historyResets := fun among => by
    have := engines _ among
    rw [key_div _ small] at this
    omega
  simp only [List.mem_append, not_or] at outside
  simp only [pictureKeys, lostKeys, trueKeys, ratioKeys, List.mem_append, List.mem_cons, List.not_mem_nil, or_false] at listed
  simp [own, outside] at listed

section
variable (s : State) (d : Fin 8) (r : DecodeResult) {i : Nat} (stream : i < 512)
include stream

theorem State.hasFlag_pictureDecoded (bit : Nat) : (s.pictureDecoded d r).hasFlag i bit = s.hasFlag i bit :=
  (Receives.pictureDecoded s d r i).entries.hasFlag (fun listed => by
    have other {a : Nat} (small : a < 256) : Entry.streamFlags i ≠ key (0x2240 + d.val) a :=
      key_ne_of_record (by omega) (by decide) small
    cases error : r.syntaxError <;> simp [sliceKeys, error, other] at listed) bit

theorem State.tooBig_pictureDecoded (q : Picture) : (s.pictureDecoded d r).tooBig i q = s.tooBig i q :=
  (Receives.pictureDecoded s d r i).tooBig (sliceKeys_progress d.isLt r.syntaxError) stream q

end

/-- Whether a picture without loss of its own is no true frame: its format, or the references that it follows (R83, R86). -/
def State.pictureBad (s : State) (i : Nat) (r : DecodeResult) : Bool := !r.supported || s.tooBig i r.picture

/-- A picture of a stream that its slice has counted, true or lossy (R83, R86). -/
def State.pictureEnds (s : State) (j : SliceJob) (r : DecodeResult) : State :=
  let bad := s.pictureBad j.stream r
  let t := if bad then s.streamFlag j.stream flagFormat true else s
  if bad || j.unit.lossy || r.syntaxError || (t.hasFlag j.stream flagTainted && !r.irap) then
    (t.loseFrame j.stream true true).genLossy j.stream
  else
    (t.streamFlag j.stream flagTainted false).trueFrame j.stream j.unit.timestamp j.unit.arrival (storedPicture r) (motionRecords r) []

/-- The end of the first picture of a stream, counted by its slice: lost or a true frame. -/
theorem State.decodeEnds_first {s : State} {d : Fin 8} {r : DecodeResult} {j : SliceJob} {i : Nat}
    (found : Assoc.find s.slices d = some j) (own : j.stream = i)
    (first : ∀ e ∈ s.slices, e.1 ≠ d.val → e.2.stream = i → j.order ≤ e.2.order)
    (running : s.hasFlag i flagSuspended = false) (kept : j.discard = false) (stream : i < 512) :
    s.decodeEnds d r =
      if s.pictureBad i r || j.unit.lossy || r.syntaxError || (s.hasFlag i flagTainted && !r.irap) then
        (s.pictureDecoded d r).pictureLost i (s.pictureBad i r)
      else
        ((s.pictureDecoded d r).streamFlag i flagTainted false).trueFrame i j.unit.timestamp j.unit.arrival (storedPicture r)
          (motionRecords r) [] := by
  have last : (s.slices.any fun e => e.1 ≠ d.val && e.2.stream = j.stream && e.2.order < j.order) = false := by
    rw [List.any_eq_false]
    intro e listed before
    simp only [Bool.and_eq_true, decide_eq_true_eq] at before
    have := first e listed before.1.1 (before.1.2.trans own)
    omega
  subst own
  have suspended := (s.hasFlag_pictureDecoded d r stream flagSuspended).trans running
  have tainted := s.hasFlag_pictureDecoded d r stream flagTainted
  have big := s.tooBig_pictureDecoded d r stream r.picture
  generalize decoded : s.pictureDecoded d r = t at suspended tainted big
  have step : s.decodeEnds d r = if t.hasFlag j.stream flagSuspended || j.discard then t else t.pictureEnds j r := by
    rw [← decoded]
    simp only [State.decodeEnds, found, last, Bool.false_eq_true, if_false]
    rfl
  rw [step, suspended, kept, State.pictureEnds, State.pictureBad, big, Bool.or_false, if_neg Bool.false_ne_true, State.pictureBad]
  cases !r.supported || s.tooBig j.stream r.picture
  · simp only [Bool.false_eq_true, if_false, tainted, Bool.false_or, State.pictureLost]
  · simp only [if_true, Bool.true_or, State.pictureLost]

/-! A picture that is lost. -/

/-- FORMAT_UNSUPPORTED of a stream set where `bad`. -/
def State.formatMarked (s : State) (i : Nat) (bad : Bool) : State := if bad then s.streamFlag i flagFormat true else s

theorem Keeps.formatMarked (s : State) (i : Nat) (bad : Bool) : Keeps s (s.formatMarked i bad) [Entry.streamFlags i] := by
  cases bad
  · exact Keeps.refl s _
  · exact Keeps.streamFlag s i _ _ (List.mem_singleton_self _)

theorem State.hasFlag_formatMarked (s : State) (i : Nat) (bad : Bool) (bit : Nat) :
    (s.formatMarked i bad).hasFlag i bit = (s.hasFlag i bit || (bad && flagFormat == bit)) := by
  cases bad
  · simp [State.formatMarked]
  · by_cases format : flagFormat = bit <;> simp [State.formatMarked, State.hasFlag_streamFlag, format]

section
variable {s : State} {i : Nat} (unadapting : s.unadapting) (bad : Bool)
include unadapting

theorem State.unadapting_formatMarked : (s.formatMarked i bad).unadapting :=
  State.unadapting_congr (Keeps.formatMarked s i bad).adapt unadapting

theorem Receives.pictureLost : Receives i s (s.pictureLost i bad) (lostKeys i ++ historyResets) :=
  ((Receives.of_keeps i (Keeps.formatMarked s i bad)).mono (by simp [lostKeys])).trans
    (lostFrame (State.unadapting_formatMarked unadapting bad) true true)

variable (stream : i < 512)
include stream

theorem State.n_pictureLost_frames :
    (s.pictureLost i bad).n (Entry.streamFramesLossy i) = (s.n (Entry.streamFramesLossy i) + 1) % 2 ^ 32 := by
  have counted := State.n_lostFrame_frames (State.unadapting_formatMarked (i := i) unadapting bad) true true stream
  rwa [(Keeps.formatMarked s i bad).n (by simp) (ne_lost_of_record (by omega))] at counted

theorem State.hasFlag_pictureLost (bit : Nat) :
    (s.pictureLost i bad).hasFlag i bit =
      (s.hasFlag i bit || (bad && flagFormat == bit) || (true && flagLossy == bit) || (true && flagTainted == bit)) :=
  (State.hasFlag_lostFrame (State.unadapting_formatMarked unadapting bad) true true stream bit).trans
    (by rw [State.hasFlag_formatMarked])

end

/-! The end of a picture. -/

theorem State.activePairs_pictureDecoded {s : State} (d : Fin 8) (r : DecodeResult) (unpaired : s.activePairs = []) :
    (s.pictureDecoded d r).activePairs = [] :=
  ((Receives.pictureDecoded s d r 0).activePairs (sliceKeys_progress d.isLt r.syntaxError)).trans unpaired

section
variable {s : State} {i : Nat} (stream : i < 512)
include stream

theorem State.activePairs_cleared (unpaired : s.activePairs = []) : (s.streamFlag i flagTainted false).activePairs = [] :=
  ((Receives.of_keeps i (Keeps.streamFlag s i _ _ (by simp [trueKeys]))).activePairs (trueKeys_progress stream)).trans unpaired

variable (unpaired : s.activePairs = []) (unadapting : s.unadapting)
include unpaired unadapting

/-- A true frame of a picture, with and without an arrival time. -/
theorem Receives.pictureTrue (timestamp : Nat) (arrival : List (Nat × Nat)) (q : Picture) (motion : List MotionRecord) :
    Receives i s ((s.streamFlag i flagTainted false).trueFrame i timestamp arrival q motion []) (trueKeys i ++ ratioKeys i) := by
  have cleared : Receives i s (s.streamFlag i flagTainted false) (trueKeys i ++ ratioKeys i) :=
    .of_keeps i (Keeps.streamFlag s i _ _ (by simp [trueKeys]))
  exact cleared.trans
    (.trueFrame stream (State.activePairs_cleared stream unpaired) (cleared.unadapting unadapting) timestamp arrival q motion [])

end

section
variable {s : State} {d : Fin 8} {r : DecodeResult} {j : SliceJob} {i : Nat}
  (found : Assoc.find s.slices d = some j) (own : j.stream = i)
  (first : ∀ e ∈ s.slices, e.1 ≠ d.val → e.2.stream = i → j.order ≤ e.2.order)
  (running : s.hasFlag i flagSuspended = false) (kept : j.discard = false) (stream : i < 512)
  (unpaired : s.activePairs = []) (unadapting : s.unadapting)
include found own first running kept stream unpaired unadapting

/-- What follows the slice's own counts leaves the slice's entries. -/
theorem Receives.decodeEnds_pictureDecoded : Receives i (s.pictureDecoded d r) (s.decodeEnds d r) (pictureKeys i) := by
  have decoded := (Receives.pictureDecoded s d r i).unadapting unadapting
  rw [State.decodeEnds_first found own first running kept stream]
  split
  · exact (Receives.pictureLost decoded _).mono fun _ listed => List.mem_append_left _ (List.mem_append_right _ listed)
  · exact (Receives.pictureTrue stream (State.activePairs_pictureDecoded d r unpaired) decoded _ _ _ _).mono
      fun _ => List.mem_append_right _

theorem State.n_decodeEnds_slice {a : Nat} (small : a < 256) :
    (s.decodeEnds d r).n (key (0x2240 + d) a) = (s.pictureDecoded d r).n (key (0x2240 + d) a) :=
  (Receives.decodeEnds_pictureDecoded found own first running kept stream unpaired unadapting).entries.n
    (key_not_mem_pictureKeys stream (by omega) (by omega) small) (ne_lost_of_record (by omega))

end

theorem streamKey_not_mem_sliceKeys {i a : Nat} (stream : i < 512) (small : a < 256) (d : Fin 8) (syntaxError : Bool) :
    key (0x2000 + i) a ∉ sliceKeys d syntaxError := fun listed => by
  have other {b : Nat} (few : b < 256) : key (0x2000 + i) a ≠ key (0x2240 + d.val) b := key_ne_of_record (by omega) small few
  cases syntaxError <;> simp [sliceKeys, other] at listed

theorem State.n_pictureDecoded_stream (s : State) (d : Fin 8) (r : DecodeResult) {i a : Nat} (stream : i < 512) (small : a < 256) :
    (s.pictureDecoded d r).n (key (0x2000 + i) a) = s.n (key (0x2000 + i) a) :=
  (Receives.pictureDecoded s d r i).entries.n (streamKey_not_mem_sliceKeys stream small d _) (ne_lost_of_record (by omega))

/-- The entries of a lost picture that a slice ends. -/
theorem State.entries_decodedLost {s : State} {i : Nat} (d : Fin 8) (r : DecodeResult) (unadapting : s.unadapting) (bad : Bool) :
    EntriesKept s ((s.pictureDecoded d r).pictureLost i bad)
      ([Entry.sliceState d, Entry.slicePicturesDecoded d, Entry.sliceBitstreamErrors d, Entry.streamFramesLossy i, Entry.streamFlags i] ++
        (List.range 16).map Entry.portUpHistoryResets) := by
  have decoded := Receives.pictureDecoded s d r i
  have lost := Receives.pictureLost (i := i) (decoded.unadapting unadapting) bad
  refine ((decoded.mono ?_).trans (lost.mono ?_)).entries
  · cases r.syntaxError <;> simp [sliceKeys]
  · exact fun k listed => (List.mem_append.1 listed).elim (fun own => List.mem_append_left _ (by simp_all [lostKeys]))
      (List.mem_append_right _)

/-- The entries of a true frame without an arrival time that a slice ends. -/
theorem State.entries_decodedTrue {s : State} {i : Nat} (d : Fin 8) {r : DecodeResult} (clean : r.syntaxError = false)
    (stream : i < 512) (unpaired : s.activePairs = []) (timestamp : Nat) :
    EntriesKept s (((s.pictureDecoded d r).streamFlag i flagTainted false).trueCounted i timestamp)
      ([Entry.sliceState d, Entry.slicePicturesDecoded d, Entry.streamFramesTrue i, Entry.streamFlags i, Entry.streamState i,
        Entry.visionFlowDemand, Entry.visionFlowCapacity, Entry.visionFlowServedLoad, Entry.visionFlowServedMap] ++
        (List.range 4).map Entry.stereoState) := by
  have decoded := Receives.pictureDecoded s d r i
  have cleared := Receives.of_keeps i (Keeps.streamFlag (s.pictureDecoded d r) i flagTainted false (List.mem_singleton_self _))
  have counted := Receives.trueCounted stream (s := (s.pictureDecoded d r).streamFlag i flagTainted false)
    (State.activePairs_cleared stream (State.activePairs_pictureDecoded d r unpaired)) timestamp
  rw [clean] at decoded
  refine (((decoded.mono ?_).trans (cleared.mono ?_)).trans (counted.mono ?_)).entries
  · simp [sliceKeys]
  · simp
  · exact fun k listed => by simpa [trueKeys, engineKeys, flowKeys, stereoStates, or_assoc] using Or.inr (Or.inr listed)

section
variable {s : State} {d : Fin 8} {r : DecodeResult} {j : SliceJob} {i : Nat}
  (found : Assoc.find s.slices d = some j) (own : j.stream = i)
  (first : ∀ e ∈ s.slices, e.1 ≠ d.val → e.2.stream = i → j.order ≤ e.2.order)
  (running : s.hasFlag i flagSuspended = false) (kept : j.discard = false) (stream : i < 512)

section
include found own first running kept stream

theorem State.decodeEnds_lost (lossy : j.unit.lossy = true ∨ r.syntaxError = true ∨ r.supported = false) :
    s.decodeEnds d r = (s.pictureDecoded d r).pictureLost i (s.pictureBad i r) := by
  rw [State.decodeEnds_first found own first running kept stream, if_pos]
  rcases lossy with lossy | error | format
  · simp [lossy]
  · simp [error]
  · simp [State.pictureBad, format]

theorem State.decodeEnds_true (supported : r.supported = true) (fits : s.tooBig i r.picture = false) (whole : j.unit.lossy = false)
    (clean : r.syntaxError = false) (referenced : s.hasFlag i flagTainted = false ∨ r.irap = true) (unstamped : j.unit.arrival = []) :
    s.decodeEnds d r = ((s.pictureDecoded d r).streamFlag i flagTainted false).trueCounted i j.unit.timestamp := by
  rw [State.decodeEnds_first found own first running kept stream, if_neg, unstamped, State.trueFrame_unstamped]
  rcases referenced with untainted | irap
  · simp [State.pictureBad, supported, fits, whole, clean, untainted]
  · simp [State.pictureBad, supported, fits, whole, clean, irap]

end

end

/-- The clause of O21 on the end of a true frame. -/
theorem State.decodedTrue_shows {s : State} {i : Nat} (d : Fin 8) (r : DecodeResult) (stream : i < 512) (unpaired : s.activePairs = [])
    (timestamp : Nat) :
    let t := ((s.pictureDecoded d r).streamFlag i flagTainted false).trueCounted i timestamp
    t.n (Entry.streamFramesTrue i) = (s.n (Entry.streamFramesTrue i) + 1) % 2 ^ 32 ∧
      t.streamState i = (if s.streamState i = 1 then 2 else s.streamState i) ∧ t.hasFlag i flagTainted = false ∧
      t.hasFlag i flagLossy = false := by
  have unpairedStill := State.activePairs_cleared stream (State.activePairs_pictureDecoded d r unpaired)
  have cleared {a : Nat} (small : a < 256) (other : a ≠ 0x18) :
      ((s.pictureDecoded d r).streamFlag i flagTainted false).n (key (0x2000 + i) a) = s.n (key (0x2000 + i) a) :=
    (State.n_set_stream (s.pictureDecoded d r) i _ (key_ne_of_sub (by omega))).trans (s.n_pictureDecoded_stream d r stream small)
  refine ⟨?_, ?_, ?_, ?_⟩
  · rw [State.n_trueCounted_frames stream unpairedStill, cleared (by decide) (by decide)]
  · rw [State.streamState_trueCounted stream unpairedStill, State.streamState, cleared (by decide) (by decide)]
    rfl
  · rw [State.hasFlag_trueCounted stream unpairedStill, State.hasFlag_streamFlag]
    simp
  · rw [State.hasFlag_trueCounted stream unpairedStill, if_pos rfl]

/-- The clause of O21 on the end of a lost picture. -/
theorem State.decodedLost_shows {s : State} {i : Nat} (d : Fin 8) (r : DecodeResult) (stream : i < 512) (unadapting : s.unadapting)
    (bad : Bool) :
    let t := (s.pictureDecoded d r).pictureLost i bad
    t.n (Entry.streamFramesLossy i) = (s.n (Entry.streamFramesLossy i) + 1) % 2 ^ 32 ∧ t.hasFlag i flagTainted = true ∧
      t.hasFlag i flagLossy = true ∧ t.n (Entry.streamFramesTrue i) = s.n (Entry.streamFramesTrue i) ∧
      (bad = true → t.hasFlag i flagFormat = true) := by
  have decoded := (Receives.pictureDecoded s d r i).unadapting unadapting
  refine ⟨?_, ?_, ?_, ?_, fun format => ?_⟩
  · rw [State.n_pictureLost_frames decoded bad stream, s.n_pictureDecoded_stream d r stream (by decide)]
  · simp [State.hasFlag_pictureLost decoded bad stream]
  · simp [State.hasFlag_pictureLost decoded bad stream]
  · have kept : Entry.streamFramesTrue i ∉ lostKeys i ++ historyResets := by
      have own : Entry.streamFramesTrue i ∉ lostKeys i := by simp [lostKeys]
      exact fun listed => (List.mem_append.1 listed).elim own (streamKey_not_mem_historyResets stream (by decide))
    rw [(Receives.pictureLost decoded bad).entries.n kept (ne_lost_of_record (by omega)), s.n_pictureDecoded_stream d r stream (by decide)]
  · rw [State.hasFlag_pictureLost decoded bad stream, format]
    simp

/-- A release of the oldest access unit where it is complete, or where it is not. -/
theorem State.answer_oldestIs {s : State} {i : Nat} {u : AccessUnit} {rest : List AccessUnit} (units : (s.ctx i).units = u :: rest)
    {left : State} (released : s.releases i = left) (complete : Bool) :
    ∃ t, s.answer (if s.oldestIs i complete then s.releases i else s) = .next t ∧
      (u.complete = complete → Keeps left t []) ∧ (u.complete = (!complete) → Keeps s t []) := by
  rw [State.oldestIs_cons units, released]
  refine ⟨_, rfl, fun same => ?_, fun other => ?_⟩
  · rw [same, beq_self_eq_true, if_pos rfl]
    exact Keeps.seal s left []
  · rw [other, if_neg (by simp)]
    exact Keeps.seal s s []

theorem Keeps.released {s t : State} {keys : List Nat} (h : Keeps s t keys) : t.released = s.released :=
  (congrArg (fun u : State => u.released) h.rest : (State.rest t).released = (State.rest s).released)

theorem Keeps.slices {s t : State} {keys : List Nat} (h : Keeps s t keys) : t.slices = s.slices :=
  (congrArg (fun u : State => u.slices) h.rest : (State.rest t).slices = (State.rest s).slices)

theorem State.units_pruneFrames (s : State) (i : Nat) : ((s.pruneFrames i).ctx i).units = (s.ctx i).units := by
  rw [State.pruneFrames, State.ctx_setCtx]

/-- The clause of O21 on a free slice. -/
theorem State.decodeStarts_shows {s : State} {d : Fin 8} {j : SliceJob} {l : List SliceJob} (released : s.released = j :: l)
    (free : s.fenced ⟨.slice, d⟩ = false) (idle : s.n (Entry.sliceState d) = 0) (running : s.hasFlag j.stream flagSuspended = false)
    (room : s.buffersHeld j.stream < s.cfgN j.stream (Entry.streamDecodedFrames j.stream)) :
    let t := s.decodeStarts d
    t.released = l ∧ Assoc.find t.slices d = some j ∧ t.n (Entry.sliceState d) = 1 ∧ (∀ x, x ≠ j.stream → t.ctx x = s.ctx x) ∧
      (t.ctx j.stream).units = (s.ctx j.stream).units ∧ MemoryKept s t ∧ EntriesKept s t [Entry.sliceState d] := by
  rw [State.decodeStarts_cons released free idle running room]
  have taken : Receives j.stream s { s with released := l, slices := Assoc.put s.slices d j } [Entry.sliceState d] :=
    .of_eq _ rfl rfl rfl rfl rfl rfl rfl
  have marked := taken.trans (.of_keeps _ (Keeps.setN _ (Entry.sliceState d) 1 (List.mem_singleton_self _)))
  have pruned := marked.trans (.pruneFrames _ j.stream _)
  have shown := Keeps.setN { s with released := l, slices := Assoc.put s.slices d j } (Entry.sliceState d) 1 (List.mem_singleton_self _)
  refine ⟨shown.released, ?_, ?_, pruned.others, ?_, pruned.memory, pruned.entries⟩
  · exact (congrArg (Assoc.find · d.val) shown.slices).trans (Assoc.find_put_same ..)
  · exact State.n_setN _ _ _ (ne_lost_of_record (by omega))
  · rw [State.units_pruneFrames, shown.ctx]
    rfl

/-- Settles O21: a release goes by the buffer's head (`State.releases_cons`), a picture's end by `State.decodeEnds_first`. -/
theorem accessUnitsDecoded : Obligations.AccessUnitsDecoded := by
  intro s i d u rest r
  refine ⟨fun units running saw next => ?_, fun j l released free idle running room => ?_, fun j found earlier => ?_,
    fun j found own first running kept unpaired unadapting => ?_⟩
  · have go := (State.releases_cons i.isLt units running saw next).trans (State.releaseOldest_cons units running saw)
    exact ⟨State.answer_oldestIs units go true, State.answer_oldestIs units go false⟩
  · obtain ⟨queue, taken, busy, others, units, memory, entries⟩ := State.decodeStarts_shows released free idle running room
    exact ⟨s.seal (s.decodeStarts d), rfl, queue, taken, busy, others, units, memory, entries⟩
  · refine ⟨s.seal (s.decodeEnds d r), rfl, ?_⟩
    rw [State.decodeEnds_waits found earlier]
    exact Keeps.seal s s []
  · have after := Receives.decodeEnds_pictureDecoded (r := r) found own first running kept i.isLt unpaired unadapting
    have slice {a : Nat} (small : a < 256) :=
      State.n_decodeEnds_slice (r := r) found own first running kept i.isLt unpaired unadapting small
    refine ⟨s.seal (s.decodeEnds d r), rfl, (slice (by decide)).trans (s.n_pictureDecoded_state d r),
      (slice (by decide)).trans (s.n_pictureDecoded_pictures d r),
      fun a => (after.memory a).trans ((Receives.pictureDecoded s d r i).memory a), ?_, ?_⟩
    · intro supported fits whole clean referenced unstamped
      rw [State.decodeEnds_true found own first running kept i.isLt supported fits whole clean referenced unstamped]
      obtain ⟨frames, live, tainted, lossy⟩ := State.decodedTrue_shows d r i.isLt unpaired j.unit.timestamp
      simp only [State.seal_n, State.seal_streamState, State.seal_hasFlag]
      exact ⟨frames, live, tainted, lossy, (State.entries_decodedTrue d clean i.isLt unpaired _).seal⟩
    · intro lossy
      rw [State.decodeEnds_lost found own first running kept i.isLt lossy]
      obtain ⟨lost, tainted, flagged, frames, format⟩ := State.decodedLost_shows d r i.isLt unadapting (s.pictureBad i r)
      simp only [State.seal_n, State.seal_hasFlag]
      exact ⟨lost, tainted, flagged, frames, fun unsupported => format (by simp [State.pictureBad, unsupported]),
        (State.entries_decodedLost d r unadapting _).seal⟩

end Sys2Proof.Machine
end

section
namespace Sys2Proof.Machine

open Sys2Proof

/-! Frames at an Ethernet port (R64, R65). -/

/-- Something driven after the same outputs on both sides. -/
theorem Keeps.emit {s t : State} {keys : List Nat} (h : Keeps s t keys) (out : t.out = s.out) (o : Output) :
    Keeps (s.emit o) (t.emit o) keys :=
  ⟨fun k free lost => h.1 k free lost, h.2.1, h.2.2.1, ⟨[], by simp [State.emit, out], by simp⟩, h.rest⟩

/-- An entry without events set: nothing is driven. -/
theorem State.out_set_of_silent {s : State} {k : Nat} (silent : silentOn .hkz8840 k = true ∧ silentOn .hkz8830 k = true) (v : Value) :
    (s.set k v).out = s.out := by
  have here : silentOn s.part k = true := by
    cases s.part
    · exact silent.1
    · exact silent.2
  unfold State.set
  split
  · rfl
  · split
    next r row =>
      have quiet : r.acc = .ro ∧ r.event = false := by simpa [silentOn, ← State.row_part, row] using here
      rw [quiet.2]
      rfl
    next => rfl

/-- A frame counted with its bytes (R64). -/
def State.ethCounted (s : State) (e length : Nat) : State := (s.bump (Entry.ethFramesReceived e)).add (Entry.ethBytesReceived e) length

/-- The entries that every received frame changes. -/
def ethKeys (e : Nat) : List Nat := [Entry.ethFramesReceived e, Entry.ethBytesReceived e]

theorem ethKeys_silent (e : Fin 4) : ∀ k ∈ ethKeys e, silentOn .hkz8840 k = true ∧ silentOn .hkz8830 k = true := by
  revert e
  decide +kernel

theorem ethCounter_width (e : Fin 4) :
    (∀ a ∈ [0x09, 0x0D], ∀ p, widthOf p (key (0x2200 + e) a) = 64) ∧
      ∀ a ∈ [0x0A, 0x0B, 0x0C], ∀ p, widthOf p (key (0x2200 + e) a) = 32 := by
  have widths : ∀ e : Fin 4,
      (∀ a ∈ [0x09, 0x0D], widthOf .hkz8840 (key (0x2200 + e) a) = 64 ∧ widthOf .hkz8830 (key (0x2200 + e) a) = 64) ∧
        ∀ a ∈ [0x0A, 0x0B, 0x0C], widthOf .hkz8840 (key (0x2200 + e) a) = 32 ∧ widthOf .hkz8830 (key (0x2200 + e) a) = 32 := by
    decide +kernel
  exact ⟨fun a listed => widthOf_parts ((widths e).1 a listed), fun a listed => widthOf_parts ((widths e).2 a listed)⟩

section
variable (s : State) (e : Fin 4) (length : Nat)

theorem Keeps.ethCounted : Keeps s (s.ethCounted e length) (ethKeys e) :=
  (Keeps.bump s _ (by simp [ethKeys])).trans (Keeps.add _ _ _ (by simp [ethKeys]))

theorem State.out_ethCounted : (s.ethCounted e length).out = s.out :=
  (State.out_set_of_silent (ethKeys_silent e _ (by simp [ethKeys])) _).trans
    (State.out_set_of_silent (ethKeys_silent e _ (by simp [ethKeys])) _)

theorem State.n_ethCounted_frames :
    (s.ethCounted e length).n (Entry.ethFramesReceived e) = (s.n (Entry.ethFramesReceived e) + 1) % 2 ^ 64 := by
  rw [State.ethCounted, State.n_add_ne _ (key_ne_of_sub (by decide)) (ne_lost_of_record (by omega)),
    State.n_bump s _ 64 (ne_lost_of_record (by omega)) ((ethCounter_width e).1 _ (by decide))]

theorem State.n_ethCounted_bytes :
    (s.ethCounted e length).n (Entry.ethBytesReceived e) = (s.n (Entry.ethBytesReceived e) + length) % 2 ^ 64 := by
  rw [State.ethCounted, State.n_add _ _ _ 64 (ne_lost_of_record (by omega)) ((ethCounter_width e).1 _ (by decide)), State.bump,
    State.n_add_ne _ (key_ne_of_sub (by decide)) (ne_lost_of_record (by omega))]

/-- One of a port's other counters, counted after the frame. -/
theorem State.n_bump_ethCounted {a : Nat} (counter : a ∈ [0x0A, 0x0B, 0x0C]) :
    ((s.ethCounted e length).bump (key (0x2200 + e) a)).n (key (0x2200 + e) a) = (s.n (key (0x2200 + e) a) + 1) % 2 ^ 32 := by
  have apart : ∀ a ∈ [0x0A, 0x0B, 0x0C], ¬a = 0x09 ∧ ¬a = 0x0D := by decide
  rw [State.n_bump _ _ 32 (ne_lost_of_record (by omega)) ((ethCounter_width e).2 a counter),
    (Keeps.ethCounted s e length).n (by simpa [ethKeys] using apart a counter) (ne_lost_of_record (by omega))]

theorem Keeps.bump_ethCounted (k : Nat) :
    Keeps s ((s.ethCounted e length).bump k) [Entry.ethFramesReceived e, Entry.ethBytesReceived e, k] :=
  ((Keeps.ethCounted s e length).mono (by simp [ethKeys])).trans (Keeps.bump _ _ (by simp))

end

theorem Keeps.inForceN {s t : State} {keys : List Nat} (h : Keeps s t keys) (k : Nat) : t.inForceN k = s.inForceN k := by
  simp only [State.inForceN, State.inForce, h.boot, State.default, State.row_congr h.part]

theorem Keeps.ethDrops {s t : State} {keys : List Nat} (h : Keeps s t keys) (e : Nat) (f : EthFrame) : t.ethDrops e f = s.ethDrops e f := by
  simp only [State.ethDrops, h.inForceN]

/-! Frames of a port that runs. -/

section
variable {s : State} {e : Fin 4} (runs : s.ethRuns e = true) (f : EthFrame) (ms : Nat) (lines : List Nat)
include runs

theorem State.ethReceived_badFcs (bad : f.fcsOk = false) :
    s.ethReceived e f ms lines = (s.ethCounted e f.length).bump (Entry.ethFcsErrors e) := by
  simp only [State.ethReceived, runs, bad, Bool.not_true, Bool.not_false, Bool.false_eq_true, if_false, if_true]
  rfl

variable (good : f.fcsOk = true)
include good

theorem State.ethReceived_dropped (dropped : s.ethDrops e f = true) :
    s.ethReceived e f ms lines = (s.ethCounted e f.length).bump (Entry.ethDroppedOther e) := by
  have drops := ((Keeps.ethCounted s e f.length).ethDrops e f).trans dropped
  rw [State.ethCounted] at drops
  simp only [State.ethReceived, runs, good, drops, Bool.not_true, Bool.false_eq_true, if_false, if_true]
  rfl

theorem State.ethReceived_payload (kept : s.ethDrops e f = false) :
    s.ethReceived e f ms lines = (s.ethCounted e f.length).ethPayload e f.payload ms lines := by
  have keeps := ((Keeps.ethCounted s e f.length).ethDrops e f).trans kept
  rw [State.ethCounted] at keeps
  simp only [State.ethReceived, runs, good, keeps, Bool.not_true, Bool.false_eq_true, if_false]
  rfl

end

/-! The contexts of a frame: the counts of its port are none of their entries (R70 to R72). -/

section
variable {s t : State} {keys : List Nat} (h : Keeps s t keys) (outside : ∀ k ∈ keys, 0x2200 ≤ k / 256) {i : Nat} (stream : i < 512)
include h outside stream

theorem Keeps.raw_stream {k : Nat} (own : k / 256 = 0x2000 + i) : t.raw k = s.raw k :=
  h.raw (fun listed => by have := outside _ listed; omega) fun lost => by
    rw [lost] at own
    change 0x1101 = 0x2000 + i at own
    omega

theorem Keeps.cfg_stream {k : Nat} (own : k / 256 = 0x2000 + i) : t.cfg i k = s.cfg i k := by
  simp only [State.cfg, h.ctx, h.raw_stream outside stream own]

theorem Keeps.cfgN_stream {k : Nat} (own : k / 256 = 0x2000 + i) : t.cfgN i k = s.cfgN i k :=
  congrArg (fun v : Value => v.toInt.toNat) (h.cfg_stream outside stream own)

theorem Keeps.cfgB_stream {k : Nat} (own : k / 256 = 0x2000 + i) : t.cfgB i k = s.cfgB i k :=
  congrArg Value.toBytes (h.cfg_stream outside stream own)

theorem Keeps.addressed (e : Nat) (u : UdpPacket) (r : RtpPacket) : t.addressed i e u r = s.addressed i e u r := by
  have cfgN (k : Nat) (own : k / 256 = 0x2000 + i) := h.cfgN_stream outside stream own
  have cfgB (k : Nat) (own : k / 256 = 0x2000 + i) := h.cfgB_stream outside stream own
  simp only [State.addressed, cfgN (Entry.streamSource i) (key_div _ (by decide)), cfgN (Entry.streamDstPort i) (key_div _ (by decide)),
    cfgB (Entry.streamDstAddress i) (key_div _ (by decide)), cfgB (Entry.streamSrcAddress i) (key_div _ (by decide)),
    cfgN (Entry.streamSrcPort i) (key_div _ (by decide)), cfgN (Entry.streamPayloadType i) (key_div _ (by decide))]

theorem Keeps.ssrcFits (ssrc ms : Nat) : t.ssrcFits i ssrc ms = s.ssrcFits i ssrc ms := by
  have cfgN (k : Nat) (own : k / 256 = 0x2000 + i) := h.cfgN_stream outside stream own
  simp only [State.ssrcFits, h.ctx, cfgN (Entry.streamSsrcMode i) (key_div _ (by decide)), cfgN (Entry.streamSsrc i) (key_div _ (by decide))]

theorem Keeps.streamOpen : t.streamOpen i = s.streamOpen i := by
  have state : t.streamState i = s.streamState i := State.n_congr (h.raw_stream outside stream (key_div _ (by decide)))
  simp only [State.streamOpen, state]

end

section
variable {s : State} {e : Nat} {u : UdpPacket} {r : RtpPacket} {ms : Nat} (lines : List Nat)

theorem State.classify_unnamed (unnamed : ∀ i, i < 512 → s.addressed i e u r = false) :
    s.classify e u r ms lines = s.bump (Entry.ethUnmatched e) := by
  have none : ((List.range 512).filter fun i => s.addressed i e u r) = [] :=
    List.filter_eq_nil_iff.2 fun i listed => by simp [unnamed i (List.mem_range.1 listed)]
  unfold State.classify
  rw [none]
  rfl

/-- The lowest-numbered context that a packet names, where it runs, takes the packet. -/
theorem State.classify_open {i : Nat} (stream : i < 512) (named : s.addressed i e u r = true) (running : s.streamOpen i = true)
    (fits : s.ssrcFits i r.ssrc.toNat ms = true) (lowest : ∀ j, j < i → s.addressed j e u r = false) :
    s.classify e u r ms lines = s.takePacket i r ms lines := by
  have found : (((List.range 512).filter fun i => s.addressed i e u r).find? fun i => s.streamOpen i && s.ssrcFits i r.ssrc.toNat ms) =
      some i := by
    rw [List.find?_filter, List.find?_range_eq_some]
    exact ⟨by simp [named, running, fits], List.mem_range.2 stream, fun j before => by simp [lowest j before]⟩
  unfold State.classify
  extract_lets names
  rw [show names.find? _ = some i from found]

/-- The only context that a packet names, where it does not run, drops the packet. -/
theorem State.classify_closed {i : Nat} (stream : i < 512) (named : s.addressed i e u r = true) (closed : s.streamOpen i = false)
    (fits : s.ssrcFits i r.ssrc.toNat ms = true) (only : ∀ j, j < 512 → j ≠ i → s.addressed j e u r = false) :
    s.classify e u r ms lines = s.bump (Entry.streamPacketsDropped i) := by
  have none : (((List.range 512).filter fun i => s.addressed i e u r).find? fun i => s.streamOpen i && s.ssrcFits i r.ssrc.toNat ms) =
      none := by
    rw [List.find?_filter, List.find?_eq_none]
    intro j listed
    by_cases same : j = i
    · simp [same, closed]
    · simp [only j (List.mem_range.1 listed) same]
  have found : (((List.range 512).filter fun i => s.addressed i e u r).find? fun i =>
      s.ssrcFits i r.ssrc.toNat ms || s.cfgN i (Entry.streamSsrcMode i) = 1) = some i := by
    rw [List.find?_filter, List.find?_range_eq_some]
    exact ⟨by simp [named, fits], List.mem_range.2 stream, fun j before => by simp [only j (by omega) (by omega)]⟩
  unfold State.classify
  extract_lets names
  rw [show names.find? _ = Option.none from none, show names.find? _ = some i from found]

end

/-! A packet that a running context takes (R71, R73 to R76, R80). -/

/-- The entries of a stream that a packet changes. -/
def packetKeys (i : Nat) : List Nat :=
  [Entry.streamPacketsReceived i, Entry.streamPacketsDropped i, Entry.streamSsrc i, Entry.streamFlags i, Entry.streamPaceRatio i,
    Entry.streamRatioState i]

/-- Context `i` with the time and the source of its last packet. -/
def State.latched (s : State) (i ssrc ms : Nat) : Prop := (s.ctx i).lastMs = ms ∧ (s.ctx i).ssrc = some ssrc

theorem State.latched_setCtx (s : State) {i ssrc ms : Nat} {c : Ctx} (time : c.lastMs = ms) (source : c.ssrc = some ssrc) :
    (s.setCtx i c).latched i ssrc ms := by
  rw [State.latched, State.ctx_setCtx]
  exact ⟨time, source⟩

section
variable {s t : State} {i ssrc ms : Nat} (held : s.latched i ssrc ms)
include held

theorem Keeps.latched {keys : List Nat} (h : Keeps s t keys) : t.latched i ssrc ms := by
  rw [State.latched, h.ctx]
  exact held

theorem State.latched_releaseOldest : (s.releaseOldest i).latched i ssrc ms := by
  unfold State.releaseOldest
  extract_lets c
  split
  · exact held
  · extract_lets c' u' t
    have taken : t.latched i ssrc ms := State.latched_setCtx s held.1 held.2
    split
    · exact State.latched_setCtx s held.1 held.2
    split
    · exact State.latched_setCtx s held.1 held.2
    · exact taken

theorem State.latched_releaseDue (fuel : Nat) : (s.releaseDue i fuel).latched i ssrc ms := by
  induction fuel generalizing s with
  | zero => exact held
  | succ n ih =>
    simp only [State.releaseDue]
    split
    · exact ih (State.latched_releaseOldest held)
    · exact held

end

/-- A context that restarts its pace ratio and takes another source (R71). -/
theorem Receives.relatch (s : State) (i : Nat) : Receives i s (s.relatch i) (ratioKeys i) := by
  unfold State.relatch
  extract_lets t _ u v
  have released : Receives i s t (ratioKeys i) := .each s _ _ fun w _ _ => .releaseOldest w i _
  clear_value t
  have emptied : Receives i s u (ratioKeys i) := released.trans (.setCtx t (by rfl))
  clear_value u
  have flagged : Receives i u v (ratioKeys i) := .of_keeps i <|
    (Keeps.streamFlag u i _ _ (by simp [ratioKeys])).trans (Keeps.streamFlag _ i _ _ (by simp [ratioKeys]))
  exact (emptied.trans flagged).trans (.of_keeps i ((Keeps.setN v _ _ (by simp [ratioKeys])).trans (Keeps.showRatios _ i)))

/-- What a packet that context `i` takes shows. -/
structure PacketTaken (i ssrc ms : Nat) (s t : State) : Prop where
  receives : Receives i s t (packetKeys i)
  latched : t.latched i ssrc ms
  counted : t.n (Entry.streamPacketsReceived i) = (s.n (Entry.streamPacketsReceived i) + 1) % 2 ^ 32
  data : t.hasFlag i flagNoData = false

/-- What follows the packet's count changes PacketsDropped alone. -/
theorem PacketTaken.trans {i ssrc ms : Nat} {s t u : State} (h : PacketTaken i ssrc ms s t)
    (g : Receives i t u [Entry.streamPacketsDropped i]) (latched : u.latched i ssrc ms) : PacketTaken i ssrc ms s u :=
  ⟨h.receives.trans (g.mono (by simp [packetKeys])), latched,
    (g.entries.n (by simp) (ne_lost_of_record (by omega))).trans h.counted,
    (g.entries.hasFlag (by simp) _).trans h.data⟩

/-- The count of a packet and the end of NoData. -/
theorem PacketTaken.of_latched {i ssrc ms : Nat} (stream : i < 512) {s t : State} (receives : Receives i s t (packetKeys i))
    (latched : t.latched i ssrc ms) (same : t.n (Entry.streamPacketsReceived i) = s.n (Entry.streamPacketsReceived i)) :
    PacketTaken i ssrc ms s ((t.bump (Entry.streamPacketsReceived i)).streamFlag i flagNoData false) := by
  have shown : Keeps t ((t.bump (Entry.streamPacketsReceived i)).streamFlag i flagNoData false) (packetKeys i) :=
    (Keeps.bump t _ (by simp [packetKeys])).trans (Keeps.streamFlag _ i _ _ (by simp [packetKeys]))
  refine ⟨receives.trans (.of_keeps i shown), Keeps.latched latched shown, ?_, ?_⟩
  · exact (State.n_set_stream _ i _ (key_ne_of_sub (by decide))).trans ((t.n_bump_stream stream (by decide)).trans (by rw [same]))
  · rw [State.hasFlag_streamFlag, if_pos rfl]

section
variable {i ssrc ms : Nat} {s t : State} (h : PacketTaken i ssrc ms s t)
include h

theorem PacketTaken.setCtx {c : Ctx} (config : c.config = (t.ctx i).config) (time : c.lastMs = ms) (source : c.ssrc = some ssrc) :
    PacketTaken i ssrc ms s (t.setCtx i c) := h.trans (.setCtx t config) (State.latched_setCtx t time source)

theorem PacketTaken.dropped : PacketTaken i ssrc ms s (t.bump (Entry.streamPacketsDropped i)) :=
  have counted := Keeps.bump t (Entry.streamPacketsDropped i) (List.mem_singleton_self _)
  h.trans (.of_keeps i counted) (Keeps.latched h.latched counted)

theorem PacketTaken.releaseDue (fuel : Nat) : PacketTaken i ssrc ms s (t.releaseDue i fuel) :=
  h.trans (.releaseDue t i fuel _) (State.latched_releaseDue h.latched fuel)

end

theorem State.acceptPacket_taken (s : State) {i : Nat} (stream : i < 512) (r : RtpPacket) (piece : Nat) (types : List Nat) (ms : Nat)
    (lines : List Nat) : PacketTaken i r.ssrc.toNat ms s (s.acceptPacket i r piece types ms lines) := by
  unfold State.acceptPacket
  extract_lets ssrc changed t1 t2 c0 seq ts c t3 t4 stamp late ends t5
  have restarted : Receives i s t1 (Entry.streamSsrc i :: ratioKeys i) := by
    dsimp only [t1]
    split
    · exact (Receives.relatch s i).mono fun _ => List.mem_cons_of_mem _
    · exact .refl i s _
  have sourced : Receives i s t2 (Entry.streamSsrc i :: ratioKeys i) := by
    dsimp only [t2]
    split
    · exact restarted.trans (.of_keeps i (Keeps.setN t1 _ _ (List.mem_cons_self ..)))
    · exact restarted
  have uncounted : t2.n (Entry.streamPacketsReceived i) = s.n (Entry.streamPacketsReceived i) :=
    sourced.entries.n (by simp [ratioKeys]) (ne_lost_of_record (by omega))
  have latched : Receives i s (t2.setCtx i c) (packetKeys i) :=
    (sourced.mono (by simp [ratioKeys, packetKeys])).trans (.setCtx t2 (by rfl))
  have taken : PacketTaken i ssrc ms s t4 :=
    .of_latched stream latched (State.latched_setCtx t2 rfl rfl) uncounted
  have here : t4.ctx i = c := by
    have shown : Keeps (t2.setCtx i c) t4 [Entry.streamPacketsReceived i, Entry.streamFlags i] :=
      (Keeps.bump _ _ (by simp)).trans (Keeps.streamFlag _ i _ _ (by simp))
    exact (shown.ctx i).trans (State.ctx_setCtx ..)
  have source : c.lastMs = ms ∧ c.ssrc = some ssrc := ⟨rfl, rfl⟩
  clear_value t4 c
  split
  · split
    · exact taken.setCtx (by rw [here]) source.1 source.2
    · exact taken
  split
  · refine PacketTaken.dropped ?_
    dsimp only [t5]
    split
    · exact taken.setCtx (by rw [here]) source.1 source.2
    · exact taken
  · generalize addPacket _ _ _ _ _ _ _ _ = added
    obtain ⟨kept, units⟩ := added
    refine PacketTaken.releaseDue ?_ _
    have placed := taken.setCtx (c := { c with units := markComplete c.marker stamp units }) (by rw [here]) source.1 source.2
    split
    · exact placed
    · exact placed.dropped

/-! The packet of a frame, after the frame's counts (R70, R468). -/

theorem ethKeys_outside (e : Fin 4) : ∀ k ∈ ethKeys e, 0x2200 ≤ k / 256 := by
  intro k listed
  simp only [ethKeys, List.mem_cons, List.not_mem_nil, or_false] at listed
  rcases listed with rfl | rfl <;> rw [key_div _ (by decide)] <;> omega

section
variable {s : State} {e : Fin 4} {f : EthFrame} {ms : Nat} (lines : List Nat) {u : UdpPacket} {r : RtpPacket}
  (payload : f.payload = .udp u) (rtp : u.content = .rtp r) (port : u.dstPort.toNat ≠ s.inForceN Entry.fabricUdpPort)
include payload rtp port

/-- An RTP packet goes to the contexts. -/
theorem State.ethPayload_rtp :
    (s.ethCounted e f.length).ethPayload e f.payload ms lines = (s.ethCounted e f.length).classify e u r ms lines := by
  have other : u.dstPort.toNat ≠ (s.ethCounted e f.length).inForceN Entry.fabricUdpPort :=
    (Keeps.ethCounted s e f.length).inForceN _ ▸ port
  simp only [payload, State.ethPayload, State.udpIn, if_neg other, rtp]

theorem State.ethPayload_unnamed (unnamed : ∀ i, i < 512 → s.addressed i e u r = false) :
    (s.ethCounted e f.length).ethPayload e f.payload ms lines = (s.ethCounted e f.length).bump (Entry.ethUnmatched e) := by
  rw [State.ethPayload_rtp lines payload rtp port, State.classify_unnamed]
  exact fun i stream => ((Keeps.ethCounted s e f.length).addressed (ethKeys_outside e) stream e u r).trans (unnamed i stream)

variable {i : Nat} (stream : i < 512) (named : s.addressed i e u r = true) (fits : s.ssrcFits i r.ssrc.toNat ms = true)
include stream named fits

theorem State.ethPayload_open (running : s.streamOpen i = true) (lowest : ∀ j, j < i → s.addressed j e u r = false)
    {x : Nat × List Nat} (piece : pieceOf r.payload = some x) :
    (s.ethCounted e f.length).ethPayload e f.payload ms lines =
      (s.ethCounted e f.length).acceptPacket i r x.1 x.2 ms lines := by
  have counted := Keeps.ethCounted s e f.length
  have outside := ethKeys_outside e
  rw [State.ethPayload_rtp lines payload rtp port, State.classify_open lines stream ((counted.addressed outside stream e u r).trans named)
    ((counted.streamOpen outside stream).trans running) ((counted.ssrcFits outside stream _ ms).trans fits)
    fun j before => (counted.addressed outside (before.trans stream) e u r).trans (lowest j before)]
  simp only [State.takePacket, piece]

theorem State.ethPayload_closed (closed : s.streamOpen i = false) (only : ∀ j, j ≠ i → s.addressed j e u r = false) :
    (s.ethCounted e f.length).ethPayload e f.payload ms lines = (s.ethCounted e f.length).bump (Entry.streamPacketsDropped i) := by
  have counted := Keeps.ethCounted s e f.length
  have outside := ethKeys_outside e
  rw [State.ethPayload_rtp lines payload rtp port]
  exact State.classify_closed lines stream ((counted.addressed outside stream e u r).trans named)
    ((counted.streamOpen outside stream).trans closed) ((counted.ssrcFits outside stream _ ms).trans fits)
    fun j within other => (counted.addressed outside within e u r).trans (only j other)

end

/-- The clause of O20 on a packet that a running context takes. -/
theorem State.acceptPacket_shows (s : State) (e : Fin 4) (length : Nat) {i : Nat} (stream : i < 512) (r : RtpPacket)
    (piece : Nat) (types : List Nat) (ms : Nat) (lines : List Nat) :
    let t := (s.ethCounted e length).acceptPacket i r piece types ms lines
    t.n (Entry.streamPacketsReceived i) = (s.n (Entry.streamPacketsReceived i) + 1) % 2 ^ 32 ∧
      (t.ctx i).lastMs = ms ∧ (t.ctx i).ssrc = some r.ssrc.toNat ∧ t.hasFlag i flagNoData = false ∧
      (∀ j, j ≠ i → t.ctx j = s.ctx j) ∧ MemoryKept s t ∧
      EntriesKept s t [Entry.ethFramesReceived e, Entry.ethBytesReceived e, Entry.streamPacketsReceived i,
        Entry.streamPacketsDropped i, Entry.streamSsrc i, Entry.streamFlags i, Entry.streamPaceRatio i, Entry.streamPaceRatios i,
        Entry.streamRatioState i] := by
  have counted := Keeps.ethCounted s e length
  obtain ⟨receives, ⟨time, source⟩, packets, data⟩ := State.acceptPacket_taken (s.ethCounted e length) stream r piece types ms lines
  have whole := (Receives.of_keeps i counted).mono (more := ethKeys e ++ packetKeys i) (fun _ => List.mem_append_left _) |>.trans
    (receives.mono fun _ => List.mem_append_right _)
  refine ⟨?_, time, source, data, whole.others, whole.memory, whole.entries.mono (by simp [ethKeys, packetKeys])⟩
  rw [packets, State.n_congr (counted.raw_stream (ethKeys_outside e) stream (key_div _ (by decide)))]

/-- The clause of O20 on a packet of a context that does not run. -/
theorem State.n_dropped_ethCounted (s : State) (e : Fin 4) (length : Nat) {i : Nat} (stream : i < 512) :
    ((s.ethCounted e length).bump (Entry.streamPacketsDropped i)).n (Entry.streamPacketsDropped i) =
      (s.n (Entry.streamPacketsDropped i) + 1) % 2 ^ 32 := by
  rw [State.n_bump_stream _ stream (by decide),
    State.n_congr ((Keeps.ethCounted s e length).raw_stream (ethKeys_outside e) stream (key_div _ (by decide)))]

/-! The links, the membership report and MDIO (R66 to R69). -/

theorem State.sendWaiting_nil {s : State} (none : s.peers.waiting = []) : s.sendWaiting = s := by
  have same : ({ s with peers := { s.peers with waiting := [] } } : State) = s := by rw [← none]
  unfold State.sendWaiting
  rw [none]
  exact same

theorem Keeps.peers {s t : State} {keys : List Nat} (h : Keeps s t keys) : t.peers = s.peers :=
  (congrArg (fun u : State => u.peers) h.rest : (State.rest t).peers = (State.rest s).peers)

/-- A write of MdioCommand starts its transaction (R68). -/
theorem State.written_mdioCommand {s : State} (running : s.running = true) (managed : s.boot.managing = true) (command : Nat) :
    s.written Entry.mdioMdioCommand (.int command) = s.mdioCommand command := by
  have served : (!s.answers) = false := by
    simp [State.running] at running
    simp [State.answers, State.isOff, managed]
    omega
  have free : s.held = false := by
    simp [State.running] at running
    simp [State.held]
    omega
  simp only [State.written, served, free, running, if_true, Bool.false_eq_true, if_false]
  rfl

theorem mdioMdioResult_silent : silentOn .hkz8840 Entry.mdioMdioResult = true ∧ silentOn .hkz8830 Entry.mdioMdioResult = true := by
  decide +kernel

/-- A transaction starts, unless one is busy. -/
theorem State.mdioCommand_shows (s : State) {command : Nat} (start : ¬ 2 ≤ mdioOp command) :
    (bits (s.n Entry.mdioMdioResult) 30 2 ≠ 1 → (s.mdioCommand command).n Entry.mdioMdioResult = 2 ^ 30 ∧
      Keeps ({ s with mdioRead := mdioOp command = 0 }.emit (mdioFrame (s.n Entry.mdioMdioClause = 1) command)) (s.mdioCommand command)
        [Entry.mdioMdioResult]) ∧
      (bits (s.n Entry.mdioMdioResult) 30 2 = 1 → Keeps s (s.mdioCommand command) []) := by
  refine ⟨fun idle => ?_, fun busy => ?_⟩
  · have go : s.mdioCommand command =
        { (s.setN Entry.mdioMdioResult (2 ^ 30)).emit (mdioFrame (s.n Entry.mdioMdioClause = 1) command) with
          mdioRead := mdioOp command = 0 } := by
      simp only [State.mdioCommand, start, idle, decide_false, Bool.or_false, Bool.false_eq_true, if_false]
    rw [go]
    refine ⟨State.n_setN s _ _ (ne_lost_of_record (by decide)), ?_⟩
    have busy : Keeps { s with mdioRead := mdioOp command = 0 } { s.setN Entry.mdioMdioResult (2 ^ 30) with mdioRead := mdioOp command = 0 }
        [Entry.mdioMdioResult] :=
      (Keeps.setN s _ _ (List.mem_singleton_self _)).update (fun u => { u with mdioRead := mdioOp command = 0 }) (fun _ _ => rfl)
        (fun _ => rfl) (fun _ => rfl) (fun _ => rfl) fun _ => rfl
    exact Keeps.emit busy (State.out_set_of_silent mdioMdioResult_silent _) _
  · have stay : s.mdioCommand command = s := by
      simp only [State.mdioCommand, busy, decide_true, Bool.or_true, if_true]
    rw [stay]
    exact Keeps.refl s _

/-- The clause of O20 on a bad FCS. -/
theorem State.badFcs_shows (s : State) (e : Fin 4) (length : Nat) :
    let t := (s.ethCounted e length).bump (Entry.ethFcsErrors e)
    t.n (Entry.ethFcsErrors e) = (s.n (Entry.ethFcsErrors e) + 1) % 2 ^ 32 ∧
      t.n (Entry.ethFramesReceived e) = (s.n (Entry.ethFramesReceived e) + 1) % 2 ^ 64 ∧
      t.n (Entry.ethBytesReceived e) = (s.n (Entry.ethBytesReceived e) + length) % 2 ^ 64 := by
  have other {a : Nat} (apart : 0x0A % 256 ≠ a % 256) :
      ((s.ethCounted e length).bump (Entry.ethFcsErrors e)).n (key (0x2200 + e.val) a) = (s.ethCounted e length).n (key (0x2200 + e.val) a) :=
    State.n_add_ne _ (key_ne_of_sub apart) (ne_lost_of_record (by omega))
  exact ⟨State.n_bump_ethCounted s e length (by decide), (other (by decide)).trans (State.n_ethCounted_frames s e length),
    (other (by decide)).trans (State.n_ethCounted_bytes s e length)⟩

/-- The clauses of O20 on a frame that R65 does not drop. -/
theorem State.ethPayload_shows (s : State) (e : Fin 4) (f : EthFrame) (ms : Nat) (lines : List Nat) :
    let t := (s.ethCounted e f.length).ethPayload e f.payload ms lines
    (∀ target sender, f.payload = .arpRequest target sender → target ≠ 0 → target.toNat = s.inForceN (Entry.ethIpv4Address e) →
        Keeps (s.emit (.ethernet e 1 (leBytes 4 target.toNat ++ leBytes 6 sender.toNat))) t (ethKeys e)) ∧
      (f.payload = .icmpEcho ∨ f.payload = .pause ∨ f.payload = .other → Keeps s t (ethKeys e)) := by
  have counted := Keeps.ethCounted s e f.length
  refine ⟨fun target sender payload asked own => ?_, fun payload => ?_⟩
  · have answered : (s.ethCounted e f.length).ethPayload e f.payload ms lines =
        (s.ethCounted e f.length).emit (.ethernet e 1 (leBytes 4 target.toNat ++ leBytes 6 sender.toNat)) := by
      have taken : (target ≠ 0 && target.toNat = s.inForceN (Entry.ethIpv4Address e)) = true := by
        simp only [own, decide_true, Bool.and_true, decide_eq_true_eq]
        exact asked
      rw [payload, State.ethPayload, counted.inForceN, if_pos taken]
    rw [answered]
    exact Keeps.emit counted (State.out_ethCounted s e f.length) _
  · rcases payload with payload | payload | payload <;> rw [payload] <;> exact counted

/-- The clause of O20 on ETH_FRAME_RECEIVED at a port that runs. -/
theorem State.ethFrame_answered {s : State} {e : Fin 4} (runs : s.ethRuns e = true) (f : EthFrame) (ms : Nat) (lines : List Nat) :
    let t := s.seal (s.ethReceived e f ms lines)
    (f.fcsOk = false → t.n (Entry.ethFcsErrors e) = (s.n (Entry.ethFcsErrors e) + 1) % 2 ^ 32 ∧
        t.n (Entry.ethFramesReceived e) = (s.n (Entry.ethFramesReceived e) + 1) % 2 ^ 64 ∧
        t.n (Entry.ethBytesReceived e) = (s.n (Entry.ethBytesReceived e) + f.length) % 2 ^ 64 ∧
        Keeps s t [Entry.ethFramesReceived e, Entry.ethBytesReceived e, Entry.ethFcsErrors e]) ∧
      (f.fcsOk = true → s.ethDrops e f = true →
        t.n (Entry.ethDroppedOther e) = (s.n (Entry.ethDroppedOther e) + 1) % 2 ^ 32 ∧
        Keeps s t [Entry.ethFramesReceived e, Entry.ethBytesReceived e, Entry.ethDroppedOther e]) := by
  intro t
  have sealed {u : State} (h : s.ethReceived e f ms lines = u) : t = s.seal u := congrArg s.seal h
  clear_value t
  refine ⟨fun bad => ?_, fun good dropped => ?_⟩
  · rw [sealed (State.ethReceived_badFcs runs f ms lines bad)]
    simp only [State.seal_n]
    obtain ⟨errors, frames, bytes⟩ := State.badFcs_shows s e f.length
    exact ⟨errors, frames, bytes, (Keeps.bump_ethCounted s e _ _).trans (Keeps.seal s _ _)⟩
  · rw [sealed (State.ethReceived_dropped runs f ms lines good dropped)]
    simp only [State.seal_n]
    exact ⟨State.n_bump_ethCounted s e _ (by decide), (Keeps.bump_ethCounted s e _ _).trans (Keeps.seal s _ _)⟩

section
variable {s : State} {e : Fin 4} (runs : s.ethRuns e = true) {f : EthFrame} (ms : Nat) (lines : List Nat) (good : f.fcsOk = true)
  (kept : s.ethDrops e f = false)
include runs good kept

theorem State.ethPayload_answered :
    let t := s.seal (s.ethReceived e f ms lines)
    (∀ target sender, f.payload = .arpRequest target sender → target ≠ 0 → target.toNat = s.inForceN (Entry.ethIpv4Address e) →
        Keeps (s.emit (.ethernet e 1 (leBytes 4 target.toNat ++ leBytes 6 sender.toNat))) t (ethKeys e)) ∧
      (f.payload = .icmpEcho ∨ f.payload = .pause ∨ f.payload = .other → Keeps s t (ethKeys e)) := by
  rw [State.ethReceived_payload runs f ms lines good kept]
  obtain ⟨answered, ignored⟩ := State.ethPayload_shows s e f ms lines
  exact ⟨fun target sender payload asked own => (answered target sender payload asked own).trans (Keeps.seal s _ _),
    fun payload => (ignored payload).trans (Keeps.seal s _ _)⟩

variable {u : UdpPacket} {r : RtpPacket} (payload : f.payload = .udp u) (rtp : u.content = .rtp r)
  (port : u.dstPort.toNat ≠ s.inForceN Entry.fabricUdpPort)
include payload rtp port

theorem State.unnamed_answered (unnamed : ∀ i, i < 512 → s.addressed i e u r = false) :
    let t := s.seal (s.ethReceived e f ms lines)
    t.n (Entry.ethUnmatched e) = (s.n (Entry.ethUnmatched e) + 1) % 2 ^ 32 ∧
      Keeps s t [Entry.ethFramesReceived e, Entry.ethBytesReceived e, Entry.ethUnmatched e] := by
  rw [State.ethReceived_payload runs f ms lines good kept, State.ethPayload_unnamed lines payload rtp port unnamed]
  simp only [State.seal_n]
  exact ⟨State.n_bump_ethCounted s e _ (by decide), (Keeps.bump_ethCounted s e _ _).trans (Keeps.seal s _ _)⟩

variable {i : Nat} (stream : i < 512) (named : s.addressed i e u r = true) (fits : s.ssrcFits i r.ssrc.toNat ms = true)
include stream named fits

theorem State.closed_answered (closed : s.streamOpen i = false) (only : ∀ j, j ≠ i → s.addressed j e u r = false) :
    let t := s.seal (s.ethReceived e f ms lines)
    t.n (Entry.streamPacketsDropped i) = (s.n (Entry.streamPacketsDropped i) + 1) % 2 ^ 32 ∧
      Keeps s t [Entry.ethFramesReceived e, Entry.ethBytesReceived e, Entry.streamPacketsDropped i] := by
  rw [State.ethReceived_payload runs f ms lines good kept, State.ethPayload_closed lines payload rtp port stream named fits closed only]
  simp only [State.seal_n]
  exact ⟨State.n_dropped_ethCounted s e _ stream, (Keeps.bump_ethCounted s e _ _).trans (Keeps.seal s _ _)⟩

theorem State.open_answered {x : Nat × List Nat} (running : s.streamOpen i = true) (lowest : ∀ j, j < i → s.addressed j e u r = false)
    (piece : pieceOf r.payload = some x) :
    let t := s.seal (s.ethReceived e f ms lines)
    t.n (Entry.streamPacketsReceived i) = (s.n (Entry.streamPacketsReceived i) + 1) % 2 ^ 32 ∧
      (t.ctx i).lastMs = ms ∧ (t.ctx i).ssrc = some r.ssrc.toNat ∧ t.hasFlag i flagNoData = false ∧
      (∀ j, j ≠ i → t.ctx j = s.ctx j) ∧ MemoryKept s t ∧
      EntriesKept s t [Entry.ethFramesReceived e, Entry.ethBytesReceived e, Entry.streamPacketsReceived i,
        Entry.streamPacketsDropped i, Entry.streamSsrc i, Entry.streamFlags i, Entry.streamPaceRatio i, Entry.streamPaceRatios i,
        Entry.streamRatioState i] := by
  rw [State.ethReceived_payload runs f ms lines good kept,
    State.ethPayload_open lines payload rtp port stream named fits running lowest piece]
  obtain ⟨packets, time, source, data, others, memory, entries⟩ := State.acceptPacket_shows s e f.length stream r x.1 x.2 ms lines
  simp only [State.seal_n, State.seal_ctx, State.seal_hasFlag]
  exact ⟨packets, time, source, data, others, memory.seal, entries.seal⟩

end

/-! The commands on links and MDIO. -/

section
variable (s : State) (e : Fin 4)

theorem State.ethLinkDown_answered (on : s.isOff = false) :
    ∃ t, exec (.ethLinkDown e) s = .next t ∧
      t.n (Entry.ethLinkState e) = (if s.n (Entry.ethLinkState e) = 1 then 0 else s.n (Entry.ethLinkState e)) ∧
      Keeps s t [Entry.ethLinkState e] := by
  refine ⟨s.seal (s.ifOn (if s.n (Entry.ethLinkState e) = 1 then s.setN (Entry.ethLinkState e) 0 else s)), rfl, ?_⟩
  simp only [State.seal_n, State.ifOn, on, Bool.false_eq_true, if_false]
  split
  · exact ⟨State.n_setN s _ _ (ne_lost_of_record (by omega)), (Keeps.setN s _ _ (List.mem_singleton_self _)).trans (Keeps.seal s _ _)⟩
  · exact ⟨rfl, Keeps.seal s s _⟩

theorem State.ethLinkUp_answered (awake : 3 ≤ s.device) (enabled : s.inForceN (Entry.ethEnable e) = 1)
    (down : s.n (Entry.ethLinkState e) = 0) (none : s.peers.waiting = []) :
    ∃ t, exec (.ethLinkUp e) s = .next t ∧ t.n (Entry.ethLinkState e) = 1 ∧ Keeps s t [Entry.ethLinkState e] := by
  have up : Keeps s (s.setN (Entry.ethLinkState e) 1) [Entry.ethLinkState e] := Keeps.setN s _ _ (List.mem_singleton_self _)
  have step : exec (.ethLinkUp e) s = .next (s.seal (s.setN (Entry.ethLinkState e) 1)) := by
    have trained : (if 3 ≤ s.device && s.inForceN (Entry.ethEnable e) = 1 && s.n (Entry.ethLinkState e) = 0 then
        (s.setN (Entry.ethLinkState e) 1).sendWaiting else s) = s.setN (Entry.ethLinkState e) 1 := by
      rw [State.sendWaiting_nil (by rw [up.peers, none]), if_pos (by simp [awake, enabled, down])]
    exact congrArg s.answer trained
  exact ⟨_, step, State.n_setN s _ _ (ne_lost_of_record (by omega)), up.trans (Keeps.seal s _ _)⟩

end

section
variable {s : State} (running : s.running = true) (managed : s.boot.managing = true)
include running managed

theorem State.mdio_answered (command : BitVec 64) (op : Nat) (named : mdioOp command.toNat = op) (start : op < 2) :
    ∃ t, s.answer (if mdioOp command.toNat = op then s.written Entry.mdioMdioCommand (.int command.toNat) else s) = .next t ∧
      (bits (s.n Entry.mdioMdioResult) 30 2 ≠ 1 → t.n Entry.mdioMdioResult = 2 ^ 30 ∧
        Keeps ({ s with mdioRead := op = 0 }.emit (mdioFrame (s.n Entry.mdioMdioClause = 1) command.toNat)) t [Entry.mdioMdioResult]) ∧
      (bits (s.n Entry.mdioMdioResult) 30 2 = 1 → Keeps s t []) := by
  subst named
  obtain ⟨starts, stays⟩ := State.mdioCommand_shows s (Nat.not_le.2 start)
  rw [if_pos rfl, State.written_mdioCommand running managed]
  refine ⟨_, rfl, fun idle => ?_, fun busy => (stays busy).trans (Keeps.seal s _ _)⟩
  obtain ⟨result, kept⟩ := starts idle
  exact ⟨result, kept.trans (Keeps.seal s _ _)⟩

theorem State.mdioNoOperation_answered (command : BitVec 64) (idle : 2 ≤ mdioOp command.toNat) :
    ∃ t, exec (.mdioNoOperation command) s = .next t ∧ Keeps s t [] := by
  have stay : s.mdioCommand command.toNat = s := by
    simp only [State.mdioCommand, idle, decide_true, Bool.true_or, if_true]
  refine ⟨s.seal (if 2 ≤ mdioOp command.toNat then s.written Entry.mdioMdioCommand (.int command.toNat) else s), rfl, ?_⟩
  rw [if_pos idle, State.written_mdioCommand running managed, stay]
  exact Keeps.seal s s []

end

theorem State.mdioDone_answered {s : State} (running : s.running = true) (data : BitVec 16) :
    (bits (s.n Entry.mdioMdioResult) 30 2 = 1 → ∃ t, exec (.mdioTransactionDone data) s = .next t ∧
        t.n Entry.mdioMdioResult = 2 ^ 31 + (if s.mdioRead then data.toNat else 0) ∧ Keeps s t [Entry.mdioMdioResult]) ∧
      (bits (s.n Entry.mdioMdioResult) 30 2 ≠ 1 → ∃ t, exec (.mdioTransactionDone data) s = .next t ∧ Keeps s t []) := by
  have on : s.isOff = false := by
    simp [State.running] at running
    simp [State.isOff]
    omega
  have step : exec (.mdioTransactionDone data) s = s.answer (if bits (s.n Entry.mdioMdioResult) 30 2 = 1 then
      s.setN Entry.mdioMdioResult (2 ^ 31 + if s.mdioRead then data.toNat else 0) else s) := by
    show s.answer (s.ifOn _) = _
    rw [State.ifOn, on, if_neg Bool.false_ne_true]
  rw [step]
  refine ⟨fun busy => ?_, fun idle => ?_⟩
  · rw [if_pos busy]
    exact ⟨_, rfl, State.n_setN s _ _ (ne_lost_of_record (by decide)),
      (Keeps.setN s _ _ (List.mem_singleton_self _)).trans (Keeps.seal s _ _)⟩
  · rw [if_neg idle]
    exact ⟨_, rfl, Keeps.seal s s []⟩

/-- Settles O20: a frame by the branches of `State.ethReceived`, its RTP packet by `State.classify` and `State.acceptPacket_taken`. -/
theorem ethernetAndMdio : Obligations.EthernetAndMdio := by
  refine ⟨fun s e f ms lines => ⟨fun stopped => ?_, fun runs => ⟨s.seal (s.ethReceived e f ms lines), rfl,
    (State.ethFrame_answered runs f ms lines).1, (State.ethFrame_answered runs f ms lines).2, fun good kept => ?_⟩, fun running => ?_,
    State.ethLinkDown_answered s e, State.ethLinkUp_answered s e⟩, fun s c data running managed => ⟨fun read => ?_, fun write => ?_,
    (State.mdioDone_answered running data).1, (State.mdioDone_answered running data).2,
    State.mdioNoOperation_answered running managed c⟩⟩
  · refine ⟨s.seal (s.ethReceived e f ms lines), rfl, ?_⟩
    simp only [State.ethReceived, stopped, Bool.not_false, if_true]
    exact Keeps.seal s s []
  · obtain ⟨asked, ignored⟩ := State.ethPayload_answered runs ms lines good kept
    exact ⟨asked, ignored, fun _ _ payload rtp port unnamed => State.unnamed_answered runs ms lines good kept payload rtp port unnamed,
      fun _ _ _ _ payload rtp port stream named running fits lowest piece =>
        State.open_answered runs ms lines good kept payload rtp port stream named fits running lowest piece,
      fun _ _ _ payload rtp port stream named fits closed only =>
        State.closed_answered runs ms lines good kept payload rtp port stream named fits closed only⟩
  · refine ⟨s.seal (s.ifRunning (s.reportMembership e)), rfl, ?_⟩
    simp only [State.ifRunning, running, State.reportMembership, if_true, Bool.and_eq_true, decide_eq_true_eq]
    exact Keeps.seal s _ []
  · exact State.mdio_answered running managed c 0 read (by decide)
  · exact State.mdio_answered running managed c 1 write (by decide)

end Sys2Proof.Machine
end

section
namespace Sys2Proof.Machine

open Sys2Proof

/-! CSI-2 ports: their counters and their frames in progress (R89 to R92). -/

theorem csiCounter_width (c : Fin 4) : ∀ a ∈ [0x06, 0x07, 0x08, 0x0A], ∀ p, widthOf p (key (0x2210 + c) a) = 32 := by
  have widths : ∀ c : Fin 4, ∀ a ∈ [0x06, 0x07, 0x08, 0x0A],
      widthOf .hkz8840 (key (0x2210 + c) a) = 32 ∧ widthOf .hkz8830 (key (0x2210 + c) a) = 32 := by
    decide +kernel
  exact fun a listed => widthOf_parts (widths c a listed)

theorem State.n_bump_csi (s : State) (c : Fin 4) {a : Nat} (counter : a ∈ [0x06, 0x07, 0x08, 0x0A]) :
    (s.bump (key (0x2210 + c) a)).n (key (0x2210 + c) a) = (s.n (key (0x2210 + c) a) + 1) % 2 ^ 32 :=
  State.n_bump s _ 32 (ne_lost_of_record (by omega)) (csiCounter_width c a counter)

/-- One counter of a port after another one counted. -/
theorem State.n_bump_csi_ne (s : State) (c : Nat) {a b : Nat} (other : b % 256 ≠ a % 256) :
    (s.bump (key (0x2210 + c) b)).n (key (0x2210 + c) a) = s.n (key (0x2210 + c) a) :=
  State.n_add_ne s (key_ne_of_sub other) (ne_lost_of_record (by omega))

/-- The receive side replaced on both sides. -/
theorem Keeps.withCsi {s t : State} {keys : List Nat} (h : Keeps s t keys) (x : List (Nat × CsiPort)) :
    Keeps { s with csi := x } { t with csi := x } keys :=
  h.update (fun u => { u with csi := x }) (fun _ _ => rfl) (fun _ => rfl) (fun _ => rfl) (fun _ => rfl) fun _ => rfl

theorem Keeps.csiPort {s t : State} {keys : List Nat} (h : Keeps s t keys) (c : Nat) : t.csiPort c = s.csiPort c := by
  simp only [State.csiPort, h.csi]

section
variable {s t : State} {keys : List Nat} (h : Keeps s t keys) (outside : ∀ k ∈ keys, 0x2200 ≤ k / 256)
include h outside

theorem Keeps.csiStreams (c vc : Nat) : t.csiStreams c vc = s.csiStreams c vc :=
  List.filter_congr fun i listed => by
    have stream := List.mem_range.1 listed
    simp only [h.streamOpen outside stream, h.cfgN_stream outside stream (k := Entry.streamSource i) (key_div _ (by decide)),
      h.cfgN_stream outside stream (k := Entry.streamVirtualChannel i) (key_div _ (by decide))]

theorem Keeps.csiTaken (c vc dataType : Nat) : t.csiTaken c vc dataType = s.csiTaken c vc dataType := by
  simp only [State.csiTaken, h.csiStreams outside]
  exact List.filter_congr fun i listed => by
    have stream := List.mem_range.1 (List.mem_of_mem_filter listed)
    simp only [h.cfgN_stream outside stream (k := Entry.streamDataType i) (key_div _ (by decide))]

end

theorem csiKeys_outside (c : Fin 4) {subs : List Nat} (small : ∀ a ∈ subs, a < 256) :
    ∀ k ∈ subs.map (key (0x2210 + c)), 0x2200 ≤ k / 256 := by
  intro k listed
  obtain ⟨a, among, rfl⟩ := List.mem_map.1 listed
  rw [key_div _ (small a among)]
  omega

/-! Frames in progress amended. -/

theorem State.csiPort_put (s : State) (c : Nat) (r : CsiPort) : ({ s with csi := Assoc.put s.csi c r } : State).csiPort c = r :=
  Assoc.get_put_same ..

theorem State.amendCsi_frames (s : State) (c i : Nat) (g : CsiFrame → CsiFrame) :
    ((s.amendCsi c i g).csiPort c).frames = (s.csiPort c).frames.map fun x => if x.stream = i then g x else x := by
  rw [State.amendCsi, State.csiPort_put]

/-- Amendments change the receive side alone. -/
theorem State.each_amendCsi {α : Type} (s : State) (c : Nat) (l : List α) (i : α → Nat) (g : CsiFrame → CsiFrame) :
    s.each l (fun t a => t.amendCsi c (i a) g) = { s with csi := (s.each l fun t a => t.amendCsi c (i a) g).csi } := by
  simp only [State.each]
  induction l generalizing s with
  | nil => rfl
  | cons a r ih =>
    rw [List.foldl_cons]
    exact ih _

/-- Marked frames of the listed streams; a mark made again changes nothing. -/
theorem State.each_amendCsi_frames {α : Type} (s : State) (c : Nat) (l : List α) (i : α → Nat) {g : CsiFrame → CsiFrame}
    (same : ∀ x, (g x).stream = x.stream) (again : ∀ x, g (g x) = g x) :
    ((s.each l fun t a => t.amendCsi c (i a) g).csiPort c).frames =
      (s.csiPort c).frames.map fun x => if x.stream ∈ l.map i then g x else x := by
  simp only [State.each]
  induction l generalizing s with
  | nil => simp
  | cons a r ih =>
    rw [List.foldl_cons, ih, State.amendCsi_frames, List.map_map]
    refine List.map_congr_left fun x _ => ?_
    by_cases first : x.stream = i a <;> by_cases later : x.stream ∈ r.map i <;>
      simp_all [Function.comp]

end Sys2Proof.Machine
end

section
namespace Sys2Proof.Machine

open Sys2Proof

/-! Packets that are dropped, and the port's own changes (R89, R90, R97). -/

/-- The mark of a frame that is lost in part. -/
def CsiFrame.marked (f : CsiFrame) : CsiFrame := { f with lossy := true }

section
variable {s : State} {c : Fin 4}

/-- A port that is not active receives nothing. -/
theorem State.csi_inactive (idle : s.n (Entry.csiState c) ≠ 1) (q : CsiPacket) (l : CsiLine) (vc errors : Nat) (lines : List Nat) :
    s.csiPacket c q = s ∧ s.csiLine c l = s ∧ s.csiFrameEnds c vc errors lines = s ∧ s.csiDown c = s := by
  refine ⟨?_, ?_, ?_, ?_⟩
  · unfold State.csiPacket
    exact if_pos idle
  · rw [State.csiLine, if_pos idle]
  · rw [State.csiFrameEnds, if_pos idle]
  · rw [State.csiDown, if_pos idle]

theorem State.csiUp_shows (down : s.n (Entry.csiState c) = 0) (enabled : s.inForceN (Entry.csiEnable c) = 1)
    (free : s.fenced ⟨.csi, c⟩ = false) :
    s.csiUp c = s.setN (Entry.csiState c) 1 := by
  simp [State.csiUp, down, enabled, free]

/-- A drop counts the packet and no more. -/
theorem State.csiDrop_shows (s : State) (c : Fin 4) :
    (s.csiDrop c).n (Entry.csiPacketsDropped c) = (s.n (Entry.csiPacketsDropped c) + 1) % 2 ^ 32 ∧
      Keeps s (s.csiDrop c) [Entry.csiPacketsDropped c] :=
  ⟨s.n_bump_csi c (by decide), Keeps.bump s _ (List.mem_singleton_self _)⟩

variable (active : s.n (Entry.csiState c) = 1)
include active

/-- The frames in progress of a port that goes down are lost (R97). -/
theorem State.csiDown_shows :
    (s.csiDown c).n (Entry.csiState c) = 0 ∧
      ((s.csiDown c).csiPort c).frames = (s.csiPort c).frames.map CsiFrame.marked ∧
      Keeps { s with csi := (s.csiDown c).csi } (s.csiDown c) [Entry.csiState c] := by
  have step : s.csiDown c = (s.setN (Entry.csiState c) 0).each (s.csiPort c).frames fun t f => t.amendCsi c f.stream CsiFrame.marked := by
    rw [State.csiDown, if_neg (by simp [active])]
    show ((s.setN (Entry.csiState c) 0).each ((s.setN (Entry.csiState c) 0).csiPort c).frames _) = _
    rw [(Keeps.setN s (Entry.csiState c) 0 (List.mem_singleton_self _)).csiPort]
    rfl
  have down : Keeps s (s.setN (Entry.csiState c) 0) [Entry.csiState c] := Keeps.setN s _ _ (List.mem_singleton_self _)
  have own := State.each_amendCsi (s.setN (Entry.csiState c) 0) c (s.csiPort c).frames CsiFrame.stream CsiFrame.marked
  rw [← step] at own
  refine ⟨?_, ?_, ?_⟩
  · rw [own]
    exact State.n_setN s _ _ (ne_lost_of_record (by omega))
  · rw [step, State.each_amendCsi_frames _ c _ CsiFrame.stream (g := CsiFrame.marked) (fun _ => rfl) (fun _ => rfl), down.csiPort]
    exact List.map_congr_left fun x listed => if_pos (List.mem_map_of_mem listed)
  · conv => arg 2; rw [own]
    exact down.withCsi _

theorem State.csiPacket_uncorrectable (q : CsiPacket) (vc : Nat) (named : q = .lineStart vc 2) : s.csiPacket c q = s.csiDrop c := by
  subst named
  simp [State.csiPacket, active]

theorem State.csiFrameEnds_uncorrectable {errors : Nat} (many : 2 ≤ errors) (vc : Nat) (lines : List Nat) :
    s.csiFrameEnds c vc errors lines = s.csiDrop c := by
  simp [State.csiFrameEnds, active, many]

/-- A packet that no context takes, after the correction of its header. -/
theorem State.csiPacket_unnamed {vc dataType : Nat} (unnamed : s.csiTaken c vc dataType = []) (crcOk : Bool) (pixels : Nat) :
    s.csiPacket c (.longPacket vc dataType 1 crcOk pixels) = (s.bump (Entry.csiEccCorrected c)).csiDrop c := by
  have counted : (s.bump (Entry.csiEccCorrected c)).csiTaken c vc dataType = [] :=
    ((Keeps.bump s (Entry.csiEccCorrected c) (List.mem_singleton_self _)).csiTaken
      (csiKeys_outside c (subs := [0x06]) (by decide)) c vc dataType).trans unnamed
  simp [State.csiPacket, active, counted]

/-- A bad checksum marks the frame in progress (R90). -/
theorem State.csiPacket_badCrc {vc dataType i : Nat} (taken : s.csiTaken c vc dataType = [i]) (pixels : Nat) :
    s.csiPacket c (.longPacket vc dataType 0 false pixels) =
      ((s.bump (Entry.csiCrcErrors c)).csiDrop c).amendCsi c i CsiFrame.marked := by
  simp [State.csiPacket, active, taken, State.each]
  rfl

end

end Sys2Proof.Machine
end

section
namespace Sys2Proof.Machine

open Sys2Proof

/-! Frame buffers given back (R85): what was free for a picture stays free. -/

theorem mem_of_mem_dropSome {α : Type} {keep : α → Bool} {l : List α} {k : Nat} {a : α} (h : a ∈ dropSome keep l k) : a ∈ l := by
  induction l generalizing k with
  | nil => cases k <;> exact h
  | cons f r ih =>
    cases k with
    | zero => exact h
    | succ k =>
      simp only [dropSome] at h
      split at h
      · exact (List.mem_cons.1 h).elim (fun e => e ▸ List.mem_cons_self ..) fun later => List.mem_cons_of_mem _ (ih later)
      · exact List.mem_cons_of_mem _ (ih h)

theorem length_filter_dropSome_le {α : Type} (keep p : α → Bool) (l : List α) (k : Nat) :
    ((dropSome keep l k).filter p).length ≤ (l.filter p).length := by
  induction l generalizing k with
  | nil => cases k <;> exact le_rfl
  | cons f r ih =>
    cases k with
    | zero => exact le_rfl
    | succ k =>
      simp only [dropSome, List.filter_cons]
      split
      · simp only [List.filter_cons]
        split
        · exact Nat.succ_le_succ (ih (k + 1))
        · exact ih (k + 1)
      · split
        · exact (ih k).trans (Nat.le_succ _)
        · exact ih k

/-- The last element of a kind stays the last one where it is kept. -/
theorem getLast?_filter_dropSome {α : Type} {keep p : α → Bool} {l : List α} {g : α} (last : (l.filter p).getLast? = some g)
    (kept : keep g = true) (k : Nat) : ((dropSome keep l k).filter p).getLast? = some g := by
  induction l generalizing k with
  | nil => cases k <;> exact last
  | cons f r ih =>
    cases k with
    | zero => exact last
    | succ k =>
      rw [List.filter_cons] at last
      cases found : (r.filter p).getLast? with
      | none =>
        have empty : r.filter p = [] := List.getLast?_eq_none_iff.1 found
        have here : p f = true ∧ f = g := by
          split at last
          next here => exact ⟨here, by simpa [empty] using last⟩
          next => simp [empty] at last
        obtain ⟨here, rfl⟩ := here
        have none : (dropSome keep r (k + 1)).filter p = [] :=
          List.length_eq_zero_iff.1 (Nat.le_zero.1 ((length_filter_dropSome_le keep p r (k + 1)).trans (by simp [empty])))
        simp [dropSome, kept, here, none]
      | some x =>
        have same : x = g := by
          split at last
          next => simpa [List.getLast?_cons, found] using last
          next => exact Option.some.inj (found.symm.trans last)
        subst same
        simp only [dropSome]
        split
        · rw [List.filter_cons]
          split
          · rw [List.getLast?_cons, ih found (k + 1), Option.getD_some]
          · exact ih found (k + 1)
        · exact ih found k

/-- Whether a reader holds a frame of a stream, among given frames of it (R85). -/
def State.readsFrame (s : State) (i : Nat) (frames : List Frame) (f : Frame) : Bool :=
  let newest := ((frames.filter Frame.ready).getLast?).map Frame.ordinal
  let waits := s.vision.pairs.any fun e =>
    (s.pairLeft e.1 = i && (e.2.waitLeft.map WaitFrame.ordinal) = some f.ordinal) ||
      (s.pairRight e.1 = i && (e.2.waitRight.map WaitFrame.ordinal) = some f.ordinal)
  let paired := (s.vision.queued ++ s.vision.stereo.map Prod.snd).any fun q =>
    (s.pairLeft q.pair = i && q.left.ordinal = f.ordinal) || (s.pairRight q.pair = i && q.right.ordinal = f.ordinal)
  let flowNext := frames.any fun g => g.ordinal = f.ordinal + 1 && g.flow == .pending
  let jobs := s.gen.jobs.any fun j =>
    j.pic.stream? = some i && !j.done && !j.dropped &&
      (j.pic.frames.contains f.ordinal || j.history.contains f.ordinal)
  let shown := (List.range s.portCount).any fun n => (s.openChoices n).any fun c => c.views.any fun v =>
    v.stream = i && (v.newest = some f.ordinal || (v.pic.map fun p => p.frames.contains f.ordinal) = some true)
  let measured := ((s.genStream i).held.map Pic.frames).any fun l => l.contains f.ordinal
  !f.ready || waits || paired || flowNext || jobs || shown || measured ||
    (newest = some f.ordinal && !(s.showingPorts i).isEmpty)

theorem State.frameHeld_eq_readsFrame (s : State) (i : Nat) : s.frameHeld i = s.readsFrame i (s.ctx i).frames := rfl

/-- What the readers of frames go by is as it was: the engines, frame generation, the ports and the pairs' streams. -/
structure SameReaders (s t : State) : Prop where
  vision : t.vision = s.vision
  gen : t.gen = s.gen
  ports : t.ports = s.ports
  part : t.part = s.part
  entries : ∀ k, 0x2400 ≤ k / 256 → t.raw k = s.raw k

namespace SameReaders

variable {s t : State} (h : SameReaders s t)
include h

theorem pairCfgN (p : Nat) {a : Nat} (small : a < 256) : t.pairCfgN p (key (0x2400 + p) a) = s.pairCfgN p (key (0x2400 + p) a) := by
  have low : 0x2400 ≤ key (0x2400 + p) a / 256 := by
    rw [key_div _ small]
    exact Nat.le_add_right ..
  simp only [State.pairCfgN, State.pairCfg, State.pairSt, h.vision, h.entries _ low]

theorem pairLeft (p : Nat) : t.pairLeft p = s.pairLeft p := h.pairCfgN p (by decide)

theorem pairRight (p : Nat) : t.pairRight p = s.pairRight p := h.pairCfgN p (by decide)

theorem portCount : t.portCount = s.portCount := by simp only [State.portCount, h.part]

theorem portRt (n : Nat) : t.portRt n = s.portRt n := by simp only [State.portRt, h.ports]

theorem shows (n : Nat) : t.shows n = s.shows n := by
  have state : t.portState n = s.portState n := State.n_congr (h.entries _ (by rw [key_div _ (by decide)]; omega))
  simp only [State.shows, state]

theorem showingPorts (i : Nat) : t.showingPorts i = s.showingPorts i := by
  simp only [State.showingPorts, h.portCount, h.shows, h.portRt]

theorem readsFrame (i : Nat) (frames : List Frame) : t.readsFrame i frames = s.readsFrame i frames := by
  funext f
  simp only [State.readsFrame, h.vision, h.gen, h.pairLeft, h.pairRight, h.portCount, h.showingPorts, State.openChoices, h.portRt,
    State.genStream]

end SameReaders

/-- A frame that pruning leaves unread was unread before. -/
theorem State.readsFrame_dropSome {s : State} {i : Nat} {l : List Frame} {keep : Frame → Bool}
    (kept : ∀ f, s.readsFrame i l f = true → keep f = true)
    {k : Nat} {f : Frame} (read : s.readsFrame i (dropSome keep l k) f = true) : s.readsFrame i l f = true := by
  obtain ⟨newest, flowNext⟩ : (((dropSome keep l k).filter Frame.ready).getLast?.map Frame.ordinal = some f.ordinal ∧
        (s.showingPorts i).isEmpty = false → (l.filter Frame.ready).getLast?.map Frame.ordinal = some f.ordinal) ∧
      (((dropSome keep l k).any fun g => g.ordinal = f.ordinal + 1 && g.flow == .pending) = true →
        (l.any fun g => g.ordinal = f.ordinal + 1 && g.flow == .pending) = true) := by
    refine ⟨fun ⟨last, shown⟩ => ?_, fun next => ?_⟩
    · cases before : (l.filter Frame.ready).getLast? with
      | none =>
        have empty : l.filter Frame.ready = [] := List.getLast?_eq_none_iff.1 before
        have none : (dropSome keep l k).filter Frame.ready = [] :=
          List.length_eq_zero_iff.1 (Nat.le_zero.1 ((length_filter_dropSome_le keep Frame.ready l k).trans (by simp [empty])))
        simp [none] at last
      | some g =>
        have held : s.readsFrame i l g = true := by simp [State.readsFrame, before, shown]
        rwa [getLast?_filter_dropSome before (kept g held) k] at last
    · obtain ⟨g, listed, found⟩ := List.any_eq_true.1 next
      exact List.any_eq_true.2 ⟨g, mem_of_mem_dropSome listed, found⟩
  simp only [State.readsFrame, Bool.or_eq_true] at read ⊢
  refine read.imp (Or.imp_left (Or.imp_left (Or.imp_left (Or.imp_right flowNext)))) fun last => ?_
  simp only [Bool.and_eq_true, decide_eq_true_eq, Bool.not_eq_true'] at last ⊢
  exact ⟨newest last, last.2⟩

theorem State.frames_pruneFrames (s : State) (i : Nat) :
    ((s.pruneFrames i).ctx i).frames =
      dropSome (fun f => s.frameHeld i f || (s.ctx i).frames.getLast?.map Frame.ordinal = some f.ordinal) (s.ctx i).frames
        ((s.ctx i).frames.length + s.decodingOf i + ofBool (s.csiFrame? i).isSome - s.cfgN i (Entry.streamDecodedFrames i)) := by
  rw [State.pruneFrames, State.ctx_setCtx]

/-- Pruning frees buffers and takes none. -/
theorem State.buffersHeld_pruneFrames_le (s : State) (i : Nat) : (s.pruneFrames i).buffersHeld i ≤ s.buffersHeld i := by
  have readers : SameReaders s (s.pruneFrames i) := ⟨rfl, rfl, rfl, rfl, fun _ _ => rfl⟩
  have kept : ∀ f, s.readsFrame i (s.ctx i).frames f = true →
      (s.frameHeld i f || (s.ctx i).frames.getLast?.map Frame.ordinal = some f.ordinal) = true := fun f read => by
    rw [State.frameHeld_eq_readsFrame, read, Bool.true_or]
  have fewer : (((s.pruneFrames i).ctx i).frames.filter fun f => (s.pruneFrames i).frameHeld i f).length ≤
      ((s.ctx i).frames.filter fun f => s.frameHeld i f).length := by
    rw [State.frameHeld_eq_readsFrame, readers.readsFrame, State.frames_pruneFrames]
    exact (List.Sublist.length_le (List.monotone_filter_right _ fun f => State.readsFrame_dropSome kept)).trans
      (length_filter_dropSome_le _ _ _ _)
  unfold State.buffersHeld
  exact Nat.add_le_add_right (Nat.add_le_add_right fewer _) _

end Sys2Proof.Machine
end

section
namespace Sys2Proof.Machine

open Sys2Proof

/-! The start of a frame of a context that has none in progress (R85, R92). -/

theorem SameReaders.of_keeps {s t : State} {keys : List Nat} (h : Keeps s t keys) (below : ∀ k ∈ keys, k / 256 < 0x2400) :
    SameReaders s t := by
  have gen : t.gen = s.gen := (congrArg (fun u : State => u.gen) h.rest : (State.rest t).gen = (State.rest s).gen)
  refine ⟨h.vision, gen, h.ports, h.part, fun k high => h.raw (fun listed => ?_) fun lost => ?_⟩
  · have := below k listed
    omega
  · rw [lost] at high
    exact absurd high (by decide)

theorem State.buffersHeld_congr {s t : State} {i : Nat} (readers : SameReaders s t) (ctx : t.ctx i = s.ctx i) (slices : t.slices = s.slices)
    (csi : t.csiFrame? i = s.csiFrame? i) : t.buffersHeld i = s.buffersHeld i := by
  simp only [State.buffersHeld, State.frameHeld_eq_readsFrame, ctx, readers.readsFrame, State.decodingOf, slices, csi]

/-- A port's record put back. -/
theorem flatMap_put_get (m : List (Nat × CsiPort)) (c : Nat) :
    ((Assoc.put m c (Assoc.get m c {})).flatMap fun e => e.2.frames) = m.flatMap fun e => e.2.frames := by
  induction m with
  | nil => rfl
  | cons e r ih =>
    by_cases here : e.1 = c
    · simp [Assoc.put, Assoc.get, Assoc.find, here]
    · have same : Assoc.get (e :: r) c {} = Assoc.get r c {} := by simp [Assoc.get, Assoc.find, here]
      rw [same]
      simp [Assoc.put, here, ih]

theorem State.csiPartners_unpaired {s : State} (unpaired : s.activePairs = []) (i : Nat) : s.csiPartners i = [] := by
  simp only [State.csiPartners, unpaired, List.filter_nil, List.filterMap_nil]

/-- The frames of a port with those of one context taken out. -/
def State.csiWithout (s : State) (c i : Nat) : State :=
  { s with csi := Assoc.put s.csi c { s.csiPort c with frames := (s.csiPort c).frames.filter fun f => f.stream ≠ i } }

/-- A context ready for its next frame: data has come, and a buffer is given back where they are all in use. -/
def State.csiReady (s : State) (c i : Nat) : State := ((s.csiWithout c i).streamFlag i flagNoData false).pruneFrames i

/-- A frame that begins in a port. -/
def State.csiBegun (s : State) (c vc i : Nat) : State :=
  { s with csi := Assoc.put s.csi c { s.csiPort c with frames := (s.csiPort c).frames ++ [{ vc := vc, stream := i }] } }

section
variable {s : State} {c i : Nat} (absent : ∀ f ∈ (s.csiPort c).frames, f.stream ≠ i)
include absent

theorem State.csiWithout_absent : s.csiWithout c i = { s with csi := Assoc.put s.csi c (s.csiPort c) } := by
  have all : (s.csiPort c).frames.filter (fun f => f.stream ≠ i) = (s.csiPort c).frames :=
    List.filter_eq_self.2 fun f listed => by simpa using absent f listed
  rw [State.csiWithout, all]

theorem State.csiPort_csiReady : (s.csiReady c i).csiPort c = s.csiPort c := by
  have flagged : Keeps (s.csiWithout c i) ((s.csiWithout c i).streamFlag i flagNoData false) [Entry.streamFlags i] :=
    Keeps.streamFlag _ i _ _ (List.mem_singleton_self _)
  calc (s.csiReady c i).csiPort c
    _ = ((s.csiWithout c i).streamFlag i flagNoData false).csiPort c := rfl
    _ = (s.csiWithout c i).csiPort c := flagged.csiPort c
    _ = s.csiPort c := by rw [State.csiWithout_absent absent, State.csiPort_put]

theorem State.buffersHeld_csiReady_le (stream : i < 512) : (s.csiReady c i).buffersHeld i ≤ s.buffersHeld i := by
  have flagged : Keeps (s.csiWithout c i) ((s.csiWithout c i).streamFlag i flagNoData false) [Entry.streamFlags i] :=
    Keeps.streamFlag _ i _ _ (List.mem_singleton_self _)
  have below : ∀ k ∈ [Entry.streamFlags i], k / 256 < 0x2400 := by
    intro k listed
    rw [List.mem_singleton.1 listed, key_div _ (by decide)]
    omega
  have csi : (s.csiWithout c i).csiFrame? i = s.csiFrame? i := by
    rw [State.csiWithout_absent absent, State.csiFrame?, State.csiFrame?]
    exact congrArg (List.find? _) (flatMap_put_get s.csi c)
  refine (State.buffersHeld_pruneFrames_le _ i).trans ?_
  rw [State.buffersHeld_congr (.of_keeps flagged below) (flagged.ctx i) flagged.slices (by simp only [State.csiFrame?, flagged.csi]),
    State.buffersHeld_congr (s := s) (t := s.csiWithout c i) ⟨rfl, rfl, rfl, rfl, fun _ _ => rfl⟩ rfl rfl csi]

end

theorem Receives.csiReady (s : State) (c i : Nat) : Receives i (s.csiWithout c i) (s.csiReady c i) [Entry.streamFlags i] :=
  (Receives.of_keeps i (Keeps.streamFlag _ i _ _ (List.mem_singleton_self _))).trans (.pruneFrames _ i _)

theorem streamFlags_progress {i : Nat} (stream : i < 512) : ∀ k ∈ [Entry.streamFlags i], progressEntry k := fun k listed =>
  ratioKeys_progress stream k (by simp_all [ratioKeys])

/-- A frame begins where the context has none in progress and a buffer is free. -/
theorem State.csiBegin_absent {s : State} {c vc i : Nat} (stream : i < 512) (absent : ∀ f ∈ (s.csiPort c).frames, f.stream ≠ i)
    (unpaired : s.activePairs = []) (room : s.buffersHeld i < s.cfgN i (Entry.streamDecodedFrames i)) :
    s.csiBegin c vc i = (s.csiReady c i).csiBegun c vc i := by
  have ready := Receives.csiReady s c i
  have depth : (s.csiReady c i).cfgN i (Entry.streamDecodedFrames i) = s.cfgN i (Entry.streamDecodedFrames i) :=
    ready.cfgN (streamFlags_progress stream) i (mt (progressEntry_key (by decide)).1 (by omega))
  have pairs : (s.csiReady c i).activePairs = [] := (ready.activePairs (streamFlags_progress stream)).trans unpaired
  have free : ¬ (s.csiReady c i).cfgN i (Entry.streamDecodedFrames i) ≤ (s.csiReady c i).buffersHeld i := by
    have := State.buffersHeld_csiReady_le absent stream
    omega
  unfold State.csiBegin
  extract_lets r opened t0 t1 t2 t3 gone
  have closed : opened = false := List.any_eq_false.2 fun f listed => by simpa using absent f listed
  have unopened : t1 = t0 := if_neg (by simp [closed])
  have made : t3 = s.csiReady c i := by
    show (t1.streamFlag i flagNoData false).pruneFrames i = _
    rw [unopened]
    rfl
  have alone : gone = [] := by
    show (t3.csiPartners i).filter _ = []
    rw [made, State.csiPartners_unpaired pairs, List.filter_nil]
  rw [if_neg (by rw [made]; exact free), alone]
  exact congrArg (fun t : State => t.csiBegun c vc i) made

end Sys2Proof.Machine
end

section
namespace Sys2Proof.Machine

open Sys2Proof

/-! What the start and the lines of a frame show (R91, R92). -/

theorem Keeps.withCsiStreams {s t : State} {keys : List Nat} (h : Keeps s t keys) (x : List (Nat × CsiPort)) (y : List (Nat × Ctx)) :
    Keeps { s with csi := x, streams := y } { t with csi := x, streams := y } keys :=
  h.update (fun u => { u with csi := x, streams := y }) (fun _ _ => rfl) (fun _ => rfl) (fun _ => rfl) (fun _ => rfl) fun _ => rfl

theorem State.csiPacket_frameStart {s : State} {c : Fin 4} {vc i : Nat} (active : s.n (Entry.csiState c) = 1)
    (named : s.csiStreams c vc = [i]) : s.csiPacket c (.frameStart vc 0) = s.csiBegin c vc i := by
  simp [State.csiPacket, active, named, State.each]

/-- The clause of O23 on a frame start. -/
theorem State.csiBegun_shows {s : State} {c vc i : Nat} (absent : ∀ f ∈ (s.csiPort c).frames, f.stream ≠ i) :
    let t := (s.csiReady c i).csiBegun c vc i
    (t.csiPort c).frames = (s.csiPort c).frames ++ [{ vc := vc, stream := i }] ∧ t.hasFlag i flagNoData = false ∧
      (∀ j, j ≠ i → t.ctx j = s.ctx j) ∧ t.ctx i = { s.ctx i with frames := (t.ctx i).frames } ∧
      (∀ f ∈ (t.ctx i).frames, f ∈ (s.ctx i).frames) ∧ Keeps { s with csi := t.csi, streams := t.streams } t [Entry.streamFlags i] := by
  intro t
  have flagged : Keeps (s.csiWithout c i) ((s.csiWithout c i).streamFlag i flagNoData false) [Entry.streamFlags i] :=
    Keeps.streamFlag _ i _ _ (List.mem_singleton_self _)
  have context : ((s.csiWithout c i).streamFlag i flagNoData false).ctx i = s.ctx i := flagged.ctx i
  refine ⟨?_, ?_, (Receives.csiReady s c i).others, ?_, ?_, flagged.withCsiStreams t.csi t.streams⟩
  · show (((s.csiReady c i).csiBegun c vc i).csiPort c).frames = _
    rw [State.csiBegun, State.csiPort_put, State.csiPort_csiReady absent]
  · show ((s.csiWithout c i).streamFlag i flagNoData false).hasFlag i flagNoData = false
    rw [State.hasFlag_streamFlag, if_pos rfl]
  · show (s.csiReady c i).ctx i = { s.ctx i with frames := ((s.csiReady c i).ctx i).frames }
    rw [State.csiReady, State.pruneFrames, State.ctx_setCtx, context]
  · intro f listed
    have kept : f ∈ ((s.csiReady c i).ctx i).frames := listed
    rw [State.csiReady, State.frames_pruneFrames, context] at kept
    exact mem_of_mem_dropSome kept

/-- A line of each frame in progress that takes it. -/
def CsiFrame.withLine (l : CsiLine) (f : CsiFrame) : CsiFrame := { f with lines := f.lines ++ [l] }

theorem State.csiApart_unpaired {s : State} (unpaired : s.activePairs = []) (c i : Nat) : s.csiApart c i = s := by
  unfold State.csiApart
  split
  · rfl
  · split
    · rfl
    · rw [State.csiPartners_unpaired unpaired]
      rfl

/-- The line of one frame, where the port's lines are not full and no pair reads it. -/
theorem State.csiLine_taken {s : State} {c : Fin 4} {l : CsiLine} {i : Nat} (active : s.n (Entry.csiState c) = 1) (stream : i < 512)
    (unpaired : s.activePairs = []) (taken : s.csiTaken c l.vc l.dataType = [i]) (begun : ∃ f ∈ (s.csiPort c).frames, f.stream = i)
    (short : linePixels l ≤ 4096) (room : ((s.csiPort c).frames.map s.csiWaiting).foldl (· + ·) 0 + s.csiEndedWaiting c < 64) :
    s.csiLine c l = ((s.streamFlag i flagNoData false).amendCsi c i (CsiFrame.withLine l)).showEngines := by
  have one : ((s.csiTaken c l.vc l.dataType).filter fun i => (s.csiPort c).frames.any fun f => f.stream = i) = [i] := by
    obtain ⟨f, listed, own⟩ := begun
    have found : (s.csiPort c).frames.any (fun f => f.stream = i) = true := List.any_eq_true.2 ⟨f, listed, by simp [own]⟩
    rw [taken, List.filter_singleton, found]
    rfl
  have flagged := Receives.of_keeps i (Keeps.streamFlag s i flagNoData false (List.mem_singleton_self _))
  have pairs : ((s.streamFlag i flagNoData false).amendCsi c i (CsiFrame.withLine l)).activePairs = [] :=
    (flagged.activePairs (streamFlags_progress stream)).trans unpaired
  unfold State.csiLine
  rw [if_neg (by simp [active])]
  extract_lets r names full
  have named : names = [i] := one
  have fits : full = False := eq_false (Nat.not_le.2 room)
  rw [named, if_neg (by simp), if_neg (by rw [fits]; exact not_false)]
  simp only [State.each, List.foldl_cons, List.foldl_nil, if_neg (Nat.not_lt.2 short)]
  exact congrArg State.showEngines (State.csiApart_unpaired pairs c i)

/-- The clause of O23 on a line. -/
theorem State.lineAdded_shows (s : State) (c i : Nat) (stream : i < 512) (l : CsiLine) :
    let t := ((s.streamFlag i flagNoData false).amendCsi c i (CsiFrame.withLine l)).showEngines
    (t.csiPort c).frames = (s.csiPort c).frames.map (fun f => if f.stream = i then { f with lines := f.lines ++ [l] } else f) ∧
      t.hasFlag i flagNoData = false ∧
      Keeps { s with csi := t.csi } t (Entry.streamFlags i :: (List.range 4).map Entry.stereoState) := by
  intro t
  have flagged : Keeps s (s.streamFlag i flagNoData false) [Entry.streamFlags i] := Keeps.streamFlag s i _ _ (List.mem_singleton_self _)
  have shown : Keeps ((s.streamFlag i flagNoData false).amendCsi c i (CsiFrame.withLine l)) t stereoStates := Keeps.showEngines _
  refine ⟨?_, ?_, ?_⟩
  · rw [shown.csiPort, State.amendCsi_frames, flagged.csiPort]
    rfl
  · rw [shown.entries.hasFlag fun listed => streamKey_not_mem_engineKeys stream (by decide) (List.mem_append_right _ listed)]
    show (s.streamFlag i flagNoData false).hasFlag i flagNoData = false
    rw [State.hasFlag_streamFlag, if_pos rfl]
  · rw [shown.csi]
    exact ((flagged.withCsi _).mono (by simp)).trans (shown.mono fun _ => List.mem_cons_of_mem _)

end Sys2Proof.Machine
end

section
namespace Sys2Proof.Machine

open Sys2Proof

/-! The end of a frame (R83, R92). -/

/-- A frame's end counted by its port (R90). -/
def State.csiCounted (s : State) (c errors : Nat) : State :=
  (if errors = 1 then s.bump (Entry.csiEccCorrected c) else s).bump (Entry.csiFramesReceived c)

/-- The frame of a context taken from its port, and counted by the context. -/
def State.csiClosed (s : State) (c i : Nat) : State :=
  (s.csiWithout c i).setCtx i { s.ctx i with csiCount := (s.ctx i).csiCount + 1 }

/-- The picture of a frame's lines (R83). -/
def State.csiPicture (s : State) (i : Nat) (f : CsiFrame) : Picture :=
  convertCsi (s.cfgN i (Entry.streamDataType i)) (s.cfgN i (Entry.streamBayerOrder i)) (s.cfgB i (Entry.streamColourMatrix i))
    (f.lines.map CsiLine.codes)

section
variable (s : State) (c : Fin 4) (errors : Nat)

theorem Keeps.csiCorrected : Keeps s (if errors = 1 then s.bump (Entry.csiEccCorrected c) else s) [Entry.csiEccCorrected c] := by
  split
  · exact Keeps.bump s _ (List.mem_singleton_self _)
  · exact Keeps.refl s _

theorem Keeps.csiCounted : Keeps s (s.csiCounted c errors) [Entry.csiFramesReceived c, Entry.csiEccCorrected c] :=
  ((Keeps.csiCorrected s c errors).mono (by simp)).trans (Keeps.bump _ _ (by simp))

theorem csiCounted_outside : ∀ k ∈ [Entry.csiFramesReceived c, Entry.csiEccCorrected c], 0x2200 ≤ k / 256 :=
  csiKeys_outside c (subs := [0x0A, 0x06]) (by decide)

theorem State.n_csiCounted_frames :
    (s.csiCounted c errors).n (Entry.csiFramesReceived c) = (s.n (Entry.csiFramesReceived c) + 1) % 2 ^ 32 := by
  rw [State.csiCounted, State.n_bump_csi _ c (by decide), (Keeps.csiCorrected s c errors).n (by simp) (ne_lost_of_record (by omega))]

theorem State.n_csiCounted_corrected :
    (s.csiCounted c errors).n (Entry.csiEccCorrected c) =
      if errors = 1 then (s.n (Entry.csiEccCorrected c) + 1) % 2 ^ 32 else s.n (Entry.csiEccCorrected c) := by
  rw [State.csiCounted, State.n_bump_csi_ne _ _ (by decide)]
  split
  · exact s.n_bump_csi c (by decide)
  · rfl

end

/-- The end of the one frame of a virtual channel. -/
theorem State.csiFrameEnds_named {s : State} {c : Fin 4} {vc errors i : Nat} {f : CsiFrame} (active : s.n (Entry.csiState c) = 1)
    (few : errors < 2) (named : s.csiStreams c vc = [i]) (one : (s.csiPort c).frames.filter (fun g => g.vc = vc) = [f])
    (own : f.stream = i) (lines : List Nat) :
    s.csiFrameEnds c vc errors lines = ((s.csiCounted c errors).csiEnds c i f lines).showEngines := by
  have corrected := Keeps.csiCorrected s c errors
  have streams := (corrected.csiStreams (csiKeys_outside c (subs := [0x06]) (by decide)) c vc).trans named
  unfold State.csiFrameEnds
  rw [if_neg (by simp [active]), if_neg (Nat.not_le.2 few)]
  extract_lets t u
  have present : (t.csiStreams c vc).isEmpty = false := congrArg List.isEmpty streams
  have frames : (t.csiPort c).frames.filter (fun g => g.vc = vc) = [f] := by
    show List.filter _ (((if errors = 1 then _ else s : State)).csiPort c).frames = [f]
    rw [corrected.csiPort, one]
  rw [present, if_neg Bool.false_ne_true, frames, State.each_singleton, own]
  rfl

/-- The end of a frame of one context: lossy, too big, or true. -/
theorem State.csiEnds_closed (s : State) (c i : Nat) (f : CsiFrame) (lines : List Nat) :
    s.csiEnds c i f lines =
      if f.lossy || (s.csiClosed c i).tooBig i ((s.csiClosed c i).csiPicture i f) then
        ((s.csiClosed c i).formatMarked i ((s.csiClosed c i).tooBig i ((s.csiClosed c i).csiPicture i f))).csiLost i
      else
        (s.csiClosed c i).trueFrame i ((s.ctx i).csiCount + 1) ((s.csiClosed c i).arrivalNow i lines)
          ((s.csiClosed c i).csiPicture i f) [] f.alone := by
  unfold State.csiEnds
  extract_lets r t x u q big v
  cases size : big
  · have same : v = u := if_neg (by simp [size])
    have fits : (s.csiClosed c i).tooBig i ((s.csiClosed c i).csiPicture i f) = false := size
    rw [same, fits]
    rfl
  · have same : v = u.streamFlag i flagFormat true := if_pos size
    have large : (s.csiClosed c i).tooBig i ((s.csiClosed c i).csiPicture i f) = true := size
    rw [same, large, Bool.or_true, if_pos rfl, if_pos rfl]
    rfl

/-! The context of a frame that has ended goes by the entries and the configuration that it had. -/

section
variable (s : State) (c i : Nat)

theorem State.cfg_csiClosed (k : Nat) : (s.csiClosed c i).cfg i k = s.cfg i k := by
  rw [State.cfg, State.csiClosed, State.ctx_setCtx]
  rfl

theorem State.streamPartition_csiClosed (j : Nat) : (s.csiClosed c i).streamPartition j = s.streamPartition j := rfl

theorem State.anchorPort_csiClosed (p : Nat) : (s.csiClosed c i).anchorPort p = s.anchorPort p := rfl

theorem State.csiPort_csiClosed : ((s.csiClosed c i).csiPort c).frames = (s.csiPort c).frames.filter fun f => f.stream ≠ i := by
  show ((s.csiWithout c i).csiPort c).frames = _
  rw [State.csiWithout, State.csiPort_put]

end

section
variable {s : State} {c : Fin 4} {errors i : Nat} (stream : i < 512)
include stream

theorem State.cfg_csiCounted {k : Nat} (own : k / 256 = 0x2000 + i) : ((s.csiCounted c errors).csiClosed c i).cfg i k = s.cfg i k :=
  (State.cfg_csiClosed _ c i k).trans ((Keeps.csiCounted s c errors).cfg_stream (csiCounted_outside c) stream own)

theorem State.csiPicture_csiCounted (f : CsiFrame) : ((s.csiCounted c errors).csiClosed c i).csiPicture i f = s.csiPicture i f := by
  have cfg (k : Nat) (own : k / 256 = 0x2000 + i) := State.cfg_csiCounted (s := s) (c := c) (errors := errors) stream own
  simp only [State.csiPicture, State.cfgN, State.cfgB, cfg (Entry.streamDataType i) (key_div _ (by decide)),
    cfg (Entry.streamBayerOrder i) (key_div _ (by decide)), cfg (Entry.streamColourMatrix i) (key_div _ (by decide))]

theorem State.tooBig_csiCounted (q : Picture) : ((s.csiCounted c errors).csiClosed c i).tooBig i q = s.tooBig i q := by
  have cfgN (k : Nat) (own : k / 256 = 0x2000 + i) : ((s.csiCounted c errors).csiClosed c i).cfgN i k = s.cfgN i k :=
    congrArg (fun v : Value => v.toInt.toNat) (State.cfg_csiCounted stream own)
  simp only [State.tooBig, cfgN (Entry.streamMaxWidth i) (key_div _ (by decide)), cfgN (Entry.streamMaxHeight i) (key_div _ (by decide))]

theorem State.n_csiClosed {a : Nat} (small : a < 256) :
    ((s.csiCounted c errors).csiClosed c i).n (key (0x2000 + i) a) = s.n (key (0x2000 + i) a) :=
  State.n_congr ((Keeps.csiCounted s c errors).raw_stream (csiCounted_outside c) stream (key_div _ small))

theorem State.hasFlag_csiClosed (bit : Nat) : ((s.csiCounted c errors).csiClosed c i).hasFlag i bit = s.hasFlag i bit := by
  rw [State.hasFlag, State.n_csiClosed stream (by decide)]
  rfl

end

theorem csiCounted_progress (c : Fin 4) : ∀ k ∈ [Entry.csiFramesReceived c, Entry.csiEccCorrected c], progressEntry k := by
  intro k listed
  simp only [List.mem_cons, List.not_mem_nil, or_false] at listed
  rcases listed with rfl | rfl <;> exact (progressEntry_key (by decide)).2 (.inl ⟨by omega, fun _ _ => by omega⟩)

section
variable {s : State} {c : Fin 4} {errors i : Nat}

theorem State.activePairs_csiClosed (unpaired : s.activePairs = []) : ((s.csiCounted c errors).csiClosed c i).activePairs = [] :=
  ((Receives.of_keeps i (Keeps.csiCounted s c errors)).activePairs (csiCounted_progress c)).trans unpaired

theorem State.unadapting_csiClosed (unadapting : s.unadapting) : ((s.csiCounted c errors).csiClosed c i).unadapting :=
  State.unadapting_congr (Keeps.csiCounted s c errors).adapt unadapting

/-- Where no port anchors the partition, nothing stamps the frame (R77). -/
theorem State.arrivalNow_csiClosed (stream : i < 512) (anchorless : s.anchorPort (s.streamPartition i) = none) (lines : List Nat) :
    ((s.csiCounted c errors).csiClosed c i).arrivalNow i lines = [] := by
  have counted := Receives.of_keeps i (Keeps.csiCounted s c errors)
  rw [State.arrivalNow, State.streamPartition_csiClosed, State.anchorPort_csiClosed,
    counted.streamPartition (csiCounted_progress c) stream, counted.anchorPort (csiCounted_progress c), anchorless]

/-- A lost frame of a CSI-2 context, which taints nothing. -/
theorem Receives.csiLost {s : State} (unadapting : s.unadapting) (i : Nat) (bad : Bool) :
    Receives i s ((s.formatMarked i bad).csiLost i) (lostKeys i ++ historyResets) :=
  ((Receives.of_keeps i (Keeps.formatMarked s i bad)).mono (by simp [lostKeys])).trans
    (lostFrame (State.unadapting_formatMarked unadapting bad) true false)

/-- What follows the end of a frame leaves the port's counters and its other frames. -/
theorem Receives.csiEnds (stream : i < 512) (unpaired : s.activePairs = []) (unadapting : s.unadapting) (f : CsiFrame) (lines : List Nat) :
    Receives i ((s.csiCounted c errors).csiClosed c i) (((s.csiCounted c errors).csiEnds c i f lines).showEngines) (pictureKeys i) := by
  have ended : Receives i ((s.csiCounted c errors).csiClosed c i) ((s.csiCounted c errors).csiEnds c i f lines) (pictureKeys i) := by
    rw [State.csiEnds_closed]
    split
    · exact (Receives.csiLost (State.unadapting_csiClosed unadapting) i _).mono fun _ listed =>
        List.mem_append_left _ (List.mem_append_right _ listed)
    · exact (Receives.trueFrame stream (State.activePairs_csiClosed unpaired) (State.unadapting_csiClosed unadapting) _ _ _ _ _).mono
        fun _ => List.mem_append_right _
  exact ended.trans ((Receives.of_keeps i (Keeps.showEngines _)).mono fun _ listed => by simp [pictureKeys, trueKeys, engineKeys, listed])

end

/-- The closing of a frame changes no entry and no memory. -/
theorem State.csiClosed_kept (s : State) (c : Fin 4) (errors i : Nat) :
    EntriesKept s ((s.csiCounted c errors).csiClosed c i) [Entry.csiFramesReceived c, Entry.csiEccCorrected c] ∧
      MemoryKept s ((s.csiCounted c errors).csiClosed c i) :=
  ⟨(Keeps.csiCounted s c errors).entries, (Keeps.csiCounted s c errors).memoryKept⟩

/-- The clause of O23 on the end of any frame. -/
theorem State.csiEnds_shows {s : State} {c : Fin 4} {errors i : Nat} (stream : i < 512) (unpaired : s.activePairs = [])
    (unadapting : s.unadapting) (f : CsiFrame) (lines : List Nat) :
    let t := ((s.csiCounted c errors).csiEnds c i f lines).showEngines
    t.n (Entry.csiFramesReceived c) = (s.n (Entry.csiFramesReceived c) + 1) % 2 ^ 32 ∧
      t.n (Entry.csiEccCorrected c) = (if errors = 1 then (s.n (Entry.csiEccCorrected c) + 1) % 2 ^ 32
        else s.n (Entry.csiEccCorrected c)) ∧
      (t.csiPort c).frames = (s.csiPort c).frames.filter (fun g => g.stream ≠ i) ∧ MemoryKept s t := by
  have ends := Receives.csiEnds (c := c) (errors := errors) stream unpaired unadapting f lines
  have port {a : Nat} (small : a < 256) := ends.entries.n (key_not_mem_pictureKeys (x := 0x2210 + c.val) stream (by omega) (by omega) small)
    (ne_lost_of_record (by omega))
  refine ⟨(port (by decide)).trans (s.n_csiCounted_frames c errors), (port (by decide)).trans (s.n_csiCounted_corrected c errors), ?_, ?_⟩
  · rw [State.csiPort, ends.csi]
    exact (State.csiPort_csiClosed _ c i).trans (by rw [(Keeps.csiCounted s c errors).csiPort])
  · exact fun a => (ends.memory a).trans ((s.csiClosed_kept c errors i).2 a)

end Sys2Proof.Machine
end

section
namespace Sys2Proof.Machine

open Sys2Proof

/-! The frames that O23 speaks of. -/

section
variable {s : State} {c : Fin 4} {errors i : Nat} (stream : i < 512)
include stream

/-- The engines shown again leave the entries of streams. -/
theorem Keeps.showEngines_stream (t : State) {a : Nat} (small : a < 256) : t.showEngines.n (key (0x2000 + i) a) = t.n (key (0x2000 + i) a) :=
  (Keeps.showEngines t).n (fun listed => streamKey_not_mem_engineKeys stream small (List.mem_append_right _ listed))
    (ne_lost_of_record (by omega))

theorem State.hasFlag_showEngines (t : State) (bit : Nat) : t.showEngines.hasFlag i bit = t.hasFlag i bit := by
  rw [State.hasFlag, Keeps.showEngines_stream stream t (by decide)]
  rfl

/-- The clause of O23 on the end of a lossy frame. -/
theorem State.csiEnds_lossy {f : CsiFrame} (unadapting : s.unadapting) (lossy : f.lossy = true) (lines : List Nat) :
    let t := ((s.csiCounted c errors).csiEnds c i f lines).showEngines
    t.n (Entry.streamFramesLossy i) = (s.n (Entry.streamFramesLossy i) + 1) % 2 ^ 32 ∧ t.hasFlag i flagLossy = true ∧
      t.hasFlag i flagTainted = s.hasFlag i flagTainted ∧ t.n (Entry.streamFramesTrue i) = s.n (Entry.streamFramesTrue i) ∧
      EntriesKept s t ([Entry.csiFramesReceived c, Entry.csiEccCorrected c, Entry.streamFramesLossy i, Entry.streamFlags i] ++
        (List.range 16).map Entry.portUpHistoryResets ++ (List.range 4).map Entry.stereoState) := by
  have idle := State.unadapting_csiClosed (c := c) (errors := errors) (i := i) unadapting
  have entries := (State.csiClosed_kept s c errors i).1
  have counters {a : Nat} (small : a < 256) := State.n_csiClosed (s := s) (c := c) (errors := errors) stream small
  have flags (bit : Nat) := State.hasFlag_csiClosed (s := s) (c := c) (errors := errors) stream bit
  rw [State.csiEnds_closed, lossy, Bool.true_or, if_pos rfl]
  generalize (State.csiClosed _ _ _).tooBig i _ = bad
  generalize (s.csiCounted c errors).csiClosed c i = t at *
  have marked := State.unadapting_formatMarked (i := i) idle bad
  have lost := Receives.csiLost idle i bad
  intro u
  refine ⟨?_, ?_, ?_, ?_, ?_⟩
  · rw [Keeps.showEngines_stream stream _ (by decide), State.csiLost, State.n_lostFrame_frames marked true false stream,
      (Keeps.formatMarked t i bad).n (by simp) (ne_lost_of_record (by omega)), counters (by decide)]
  · rw [State.hasFlag_showEngines stream, State.csiLost, State.hasFlag_lostFrame marked true false stream]
    simp
  · rw [State.hasFlag_showEngines stream, State.csiLost, State.hasFlag_lostFrame marked true false stream, State.hasFlag_formatMarked, flags]
    simp [flagLossy, flagTainted, flagFormat]
  · have kept : Entry.streamFramesTrue i ∉ lostKeys i ++ historyResets := fun listed =>
      (List.mem_append.1 listed).elim (by simp [lostKeys]) (streamKey_not_mem_historyResets stream (by decide))
    rw [Keeps.showEngines_stream stream _ (by decide), lost.entries.n kept (ne_lost_of_record (by omega)), counters (by decide)]
  · refine ((entries.trans lost.entries).trans (Keeps.showEngines _).entries).mono fun k listed => ?_
    simpa [lostKeys, historyResets, stereoStates, or_assoc] using listed

/-- The clause of O23 on the end of a true frame. -/
theorem State.csiEnds_true {f : CsiFrame} (unpaired : s.activePairs = []) (whole : f.lossy = false)
    (anchorless : s.anchorPort (s.streamPartition i) = none) (fits : s.tooBig i (s.csiPicture i f) = false)
    (running : s.streamOpen i = true) (lines : List Nat) :
    let t := ((s.csiCounted c errors).csiEnds c i f lines).showEngines
    t.n (Entry.streamFramesTrue i) = (s.n (Entry.streamFramesTrue i) + 1) % 2 ^ 32 ∧ t.streamState i = 2 ∧
      EntriesKept s t ([Entry.csiFramesReceived c, Entry.csiEccCorrected c, Entry.streamFramesTrue i, Entry.streamFlags i,
        Entry.streamState i, Entry.visionFlowDemand, Entry.visionFlowCapacity, Entry.visionFlowServedLoad,
        Entry.visionFlowServedMap] ++ (List.range 4).map Entry.stereoState) := by
  have pairs := State.activePairs_csiClosed (c := c) (errors := errors) (i := i) unpaired
  have entries := (State.csiClosed_kept s c errors i).1
  have counters {a : Nat} (small : a < 256) := State.n_csiClosed (s := s) (c := c) (errors := errors) stream small
  have small : ((s.csiCounted c errors).csiClosed c i).tooBig i (((s.csiCounted c errors).csiClosed c i).csiPicture i f) = false := by
    rw [State.csiPicture_csiCounted stream, State.tooBig_csiCounted stream, fits]
  rw [State.csiEnds_closed, whole, small, Bool.or_false, if_neg Bool.false_ne_true, State.arrivalNow_csiClosed stream anchorless,
    State.trueFrame_unstamped]
  generalize ((s.csiCounted c errors).ctx i).csiCount + 1 = timestamp
  generalize (s.csiCounted c errors).csiClosed c i = t at *
  intro u
  refine ⟨?_, ?_, ?_⟩
  · rw [Keeps.showEngines_stream stream _ (by decide), State.n_trueCounted_frames stream pairs, counters (by decide)]
  · have before : t.streamState i = s.streamState i := counters (by decide)
    have live : s.streamState i = 1 ∨ s.streamState i = 2 := by simpa [State.streamOpen] using running
    have after : u.streamState i = if s.streamState i = 1 then 2 else s.streamState i :=
      (Keeps.showEngines_stream stream _ (by decide)).trans ((State.streamState_trueCounted stream pairs timestamp).trans (by rw [before]))
    rw [after]
    rcases live with starting | live
    · rw [if_pos starting]
    · rw [live]
      rfl
  · refine ((entries.trans (Receives.trueCounted stream pairs timestamp).entries).trans (Keeps.showEngines _).entries).mono
      fun k listed => ?_
    rcases List.mem_append.1 listed with counted | engine
    · exact counted
    · exact List.mem_append_right _ engine

end

/-- A context that a port's virtual channel names runs. -/
theorem State.streamOpen_of_csiStreams {s : State} {c vc i : Nat} (named : s.csiStreams c vc = [i]) : s.streamOpen i = true := by
  have listed : i ∈ s.csiStreams c vc := named ▸ List.mem_singleton_self i
  have running := (List.mem_filter.1 listed).2
  simp only [Bool.and_eq_true] at running
  exact running.1.1

/-- The clauses of O23 on a port that is not active, and on the port's own changes. -/
theorem State.csiPort_answered (s : State) (c : Fin 4) (vc : BitVec 4) (q : CsiPacket) (l : CsiLine) (errors : Nat) (lines : List Nat) :
    (s.n (Entry.csiState c) ≠ 1 → (∃ t, exec (.csiPacketReceived c q) s = .next t ∧ Keeps s t []) ∧
        (∃ t, exec (.csiLineReceived c l) s = .next t ∧ Keeps s t []) ∧
        (∃ t, exec (.csiFrameEnd c vc ⟨errors, lines⟩) s = .next t ∧ Keeps s t []) ∧
        ∃ t, exec (.csiPortDown c) s = .next t ∧ Keeps s t []) ∧
      (s.running = true → s.n (Entry.csiState c) = 0 → s.inForceN (Entry.csiEnable c) = 1 → s.fenced ⟨.csi, c⟩ = false →
        ∃ t, exec (.csiPortActive c) s = .next t ∧ t.n (Entry.csiState c) = 1 ∧ Keeps s t [Entry.csiState c]) := by
  refine ⟨fun idle => ?_, fun running down enabled free => ?_⟩
  · obtain ⟨packet, line, ended, lost⟩ := State.csi_inactive idle q l vc.toNat errors lines
    refine ⟨⟨s.seal (s.csiPacket c q), rfl, ?_⟩, ⟨s.seal (s.csiLine c l), rfl, ?_⟩,
      ⟨s.seal (s.csiFrameEnds c vc.toNat errors lines), rfl, ?_⟩, s.seal (s.csiDown c), rfl, ?_⟩
    · rw [packet]
      exact Keeps.seal s s []
    · rw [line]
      exact Keeps.seal s s []
    · rw [ended]
      exact Keeps.seal s s []
    · rw [lost]
      exact Keeps.seal s s []
  · refine ⟨s.seal (s.ifRunning (s.csiUp c)), rfl, ?_⟩
    rw [State.ifRunning, if_pos running, State.csiUp_shows down enabled free, State.seal_n]
    exact ⟨State.n_setN s _ _ (ne_lost_of_record (by omega)), (Keeps.setN s _ _ (List.mem_singleton_self _)).trans (Keeps.seal s _ _)⟩

section
variable {s : State} {c : Fin 4} (active : s.n (Entry.csiState c) = 1)
include active

theorem State.csiPortDown_answered :
    ∃ t, exec (.csiPortDown c) s = .next t ∧ t.n (Entry.csiState c) = 0 ∧
      (t.csiPort c).frames = (s.csiPort c).frames.map (fun f => { f with lossy := true }) ∧
      Keeps { s with csi := t.csi } t [Entry.csiState c] := by
  obtain ⟨down, frames, kept⟩ := State.csiDown_shows active
  exact ⟨s.seal (s.csiDown c), rfl, down, frames, kept.trans (Keeps.seal s _ _)⟩

/-- A packet whose header cannot be corrected (R89). -/
theorem State.csiUncorrectable_answered (vc : BitVec 4) (errors : Nat) (lines : List Nat) :
    (∃ t, exec (.csiPacketReceived c (.lineStart vc.toNat 2)) s = .next t ∧
        t.n (Entry.csiPacketsDropped c) = (s.n (Entry.csiPacketsDropped c) + 1) % 2 ^ 32 ∧ Keeps s t [Entry.csiPacketsDropped c]) ∧
      (2 ≤ errors → ∃ t, exec (.csiFrameEnd c vc ⟨errors, lines⟩) s = .next t ∧
        t.n (Entry.csiPacketsDropped c) = (s.n (Entry.csiPacketsDropped c) + 1) % 2 ^ 32 ∧ Keeps s t [Entry.csiPacketsDropped c]) := by
  obtain ⟨dropped, kept⟩ := State.csiDrop_shows s c
  refine ⟨⟨s.seal (s.csiPacket c (.lineStart vc.toNat 2)), rfl, ?_⟩,
    fun many => ⟨s.seal (s.csiFrameEnds c vc.toNat errors lines), rfl, ?_⟩⟩
  · rw [State.csiPacket_uncorrectable active _ _ rfl, State.seal_n]
    exact ⟨dropped, kept.trans (Keeps.seal s _ _)⟩
  · rw [State.csiFrameEnds_uncorrectable active many, State.seal_n]
    exact ⟨dropped, kept.trans (Keeps.seal s _ _)⟩

/-- A packet of no context, with a corrected header. -/
theorem State.csiUnnamed_answered {vc ty : Nat} (unnamed : s.csiTaken c vc ty = []) (pixels : Nat) (crcOk : Bool) :
    ∃ t, exec (.csiPacketReceived c (.longPacket vc ty 1 crcOk pixels)) s = .next t ∧
      t.n (Entry.csiPacketsDropped c) = (s.n (Entry.csiPacketsDropped c) + 1) % 2 ^ 32 ∧
      t.n (Entry.csiEccCorrected c) = (s.n (Entry.csiEccCorrected c) + 1) % 2 ^ 32 ∧
      Keeps s t [Entry.csiPacketsDropped c, Entry.csiEccCorrected c] := by
  obtain ⟨dropped, kept⟩ := State.csiDrop_shows (s.bump (Entry.csiEccCorrected c)) c
  refine ⟨s.seal (s.csiPacket c (.longPacket vc ty 1 crcOk pixels)), rfl, ?_⟩
  rw [State.csiPacket_unnamed active unnamed, State.seal_n, State.seal_n]
  refine ⟨?_, ?_, ((Keeps.bump s _ (by simp)).trans (kept.mono (by simp))).trans (Keeps.seal s _ _)⟩
  · rw [dropped, State.n_bump_csi_ne s c (by decide)]
  · rw [State.csiDrop, State.n_bump_csi_ne _ c (by decide), State.n_bump_csi s c (by decide)]

/-- A bad checksum of a packet that one context takes. -/
theorem State.csiBadCrc_answered {vc ty i : Nat} (taken : s.csiTaken c vc ty = [i]) (pixels : Nat) :
    ∃ t, exec (.csiPacketReceived c (.longPacket vc ty 0 false pixels)) s = .next t ∧
      t.n (Entry.csiCrcErrors c) = (s.n (Entry.csiCrcErrors c) + 1) % 2 ^ 32 ∧
      t.n (Entry.csiPacketsDropped c) = (s.n (Entry.csiPacketsDropped c) + 1) % 2 ^ 32 ∧
      (t.csiPort c).frames = (s.csiPort c).frames.map (fun f => if f.stream = i then { f with lossy := true } else f) ∧
      Keeps { s with csi := t.csi } t [Entry.csiCrcErrors c, Entry.csiPacketsDropped c] := by
  obtain ⟨dropped, kept⟩ := State.csiDrop_shows (s.bump (Entry.csiCrcErrors c)) c
  have counted : Keeps s ((s.bump (Entry.csiCrcErrors c)).csiDrop c) [Entry.csiCrcErrors c, Entry.csiPacketsDropped c] :=
    (Keeps.bump s _ (by simp)).trans (kept.mono (by simp))
  have errors : ((s.bump (Entry.csiCrcErrors c)).csiDrop c).n (Entry.csiCrcErrors c) = (s.n (Entry.csiCrcErrors c) + 1) % 2 ^ 32 := by
    rw [State.csiDrop, State.n_bump_csi_ne _ c (by decide), State.n_bump_csi s c (by decide)]
  rw [State.n_bump_csi_ne s c (by decide)] at dropped
  refine ⟨s.seal (s.csiPacket c (.longPacket vc ty 0 false pixels)), rfl, ?_⟩
  rw [State.csiPacket_badCrc active taken]
  generalize (s.bump (Entry.csiCrcErrors c)).csiDrop c = t at *
  refine ⟨errors, dropped, ?_, (counted.withCsi _).trans (Keeps.seal s _ _)⟩
  rw [State.seal_csiPort, State.amendCsi_frames, counted.csiPort]
  rfl

/-- A frame that begins. -/
theorem State.csiFrameStart_answered {vc : BitVec 4} {i : Nat} (named : s.csiStreams c vc.toNat = [i]) (stream : i < 512)
    (unpaired : s.activePairs = []) (absent : ∀ f ∈ (s.csiPort c).frames, f.stream ≠ i)
    (room : s.buffersHeld i < s.cfgN i (Entry.streamDecodedFrames i)) :
    ∃ t, exec (.csiPacketReceived c (.frameStart vc.toNat 0)) s = .next t ∧
      (t.csiPort c).frames = (s.csiPort c).frames ++ [{ vc := vc.toNat, stream := i }] ∧
      t.hasFlag i flagNoData = false ∧ (∀ j, j ≠ i → t.ctx j = s.ctx j) ∧
      t.ctx i = { s.ctx i with frames := (t.ctx i).frames } ∧ (∀ f ∈ (t.ctx i).frames, f ∈ (s.ctx i).frames) ∧
      Keeps { s with csi := t.csi, streams := t.streams } t [Entry.streamFlags i] := by
  obtain ⟨frames, data, others, same, fewer, kept⟩ := State.csiBegun_shows (vc := vc.toNat) absent
  refine ⟨s.seal (s.csiPacket c (.frameStart vc.toNat 0)), rfl, ?_⟩
  rw [State.csiPacket_frameStart active named, State.csiBegin_absent stream absent unpaired room]
  exact ⟨frames, data, others, same, fewer, kept.trans (Keeps.seal s _ _)⟩

/-- A line of a frame in progress. -/
theorem State.csiLine_answered {l : CsiLine} {i : Nat} (stream : i < 512) (unpaired : s.activePairs = [])
    (taken : s.csiTaken c l.vc l.dataType = [i]) (begun : ∃ f ∈ (s.csiPort c).frames, f.stream = i) (short : linePixels l ≤ 4096)
    (room : ((s.csiPort c).frames.map s.csiWaiting).foldl (· + ·) 0 + s.csiEndedWaiting c < 64) :
    ∃ t, exec (.csiLineReceived c l) s = .next t ∧
      (t.csiPort c).frames = (s.csiPort c).frames.map (fun f => if f.stream = i then { f with lines := f.lines ++ [l] } else f) ∧
      t.hasFlag i flagNoData = false ∧
      Keeps { s with csi := t.csi } t (Entry.streamFlags i :: (List.range 4).map Entry.stereoState) := by
  obtain ⟨frames, data, kept⟩ := State.lineAdded_shows s c i stream l
  refine ⟨s.seal (s.csiLine c l), rfl, ?_⟩
  rw [State.csiLine_taken active stream unpaired taken begun short room]
  generalize ((s.streamFlag i flagNoData false).amendCsi c i (CsiFrame.withLine l)).showEngines = t at *
  rw [State.seal_csiPort, State.seal_hasFlag]
  exact ⟨frames, data, kept.trans (Keeps.seal s _ _)⟩

/-- A frame that ends. -/
theorem State.csiFrameEnd_answered {vc : BitVec 4} {errors i : Nat} {f : CsiFrame} (few : errors < 2)
    (named : s.csiStreams c vc.toNat = [i]) (stream : i < 512) (unpaired : s.activePairs = []) (unadapting : s.unadapting)
    (one : (s.csiPort c).frames.filter (fun g => g.vc = vc.toNat) = [f]) (own : f.stream = i) (lines : List Nat) :
    ∃ t, exec (.csiFrameEnd c vc ⟨errors, lines⟩) s = .next t ∧
      t.n (Entry.csiFramesReceived c) = (s.n (Entry.csiFramesReceived c) + 1) % 2 ^ 32 ∧
      t.n (Entry.csiEccCorrected c) = (if errors = 1 then (s.n (Entry.csiEccCorrected c) + 1) % 2 ^ 32
        else s.n (Entry.csiEccCorrected c)) ∧
      (t.csiPort c).frames = (s.csiPort c).frames.filter (fun g => g.stream ≠ i) ∧ MemoryKept s t ∧
      (f.lossy = true → t.n (Entry.streamFramesLossy i) = (s.n (Entry.streamFramesLossy i) + 1) % 2 ^ 32 ∧
        t.hasFlag i flagLossy = true ∧ t.hasFlag i flagTainted = s.hasFlag i flagTainted ∧
        t.n (Entry.streamFramesTrue i) = s.n (Entry.streamFramesTrue i) ∧
        EntriesKept s t ([Entry.csiFramesReceived c, Entry.csiEccCorrected c, Entry.streamFramesLossy i, Entry.streamFlags i] ++
          (List.range 16).map Entry.portUpHistoryResets ++ (List.range 4).map Entry.stereoState)) ∧
      (f.lossy = false → s.anchorPort (s.streamPartition i) = none → s.tooBig i (s.csiPicture i f) = false →
        t.n (Entry.streamFramesTrue i) = (s.n (Entry.streamFramesTrue i) + 1) % 2 ^ 32 ∧ t.streamState i = 2 ∧
        EntriesKept s t ([Entry.csiFramesReceived c, Entry.csiEccCorrected c, Entry.streamFramesTrue i, Entry.streamFlags i,
          Entry.streamState i, Entry.visionFlowDemand, Entry.visionFlowCapacity, Entry.visionFlowServedLoad,
          Entry.visionFlowServedMap] ++ (List.range 4).map Entry.stereoState)) := by
  obtain ⟨counted, corrected, frames, memory⟩ := State.csiEnds_shows (c := c) (errors := errors) stream unpaired unadapting f lines
  have lost := State.csiEnds_lossy (c := c) (errors := errors) (f := f) stream unadapting
  have seen := State.csiEnds_true (c := c) (errors := errors) (f := f) stream unpaired
  refine ⟨s.seal (s.csiFrameEnds c vc.toNat errors lines), rfl, ?_⟩
  rw [State.csiFrameEnds_named active few named one own lines]
  simp only [State.seal_n, State.seal_hasFlag, State.seal_streamState, State.seal_csiPort]
  refine ⟨counted, corrected, frames, memory.seal, fun lossy => ?_, fun whole anchorless fits => ?_⟩
  · obtain ⟨losses, flagged, tainted, trues, entries⟩ := lost lossy lines
    exact ⟨losses, flagged, tainted, trues, entries.seal⟩
  · obtain ⟨trues, live, entries⟩ := seen whole anchorless fits (State.streamOpen_of_csiStreams named) lines
    exact ⟨trues, live, entries.seal⟩

end

/-- Settles O23: packets by the branches of `State.csiPacket`, frames by `State.csiBegin_absent`, `State.csiLine_taken` and
`State.csiEnds_closed`. -/
theorem csiReception : Obligations.CsiReception := by
  intro s c vc q l errors lines i
  obtain ⟨inactive, up⟩ := State.csiPort_answered s c vc q l errors lines
  refine ⟨inactive, up, fun active => ⟨State.csiPortDown_answered active, (State.csiUncorrectable_answered active vc errors lines).1,
    (State.csiUncorrectable_answered active vc errors lines).2,
    fun _ pixels crcOk unnamed => State.csiUnnamed_answered active unnamed pixels crcOk,
    fun _ pixels taken => State.csiBadCrc_answered active taken pixels,
    fun named stream unpaired => ⟨State.csiFrameStart_answered active named stream unpaired,
      fun _ taken begun short room => State.csiLine_answered active stream unpaired taken begun short room,
      fun f one own unadapting few => State.csiFrameEnd_answered active few named stream unpaired unadapting one own lines⟩⟩⟩

end Sys2Proof.Machine
end

section
namespace Sys2Proof.Machine

open Sys2Proof

/-! The end of a stream's flow frames (R119), where the flow engines' record holds one under a number that no engine has. -/

/-- Stream 0 is LIVE on a device without pairs, generation jobs and adaptation, and the flow engines' record holds a frame of it under
number 4: State of that number would be the entry StereoMemoryLoad, which reads 1. -/
def State.strayFlow : State :=
  { State.reset with
    dict := [(Entry.devDeviceState, .int 4), (Entry.streamState 0, .int 2), (Entry.visionStereoMemoryLoad, .int 1)]
    boot := { State.reset.boot with managing := true }
    vision := { flow := [(4, { stream := 0 })] } }

/-- StereoMemoryLoad of the state that a step leaves. -/
def memoryLoadAfter (a : Answer) : Option Value := match a with | .next t => some (t.raw Entry.visionStereoMemoryLoad) | _ => none

theorem State.strayFlow_unadapting : State.strayFlow.unadapting := by
  intro p
  simp [State.strayFlow, State.reset, State.adaptPart, Assoc.get]

/-- STREAM_DISABLE ends the frame under number 4 and sets the entry that State of engine 4 would be. -/
theorem memoryLoadAfter_strayFlow : memoryLoadAfter (exec (.streamDisable 0) State.strayFlow) = some (.int 0) := by
  decide +kernel

/-- Refutes O22: the clause on STREAM_DISABLE keeps every entry but those it lists, among them State of the flow engines 0 to 3; its
hypotheses do not exclude a frame of the stream under number 4, for which `State.flowStopStream` sets StereoMemoryLoad to 0. -/
theorem not_streamsStartAndStop : ¬ Obligations.StreamsStartAndStop := by
  intro claim
  obtain ⟨-, stops, -⟩ := claim State.strayFlow 0 (by decide) rfl
  obtain ⟨t, step, -, -, -, -, -, -, -, -, -, -, -, -, -, kept⟩ :=
    stops (by decide +kernel) (by decide +kernel) rfl State.strayFlow_unadapting
  have shown : some (t.raw Entry.visionStereoMemoryLoad) = some (Value.int 0) :=
    (congrArg memoryLoadAfter step).symm.trans memoryLoadAfter_strayFlow
  rw [kept Entry.visionStereoMemoryLoad (by decide +kernel) (by decide)] at shown
  exact absurd shown (by decide)

end Sys2Proof.Machine
end

section
namespace Sys2Proof.Machine

open Sys2Proof

/-! The Streamed flag of a pair that starts (R122), where the pair's streams read as contexts that do not exist. -/

/-- Pair 0 of partition 1, which is LIVE, is OFF and pinned to engine 0.  Its streams read as 1152 and 1153, beyond the 512 contexts:
Partition and Source of those numbers would be PixelRate and PinnedLoad of the stereo engines 0 and 1, which read 1 and 5. -/
def State.strayPair : State :=
  { State.reset with
    dict := [(Entry.devDeviceState, .int 4), (Entry.partState 1, .int 2), (Entry.pairPartition 0, .int 1), (Entry.pairEnginePin 0, .int 0),
      (Entry.pairLeftStream 0, .int 1152), (Entry.pairRightStream 0, .int 1153), (Entry.stereoPixelRate 0, .int 1),
      (Entry.stereoPixelRate 1, .int 1), (Entry.stereoPinnedLoad 0, .int 5), (Entry.stereoPinnedLoad 1, .int 5)]
    boot := { State.reset.boot with managing := true } }

/-- The Streamed flag of pair 0, and whether its streams are both CSI-2 sources, in the state that a step leaves. -/
def streamedAfter (a : Answer) : Option (Bool × Bool) :=
  match a with | .next t => some ((t.n (Entry.pairFlags 0)).testBit 0, t.streamed 0) | _ => none

/-- The pair passes its start checks. -/
theorem State.strayPair_passes : State.strayPair.pairStartError 0 = 0 := by decide +kernel

/-- PAIR_ENABLE sets Streamed by the sources that the streams read before it computes PinnedLoad, which gives both of them other ones. -/
theorem streamedAfter_strayPair : streamedAfter (exec (.pairEnable 0) State.strayPair) = some (true, false) := by decide +kernel

/-- Refutes O24: the clause on PAIR_ENABLE equates the Streamed flag of the started pair with its streams' sources in the next state; its
hypotheses do not confine the pair's streams to the 512 contexts, and beyond them Source is an entry that `State.stereoTotals` sets. -/
theorem not_pairsStartAndStop : ¬ Obligations.PairsStartAndStop := by
  intro claim
  obtain ⟨starts, -⟩ := claim State.strayPair 0 (by decide) rfl (by decide)
  obtain ⟨t, step, -, -, passed, -⟩ := starts (by decide +kernel) (by decide +kernel)
  obtain ⟨-, -, -, -, -, -, streamed, -⟩ := passed State.strayPair_passes
  have shown : some ((t.n (Entry.pairFlags 0)).testBit 0, t.streamed 0) = some (true, false) :=
    (congrArg streamedAfter step).symm.trans streamedAfter_strayPair
  obtain ⟨flag, sources⟩ := Prod.mk.inj (Option.some.inj shown)
  exact absurd (flag.symm.trans (streamed.trans sources)) (by decide)

end Sys2Proof.Machine
end

section
namespace Sys2Proof.Machine

open Sys2Proof

/-! The engine of a pair that its first pair frame makes LIVE (R99, R120), where the pair waits with one view for a stream that has stopped. -/

/-- Pair 0 is STARTING on streams 0 and 1, both CSI-2 sources, and pinned to engine 0, which holds its first pair frame.  Stream 0 has
stopped and left a frame that waits; stream 1 is LIVE with the first line of its next frame. -/
def State.halfStarted : State :=
  { State.reset with
    dict := [(Entry.devDeviceState, .int 4), (Entry.streamState 1, .int 2), (Entry.streamSource 0, .int 4), (Entry.streamSource 1, .int 4),
      (Entry.pairState 0, .int 1), (Entry.pairEnable 0, .int 1), (Entry.pairEnginePin 0, .int 0), (Entry.stereoState 0, .int 1)]
    boot := { State.reset.boot with managing := true }
    csi := [(0, { frames := [{ stream := 1, lines := [⟨0, 0x1E, []⟩] }] })]
    vision := { pairs := [(0, { waitLeft := some { ordinal := 1 } })], stereo := [(0, {})] } }

/-- State of stereo engine 0 in the state that a step leaves. -/
def stereoStateAfter (a : Answer) : Option Nat := match a with | .next t => some (t.n (Entry.stereoState 0)) | _ => none

/-- Before the frame's end engine 0 runs the forward pass of the pair's next rows. -/
theorem State.halfStarted_forward : State.halfStarted.forward 0 = true := by decide +kernel

/-- STEREO_FRAME_COMPLETE makes the pair LIVE, which discards its waiting frame: no row of it can run any more. -/
theorem stereoStateAfter_halfStarted : stereoStateAfter (exec (.stereoFrameComplete 0) State.halfStarted) = some 0 := by decide +kernel

/-- Refutes O25: the clause on STEREO_FRAME_COMPLETE shows the engine busy wherever it ran a forward pass before; but the pair that becomes
LIVE discards the frame that waits for a stream which is not LIVE, and the engine goes idle. -/
theorem not_visionEnginesServe : ¬ Obligations.VisionEnginesServe := by
  intro claim
  obtain ⟨-, completes, -⟩ := claim State.halfStarted 0
  obtain ⟨t, step, shown, -⟩ := completes {} rfl (by decide)
  have idle : some (t.n (Entry.stereoState 0)) = some 0 := (congrArg stereoStateAfter step).symm.trans stereoStateAfter_halfStarted
  have unfenced : State.halfStarted.fenced ⟨.stereo, 0⟩ = false := rfl
  have busy : t.n (Entry.stereoState 0) = 1 := by
    simpa [unfenced, State.halfStarted_forward, ofBool] using shown
  exact absurd (busy.symm.trans (Option.some.inj idle)) (by decide)

end Sys2Proof.Machine
end

section
namespace Sys2Proof.Machine

open Sys2Proof

/-! A true frame that becomes ready as a scene cut (R182), where the IDLE stream still has a sample queued for training (R339, R341). -/

/-- The fourth true frame of a stream: it follows the third, and its only flow record is valid and costs what a scene cut does (R136). -/
def cutFrame : Frame := { ordinal := 4, follows := true, flow := .have_ [{ cost := 8192, valid := true }] }

/-- Stream 0 of partition 1 is IDLE and its Mode is 0, which halted its adaptation with cause 6; the ring holds frames 1 to 3, and the sample
of target 2 is queued.  `cutFrame` waits with its flow and without depth. -/
def State.cutAfterHalt : State :=
  { State.reset with
    dict := [(Entry.devDeviceState, .int 4), (Entry.partState 1, .int 2), (Entry.streamPartition 0, .int 1), (Entry.streamState 0, .int 2)]
    boot := { State.reset.boot with managing := true }
    streams := [(0, { frames := [cutFrame], trueCount := 4 })]
    adapt := [(1, {
      streams := [(0, { state := adaptHalted, cause := 6, kind := 1, copies := [3, 2, 1].map fun k => (k, cutFrame.picture) })]
      queue := [(0, 2)] })] }

/-- SamplesDropped of partition 1 in the state that a step leaves. -/
def samplesDroppedAfter (a : Answer) : Option Value := match a with | .next t => some (t.raw (Entry.partAdaptSamplesDropped 1)) | _ => none

theorem State.cutAfterHalt_unrecorded : State.cutAfterHalt.unrecorded := by
  intro p
  simp [State.cutAfterHalt, State.reset, State.partRt, Assoc.get]

/-- The frame waits and is the one that becomes ready. -/
theorem State.cutAfterHalt_waiting : State.cutAfterHalt.waitingFrame 0 = some cutFrame := by decide +kernel

/-- TRUE_FRAME_READY takes the frame as a scene cut, which clears the stream's ring and drops the queued sample. -/
theorem samplesDroppedAfter_cutAfterHalt : samplesDroppedAfter (exec (.trueFrameReady 0) State.cutAfterHalt) = some (.int 1) := by
  decide +kernel

/-- Refutes O26: the clause on TRUE_FRAME_READY of an IDLE stream keeps every entry but GenFlags and FlowSkipped; its hypotheses do not
exclude a sample of the stream that waits for training, which a scene cut drops and counts in SamplesDropped. -/
theorem not_generationFollows : ¬ Obligations.GenerationFollows := by
  intro claim
  obtain ⟨readies, -⟩ := claim State.cutAfterHalt 0 0 0 State.cutAfterHalt_unrecorded
  obtain ⟨-, live⟩ := readies cutFrame State.cutAfterHalt_waiting
  obtain ⟨t, step, -, -, -, -, kept⟩ :=
    live (by decide +kernel) (by decide +kernel) (by decide +kernel) (by decide +kernel) (by decide +kernel) (by decide +kernel)
  have shown : some (t.raw (Entry.partAdaptSamplesDropped 1)) = some (Value.int 1) :=
    (congrArg samplesDroppedAfter step).symm.trans samplesDroppedAfter_cutAfterHalt
  have before : State.cutAfterHalt.raw (Entry.partAdaptSamplesDropped 1) = .int 0 := by decide +kernel
  rw [kept (Entry.partAdaptSamplesDropped 1) (by decide) (by decide), before] at shown
  exact absurd shown (by decide)

end Sys2Proof.Machine
end

section
namespace Sys2Proof.Machine

open Sys2Proof

/-! The written entries of a port (R186, R239, R253): LayerTable, SafeAck and RenderReset. -/

/-- While the units work and the management cores answer, a write takes its entry's effect (R34). -/
theorem State.written_running {s : State} (running : s.running = true) (managed : s.boot.managing = true) (k : Nat) (v : Value) :
    s.written k v = s.entryEffect k v := by
  have device : s.device = 3 ∨ s.device = 4 ∨ s.device = 5 := by simpa [State.running, or_assoc] using running
  have served : s.answers = true := by
    simp only [State.answers, State.isOff, managed, Bool.and_true, Bool.not_eq_true', decide_eq_false_iff_not]
    omega
  have free : s.held = false := by
    simp only [State.held, decide_eq_false_iff_not]
    omega
  simp only [State.written, served, free, running, Bool.not_true, Bool.false_eq_true, if_false, if_true]

/-- A write to a LayerTable goes to the table's checks. -/
theorem State.entryEffect_layerTable (s : State) (n : Fin 16) (table : Bytes) :
    s.entryEffect (Entry.portLayerTable n) (.bytes table) = s.writeLayers n table := by
  fin_cases n <;> rfl

/-- A SafeAck of 1 is acted on; one of 0 does nothing. -/
theorem State.entryEffect_safeAck (s : State) (n : Fin 16) (value : Bool) :
    s.entryEffect (Entry.portSafeAck n) (.int (ofBool value)) = if value then s.ackSafe n else s := by
  cases value <;> fin_cases n <;> rfl

/-- A RenderReset of 1 is acted on; one of 0 does nothing. -/
theorem State.entryEffect_renderReset (s : State) (n : Fin 16) (value : Bool) :
    s.entryEffect (Entry.portUpRenderReset n) (.int (ofBool value)) = if value then s.resetRender n else s := by
  cases value <;> fin_cases n <;> rfl

section
variable {s : State} {n : Fin 16} (count : n.val < s.portCount) (running : s.running = true) (managed : s.boot.managing = true)
include count running managed

theorem exec_layerTableWrite {table : Bytes} (short : table.length ≤ 1536) :
    exec (.layerTableWrite n table) s = .next (s.seal (s.writeLayers n table)) := by
  show s.onPort n (s.written (Entry.portLayerTable n) (.bytes (table.take 1536))) = _
  rw [State.onPort_next count, State.written_running running managed, List.take_of_length_le short, State.entryEffect_layerTable]

theorem exec_safeAck (value : Bool) :
    exec (.safeAck n value) s = .next (s.seal (if value then s.ackSafe n else s)) := by
  show s.onPort n (s.written (Entry.portSafeAck n) (.int (ofBool value))) = _
  rw [State.onPort_next count, State.written_running running managed, State.entryEffect_safeAck]

theorem exec_renderReset (value : Bool) :
    exec (.renderReset n value) s = .next (s.seal (if value then s.resetRender n else s)) := by
  show s.onPort n (s.written (Entry.portUpRenderReset n) (.int (ofBool value))) = _
  rw [State.onPort_next count, State.written_running running managed, State.entryEffect_renderReset]

end

/-- A table stored and what LayerState and LayerError show of its checks (R239). -/
def State.showTable (s : State) (n : Nat) (table : Bytes) (error : Nat) : State :=
  ((s.setB (Entry.portLayerTable n) table).setN (Entry.portLayerState n) (if error = 0 then 1 else 2)).setN (Entry.portLayerError n) error

theorem Keeps.showTable (s : State) (n : Nat) (table : Bytes) (error : Nat) :
    Keeps s (s.showTable n table error) [Entry.portLayerTable n, Entry.portLayerState n, Entry.portLayerError n] :=
  ((Keeps.setB s _ _ (by simp)).trans (Keeps.setN _ _ _ (by simp))).trans (Keeps.setN _ _ _ (by simp))

theorem State.showTable_table (s : State) (n : Nat) (table : Bytes) (error : Nat) :
    (s.showTable n table error).b (Entry.portLayerTable n) = table := by
  rw [State.b, State.showTable, State.raw_setN_ne _ (key_ne_of_sub (by decide)) (ne_lost_of_record (by omega)),
    State.raw_setN_ne _ (key_ne_of_sub (by decide)) (ne_lost_of_record (by omega))]
  exact State.b_setB s _ _ (ne_lost_of_record (by omega))

theorem State.showTable_state (s : State) (n : Nat) (table : Bytes) (error : Nat) :
    (s.showTable n table error).n (Entry.portLayerState n) = if error = 0 then 1 else 2 := by
  rw [State.showTable, State.n_setN_ne _ _ (key_ne_of_sub (by decide)) (ne_lost_of_record (by omega)),
    State.n_setN _ _ _ (ne_lost_of_record (by omega))]

theorem State.showTable_error (s : State) (n : Nat) (table : Bytes) (error : Nat) :
    (s.showTable n table error).n (Entry.portLayerError n) = error :=
  State.n_setN _ _ _ (ne_lost_of_record (by omega))

/-- A table that passes waits for the next compose point of a port that is not OFF; one that fails is only shown. -/
theorem State.writeLayers_eq {s : State} {n : Nat} (on : s.portState n ≠ 0) (table : Bytes) :
    s.writeLayers n table =
      if s.tableError n [] (enabledLayers table) = 0 then
        (s.showTable n table 0).setPortRt n { s.portRt n with nextTable := some table }
      else s.showTable n table (s.tableError n [] (enabledLayers table)) := by
  have shown := Keeps.showTable s n table 0
  have state : (s.showTable n table 0).portState n = s.portState n := by
    refine shown.n (fun listed => ?_) (ne_lost_of_record (by omega))
    simp only [List.mem_cons, List.not_mem_nil, or_false, Entry.portState, Entry.portLayerTable, Entry.portLayerState,
      Entry.portLayerError, key] at listed
    omega
  by_cases passed : s.tableError n [] (enabledLayers table) = 0
  · have path : s.writeLayers n table = if (s.showTable n table 0).portState n = 0 then (s.showTable n table 0).applyTable n table
        else (s.showTable n table 0).setPortRt n { (s.showTable n table 0).portRt n with nextTable := some table } := by
      simp only [State.writeLayers, passed]
      rfl
    rw [path, state, if_neg on, if_pos passed, shown.portRt]
  · simp only [State.writeLayers, State.showTable, if_neg passed, if_pos passed]

theorem State.writeLayers_shows {s : State} {n : Nat} (on : s.portState n ≠ 0) (table : Bytes) :
    (s.writeLayers n table).b (Entry.portLayerTable n) = table ∧
    (s.writeLayers n table).n (Entry.portLayerState n) = (if s.tableError n [] (enabledLayers table) = 0 then 1 else 2) ∧
    (s.writeLayers n table).n (Entry.portLayerError n) = s.tableError n [] (enabledLayers table) ∧
    Keeps (if s.tableError n [] (enabledLayers table) = 0 then s.setPortRt n { s.portRt n with nextTable := some table } else s)
      (s.writeLayers n table) [Entry.portLayerTable n, Entry.portLayerState n, Entry.portLayerError n] := by
  rw [State.writeLayers_eq on]
  by_cases passed : s.tableError n [] (enabledLayers table) = 0
  · simp only [passed, if_true]
    exact ⟨State.showTable_table s n table 0, State.showTable_state s n table 0, State.showTable_error s n table 0,
      (Keeps.showTable s n table 0).setPortRt n _⟩
  · simp only [if_neg passed]
    exact ⟨State.showTable_table .., (State.showTable_state ..).trans (if_neg passed), State.showTable_error ..,
      Keeps.showTable s n table _⟩

/-- A SafeAck counts in SAFE alone, once the exit count is reached. -/
theorem State.ackSafe_eq (s : State) (n : Nat) :
    s.ackSafe n = if s.portState n = 5 ∧ s.n (Entry.portSafeExitFrames n) ≤ (s.portRt n).exitCount then
      s.setPortRt n { s.portRt n with acked := true } else s := by
  simp only [State.ackSafe, Bool.and_eq_true, decide_eq_true_eq]

/-- Settles O31: each command seals the effect of its write; a written table is shown by its entries, and waits where it passes. -/
theorem portEntriesWritten : Obligations.PortEntriesWritten := by
  intro s n count running managed
  refine ⟨fun table short on => ?_, ⟨_, exec_safeAck count running managed true, ?_⟩, ⟨_, exec_safeAck count running managed false, ?_⟩,
    ⟨_, exec_renderReset count running managed true, ?_⟩, ⟨_, exec_renderReset count running managed false, ?_⟩⟩
  · obtain ⟨stored, state, error, kept⟩ := State.writeLayers_shows on table
    exact ⟨_, exec_layerTableWrite count running managed short, stored, state, error, kept.trans (Keeps.seal s _ _)⟩
  · rw [← State.ackSafe_eq]
    exact Keeps.seal s _ []
  · exact Keeps.seal s s []
  · exact Keeps.seal s (s.resetRender n) []
  · exact Keeps.seal s s []

end Sys2Proof.Machine
end

section
namespace Sys2Proof.Machine

open Sys2Proof

/-! The jitter phases of up-scaled passes (R185). -/

/-- The four low bits in reverse order, of each phase. -/
theorem bitrev4_reverses : ∀ i < 16, bitrev4 i < 16 ∧ ∀ k < 4, (bitrev4 i).testBit k = i.testBit (3 - k) := by decide

/-- Each phase is read back from its reversed bits. -/
theorem bitrev4_injective {i j : Nat} (hi : i < 16) (hj : j < 16) (same : bitrev4 i = bitrev4 j) : i = j := by
  refine Nat.eq_of_testBit_eq fun k => ?_
  by_cases low : k < 4
  · have back : 3 - (3 - k) = k := by omega
    rw [← back, ← (bitrev4_reverses i hi).2 _ (by omega), ← (bitrev4_reverses j hj).2 _ (by omega), same]
  · have wide : 2 ^ 4 ≤ 2 ^ k := Nat.pow_le_pow_right (by decide) (by omega)
    rw [Nat.testBit_lt_two_pow (by omega), Nat.testBit_lt_two_pow (by omega)]

/-- An up-scaled pass is displaced by the offset of its phase. -/
theorem Pass.offset_upscaled {q : Pass} (up : descUpscale q.desc = true) : q.offset = jitter (q.frameCount % 16) := if_pos up

/-- A phase's offset on each axis, from units of 1/256 pixel to those of R185. -/
theorem jitter_scaled (i : Nat) : (jitter i).1 * 32 = (2 * (bitrev4 i : Int) - 15) * 256 ∧
    (jitter i).2 * 32 = (2 * (((7 * i + 5) % 16 : Nat) : Int) - 15) * 256 := by
  simp only [jitter]
  omega

/-- Phases that share an offset on either axis are the same. -/
theorem jitter_injective {i j : Nat} (hi : i < 16) (hj : j < 16)
    (same : (jitter i).1 = (jitter j).1 ∨ (jitter i).2 = (jitter j).2) : i = j := by
  simp only [jitter] at same
  rcases same with x | y
  · exact bitrev4_injective hi hj (by omega)
  · omega

/-- Settles O39: a pass takes the offset of its phase, which `bitrev4` spreads over one axis and 7 times the phase over the other. -/
theorem jitterPhases : Obligations.JitterPhases := by
  have phase (q : Pass) : q.frameCount % 16 < 16 := Nat.mod_lt _ (by decide)
  constructor
  · intro q up i
    obtain ⟨low, reversed⟩ := bitrev4_reverses i (phase q)
    obtain ⟨across, down⟩ := jitter_scaled i
    rw [Pass.offset_upscaled up]
    exact ⟨across, down, low, reversed⟩
  · intro q r upQ upR same
    rw [Pass.offset_upscaled upQ, Pass.offset_upscaled upR] at same
    exact jitter_injective (phase q) (phase r) same

end Sys2Proof.Machine
end

section
namespace Sys2Proof.Machine

open Sys2Proof

/-! Texel addresses (R218): the place of a texel in its page interleaves the low bits of its coordinates. -/

/-- What `eraseDups` leaves has no repeats. -/
theorem nodup_eraseDups (l : List Nat) : l.eraseDups.Nodup := by
  induction h : l.length using Nat.strong_induction_on generalizing l with
  | _ n ih =>
    cases l with
    | nil => simp
    | cons a r =>
      rw [List.eraseDups_cons, List.nodup_cons]
      have shorter : (r.filter fun b => !b == a).length < n := by
        have := List.length_filter_le (fun b => !b == a) r
        simp only [List.length_cons] at h
        omega
      exact ⟨by simp, ih _ shorter _ rfl⟩

/-- Powers of two added for bits that are clear set those bits and no other. -/
theorem testBit_foldl_pow {l : List Nat} (distinct : l.Nodup) {a : Nat} (clear : ∀ i ∈ l, a.testBit i = false) (k : Nat) :
    (l.foldl (fun a i => a + 2 ^ i) a).testBit k = (a.testBit k || decide (k ∈ l)) := by
  induction l generalizing a with
  | nil => simp
  | cons i r ih =>
    obtain ⟨fresh, rest⟩ := List.nodup_cons.1 distinct
    have set (j : Nat) := testBit_add_pow a i j (clear i List.mem_cons_self)
    have still : ∀ j ∈ r, (a + 2 ^ i).testBit j = false := fun j hj => by
      rw [set, if_neg (fun same : i = j => fresh (same ▸ hj)), clear j (List.mem_cons_of_mem _ hj)]
    rw [List.foldl_cons, ih rest still, set]
    by_cases same : i = k
    · simp [same]
    · simp [same, Ne.symm same]

/-- The set bits of a mask are the members of its list. -/
theorem maskOf_testBit (l : List Nat) (k : Nat) : (maskOf l).testBit k = decide (k ∈ l) := by
  rw [maskOf, testBit_foldl_pow (nodup_eraseDups l) (by simp)]
  simp

theorem mem_bitsSet {v n i : Nat} : i ∈ bitsSet v n ↔ i < n ∧ v.testBit i = true := by simp [bitsSet]

/-- The place of a texel within its page of 32 × 32. -/
def texelPlace (x y : Nat) : Nat := maskOf (((bitsSet x 5).map fun i => 2 * i) ++ (bitsSet y 5).map fun i => 2 * i + 1)

theorem texelOffset_eq (width x y : Nat) :
    texelOffset width x y = (y / 32 * divCeil width 32 + x / 32) * 4096 + 4 * texelPlace (x % 32) (y % 32) := rfl

theorem texelPlace_lt (x y : Nat) : texelPlace x y < 1024 := by
  refine Nat.lt_pow_two_of_testBit (n := 10) _ fun k high => ?_
  rw [texelPlace, maskOf_testBit]
  simp only [List.mem_append, List.mem_map, mem_bitsSet, decide_eq_false_iff_not, not_or, not_exists, not_and]
  constructor
  · intros
    omega
  · intros
    omega

theorem texelPlace_even (x y : Nat) {i : Nat} (low : i < 5) : (texelPlace x y).testBit (2 * i) = x.testBit i := by
  rw [texelPlace, maskOf_testBit, Bool.eq_iff_iff]
  simp only [List.mem_append, List.mem_map, mem_bitsSet, decide_eq_true_eq]
  constructor
  · rintro (⟨j, ⟨-, set⟩, same⟩ | ⟨j, -, same⟩)
    · rwa [show i = j by omega]
    · omega
  · exact fun set => .inl ⟨i, ⟨low, set⟩, rfl⟩

theorem texelPlace_odd (x y : Nat) {i : Nat} (low : i < 5) : (texelPlace x y).testBit (2 * i + 1) = y.testBit i := by
  rw [texelPlace, maskOf_testBit, Bool.eq_iff_iff]
  simp only [List.mem_append, List.mem_map, mem_bitsSet, decide_eq_true_eq]
  constructor
  · rintro (⟨j, -, same⟩ | ⟨j, ⟨-, set⟩, same⟩)
    · omega
    · rwa [show i = j by omega]
  · exact fun set => .inr ⟨i, ⟨low, set⟩, rfl⟩

/-- A texel number within the texture is its own under every wrap mode (R217). -/
theorem wrapTexel_inside (wrap : Nat) {size i : Nat} (inside : i < size) : wrapTexel wrap size i = i := by
  simp only [wrapTexel]
  split
  · rw [Int.emod_eq_of_lt (by omega) (by omega), Int.toNat_natCast]
  · unfold clampInt
    rw [if_neg (by omega), if_neg (by omega), Int.toNat_natCast]
  · rw [Int.emod_eq_of_lt (by omega) (by omega), if_pos (by omega), Int.toNat_natCast]

/-- Settles O40: the mask of the interleaved bits has just those bits, and a texel inside the texture is not wrapped. -/
theorem texelAddresses : Obligations.TexelAddresses := by
  constructor
  · intro width x y
    exact ⟨texelPlace (x % 32) (y % 32), texelPlace_lt _ _, texelOffset_eq width x y, fun i low =>
      ⟨texelPlace_even _ _ low, texelPlace_odd _ _ low⟩⟩
  · intro s p d x y hx hy
    rw [State.texel, wrapTexel_inside _ hx, wrapTexel_inside _ hy]

end Sys2Proof.Machine
end

section
namespace Sys2Proof.Machine

open Sys2Proof

/-! Headers that are refused (R202) on a ring whose completions lie in an unreadable block: a completion writes that block in part, so it is
not stored (R380, R382). -/

theorem Keeps.readMem {s t : State} {keys : List Nat} (h : Keeps s t keys) (p o n : Nat) : t.readMem p o n = s.readMem p o n := by
  have base : t.memBase p = s.memBase p := by simp only [State.memBase, h.partRt]
  rw [State.readMem, State.readMem, base]
  exact List.map_congr_left fun i _ => h.mem _

/-- A refused header's completion stands in memory with cause 4. -/
theorem State.completion_of_refusesHeader {s t : State} {p r e : Nat} (refused : s.refusesHeader t p r e) :
    t.readMem p (s.completionAt r) 16 = s.completionBytes r (s.ring r).head (entryTag e) 4 := by
  obtain ⟨-, u, ⟨-, -, -, -, -, written, -⟩, kept⟩ := refused
  rw [kept.readMem, written]

/-- Raster work on ring 0 for a header of some bytes at 0x9000, with the ring's completions in an unreadable block. -/
def State.lostCompletion (h n : Nat) (raster : Raster) : State :=
  { Tests.rastering h n raster with security := { badBlocks := [(2 ^ 31 + 0x2000) / blockBytes] } }

/-- The bytes at the place of the ring's first completion in the state that a step leaves. -/
def completionAfter (a : Answer) : Option Bytes := match a with | .next t => some (t.readMem 1 0x2000 16) | _ => none

theorem State.lostCompletion_apart {h n : Nat} {raster : Raster} (place : (State.lostCompletion h n raster).completionAt 0 = 0x2000)
    (desc : (State.lostCompletion h n raster).ringDescAt 1 0 = 0) (a : Nat)
    (stored : (State.lostCompletion h n raster).stores 1 ((State.lostCompletion h n raster).completionAt 0) 16 a) :
    ¬ (State.lostCompletion h n raster).stores 1 ((State.lostCompletion h n raster).ringDescAt 1 0 + 32) 4 a ∧
      ¬ (State.lostCompletion h n raster).stores 1 ((State.lostCompletion h n raster).ringDescAt 1 0 + 36) 4 a :=
  Tests.rastering_apart _ a ⟨place, desc⟩ stored

/-- PASS_OPEN with a header without batches leaves zeros there. -/
theorem completionAfter_passOpen :
    completionAfter (exec (.passOpen 0) (State.lostCompletion (Tests.passHeader 0) 16 {})) = some (zeros 16) := by decide +kernel

/-- Refutes O33: the clause on a refused pass header reads its completion back; its hypotheses do not exclude that the completion's block
is unreadable, and then the ring's memory keeps what it held. -/
theorem not_passesOpen : ¬ Obligations.PassesOpen := by
  intro claim
  let s := State.lostCompletion (Tests.passHeader 0) 16 {}
  have place : s.completionAt 0 = 0x2000 := by decide +kernel
  obtain ⟨refuses, -⟩ := claim s 0 1 Tests.rasterEntry (Tests.passHeader 0) (show Memory.wf s.mem = true by decide +kernel)
    (by decide +kernel) (by decide) (by decide +kernel) (by decide +kernel) (by decide +kernel)
  obtain ⟨t, step, refused⟩ := refuses (by decide +kernel) (State.lostCompletion_apart place (by decide +kernel)) (by decide +kernel)
  have shown : some (t.readMem 1 0x2000 16) = some (zeros 16) := (congrArg completionAfter step).symm.trans completionAfter_passOpen
  have written : t.readMem 1 (s.completionAt 0) 16 = s.completionBytes 0 (s.ring 0).head (entryTag Tests.rasterEntry) 4 :=
    State.completion_of_refusesHeader refused
  rw [place, Option.some.inj shown] at written
  exact absurd written (by decide +kernel)

/-- BATCH_BIN with a blend code that R200 does not list leaves zeros there. -/
theorem completionAfter_batchBin :
    completionAfter (exec (.batchBin 0) (State.lostCompletion (Tests.batchHeader 6) 40 { passes := [Tests.openPass] })) =
      some (zeros 16) := by decide +kernel

/-- Refutes O34: the clause on a refused batch reads its completion back, which an unreadable block does not store. -/
theorem not_batchesBin : ¬ Obligations.BatchesBin := by
  intro claim
  obtain ⟨batches, -⟩ := claim
  let s := State.lostCompletion (Tests.batchHeader 6) 40 { passes := [Tests.openPass] }
  have place : s.completionAt 0 = 0x2000 := by decide +kernel
  obtain ⟨refuses, -⟩ := batches s 0 1 Tests.rasterEntry (Tests.batchHeader 6) Tests.openPass (show Memory.wf s.mem = true by decide +kernel)
    (by decide +kernel) (by decide) (by decide +kernel) (by decide +kernel) (by decide +kernel) (by decide +kernel) (by decide +kernel)
  obtain ⟨t, step, refused⟩ :=
    refuses (.inl (by decide +kernel)) (State.lostCompletion_apart place (by decide +kernel)) (by decide +kernel)
  have shown : some (t.readMem 1 0x2000 16) = some (zeros 16) := (congrArg completionAfter step).symm.trans completionAfter_batchBin
  have written : t.readMem 1 (s.completionAt 0) 16 = s.completionBytes 0 (s.ring 0).head (entryTag Tests.rasterEntry) 4 :=
    State.completion_of_refusesHeader refused
  rw [place, Option.some.inj shown] at written
  exact absurd written (by decide +kernel)

end Sys2Proof.Machine
end

section
namespace Sys2Proof.Machine

open Sys2Proof

/-! Stores into unreadable blocks: a pixel, a query result and a copied range that cover a block in part are not stored (R380, R382). -/

/-- A target of one pixel, its frame buffers at 0x10000. -/
def pixelDescriptor : Nat := 2 ^ 496 + 2 ^ 480 + 0x10000 * 2 ^ 384

/-- A pass on that target which clears it to white, with its one tile on unit 0. -/
def whitePass : Pass :=
  { Tests.openPass with desc := pixelDescriptor, header := Tests.passHeader 1 + (2 ^ 32 - 1) * 2 ^ 32, running := [{}], final := true }

/-- The block of its frame buffer is unreadable. -/
def State.lostPixel : State :=
  { Tests.rastering 0 0 { passes := [whitePass] } [(Entry.tileState 0, 1)] with
    security := { badBlocks := [(2 ^ 31 + 0x10000) / blockBytes] } }

/-- The pixel's bytes in the state that a step leaves. -/
def pixelAfter (a : Answer) : Option Bytes :=
  match a with | .next t => some (t.readMem 1 (whitePass.colourAt whitePass.buffer 0 (0, 0)) (descBytes whitePass.desc)) | _ => none

/-- TILE_FINISHED leaves the pixel at 0. -/
theorem pixelAfter_tileFinished : pixelAfter (exec (.tileFinished 0 []) State.lostPixel) = some (zeros 4) := by decide +kernel

theorem whitePass_plain : State.lostPixel.plainPass whitePass := by
  refine ⟨by decide, by decide, by decide, by decide, ?_⟩
  intro x listed _ other
  exact absurd (congrArg Pass.id (List.mem_singleton.1 listed)) other

/-- Refutes O36: the clause on a tile of a target without external depth reads each of its samples back; its hypotheses do not exclude that
the samples' block is unreadable, and then the frame buffer keeps what it held. -/
theorem not_tilesFinish : ¬ Obligations.TilesFinish := by
  intro claim
  obtain ⟨finishes, -⟩ := claim State.lostPixel 0 [] whitePass {} (show Memory.wf State.lostPixel.mem = true by decide +kernel)
    (by decide +kernel) (by decide +kernel) whitePass_plain rfl (by decide +kernel)
  obtain ⟨t, step, -, -, -, samples, -⟩ := finishes (.inl rfl)
  have written := samples (by decide +kernel) 0 0 (0, 0) (by decide +kernel) (by decide +kernel) (by decide +kernel)
  have shown := (congrArg pixelAfter step).symm.trans pixelAfter_tileFinished
  exact absurd ((Option.some.inj shown).symm.trans written) (by decide +kernel)

/-- The ring job of a query batch. -/
def queryRingJob : RingJob := { id := 100, partition := 1, kind := 2 }

/-- A query batch of one query without visits on ray unit 0; the block of its results is unreadable. -/
def State.lostResult : State :=
  { Tests.rastering Tests.queryHeader 48 { queries := [Tests.queryJob] } [(Entry.rayState 0, 1)] [queryRingJob] with
    security := { badBlocks := [(2 ^ 31 + 0x1B000) / blockBytes] } }

/-- The result's bytes in the state that a step leaves. -/
def resultAfter (a : Answer) : Option Bytes :=
  match a with | .next t => some (t.readMem Tests.queryJob.partition (bits Tests.queryJob.header 0 64 + 16 * 0) 16) | _ => none

/-- RAY_BATCH_COMPLETE leaves zeros at the result's place. -/
theorem resultAfter_rayBatchComplete : resultAfter (exec (.rayBatchComplete 0) State.lostResult) = some (zeros 16) := by decide +kernel

/-- The query's budget is used up at once: its answer is Incomplete alone. -/
theorem State.lostResult_incomplete :
    State.lostResult.queryAnswer Tests.queryJob.partition Tests.queryJob.header = (0, [some (2 ^ 126)], 0) := by decide +kernel

theorem State.lostResult_apart (a : Nat)
    (inside : State.lostResult.within Tests.queryJob.partition (bits Tests.queryJob.header 0 64) (16 * queryCount Tests.queryJob.header) a) :
    ¬ State.lostResult.within queryRingJob.partition (State.lostResult.completionAt queryRingJob.ring) 16 a ∧
      ¬ State.lostResult.within queryRingJob.partition
        (State.lostResult.ringDescAt queryRingJob.partition queryRingJob.ring + 32) 4 a := by
  have results : bits Tests.queryJob.header 0 64 = 0x1B000 := by decide +kernel
  have completion : State.lostResult.completionAt queryRingJob.ring = 0x2000 := by decide +kernel
  have desc : State.lostResult.ringDescAt queryRingJob.partition queryRingJob.ring = 0 := by decide +kernel
  have same : State.lostResult.memBase queryRingJob.partition = State.lostResult.memBase Tests.queryJob.partition := rfl
  simp only [State.within, results, completion, desc, same] at inside ⊢
  omega

/-- Refutes O38: the clause on an answered batch reads its results back; its hypotheses do not exclude that their block is unreadable, and
then it keeps what it held. -/
theorem not_queriesServed : ¬ Obligations.QueriesServed := by
  intro claim
  obtain ⟨-, batches, -⟩ := claim
  obtain ⟨answered, -⟩ := batches State.lostResult 0 Tests.queryJob queryRingJob [some (2 ^ 126)]
    (show Memory.wf State.lostResult.mem = true by decide +kernel) (by decide +kernel) (by decide +kernel) (by decide) (by decide +kernel)
  obtain ⟨t, step, -, -, -, -, -, -, results, -⟩ := answered 0 State.lostResult_incomplete
  have written := results (by decide +kernel) State.lostResult_apart 0 (2 ^ 126) rfl
  have shown := (congrArg resultAfter step).symm.trans resultAfter_rayBatchComplete
  exact absurd ((Option.some.inj shown).symm.trans written) (by decide +kernel)

/-- A COPY of 16 bytes from the host to 0x3000. -/
def hostCopy : RingJob := { id := 5, partition := 1, index := 5, kind := 3, srcPlace := 1, b := 0x3000, c := 16 }

/-- Its destination's block is unreadable. -/
def State.lostCopy : State :=
  { Tests.ringed 1 0 [] with jobs := [hostCopy], security := { badBlocks := [(2 ^ 31 + 0x3000) / blockBytes] } }

/-- The destination's bytes in the state that a step leaves. -/
def copyAfter (a : Answer) : Option Bytes := match a with | .next t => some (t.readMem 1 0x3000 16) | _ => none

/-- COPY_COMPLETE with 16 bytes of 1 leaves zeros there. -/
theorem copyAfter_copyComplete : copyAfter (exec (.copyComplete 5 (List.replicate 16 1)) State.lostCopy) = some (zeros 16) := by
  decide +kernel

theorem State.lostCopy_shape : State.lostCopy.copyShape hostCopy = some (16, none) := by decide +kernel

/-- Refutes O42: the clause on a COPY into memory reads the moved bytes back; its hypotheses do not exclude that their block is unreadable,
and then it keeps what it held. -/
theorem not_jobsServed : ¬ Obligations.JobsServed := by
  intro claim
  obtain ⟨-, copies⟩ := claim
  obtain ⟨completes, -⟩ := copies State.lostCopy 5 (List.replicate 16 1) hostCopy (show Memory.wf State.lostCopy.mem = true by decide +kernel)
    (by decide +kernel) rfl (by decide) (by decide +kernel)
  have completion : State.lostCopy.completionAt hostCopy.ring = 0x2000 := by decide +kernel
  have desc : State.lostCopy.ringDescAt hostCopy.partition hostCopy.ring = 0 := by decide +kernel
  obtain ⟨t, step, moved, -⟩ := completes (16, none) State.lostCopy_shape (by decide +kernel) (fun _ absent => nomatch absent) fun a stored => by
    rw [completion, desc]
    exact ⟨Tests.apart _ _ _ _ _ _ (by decide) _ stored, Tests.apart _ _ _ _ _ _ (by decide) _ stored⟩
  have shown := (congrArg copyAfter step).symm.trans copyAfter_copyComplete
  exact absurd ((Option.some.inj shown).symm.trans (moved rfl)) (by decide +kernel)

end Sys2Proof.Machine
end

section
namespace Sys2Proof.Machine

open Sys2Proof

/-! Ring jobs that end (R364, R368): what completions write and count, and what they leave as it was. -/

theorem Keeps.raster {s t : State} {keys : List Nat} (h : Keeps s t keys) : t.raster = s.raster :=
  (congrArg (fun u : State => u.raster) h.rest : (State.rest t).raster = (State.rest s).raster)

theorem Keeps.jobs {s t : State} {keys : List Nat} (h : Keeps s t keys) : t.jobs = s.jobs :=
  (congrArg (fun u : State => u.jobs) h.rest : (State.rest t).jobs = (State.rest s).jobs)

theorem Keeps.rings {s t : State} {keys : List Nat} (h : Keeps s t keys) : t.rings = s.rings :=
  (congrArg (fun u : State => u.rings) h.rest : (State.rest t).rings = (State.rest s).rings)

/-- The state with other raster work and other jobs. -/
def State.withWork (s : State) (x : Raster) (l : List RingJob) : State := { s with raster := x, jobs := l }

/-- What holds before a pass over a list, and every visit keeps, holds after it. -/
theorem State.each_invariant {α : Type} {P : State → Prop} {l : List α} {f : State → α → State} {s : State} (before : P s)
    (visit : ∀ t, ∀ a ∈ l, P t → P (f t a)) : P (s.each l f) := by
  induction l generalizing s with
  | nil => exact before
  | cons a r ih => exact ih (visit s a List.mem_cons_self before) fun t b hb => visit t b (List.mem_cons_of_mem _ hb)

/-- `t` has the raster work, the jobs, the partitions and the slots of `s`, and its rings complete at the same place; of its entries and
bytes only those told may differ. -/
structure WorkKept (s t : State) (keys : List Nat) (bytes : Nat → Prop) : Prop where
  entries : EntriesKept s t keys
  memory : ∀ a, ¬ bytes a → Memory.read t.mem a = Memory.read s.mem a
  raster : t.raster = s.raster
  jobs : t.jobs = s.jobs
  parts : t.parts = s.parts
  herds : t.herds = s.herds
  rings : ∀ r, (t.ring r).completeBase = (s.ring r).completeBase ∧ (t.ring r).slotsLog = (s.ring r).slotsLog

namespace WorkKept

theorem refl (s : State) (keys : List Nat) (bytes : Nat → Prop) : WorkKept s s keys bytes :=
  ⟨fun _ _ _ => rfl, fun _ _ => rfl, rfl, rfl, rfl, rfl, fun _ => ⟨rfl, rfl⟩⟩

theorem trans {s t u : State} {keys : List Nat} {bytes : Nat → Prop} (h : WorkKept s t keys bytes) (g : WorkKept t u keys bytes) :
    WorkKept s u keys bytes where
  entries k free lost := (g.entries k free lost).trans (h.entries k free lost)
  memory a free := (g.memory a free).trans (h.memory a free)
  raster := g.raster.trans h.raster
  jobs := g.jobs.trans h.jobs
  parts := g.parts.trans h.parts
  herds := g.herds.trans h.herds
  rings r := ⟨(g.rings r).1.trans (h.rings r).1, (g.rings r).2.trans (h.rings r).2⟩

theorem mono {s t : State} {keys more : List Nat} {bytes wider : Nat → Prop} (h : WorkKept s t keys bytes) (sub : ∀ k ∈ keys, k ∈ more)
    (covered : ∀ a, bytes a → wider a) : WorkKept s t more wider :=
  { h with entries := h.entries.mono sub, memory := fun a free => h.memory a fun b => free (covered a b) }

theorem of_keeps {s t : State} {keys : List Nat} (h : Keeps s t keys) (bytes : Nat → Prop) : WorkKept s t keys bytes where
  entries := h.entries
  memory a _ := h.mem a
  raster := h.raster
  jobs := h.jobs
  parts := h.parts
  herds := h.herds
  rings r := by simp only [State.ring, h.rings, and_self]

/-- Other raster work and other jobs, on both sides. -/
theorem withWork {s t : State} {keys : List Nat} {bytes : Nat → Prop} (h : WorkKept s t keys bytes) (x : Raster) (l : List RingJob) :
    WorkKept (s.withWork x l) (t.withWork x l) keys bytes :=
  ⟨h.entries, h.memory, rfl, rfl, h.parts, h.herds, h.rings⟩

section
variable {s t : State} {keys : List Nat} {bytes : Nat → Prop} (h : WorkKept s t keys bytes)
include h

theorem n {k : Nat} (free : k ∉ keys) (lost : k ≠ Entry.canEventsLost) : t.n k = s.n k := h.entries.n free lost

theorem memBase (p : Nat) : t.memBase p = s.memBase p := by simp only [State.memBase, State.partRt, h.parts]

theorem memSize (p : Nat) : t.memSize p = s.memSize p := by simp only [State.memSize, State.partRt, h.parts]

theorem inRange (p o n : Nat) : t.inRange p o n = s.inRange p o n := by rw [State.inRange, State.inRange, h.memSize]

theorem stores {p o n a : Nat} : t.stores p o n a ↔ s.stores p o n a := by simp only [State.stores, h.memBase, h.inRange]

theorem within {p o n a : Nat} : t.within p o n a ↔ s.within p o n a := by simp only [State.within, h.memBase]

theorem slotRt (k : Nat) : t.slotRt k = s.slotRt k := by simp only [State.slotRt, h.herds]

theorem outputHeld (p slot param b : Nat) : t.outputHeld p slot param b = s.outputHeld p slot param b := by
  simp only [State.outputHeld, h.slotRt, h.raster]

theorem ringDescAt {p : Nat} (free : Entry.partRingRingTableBase p ∉ keys) (r : Nat) : t.ringDescAt p r = s.ringDescAt p r := by
  simp only [State.ringDescAt, State.partRt, h.parts, h.n free (ne_lost_of_record (by omega))]

/-- A write at an offset of a partition's range reaches only the bytes there. -/
theorem writeMem {p o : Nat} {b : Bytes} (covered : ∀ a, s.stores p o b.length a → bytes a) : WorkKept s (t.writeMem p o b) keys bytes := by
  by_cases fits : t.inRange p o b.length = true
  · have same : t.writeMem p o b = { t with mem := (t.writeMem p o b).mem, security := (t.writeMem p o b).security } := by
      simp only [State.writeMem, if_pos fits]
    rw [same]
    refine { h with memory := fun a free => ?_ }
    refine (State.writeMem_out t p o b ?_).trans (h.memory a free)
    by_contra inside
    exact free (covered a (h.stores.1 ⟨fits, by omega, by omega⟩))
  · rwa [State.writeMem, if_neg fits]

/-- A ring's record replaced by one that completes at the same place. -/
theorem setRing {r : Nat} {g : Ring} (base : g.completeBase = (t.ring r).completeBase) (slots : g.slotsLog = (t.ring r).slotsLog) :
    WorkKept s (t.setRing r g) keys bytes := by
  refine { h with rings := fun i => ?_ }
  have found : (t.setRing r g).ring i = if r = i then g else t.ring i := Assoc.get_put ..
  rw [found]
  split
  · rename_i same
    subst same
    rw [base, slots]
    exact h.rings r
  · exact h.rings i

theorem keeps {u : State} {more : List Nat} (g : Keeps t u more) (sub : ∀ k ∈ more, k ∈ keys) : WorkKept s u keys bytes :=
  h.trans (of_keeps (g.mono sub) bytes)

end

end WorkKept

/-! One completion. -/

@[simp] theorem leBytes_length (n v : Nat) : (leBytes n v).length = n := by simp [leBytes]

/-- A completion's entry and the ring's count of them, in memory and in the ring's record (R364). -/
def State.writeCompletion (s : State) (p r index tag cause : Nat) : State :=
  let g := s.ring r
  let e := packFields [(1, (g.completions / 2 ^ g.slotsLog + 1) % 2), (15, 0), (8, cause), (8, if cause = 0 then 1 else 2), (32, index),
    (64, tag)]
  let t := s.writeMem p (s.completionAt r) (leBytes 16 e)
  let next := (g.completions + 1) % 2 ^ 32
  (t.writeMem p (t.ringDescAt p r + 32) (leBytes 4 next)).setRing r { g with completions := next }

/-- The counts of jobs that a completion with a cause advances (R369, R376). -/
def State.countEnd (s : State) (p r cause : Nat) : State :=
  if cause = 0 then s.countJob r (Entry.partRingCompleted p) fun g => { g with completed := (g.completed + 1) % 2 ^ 32 }
  else (s.countJob r (Entry.partRingAbandoned p) fun g => { g with abandoned := (g.abandoned + 1) % 2 ^ 32 }).setN
    (Entry.partRingLastCause p) cause

/-- CompleteRead taken from the ring's descriptor again (R367). -/
def State.rereadRing (s : State) (p r : Nat) : State :=
  match s.ringDesc p r with
  | none => s
  | some d => s.setRing r { s.ring r with completeRead := bits d 224 32 }

theorem State.complete_eq (s : State) (p r index tag : Nat) (irq : Bool) (cause : Nat) :
    s.complete p r index tag irq cause =
      (let t := (s.writeCompletion p r index tag cause).countEnd p r cause
       if irq && (s.ring r).irq then t.signal p (s.ring r).vector else t).rereadRing p r := rfl

/-- The bytes that the next completion of a ring writes. -/
def State.completionStores (s : State) (p r a : Nat) : Prop :=
  s.stores p (s.completionAt r) 16 a ∨ s.stores p (s.ringDescAt p r + 32) 4 a

/-- The entries that the end of a partition's job changes. -/
def endKeys (cause p : Nat) : List Nat := if cause = 0 then [Entry.partRingCompleted p] else [Entry.partRingAbandoned p, Entry.partRingLastCause p]

theorem WorkKept.writeCompletion (s : State) (p r index tag cause : Nat) :
    WorkKept s (s.writeCompletion p r index tag cause) [] (s.completionStores p r) := by
  have entry (e : Nat) : WorkKept s (s.writeMem p (s.completionAt r) (leBytes 16 e)) [] (s.completionStores p r) :=
    (WorkKept.refl s _ _).writeMem fun a stored => .inl (by simpa using stored)
  have count (e next : Nat) : WorkKept s ((s.writeMem p (s.completionAt r) (leBytes 16 e)).writeMem p
      ((s.writeMem p (s.completionAt r) (leBytes 16 e)).ringDescAt p r + 32) (leBytes 4 next)) [] (s.completionStores p r) :=
    (entry e).writeMem fun a stored => .inr (by simpa [(entry e).ringDescAt] using stored)
  exact (count _ _).setRing ((count _ _).rings r).1.symm ((count _ _).rings r).2.symm

theorem WorkKept.countJob (s : State) (r total : Nat) {f : Ring → Ring} (base : (f (s.ring r)).completeBase = (s.ring r).completeBase)
    (slots : (f (s.ring r)).slotsLog = (s.ring r).slotsLog) (bytes : Nat → Prop) : WorkKept s (s.countJob r total f) [total] bytes := by
  have counted := WorkKept.of_keeps (Keeps.bump s total (List.mem_singleton_self _)) bytes
  exact counted.setRing (base.trans (counted.rings r).1.symm) (slots.trans (counted.rings r).2.symm)

theorem WorkKept.countEnd (s : State) (p r cause : Nat) (bytes : Nat → Prop) : WorkKept s (s.countEnd p r cause) (endKeys cause p) bytes := by
  unfold State.countEnd endKeys
  split
  · exact WorkKept.countJob s r _ rfl rfl bytes
  · exact ((WorkKept.countJob s r _ rfl rfl bytes).mono (by simp) fun _ => id).keeps
      (Keeps.setN _ (Entry.partRingLastCause p) cause (List.mem_singleton_self _)) (by simp)

theorem WorkKept.rereadRing (s : State) (p r : Nat) : WorkKept s (s.rereadRing p r) [] fun _ => False := by
  unfold State.rereadRing
  split
  · exact WorkKept.refl ..
  · exact (WorkKept.refl s _ _).setRing rfl rfl

/-- After its counts, a completion signals and reads the descriptor again. -/
theorem WorkKept.afterCount (s : State) (p r index tag : Nat) (irq : Bool) (cause : Nat) :
    WorkKept ((s.writeCompletion p r index tag cause).countEnd p r cause) (s.complete p r index tag irq cause) [] fun _ => False := by
  rw [State.complete_eq]
  refine WorkKept.trans ?_ (WorkKept.rereadRing _ p r)
  split
  · exact WorkKept.of_keeps ((State.signal_form ..).keeps []) _
  · exact WorkKept.refl ..

theorem WorkKept.complete (s : State) (p r index tag : Nat) (irq : Bool) (cause : Nat) :
    WorkKept s (s.complete p r index tag irq cause) (endKeys cause p) (s.completionStores p r) :=
  (((WorkKept.writeCompletion s p r index tag cause).mono (by simp) fun _ => id).trans (WorkKept.countEnd ..)).trans
    ((WorkKept.afterCount ..).mono (by simp) fun _ => False.elim)

theorem partRingCompleted_width {p : Nat} (user : p ∈ List.range' 1 8) (x : Part) : widthOf x (Entry.partRingCompleted p) = 64 :=
  widthOf_parts ((by decide +kernel : ∀ p ∈ List.range' 1 8, widthOf .hkz8840 (Entry.partRingCompleted p) = 64 ∧
    widthOf .hkz8830 (Entry.partRingCompleted p) = 64) p user) x

theorem State.complete_counts (s : State) {p : Nat} (user : p ∈ List.range' 1 8) (r index tag : Nat) (irq : Bool) :
    (s.complete p r index tag irq 0).n (Entry.partRingCompleted p) = (s.n (Entry.partRingCompleted p) + 1) % 2 ^ 64 := by
  have far : Entry.partRingCompleted p ≠ Entry.canEventsLost := ne_lost_of_record (by omega)
  rw [(WorkKept.afterCount s p r index tag irq 0).n (by simp) far, ← (WorkKept.writeCompletion s p r index tag 0).n (by simp) far]
  exact State.n_bump _ _ 64 far (partRingCompleted_width user)

theorem State.complete_lastCause (s : State) (p r index tag : Nat) (irq : Bool) {cause : Nat} (bad : cause ≠ 0) :
    (s.complete p r index tag irq cause).n (Entry.partRingLastCause p) = cause := by
  have far : Entry.partRingLastCause p ≠ Entry.canEventsLost := ne_lost_of_record (by omega)
  rw [(WorkKept.afterCount s p r index tag irq cause).n (by simp) far, State.countEnd, if_neg bad]
  exact State.n_setN _ _ _ far

/-! Jobs that end. -/

theorem State.endJob_none {s : State} {id : Nat} (absent : s.ringJob? id = none) (cause : Nat) : s.endJob id cause = s := by
  simp only [State.endJob, absent]

theorem State.endJob_some {s : State} {id : Nat} {j : RingJob} (found : s.ringJob? id = some j) (cause : Nat) :
    s.endJob id cause =
      (s.withWork s.raster (s.jobs.filter fun k => k.id ≠ id)).complete j.partition j.ring j.index j.tag j.irq cause := by
  simp only [State.endJob, found]
  rfl

/-- The entries that the end of the jobs of a state changes. -/
def State.jobKeys (s : State) (cause : Nat) : List Nat := s.jobs.flatMap fun j => endKeys cause j.partition

theorem State.mem_of_ringJob {s : State} {id : Nat} {j : RingJob} (found : s.ringJob? id = some j) : j ∈ s.jobs :=
  List.mem_of_find?_eq_some found

/-- A completion stays in the ring's slots for them. -/
theorem State.endBytes_of_completionStores {s : State} {id a : Nat} {j : RingJob} (found : s.ringJob? id = some j)
    (stored : s.completionStores j.partition j.ring a) : s.endBytes id a := by
  refine ⟨j, found, stored.imp_left fun ⟨_, low, high⟩ => ?_⟩
  have slot : (s.ring j.ring).completions % 2 ^ (s.ring j.ring).slotsLog < 2 ^ (s.ring j.ring).slotsLog := Nat.mod_lt _ (Nat.two_pow_pos _)
  simp only [State.completionAt] at low high
  constructor
  · omega
  · omega

theorem State.filter_of_absent {s : State} {id : Nat} (absent : s.ringJob? id = none) : (s.jobs.filter fun k => k.id ≠ id) = s.jobs := by
  refine List.filter_eq_self.2 fun k listed => ?_
  have := List.find?_eq_none.1 absent k listed
  simpa using this

/-- The end of a job takes it from the jobs; it writes its completion and counts it (R368). -/
theorem WorkKept.endJob (s : State) (id cause : Nat) :
    WorkKept (s.withWork s.raster (s.jobs.filter fun k => k.id ≠ id)) (s.endJob id cause) (s.jobKeys cause) (s.endBytes id) := by
  cases found : s.ringJob? id with
  | none =>
    rw [State.endJob_none found, State.filter_of_absent found]
    exact WorkKept.refl s _ _
  | some j =>
    rw [State.endJob_some found]
    refine (WorkKept.complete _ j.partition j.ring j.index j.tag j.irq cause).mono (fun k listed => ?_) fun a stored => ?_
    · exact List.mem_flatMap.2 ⟨j, State.mem_of_ringJob found, listed⟩
    · exact State.endBytes_of_completionStores found stored

theorem State.endJob_jobs (s : State) (id cause : Nat) : (s.endJob id cause).jobs = s.jobs.filter fun k => k.id ≠ id :=
  (WorkKept.endJob s id cause).jobs

theorem State.ringJob_endJob (s : State) {id i : Nat} (other : i ≠ id) (cause : Nat) : (s.endJob id cause).ringJob? i = s.ringJob? i := by
  rw [State.ringJob?, State.endJob_jobs, List.find?_filter, State.ringJob?]
  congr 1
  funext k
  by_cases same : k.id = i
  · simp [same, other]
  · simp [same]

theorem State.ringJob_endJob_same (s : State) (id cause : Nat) : (s.endJob id cause).ringJob? id = none := by
  rw [State.ringJob?, State.endJob_jobs]
  simp

/-- The jobs that remain are those of before. -/
theorem State.ringJob_of_endJob {s : State} {id i cause : Nat} {j : RingJob} (found : (s.endJob id cause).ringJob? i = some j) :
    s.ringJob? i = some j := by
  by_cases same : i = id
  · rw [same, State.ringJob_endJob_same] at found
    cases found
  · rwa [State.ringJob_endJob s same] at found

theorem State.partRingTableBase_not_mem_jobKeys (s : State) (cause p : Nat) : Entry.partRingRingTableBase p ∉ s.jobKeys cause := by
  simp only [State.jobKeys, endKeys, List.mem_flatMap, not_exists, not_and]
  intro j _ listed
  split at listed
  · exact key_ne_of_sub (by decide) (List.mem_singleton.1 listed)
  · rcases List.mem_pair.1 listed with same | same
    · exact key_ne_of_sub (by decide) same
    · exact key_ne_of_sub (by decide) same

/-- Where the jobs found are those of before, and the tables of rings stand, the bytes that the end of a job may write are the same. -/
theorem WorkKept.endBytes {s t : State} {x : Raster} {l : List RingJob} {keys : List Nat} {bytes : Nat → Prop}
    (h : WorkKept (s.withWork x l) t keys bytes) {i a : Nat} (jobs : ∀ j, t.ringJob? i = some j → s.ringJob? i = some j)
    (tables : ∀ j ∈ s.jobs, Entry.partRingRingTableBase j.partition ∉ keys) (written : t.endBytes i a) : s.endBytes i a := by
  obtain ⟨j, found, place⟩ := written
  refine ⟨j, jobs j found, place.imp (fun w => ?_) fun w => ?_⟩
  · rw [(h.rings j.ring).1, (h.rings j.ring).2] at w
    exact h.within.1 w
  · rw [h.ringDescAt (tables j (State.mem_of_ringJob (jobs j found)))] at w
    exact h.stores.1 w

theorem State.endBytes_of_endJob {s : State} {id i cause a : Nat} (written : (s.endJob id cause).endBytes i a) : s.endBytes i a :=
  (WorkKept.endJob s id cause).endBytes (fun _ => State.ringJob_of_endJob)
    (fun j _ => s.partRingTableBase_not_mem_jobKeys cause j.partition) written

/-- Jobs ended one after another with a cause. -/
def State.endAll (s : State) (ids : List Nat) (cause : Nat) : State := s.each ids fun t i => t.endJob i cause

theorem State.endAll_cons (s : State) (i : Nat) (ids : List Nat) (cause : Nat) :
    s.endAll (i :: ids) cause = (s.endJob i cause).endAll ids cause := rfl

theorem State.jobKeys_endJob (s : State) (id cause : Nat) : ∀ k ∈ (s.endJob id cause).jobKeys cause, k ∈ s.jobKeys cause := by
  intro k listed
  obtain ⟨j, remains, named⟩ := List.mem_flatMap.1 listed
  rw [State.endJob_jobs] at remains
  exact List.mem_flatMap.2 ⟨j, List.mem_of_mem_filter remains, named⟩

theorem WorkKept.endAll (s : State) (ids : List Nat) (cause : Nat) :
    WorkKept (s.withWork s.raster (s.jobs.filter fun k => k.id ∉ ids)) (s.endAll ids cause) (s.jobKeys cause)
      (fun a => ∃ i ∈ ids, s.endBytes i a) := by
  induction ids generalizing s with
  | nil =>
    have all : (s.jobs.filter fun k => k.id ∉ ([] : List Nat)) = s.jobs := by simp
    rw [all]
    exact WorkKept.refl s _ _
  | cons i r ih =>
    have first := ((WorkKept.endJob s i cause).withWork s.raster (s.jobs.filter fun k => k.id ∉ i :: r)).mono (fun _ => id)
      (wider := fun a => ∃ x ∈ i :: r, s.endBytes x a) fun a written => ⟨i, List.mem_cons_self, written⟩
    have rest := (ih (s.endJob i cause)).mono (s.jobKeys_endJob i cause) (wider := fun a => ∃ x ∈ i :: r, s.endBytes x a)
      fun a ⟨x, listed, written⟩ => ⟨x, List.mem_cons_of_mem _ listed, State.endBytes_of_endJob written⟩
    have remain : ((s.endJob i cause).jobs.filter fun k => k.id ∉ r) = s.jobs.filter fun k => k.id ∉ i :: r := by
      rw [State.endJob_jobs, List.filter_filter]
      refine List.filter_congr fun k _ => ?_
      simp [Bool.and_comm]
    have raster : (s.endJob i cause).raster = s.raster := (WorkKept.endJob s i cause).raster
    rw [remain, raster] at rest
    exact first.trans rest

/-- Every job that ends with a cause leaves it as its partition's LastCause. -/
theorem State.endAll_lastCause {cause : Nat} (bad : cause ≠ 0) (ids : List Nat) (s : State) :
    (∀ p, s.n (Entry.partRingLastCause p) = cause → (s.endAll ids cause).n (Entry.partRingLastCause p) = cause) ∧
    ∀ i ∈ ids, ∀ j, s.ringJob? i = some j → (s.endAll ids cause).n (Entry.partRingLastCause j.partition) = cause := by
  induction ids generalizing s with
  | nil => exact ⟨fun _ h => h, fun _ h => absurd h (List.not_mem_nil)⟩
  | cons i r ih =>
    obtain ⟨keep, ends⟩ := ih (s.endJob i cause)
    have still (p : Nat) (h : s.n (Entry.partRingLastCause p) = cause) : (s.endJob i cause).n (Entry.partRingLastCause p) = cause := by
      cases found : s.ringJob? i with
      | none => rwa [State.endJob_none found]
      | some j =>
        rw [State.endJob_some found]
        by_cases same : p = j.partition
        · rw [same]
          exact State.complete_lastCause _ _ _ _ _ _ bad
        · rw [(WorkKept.complete _ j.partition _ _ _ _ cause).n ?_ (ne_lost_of_record (by omega))]
          · exact h
          · rw [endKeys, if_neg bad]
            simp only [List.mem_pair, not_or]
            exact ⟨key_ne_of_sub (by decide), key_ne_of_index (by omega)⟩
    refine ⟨fun p h => keep p (still p h), fun x listed j found => ?_⟩
    by_cases same : x = i
    · subst same
      refine keep _ ?_
      rw [State.endJob_some found]
      exact State.complete_lastCause _ _ _ _ _ _ bad
    · exact ends x ((List.mem_cons.1 listed).resolve_left same) j ((State.ringJob_endJob s same cause).trans found)

theorem countedUp_next (w n k : Nat) : countedUp w ((n + 1) % 2 ^ w) k = countedUp w n (k + 1) := by
  simp only [countedUp, Nat.add_one_ne_zero, if_false]
  split
  · simp_all
  · rw [Nat.mod_add_mod, Nat.add_right_comm, Nat.add_assoc]

/-- Each job of a user partition that completes is counted there. -/
theorem State.endAll_completed {p : Nat} (user : p ∈ List.range' 1 8) {ids : List Nat} (distinct : ids.Nodup) (s : State) :
    (s.endAll ids 0).n (Entry.partRingCompleted p) = countedUp 64 (s.n (Entry.partRingCompleted p))
      (ids.filter fun i => (s.ringJob? i).any fun j => j.partition = p).length := by
  induction ids generalizing s with
  | nil => rfl
  | cons i r ih =>
    obtain ⟨fresh, rest⟩ := List.nodup_cons.1 distinct
    have later : (r.filter fun x => ((s.endJob i 0).ringJob? x).any fun j => j.partition = p) =
        r.filter fun x => (s.ringJob? x).any fun j => j.partition = p :=
      List.filter_congr fun x listed => by rw [State.ringJob_endJob s (fun same : x = i => fresh (same ▸ listed))]
    rw [State.endAll_cons, ih rest, later, List.filter_cons]
    cases found : s.ringJob? i with
    | none => rw [State.endJob_none found]; rfl
    | some j =>
      rw [State.endJob_some found]
      by_cases same : j.partition = p
      · subst same
        rw [State.complete_counts _ user, countedUp_next]
        simp
        rfl
      · rw [(WorkKept.complete _ j.partition _ _ _ _ 0).n ?_ (ne_lost_of_record (by omega))]
        · simp [same]
          rfl
        · rw [endKeys, if_pos rfl, List.mem_singleton]
          exact key_ne_of_index (by omega)

end Sys2Proof.Machine
end

section
namespace Sys2Proof.Machine

open Sys2Proof

/-! The end of passes (R203, R213): what both ends, completed and abandoned, do to the raster work, the jobs and the target. -/

/-- Where no pass of a partition waits for the pool, none resumes. -/
theorem State.resumeBins_idle {s : State} {p : Nat} (idle : ∀ x ∈ s.raster.passes, x.partition = p → x.waiting = false) :
    s.resumeBins p = s := by
  have none_waits : (s.raster.passes.filter fun q => q.partition = p && q.waiting) = [] := by
    refine List.filter_eq_nil_iff.2 fun x listed => ?_
    have := idle x listed
    simpa using this
  rw [State.resumeBins, none_waits]
  rfl

/-- The raster work without a pass, with a record for its target. -/
def Raster.close (r : Raster) (q : Pass) (g : TargetRt) : Raster :=
  { r with passes := r.passes.filter (fun x => x.id ≠ q.id), targets := Assoc.put r.targets (q.partition * 256 + q.target) g }

/-- The state without a pass, with a record for its target. -/
def State.dropPass (s : State) (q : Pass) (g : TargetRt) : State := s.withWork (s.raster.close q g) s.jobs

/-- The jobs of a pass end with a cause, and held jobs are released (R203, R210). -/
def State.endPass (s : State) (q : Pass) (cause : Nat) : State := (s.endAll q.jobs cause).releaseHeld

theorem State.endPass_eq (s : State) (q : Pass) (cause : Nat) :
    ((s.endJob q.job cause).each q.batches fun t b => t.endJob b.2.1 cause).releaseHeld = s.endPass q cause := by
  simp only [State.endPass, State.endAll, State.each, Pass.jobs, List.foldl_cons, List.foldl_map]

section
variable {s u : State} {q : Pass}

theorem State.endPass_raster (cause : Nat) : (u.endPass q cause).raster = u.raster := (WorkKept.endAll u q.jobs cause).raster

theorem State.endPass_entries (cause : Nat) : EntriesKept u (u.endPass q cause) (u.jobKeys cause) :=
  (WorkKept.endAll u q.jobs cause).entries

theorem State.endPass_memory (cause : Nat) {a : Nat} (free : ∀ i ∈ q.jobs, ¬ u.endBytes i a) :
    Memory.read (u.endPass q cause).mem a = Memory.read u.mem a :=
  (WorkKept.endAll u q.jobs cause).memory a fun ⟨i, listed, written⟩ => free i listed written

/-- The entries of the pipeline are apart from those that count jobs. -/
theorem State.key_not_mem_jobKeys {i a : Nat} (apart : a % 256 ∉ [7, 8, 10]) (cause : Nat) : key i a ∉ s.jobKeys cause := by
  simp only [State.jobKeys, endKeys, List.mem_flatMap, not_exists, not_and]
  intro j _ listed
  simp only [List.mem_cons, List.not_mem_nil, or_false, not_or] at apart
  split at listed
  · exact key_ne_of_sub (by omega) (List.mem_singleton.1 listed)
  · rcases List.mem_pair.1 listed with same | same
    · exact key_ne_of_sub (by omega) same
    · exact key_ne_of_sub (by omega) same

/-- After the pass and its jobs are gone, what R203 says of its end holds. -/
theorem State.endPass_closes {g : TargetRt} (raster : u.raster = s.raster.close q g) (jobs : u.jobs = s.jobs)
    (reserve : u.n Entry.rasterReserveFree = 2 ^ 24 - u.reserveUsed) (cause : Nat) : s.closesPass (u.endPass q cause) q := by
  have ended := WorkKept.endAll u q.jobs cause
  refine ⟨?_, ?_, ?_, ?_⟩
  · rw [State.endPass_raster, raster]
    rfl
  · rw [State.endPass, State.releaseHeld, ended.jobs, List.map_map, ← jobs]
    refine List.map_congr_left fun j _ => ?_
    simp only [Function.comp]
    split <;> rfl
  · intro j listed held
    obtain ⟨x, -, rfl⟩ := List.mem_map.1 listed
    by_cases released : (x.held && !(u.endAll q.jobs cause).outputHeld x.partition x.slot x.param x.b) = true
    · rw [if_pos released] at held
      cases held
    · rw [if_neg released] at held ⊢
      have drawn : (u.endAll q.jobs cause).outputHeld x.partition x.slot x.param x.b = true := by simpa [held] using released
      exact drawn
  · have free : Entry.rasterReserveFree ∉ u.jobKeys cause := State.key_not_mem_jobKeys (by decide) cause
    rw [(State.endPass_entries cause).n free (by decide), reserve, State.reserveUsed, State.reserveUsed, State.endPass_raster]

end

/-! Steps that a pass takes at its end. -/

namespace WorkKept

section
variable {s t : State} {keys : List Nat} {bytes : Nat → Prop} (h : WorkKept s t keys bytes)
include h

theorem each {α : Type} {l : List α} {f : State → α → State}
    (visit : ∀ u, ∀ a ∈ l, WorkKept s u keys bytes → WorkKept s (f u a) keys bytes) : WorkKept s (t.each l f) keys bytes :=
  State.each_invariant (P := fun u => WorkKept s u keys bytes) h visit

theorem setPortRt (n : Nat) (r : PortRt) : WorkKept s (t.setPortRt n r) keys bytes :=
  ⟨h.entries, h.memory, h.raster, h.jobs, h.parts, h.herds, h.rings⟩

theorem drawFree : WorkKept s t.drawFree.2 keys bytes := ⟨h.entries, h.memory, h.raster, h.jobs, h.parts, h.herds, h.rings⟩

theorem restartHistory (p target count : Nat) : WorkKept s (t.restartHistory p target count) keys bytes := by
  refine h.each fun u n _ kept => ?_
  dsimp only
  split
  · exact kept.setPortRt n _
  · exact kept

/-- Bytes written within an area that may change. -/
theorem writeWithin {p o : Nat} {b : Bytes} (covered : ∀ a, s.within p o b.length a → bytes a) :
    WorkKept s (t.writeMem p o b) keys bytes := h.writeMem fun a ⟨_, inside⟩ => covered a inside

theorem writeFree {p o n : Nat} (covered : ∀ a, s.within p o n a → bytes a) : WorkKept s (t.writeFree p o n) keys bytes := by
  refine h.each fun u i listed kept => ?_
  refine kept.drawFree.writeWithin fun a inside => covered a ?_
  have := List.mem_range.1 listed
  simp only [State.within, List.length_singleton] at inside ⊢
  omega

/-- A tile's plane written: its pixels and the metadata of their blocks (R198, R212). -/
theorem writePlane {q : Pass} {tile base size : Nat} (covered : ∀ a, s.planeBytes q.partition q.desc tile base size a → bytes a)
    (codes : List Nat) : WorkKept s (t.writePlane q tile base size codes) keys bytes := by
  refine (h.each fun u e listed kept => ?_).each fun u b listed kept => ?_
  · exact kept.writeWithin fun a inside => covered a (.inl ⟨e.1, (List.of_mem_zip listed).1, by simpa using inside⟩)
  · exact kept.writeFree fun a inside => covered a (.inr ⟨b, listed, inside⟩)

theorem targetAt {p : Nat} (free : Entry.partRasterTargetTableBase p ∉ keys) (target : Nat) : t.targetAt p target = s.targetAt p target := by
  simp only [State.targetAt, h.n free (ne_lost_of_record (by omega))]

/-- A target's FrameCount and Status written (R197, R198). -/
theorem showTarget {p target : Nat} (free : Entry.partRasterTargetTableBase p ∉ keys)
    (covered : ∀ a, s.stores p (s.targetAt p target + 16) 8 a → bytes a) (drawing : Option Nat) :
    WorkKept s (t.showTarget p target drawing) keys bytes :=
  h.writeMem fun a stored => covered a (by simpa [h.targetAt free] using stored)

end

end WorkKept

theorem Keeps.idleTiles (s : State) (units : List Nat) : Keeps s (s.idleTiles units) (units.map Entry.tileState) := by
  refine Keeps.each s units _ fun t u listed => ?_
  split
  · exact Keeps.setN t _ _ (List.mem_map_of_mem listed)
  · exact Keeps.refl t _

theorem State.idleTiles_cons (s : State) (v : Nat) (units : List Nat) :
    s.idleTiles (v :: units) = (if s.n (Entry.tileState v) = 1 then s.setN (Entry.tileState v) 0 else s).idleTiles units := rfl

theorem State.idleTiles_state (s : State) (units : List Nat) (u : Nat) :
    (s.idleTiles units).n (Entry.tileState u) = if u ∈ units ∧ s.n (Entry.tileState u) = 1 then 0 else s.n (Entry.tileState u) := by
  have far (v : Nat) : Entry.tileState v ≠ Entry.canEventsLost := ne_lost_of_record (by omega)
  induction units generalizing s with
  | nil => simp [State.idleTiles, State.each]
  | cons v r ih =>
    rw [State.idleTiles_cons, ih]
    by_cases busy : s.n (Entry.tileState v) = 1
    · rw [if_pos busy]
      by_cases same : v = u
      · subst same
        simp [State.n_setN _ _ _ (far v), busy]
      · rw [State.n_setN_ne _ _ (key_ne_of_index (by omega)) (far u)]
        simp [Ne.symm same]
    · rw [if_neg busy]
      by_cases same : u = v
      · subst same
        simp [busy]
      · simp [same]

theorem Keeps.showReserve (s : State) : Keeps s s.showReserve [Entry.rasterReserveFree, Entry.rasterReserveHighWater] := by
  unfold State.showReserve
  dsimp only
  split
  · exact (Keeps.setN s _ _ (by simp)).trans (Keeps.setN _ _ _ (by simp))
  · exact Keeps.setN s _ _ (by simp)

theorem State.reserveUsed_congr {s t : State} (raster : t.raster = s.raster) : t.reserveUsed = s.reserveUsed := by
  simp only [State.reserveUsed, raster]

theorem State.showReserve_free (s : State) : s.showReserve.n Entry.rasterReserveFree = 2 ^ 24 - s.reserveUsed := by
  unfold State.showReserve
  dsimp only
  split
  · rw [State.n_setN_ne _ _ (by decide) (by decide), State.n_setN _ _ _ (by decide)]
  · exact State.n_setN _ _ _ (by decide)

/-! Abandoned passes (R203). -/

/-- The pass gone from the raster work and its target Stale, its tile units idle, and the abandonment counted with its cause. -/
def State.countShut (s : State) (q : Pass) (cause : Nat) : State :=
  let t := ((s.dropPass q { s.target q.partition q.target with stale := true }).idleTiles (q.running.map TileRun.unit)).showReserve
  ((t.bump Entry.rasterPassesAbandoned).bump (Entry.partRasterPassesAbandoned q.partition)).setN
    (Entry.partRasterAbandonCause q.partition) cause

/-- A pass closed as abandoned with a cause, before its jobs end. -/
def State.shutPass (s : State) (q : Pass) (cause : Nat) : State :=
  ((s.countShut q cause).showTarget q.partition q.target none).restartHistory q.partition q.target ((q.frameCount + 1) % 2 ^ 32)

theorem State.abandonPass_eq (s : State) (q : Pass) (cause : Nat) : s.abandonPass q cause = (s.shutPass q cause).endPass q 5 := by
  rw [← State.endPass_eq]
  rfl

/-- The entries that an abandonment changes beside those of the pass's jobs. -/
def Pass.shutKeys (q : Pass) : List Nat :=
  [Entry.rasterPassesAbandoned, Entry.partRasterPassesAbandoned q.partition, Entry.partRasterAbandonCause q.partition,
    Entry.rasterReserveFree, Entry.rasterReserveHighWater] ++ q.running.map fun r => Entry.tileState r.unit

theorem Keeps.countShut (s : State) (q : Pass) (cause : Nat) :
    Keeps (s.dropPass q { s.target q.partition q.target with stale := true }) (s.countShut q cause) q.shutKeys := by
  have idle := (Keeps.idleTiles (s.dropPass q { s.target q.partition q.target with stale := true }) (q.running.map TileRun.unit)).mono
    (more := q.shutKeys) fun k listed => by
      simp only [List.map_map] at listed
      exact List.mem_append_right _ listed
  have reserve := (Keeps.showReserve (State.idleTiles (s.dropPass q { s.target q.partition q.target with stale := true })
    (q.running.map TileRun.unit))).mono (more := q.shutKeys) fun k listed => by
      rcases List.mem_pair.1 listed with rfl | rfl
      · simp [Pass.shutKeys]
      · simp [Pass.shutKeys]
  exact (((idle.trans reserve).trans (Keeps.bump _ Entry.rasterPassesAbandoned (by simp [Pass.shutKeys]))).trans
    (Keeps.bump _ (Entry.partRasterPassesAbandoned q.partition) (by simp [Pass.shutKeys]))).trans
    (Keeps.setN _ (Entry.partRasterAbandonCause q.partition) cause (by simp [Pass.shutKeys]))

/-- The tables of targets stand while passes end: they are apart from what an abandonment changes. -/
theorem Pass.targetTable_not_mem_shutKeys {q : Pass} (small : q.partition < 9) :
    Entry.partRasterTargetTableBase q.partition ∉ q.shutKeys := by
  simp only [Pass.shutKeys, List.cons_append, List.nil_append, List.mem_cons, List.mem_map, not_or, not_exists, not_and]
  refine ⟨key_ne_of_sub (by decide), key_ne_of_sub (by decide), key_ne_of_sub (by decide), key_ne_of_sub (by decide),
    key_ne_of_sub (by decide), fun r _ same => ?_⟩
  exact key_ne_of_record (a := 1) (b := 1) (by omega) (by decide) (by decide) same

theorem Pass.ringTable_not_mem_shutKeys {q : Pass} {p : Nat} (units : ∀ r ∈ q.running, r.unit < 16) :
    Entry.partRingRingTableBase p ∉ q.shutKeys := by
  simp only [Pass.shutKeys, List.cons_append, List.nil_append, List.mem_cons, List.mem_map, not_or, not_exists, not_and]
  refine ⟨key_ne_of_sub (by decide), key_ne_of_sub (by decide), key_ne_of_sub (by decide), key_ne_of_sub (by decide),
    key_ne_of_sub (by decide), fun r listed same => ?_⟩
  have := units r listed
  exact key_ne_of_record (a := 1) (b := 1) (by omega) (by decide) (by decide) same

/-- The bytes of a pass's target that show its FrameCount and Status. -/
def State.statusBytes (s : State) (q : Pass) (a : Nat) : Prop := s.stores q.partition (s.targetAt q.partition q.target + 16) 8 a

section
variable {s : State} {q : Pass}

theorem WorkKept.shutPass (small : q.partition < 9) (cause : Nat) :
    WorkKept (s.dropPass q { s.target q.partition q.target with stale := true }) (s.shutPass q cause) q.shutKeys (s.statusBytes q) :=
  ((WorkKept.of_keeps (Keeps.countShut s q cause) _).showTarget (Pass.targetTable_not_mem_shutKeys small)
    (fun _ => id) none).restartHistory ..

/-- What an abandonment counts is not touched by the showing of its target. -/
theorem State.n_shutPass (cause : Nat) {k : Nat} (lost : k ≠ Entry.canEventsLost) :
    (s.shutPass q cause).n k = (s.countShut q cause).n k :=
  (((WorkKept.refl (s.countShut q cause) [] fun _ => True).showTarget (by simp) (fun _ _ => trivial) none).restartHistory
    q.partition q.target ((q.frameCount + 1) % 2 ^ 32)).n (by simp) lost

theorem State.shutPass_cause (cause : Nat) : (s.shutPass q cause).n (Entry.partRasterAbandonCause q.partition) = cause := by
  have far : Entry.partRasterAbandonCause q.partition ≠ Entry.canEventsLost := ne_lost_of_record (by omega)
  rw [State.n_shutPass cause far]
  exact State.n_setN _ _ _ far

/-- The counts of an abandonment leave entries under other places of their records. -/
theorem State.n_countShut (cause i a : Nat) (high : 0x1102 ≤ i) (apart : a % 256 ∉ [6, 8, 9]) :
    (s.countShut q cause).n (key i a) = (State.showReserve ((s.dropPass q
      { s.target q.partition q.target with stale := true }).idleTiles (q.running.map TileRun.unit))).n (key i a) := by
  have far : key i a ≠ Entry.canEventsLost := ne_lost_of_record high
  simp only [List.mem_cons, List.not_mem_nil, or_false, not_or] at apart
  rw [State.countShut, State.n_setN_ne _ _ (key_ne_of_sub (by omega)) far, State.n_bump_ne _ (key_ne_of_sub (by omega)) far,
    State.n_bump_ne _ (key_ne_of_sub (by omega)) far]

theorem State.shutPass_reserve (small : q.partition < 9) (cause : Nat) :
    (s.shutPass q cause).n Entry.rasterReserveFree = 2 ^ 24 - (s.shutPass q cause).reserveUsed := by
  rw [State.n_shutPass cause (by decide), State.n_countShut cause 0x3000 0x03 (by decide) (by decide), State.showReserve_free,
    State.reserveUsed_congr (WorkKept.shutPass small cause).raster, State.reserveUsed_congr (Keeps.idleTiles ..).raster]

theorem State.shutPass_idle (cause : Nat) {r : TileRun} (listed : r ∈ q.running) (busy : s.n (Entry.tileState r.unit) = 1) :
    (s.shutPass q cause).n (Entry.tileState r.unit) = 0 := by
  have far : Entry.tileState r.unit ≠ Entry.canEventsLost := ne_lost_of_record (by omega)
  rw [State.n_shutPass cause far, State.n_countShut cause (0x3010 + r.unit) 0x01 (by omega) (by decide), (Keeps.showReserve _).n ?_ far,
    State.idleTiles_state, if_pos]
  · exact ⟨List.mem_map_of_mem listed, busy⟩
  · rw [List.mem_pair, not_or]
    exact ⟨key_ne_of_sub (by decide), key_ne_of_sub (by decide)⟩

/-- What the tiles and the reserve show leaves the counts of abandoned passes. -/
theorem State.n_idleReserve (units : List Nat) (i a : Nat) (high : 0x1102 ≤ i) (apart : a % 256 ∉ [1, 3, 4]) :
    (s.idleTiles units).showReserve.n (key i a) = s.n (key i a) := by
  have far : key i a ≠ Entry.canEventsLost := ne_lost_of_record high
  simp only [List.mem_cons, List.not_mem_nil, or_false, not_or] at apart
  rw [(Keeps.showReserve _).n ?_ far, (Keeps.idleTiles _ _).n ?_ far]
  · simp only [List.mem_map, not_exists, not_and]
    exact fun u _ same => key_ne_of_sub (by omega) same.symm
  · rw [List.mem_pair, not_or]
    exact ⟨key_ne_of_sub (by omega), key_ne_of_sub (by omega)⟩

theorem State.shutPass_counts (user : q.partition ∈ List.range' 1 8) (cause : Nat) :
    (s.shutPass q cause).n Entry.rasterPassesAbandoned = (s.n Entry.rasterPassesAbandoned + 1) % 2 ^ 32 ∧
    (s.shutPass q cause).n (Entry.partRasterPassesAbandoned q.partition) =
      (s.n (Entry.partRasterPassesAbandoned q.partition) + 1) % 2 ^ 32 := by
  have far : Entry.partRasterPassesAbandoned q.partition ≠ Entry.canEventsLost := ne_lost_of_record (by omega)
  have width := (by decide +kernel : ∀ p ∈ List.range' 1 8, widthOf .hkz8840 (Entry.partRasterPassesAbandoned p) = 32 ∧
    widthOf .hkz8830 (Entry.partRasterPassesAbandoned p) = 32) _ user
  constructor
  · rw [State.n_shutPass cause (by decide), State.countShut, State.n_setN_ne _ _ (key_ne_of_sub (by decide)) (by decide),
      State.n_bump_ne _ (key_ne_of_sub (by decide)) (by decide), State.n_bump _ _ 32 (by decide) (widthOf_parts (by decide +kernel)),
      State.n_idleReserve _ 0x3000 0x06 (by decide) (by decide)]
    rfl
  · rw [State.n_shutPass cause far, State.countShut, State.n_setN_ne _ _ (key_ne_of_sub (by decide)) far,
      State.n_bump _ _ 32 far (widthOf_parts width), State.n_bump_ne _ (key_ne_of_sub (by decide)) far,
      State.n_idleReserve _ (0x3000 + q.partition) 0x08 (by omega) (by decide)]
    rfl

theorem State.closesPass_abandonPass (small : q.partition < 9) (cause : Nat) : s.closesPass (s.abandonPass q cause) q := by
  rw [State.abandonPass_eq]
  exact State.endPass_closes (WorkKept.shutPass small cause).raster (WorkKept.shutPass small cause).jobs
    (State.shutPass_reserve small cause) 5

theorem State.abandonPass_cause (cause : Nat) : (s.abandonPass q cause).n (Entry.partRasterAbandonCause q.partition) = cause := by
  rw [State.abandonPass_eq, (State.endPass_entries 5).n (State.key_not_mem_jobKeys (by decide) 5) (ne_lost_of_record (by omega)),
    State.shutPass_cause]

/-- Where no other pass of the partition waits, none resumes after a pass is closed. -/
theorem State.resumeBins_closed {t : State} (plain : s.plainPass q) (closed : s.closesPass t q) : t.resumeBins q.partition = t := by
  obtain ⟨-, -, -, -, idle⟩ := plain
  obtain ⟨passes, -⟩ := closed
  refine State.resumeBins_idle fun x listed part => ?_
  rw [passes] at listed
  obtain ⟨listed, other⟩ := List.mem_filter.1 listed
  exact idle x listed part (by simpa using other)

end

end Sys2Proof.Machine
end

section
namespace Sys2Proof.Machine

open Sys2Proof

/-! What an abandoned pass leaves (R203). -/

/-- A state with the jobs of another ends them under the same entries. -/
theorem State.jobKeys_congr {s t : State} (jobs : t.jobs = s.jobs) (cause : Nat) : t.jobKeys cause = s.jobKeys cause := by
  rw [State.jobKeys, jobs, State.jobKeys]

theorem State.ringJob_congr {s t : State} (jobs : t.jobs = s.jobs) (i : Nat) : t.ringJob? i = s.ringJob? i := by
  rw [State.ringJob?, jobs, State.ringJob?]

/-- A target's record after its pass is closed. -/
theorem State.target_close {s t : State} {q : Pass} {g : TargetRt} (raster : t.raster = s.raster.close q g) :
    t.target q.partition q.target = g := by
  rw [State.target, raster, Raster.close, Assoc.get_put_same]

section
variable {s : State} {q : Pass} (small : q.partition < 9) (cause : Nat)
include small

theorem State.abandonPass_target :
    (s.abandonPass q cause).target q.partition q.target = { s.target q.partition q.target with stale := true } := by
  refine State.target_close (s := s) ?_
  rw [State.abandonPass_eq, State.endPass_raster, (WorkKept.shutPass small cause).raster]
  rfl

theorem State.abandonPass_lastCause {i : Nat} (listed : i ∈ q.jobs) {j : RingJob} (found : s.ringJob? i = some j) :
    (s.abandonPass q cause).n (Entry.partRingLastCause j.partition) = 5 := by
  rw [State.abandonPass_eq]
  exact (State.endAll_lastCause (by decide) q.jobs (s.shutPass q cause)).2 i listed j
    ((State.ringJob_congr (WorkKept.shutPass small cause).jobs i).trans found)

theorem State.abandonPass_entries : EntriesKept s (s.abandonPass q cause) (q.shutKeys ++ s.jobKeys 5) := by
  have shut := WorkKept.shutPass (s := s) small cause
  have ended := State.endPass_entries (u := s.shutPass q cause) (q := q) 5
  rw [State.jobKeys_congr (s := s) shut.jobs] at ended
  rw [State.abandonPass_eq]
  exact EntriesKept.trans shut.entries ended

theorem State.abandonPass_memory (units : ∀ r ∈ q.running, r.unit < 16) {a : Nat} (jobs : ∀ i ∈ q.jobs, ¬ s.endBytes i a)
    (status : ¬ s.statusBytes q a) : Memory.read (s.abandonPass q cause).mem a = Memory.read s.mem a := by
  have shut := WorkKept.shutPass (s := s) small cause
  rw [State.abandonPass_eq, State.endPass_memory 5 fun i listed written => jobs i listed ?_]
  · exact shut.memory a status
  · exact shut.endBytes (fun j found => (State.ringJob_congr shut.jobs i).symm.trans found)
      (fun j _ => Pass.ringTable_not_mem_shutKeys units) written

end

section
variable {s : State} {q : Pass} (cause : Nat)

/-- The entries that an end of jobs leaves show what the pass left there. -/
theorem State.n_abandonPass {i a : Nat} (high : 0x1102 ≤ i) (apart : a % 256 ∉ [7, 8, 10]) :
    (s.abandonPass q cause).n (key i a) = (s.shutPass q cause).n (key i a) := by
  rw [State.abandonPass_eq, (State.endPass_entries 5).n (State.key_not_mem_jobKeys apart 5) (ne_lost_of_record high)]

theorem State.abandonPass_idle {r : TileRun} (listed : r ∈ q.running) (busy : s.n (Entry.tileState r.unit) = 1) :
    (s.abandonPass q cause).n (Entry.tileState r.unit) = 0 :=
  (State.n_abandonPass cause (by omega) (by decide)).trans (State.shutPass_idle cause listed busy)

theorem State.abandonPass_counted (user : q.partition ∈ List.range' 1 8) :
    (s.abandonPass q cause).n Entry.rasterPassesAbandoned = (s.n Entry.rasterPassesAbandoned + 1) % 2 ^ 32 :=
  (State.n_abandonPass cause (i := 0x3000) (a := 0x06) (by decide) (by decide)).trans (State.shutPass_counts user cause).1

/-- PassesAbandoned of a partition is an entry of the pipeline, and no count of jobs. -/
theorem State.partPassesAbandoned_not_mem_jobKeys {p : Nat} (small : p < 9) (cause : Nat) :
    Entry.partRasterPassesAbandoned p ∉ s.jobKeys cause := by
  simp only [State.jobKeys, endKeys, List.mem_flatMap, not_exists, not_and]
  intro j _ listed
  split at listed
  · exact key_ne_of_sub (by decide) (List.mem_singleton.1 listed)
  · rcases List.mem_pair.1 listed with same | same
    · exact key_ne_of_record (by omega) (by decide) (by decide) same
    · exact key_ne_of_sub (by decide) same

theorem State.abandonPass_partCounted (user : q.partition ∈ List.range' 1 8) : (s.abandonPass q cause).n
    (Entry.partRasterPassesAbandoned q.partition) = (s.n (Entry.partRasterPassesAbandoned q.partition) + 1) % 2 ^ 32 := by
  have small : q.partition < 9 := by have := List.mem_range'_1.1 user; omega
  rw [State.abandonPass_eq, (State.endPass_entries 5).n (State.partPassesAbandoned_not_mem_jobKeys small 5) (ne_lost_of_record (by omega)),
    (State.shutPass_counts user cause).2]

end

theorem State.passLate_eq {s : State} {p : Nat} {q : Pass} (plain : s.plainPass q)
    (oldest : s.raster.passes.find? (fun x => x.partition = p) = some q) : s.passLate p = s.abandonPass q 2 := by
  have part : q.partition = p := by simpa using List.find?_some oldest
  simp only [State.passLate, oldest]
  rw [← part, State.resumeBins_closed plain (State.closesPass_abandonPass plain.1 2)]

/-! Completed passes (R203, R213). -/

/-- The bytes of the planes that the completion of a pass draws: the resolved frame and the motion plane (R213). -/
def State.drawnBytes (s : State) (q : Pass) (a : Nat) : Prop :=
  ∃ k < tileCount q.desc,
    (descSamples q.desc ≠ 1 ∧
      s.planeBytes q.partition q.desc k (bits q.desc 384 64 + q.buffer * descFrame q.desc) (descBytes q.desc) a) ∨
    (descUpscale q.desc = true ∧ ∃ e ∈ tilePixels q.desc k, s.within q.partition
      (bits q.desc 192 64 + q.buffer * descMotion q.desc + (e.2 * (descSize q.desc).1 + e.1) * 4) 4 a)

/-- A pass's frame resolved and its motion plane written. -/
def State.drawPlanes (s : State) (q : Pass) : State :=
  let tiles := List.range (tileCount q.desc)
  let t := if descSamples q.desc = 1 then s else s.each tiles fun t k => t.resolveTile q k
  if descUpscale q.desc then t.each tiles fun t k => t.writeMotion q k else t

/-- The record of a target whose pass completed. -/
def TargetRt.complete (g : TargetRt) (q : Pass) : TargetRt :=
  { g with newest := q.buffer, shown := some (q.frameCount, descExternal q.desc), stale := false
           buffers := g.buffers ++ [(q.buffer, q.frameCount)] }

/-- A pass closed as completed, before its jobs end. -/
def State.finishPass (s : State) (q : Pass) : State :=
  let t := (s.drawPlanes q).dropPass q (((s.drawPlanes q).target q.partition q.target).complete q)
  ((t.bump Entry.rasterPassesCompleted).showReserve).showTarget q.partition q.target none

theorem State.passEnds_some {s : State} {p : Nat} {q : Pass}
    (oldest : s.raster.passes.find? (fun x => x.partition = p && x.ready) = some q) :
    s.passEnds p = ((s.finishPass q).endPass q 0).resumeBins p := by
  have part : q.partition = p := by
    have found := List.find?_some oldest
    simp only [Bool.and_eq_true, decide_eq_true_eq] at found
    exact found.1
  subst part
  rw [← State.endPass_eq]
  simp only [State.passEnds, oldest]
  rfl

theorem WorkKept.drawPlanes (s : State) (q : Pass) : WorkKept s (s.drawPlanes q) [] (s.drawnBytes q) := by
  have resolved : WorkKept s (if descSamples q.desc = 1 then s else s.each (List.range (tileCount q.desc)) fun t k => t.resolveTile q k) []
      (s.drawnBytes q) := by
    by_cases single : descSamples q.desc = 1
    · rw [if_pos single]
      exact WorkKept.refl s _ _
    · rw [if_neg single]
      exact (WorkKept.refl s _ _).each fun u k listed kept =>
        kept.writePlane (fun a inside => ⟨k, List.mem_range.1 listed, .inl ⟨single, inside⟩⟩) _
  unfold State.drawPlanes
  dsimp only
  split
  · rename_i upscaled
    refine resolved.each fun u k tile kept => kept.each fun v e listed kept => kept.writeWithin fun a inside => ?_
    exact ⟨k, List.mem_range.1 tile, .inr ⟨upscaled, e.1, (List.of_mem_zip listed).1, by simpa using inside⟩⟩
  · exact resolved

/-- The entries that a completion changes beside those of the pass's jobs. -/
def finishKeys : List Nat := [Entry.rasterPassesCompleted, Entry.rasterReserveFree, Entry.rasterReserveHighWater]

section
variable {s : State} {q : Pass}

theorem State.drawPlanes_target (s : State) (q : Pass) : (s.drawPlanes q).target = s.target := by
  funext p target
  rw [State.target, (WorkKept.drawPlanes s q).raster, State.target]

theorem State.drawPlanes_dropPass (s : State) (q : Pass) (g : TargetRt) :
    (s.drawPlanes q).dropPass q g = (s.drawPlanes q).withWork (s.raster.close q g) s.jobs := by
  rw [State.dropPass, (WorkKept.drawPlanes s q).raster, (WorkKept.drawPlanes s q).jobs]

/-- The entries of a completion, before its target is shown. -/
theorem Keeps.finish (t : State) : Keeps t (t.bump Entry.rasterPassesCompleted).showReserve finishKeys :=
  (Keeps.bump t Entry.rasterPassesCompleted (List.mem_cons_self)).trans ((Keeps.showReserve _).mono fun _ => List.mem_cons_of_mem _)

theorem WorkKept.finishPass : WorkKept (s.withWork (s.raster.close q ((s.target q.partition q.target).complete q)) s.jobs)
    (s.finishPass q) finishKeys (fun a => s.drawnBytes q a ∨ s.statusBytes q a) := by
  have drawn := ((WorkKept.drawPlanes s q).withWork (s.raster.close q ((s.target q.partition q.target).complete q)) s.jobs).mono
    (more := finishKeys) (by simp) (wider := fun a => s.drawnBytes q a ∨ s.statusBytes q a) fun _ => .inl
  rw [State.finishPass, State.drawPlanes_target, State.drawPlanes_dropPass]
  refine (drawn.keeps (Keeps.finish _) fun _ => id).showTarget ?_ (fun _ => .inr) none
  simp only [finishKeys, List.mem_cons, List.not_mem_nil, or_false, not_or]
  exact ⟨key_ne_of_sub (by decide), key_ne_of_sub (by decide), key_ne_of_sub (by decide)⟩

/-- What a completion counts is not touched by the showing of its target. -/
theorem State.n_finishPass {k : Nat} (lost : k ≠ Entry.canEventsLost) :
    (s.finishPass q).n k = (((s.drawPlanes q).dropPass q (((s.drawPlanes q).target q.partition q.target).complete q)).bump
      Entry.rasterPassesCompleted).showReserve.n k :=
  ((WorkKept.refl _ [] fun _ => True).showTarget (by simp) (fun _ _ => trivial) none).n (by simp) lost

theorem State.finishPass_reserve : (s.finishPass q).n Entry.rasterReserveFree = 2 ^ 24 - (s.finishPass q).reserveUsed := by
  rw [State.n_finishPass (by decide), State.showReserve_free, State.reserveUsed_congr (Keeps.bump _ _ (List.mem_singleton_self _)).raster,
    State.reserveUsed_congr WorkKept.finishPass.raster, State.drawPlanes_dropPass]
  rfl

theorem State.finishPass_counts : (s.finishPass q).n Entry.rasterPassesCompleted = (s.n Entry.rasterPassesCompleted + 1) % 2 ^ 64 := by
  rw [State.n_finishPass (by decide), (Keeps.showReserve _).n (by decide) (by decide), State.n_bump _ _ 64 (by decide)
    (widthOf_parts (by decide +kernel)), ← (WorkKept.drawPlanes s q).n (k := Entry.rasterPassesCompleted) (by simp) (by decide)]
  rfl

theorem State.closesPass_finishPass : s.closesPass ((s.finishPass q).endPass q 0) q :=
  State.endPass_closes WorkKept.finishPass.raster WorkKept.finishPass.jobs State.finishPass_reserve 0

theorem State.finishPass_target :
    ((s.finishPass q).endPass q 0).target q.partition q.target = (s.target q.partition q.target).complete q :=
  State.target_close (s := s) ((State.endPass_raster 0).trans WorkKept.finishPass.raster)

theorem State.passEnds_eq {p : Nat} (plain : s.plainPass q)
    (oldest : s.raster.passes.find? (fun x => x.partition = p && x.ready) = some q) : s.passEnds p = (s.finishPass q).endPass q 0 := by
  have found := List.find?_some oldest
  simp only [Bool.and_eq_true, decide_eq_true_eq] at found
  rw [State.passEnds_some oldest, ← found.1, State.resumeBins_closed plain State.closesPass_finishPass]

/-- Completions are counted where the partitions that exist count them. -/
theorem State.endPass_completed {u : State} (user : q.partition ∈ List.range' 1 8) (distinct : q.jobs.Nodup) :
    (u.endPass q 0).n (Entry.partRingCompleted q.partition) = countedUp 64 (u.n (Entry.partRingCompleted q.partition))
      (q.jobs.filter fun i => (u.ringJob? i).any fun j => j.partition = q.partition).length :=
  State.endAll_completed user distinct u

theorem finishKeys_sub {k : Nat} (listed : k ∈ finishKeys) : k % 256 ∈ [3, 4, 5] := by
  simp only [finishKeys, List.mem_cons, List.not_mem_nil, or_false] at listed
  rcases listed with rfl | rfl | rfl <;> decide

theorem State.finishPass_completed (p : Nat) : (s.finishPass q).n (Entry.partRingCompleted p) = s.n (Entry.partRingCompleted p) :=
  WorkKept.finishPass.n (fun listed => by
    have := finishKeys_sub listed
    simp only [Entry.partRingCompleted, key, List.mem_cons, List.not_mem_nil, or_false] at this
    omega) (ne_lost_of_record (by omega))

/-- A completion writes the planes it draws, the target's Status and the completions of its jobs (R203, R213, R364). -/
theorem State.endPass_finishPass_memory {a : Nat} (jobs : ∀ i ∈ q.jobs, ¬ s.endBytes i a) (drawn : ¬ s.drawnBytes q a)
    (status : ¬ s.statusBytes q a) : Memory.read ((s.finishPass q).endPass q 0).mem a = Memory.read s.mem a := by
  have finished := WorkKept.finishPass (s := s) (q := q)
  rw [State.endPass_memory 0 fun i listed written => jobs i listed ?_]
  · exact finished.memory a fun bytes => bytes.elim drawn status
  · refine finished.endBytes (fun j found => (State.ringJob_congr finished.jobs i).symm.trans found) (fun j _ listed => ?_) written
    have := finishKeys_sub listed
    simp only [Entry.partRingRingTableBase, key, List.mem_cons, List.not_mem_nil, or_false] at this
    omega

theorem State.endPass_finishPass_entries :
    EntriesKept s ((s.finishPass q).endPass q 0) (finishKeys ++ s.jobs.map fun j => Entry.partRingCompleted j.partition) := by
  have ended := State.endPass_entries (u := s.finishPass q) (q := q) 0
  have single : s.jobKeys 0 = s.jobs.map fun j => Entry.partRingCompleted j.partition := by
    simp [State.jobKeys, endKeys, List.map_eq_flatMap]
  rw [State.jobKeys_congr (s := s) WorkKept.finishPass.jobs, single] at ended
  exact EntriesKept.trans WorkKept.finishPass.entries ended

end

theorem State.closesPass_seal {s t : State} {q : Pass} (closed : s.closesPass t q) : s.closesPass (s.seal t) q := closed

theorem State.seal_target (s t : State) : (s.seal t).target = t.target := rfl

theorem userPartition (p : Fin 8) : p.val + 1 ∈ List.range' 1 8 := List.mem_range'_1.2 (by omega)

theorem exec_passComplete (p : Fin 8) (s : State) : exec (.passComplete p) s = .next (s.seal (s.passEnds (p.val + 1))) := rfl

theorem exec_passTimeout (p : Fin 8) (s : State) : exec (.passTimeout p) s = .next (s.seal (s.passLate (p.val + 1))) := rfl

/-- Settles O37: a completion draws its planes, shows them and ends its jobs; a timeout abandons the pass. -/
theorem passesEnd : Obligations.PassesEnd := by
  intro s p q plain
  have user := userPartition p
  have ⟨small, units, _, distinct, _⟩ := plain
  refine ⟨fun oldest => ?_, fun oldest => ?_⟩
  · have found := List.find?_some oldest
    simp only [Bool.and_eq_true, decide_eq_true_eq] at found
    refine ⟨_, exec_passComplete p s, ?_⟩
    rw [State.passEnds_eq plain oldest]
    rw [← found.1] at user ⊢
    have counted := State.endPass_completed (u := s.finishPass q) user distinct
    rw [State.finishPass_completed] at counted
    simp only [State.ringJob_congr WorkKept.finishPass.jobs] at counted
    simp only [State.seal_target, State.seal_n, State.seal_mem]
    refine ⟨State.closesPass_seal State.closesPass_finishPass, ?_, ?_, counted, ?_, State.endPass_finishPass_entries.seal⟩
    · rw [State.finishPass_target]
      rfl
    · exact ((State.endPass_entries 0).n (State.key_not_mem_jobKeys (by decide) 0) (by decide)).trans State.finishPass_counts
    · intro a jobs status planes
      refine State.endPass_finishPass_memory jobs (fun ⟨k, tile, drawn⟩ => ?_) status
      rcases drawn with ⟨many, inside⟩ | ⟨upscaled, e, listed, inside⟩
      · exact (planes k tile).1 many inside
      · exact (planes k tile).2 upscaled e listed inside
  · have part : q.partition = p.val + 1 := by simpa using List.find?_some oldest
    refine ⟨_, exec_passTimeout p s, ?_⟩
    rw [State.passLate_eq plain oldest]
    rw [← part] at user ⊢
    exact ⟨State.closesPass_seal (State.closesPass_abandonPass small 2), State.abandonPass_target small 2,
      State.abandonPass_counted 2 user, State.abandonPass_partCounted 2 user, State.abandonPass_cause 2,
      fun i listed j found => State.abandonPass_lastCause small 2 listed found, fun r listed busy => State.abandonPass_idle 2 listed busy,
      fun a jobs status => State.abandonPass_memory small 2 units jobs status, (State.abandonPass_entries small 2).seal⟩

end Sys2Proof.Machine
end

section
namespace Sys2Proof.Machine

open Sys2Proof

/-! The order in which tile units take tiles (R206, R209). -/

theorem pairwise_insertBy {α : Type} (f : α → Int) (x : α) {l : List α} (sorted : l.Pairwise fun a b => f a ≤ f b) :
    (insertBy f x l).Pairwise fun a b => f a ≤ f b := by
  induction l with
  | nil => exact List.pairwise_singleton _ x
  | cons y r ih =>
    obtain ⟨below, rest⟩ := List.pairwise_cons.1 sorted
    unfold insertBy
    split
    · rename_i first
      refine List.pairwise_cons.2 ⟨fun b listed => ?_, sorted⟩
      rcases List.mem_cons.1 listed with rfl | later
      · omega
      · have := below b later
        omega
    · refine List.pairwise_cons.2 ⟨fun b listed => ?_, ih rest⟩
      rcases List.mem_cons.1 ((insertBy_perm f x r).mem_iff.1 listed) with rfl | later
      · omega
      · exact below b later

theorem pairwise_sortBy {α : Type} (f : α → Int) (l : List α) : (sortBy f l).Pairwise fun a b => f a ≤ f b := by
  have sorted (acc : List α) (start : acc.Pairwise fun a b => f a ≤ f b) :
      (l.foldl (fun acc x => insertBy f x acc) acc).Pairwise fun a b => f a ≤ f b := by
    induction l generalizing acc with
    | nil => exact start
    | cons x r ih => exact ih _ (pairwise_insertBy f x start)
  exact sorted [] List.Pairwise.nil

/-- The first of the members that a sorted list's elements give belongs to an element that no other with members comes before. -/
theorem mem_of_flatMap_cons {α β : Type} {R : α → α → Prop} {l : List α} (sorted : l.Pairwise R) {g : α → List β} {b : β}
    {rest : List β} (first : l.flatMap g = b :: rest) : ∃ a ∈ l, b ∈ g a ∧ ∀ x ∈ l, g x ≠ [] → x = a ∨ R a x := by
  induction l with
  | nil => cases first
  | cons a r ih =>
    obtain ⟨below, sorted⟩ := List.pairwise_cons.1 sorted
    rw [List.flatMap_cons] at first
    cases head : g a with
    | nil =>
      rw [head, List.nil_append] at first
      obtain ⟨c, listed, member, least⟩ := ih sorted first
      refine ⟨c, List.mem_cons_of_mem _ listed, member, fun x among members => ?_⟩
      rcases List.mem_cons.1 among with rfl | later
      · exact absurd head members
      · exact least x later members
    | cons c m =>
      rw [head, List.cons_append, List.cons.injEq] at first
      refine ⟨a, List.mem_cons_self, by rw [head, first.1]; exact List.mem_cons_self, fun x among _ => ?_⟩
      exact (List.mem_cons.1 among).imp_right (below x)

/-- The measure by which a unit orders passes: the time left in the partition's window, the partition, the pass. -/
def Pass.turn (left : List Nat) (q : Pass) : Nat := left.getD (q.partition - 1) (2 ^ 64) * 2 ^ 48 + q.partition * 2 ^ 40 + q.id

/-- The tiles of a pass that a unit could take. -/
def Pass.tilesOf (u : Nat) (q : Pass) : List (Pass × Nat) := (q.due.filter fun k => q.tileOwner k = some u).map fun k => (q, k)

theorem State.tileChoices_eq (s : State) (u : Nat) (left : List Nat) : s.tileChoices u left =
    (sortBy (fun q => ((Pass.turn left q : Nat) : Int)) s.raster.passes).flatMap (Pass.tilesOf u) := rfl

theorem Pass.mem_tilesOf {u : Nat} {q x : Pass} {k : Nat} : (q, k) ∈ x.tilesOf u ↔ q = x ∧ k ∈ q.due ∧ q.tileOwner k = some u := by
  simp only [Pass.tilesOf, List.mem_map, List.mem_filter, decide_eq_true_eq, Prod.mk.injEq]
  constructor
  · rintro ⟨j, owned, rfl, rfl⟩
    exact ⟨rfl, owned⟩
  · rintro ⟨rfl, owned⟩
    exact ⟨k, owned, rfl, rfl⟩

/-- The owner of a tile stands at the tile's place among the pass's units (R206). -/
theorem Pass.units_of_tileOwner {q : Pass} {k u : Nat} (owned : q.tileOwner k = some u) :
    q.units[(k % tileCols q.desc + 5 * (k / tileCols q.desc)) % q.units.length]? = some u := by
  unfold Pass.tileOwner at owned
  split at owned
  · cases owned
  · exact owned

/-- The order of turns, where passes and partitions have their sizes. -/
theorem Pass.turn_le {left : List Nat} {q x : Pass} (first : q.turn left ≤ x.turn left) (small : q.id < 2 ^ 32 ∧ q.partition < 9)
    (smallX : x.id < 2 ^ 32 ∧ x.partition < 9) :
    left.getD (q.partition - 1) (2 ^ 64) < left.getD (x.partition - 1) (2 ^ 64) ∨
      (left.getD (q.partition - 1) (2 ^ 64) = left.getD (x.partition - 1) (2 ^ 64) ∧
        (q.partition < x.partition ∨ q.partition = x.partition ∧ q.id ≤ x.id)) := by
  simp only [Pass.turn] at first
  omega

section
variable {s : State} {u : Nat} {left : List Nat} {q : Pass} {k : Nat} {rest : List (Pass × Nat)}
  (taken : s.tileChoices u left = (q, k) :: rest)
include taken

/-- The tile taken first belongs to an open pass, is due and the unit's, and no pass with such a tile has an earlier turn. -/
theorem State.tileChoices_first : q ∈ s.raster.passes ∧ k ∈ q.due ∧ q.tileOwner k = some u ∧
    ∀ x ∈ s.raster.passes, (∃ j ∈ x.due, x.tileOwner j = some u) → q.turn left ≤ x.turn left := by
  rw [State.tileChoices_eq] at taken
  obtain ⟨a, listed, member, least⟩ := mem_of_flatMap_cons (pairwise_sortBy _ _) taken
  obtain ⟨rfl, due, owned⟩ := Pass.mem_tilesOf.1 member
  refine ⟨(sortBy_perm _ _).mem_iff.1 listed, due, owned, fun x open_ ⟨j, ready, own⟩ => ?_⟩
  have some_tile : x.tilesOf u ≠ [] := List.ne_nil_of_mem (Pass.mem_tilesOf.2 ⟨rfl, ready, own⟩)
  rcases least x ((sortBy_perm _ _).mem_iff.2 open_) some_tile with rfl | before
  · exact le_refl _
  · exact Int.ofNat_le.1 before

end

/-! The start of a tile (R206, R208, R226). -/

/-- The tile is with the unit, and its pixels with shading. -/
def State.runTile (s : State) (u : Nat) (q : Pass) (k : Nat) : State :=
  s.withWork { s.raster with
    passes := s.raster.passes.map fun x =>
      if x.id = q.id then { q with
        due := q.due.filter (fun j => j ≠ k), running := q.running ++ [{ unit := u, tile := k, pixels := s.shadePixels q k }] }
      else x
    lastPart := Assoc.put s.raster.lastPart u q.partition } s.jobs

section
variable {s : State} {u : Nat} {left : List Nat} {q : Pass} {k : Nat} {rest : List (Pass × Nat)}
  (healthy : s.fenced ⟨.tile, u⟩ = false) (idle : ∀ x ∈ s.raster.passes, ∀ r ∈ x.running, r.unit ≠ u)
  (taken : s.tileChoices u left = (q, k) :: rest)
include healthy idle taken

theorem State.tileStarts_eq : s.tileStarts u left =
    if ((s.tileReads q k).any fun e => s.readFails q.partition e.1 e.2) ||
      (((q.tileTris k).flatMap fun t => s.textureDescs q.partition (q.batchOf t.seq)).any fun d =>
        s.readFails q.partition (bits d 64 64 / 4096 * 4096) (textureBytes d)) then (s.abandonPass q 3).resumeBins q.partition
    else (s.runTile u q k).setN (Entry.tileState u) 1 := by
  have free : (s.raster.passes.any fun q => q.running.any fun r => r.unit = u) = false := by simpa using idle
  simp only [State.tileStarts, healthy, free, Bool.or_false, Bool.false_eq_true, if_false, taken]
  rfl

theorem State.tileStarts_readable (reads : ∀ x ∈ s.tileReads q k, s.readFails q.partition x.1 x.2 = false)
    (textures : ∀ t ∈ q.tileTris k, ∀ d ∈ s.textureDescs q.partition (q.batchOf t.seq),
      s.readFails q.partition (bits d 64 64 / 4096 * 4096) (textureBytes d) = false) :
    s.tileStarts u left = (s.runTile u q k).setN (Entry.tileState u) 1 := by
  rw [State.tileStarts_eq healthy idle taken, if_neg]
  simp only [Bool.or_eq_true, List.any_eq_true, List.mem_flatMap, not_or, not_exists, not_and, Bool.not_eq_true]
  exact ⟨reads, fun d ⟨t, listed, named⟩ => textures t listed d named⟩

theorem State.tileStarts_unreadable (unreadable : ∃ x ∈ s.tileReads q k, s.readFails q.partition x.1 x.2 = true)
    (plain : s.plainPass q) : s.tileStarts u left = s.abandonPass q 3 := by
  rw [State.tileStarts_eq healthy idle taken, if_pos, State.resumeBins_closed plain (State.closesPass_abandonPass plain.1 3)]
  simp only [Bool.or_eq_true, List.any_eq_true]
  exact .inl unreadable

end

theorem exec_tileStart (u : Fin 16) (left : List Nat) (s : State) :
    exec (.tileStart ⟨u, left⟩) s = .next (s.seal (s.tileStarts u left)) := rfl

/-- Settles O35: a free unit takes the tile that is first in turn, or abandons its pass. -/
theorem tilesStart : Obligations.TilesStart := by
  intro s u left q k rest healthy idle taken
  obtain ⟨listed, due, owned, least⟩ := State.tileChoices_first taken
  refine ⟨listed, due, Pass.units_of_tileOwner owned, fun small x among ready => ?_, fun reads textures => ?_, fun unreadable plain => ?_⟩
  · exact Pass.turn_le (least x among ready) (small q listed) (small x among)
  · refine ⟨_, exec_tileStart u left s, ?_⟩
    rw [State.tileStarts_readable healthy idle taken reads textures]
    have started := Keeps.setN (s.runTile u q k) (Entry.tileState u) 1 (List.mem_singleton_self _)
    exact ⟨State.n_setN _ _ _ (ne_lost_of_record (by omega)), started.trans (Keeps.seal s _ _)⟩
  · refine ⟨_, exec_tileStart u left s, ?_⟩
    rw [State.tileStarts_unreadable healthy idle taken unreadable plain]
    exact ⟨State.closesPass_seal (State.closesPass_abandonPass plain.1 3), State.abandonPass_cause 3⟩

end Sys2Proof.Machine
end

section
namespace Sys2Proof.Machine

open Sys2Proof

/-! The reference clock of a port that is stopped while it waits for it (R30, R254 steps 5 and 7). -/

/-- Port 0 is SAFE since its reference clock left its range, and waits for the clock. -/
def State.unclockedSafe : State :=
  { State.reset with
    dict := [(Entry.devDeviceState, .int 4), (Entry.portState 0, .int 5), (Entry.portSafeCause 0, .int 6)]
    boot := { State.reset.boot with managing := true }
    ports := [(0, { waitRclk := true })] }

/-- No partition of it has an anchor port. -/
theorem State.unclockedSafe_anchored : State.unclockedSafe.anchored := by
  intro p a found
  have default : ∀ p, p ≤ 8 → State.unclockedSafe.anchorPort p = none := by decide +kernel
  by_cases low : p ≤ 8
  · rw [default p low] at found
    cases found
  · simp [State.anchorPort, Nat.lt_of_not_le low] at found

/-- Whether port 0 waits for its clock in the state that a step leaves. -/
def waitsAfter (a : Answer) : Option Bool := match a with | .next t => some (t.portRt 0).waitRclk | _ => none

/-- PORT_DISABLE leaves the port waiting for its clock. -/
theorem waitsAfter_unclockedSafe : waitsAfter (exec (.portDisable 0) State.unclockedSafe) = some true := by decide +kernel

/-- Refutes O27: the clause on PORT_DISABLE has the port wait for no clock; its hypotheses do not exclude a port that is SAFE because its
reference clock left its range, whose stop goes on waiting for the clock (R30; log entry 71). -/
theorem not_portsStartAndStop : ¬ Obligations.PortsStartAndStop := by
  intro claim
  obtain ⟨stops, -⟩ := claim.2 State.unclockedSafe 0 (by decide) (by simp [State.unclockedSafe, State.reset])
  obtain ⟨t, step, -, -, -, -, -, record, -⟩ := stops rfl rfl rfl State.unclockedSafe_anchored
  have waits : some (t.portRt 0).waitRclk = some true := (congrArg waitsAfter step).symm.trans waitsAfter_unclockedSafe
  have stopped : (t.portRt 0).waitRclk = false := congrArg PortRt.waitRclk record
  rw [stopped] at waits
  cases waits

end Sys2Proof.Machine
end

section
namespace Sys2Proof.Machine

open Sys2Proof

/-! A table of CRC rectangles that its compose point takes (R146, R248), and a view of which some block meets a new rectangle. -/

/-- A camera layer of stream 0 without a route tag, in the port's corner of 64×64 pixels, as a table of one layer (R238). -/
def cornerLayer : Bytes := leBytes 32 (2 ^ 254 + 2 ^ 244 + 64 * 2 ^ 112 + 64 * 2 ^ 96)

/-- The same corner as a table of one static CRC rectangle (R248). -/
def cornerRect : Bytes := leBytes 32 (64 * 2 ^ 208 + 64 * 2 ^ 192 + 2 ^ 190)

/-- The layer's view holds true frame 3 of stream 0, where frame 4 was the newest. -/
def heldView : ViewChoice := { pic := some (.trueFrame 0 3 0), code := provHold, newest := some 4 }

/-- Port 0 is STARTING and shows `cornerLayer` with `heldView` in port frame 20, whose first active line is 44,482.  Frame 3 arrived at line 0,
longer ago than the freshness limit, and frame 4 at line 44,000.  RectTable has become `cornerRect` since the last compose point. -/
def State.newRects : State :=
  { State.reset with
    dict := [(Entry.devDeviceState, .int 4), (Entry.portState 0, .int 1), (Entry.rectRectTable 0, .bytes cornerRect)]
    streams := [(0, { frames := [{ ordinal := 3, arrival := [(0, 0)] }, { ordinal := 4, arrival := [(0, 44000)] }] })]
    ports := [(0, {
      counting := true, frames := 19, applied := cornerLayer
      chosen := [{ frame := 20, views := [heldView] }] })] }

/-- Whether the next frame of port 0 has failed in the state that a step leaves. -/
def failsNextAfter (a : Answer) : Option Bool := match a with | .next t => some (t.portRt 0).failedNext | _ => none

/-- COMPOSE_POINT takes `cornerRect` first: the view's blocks meet it and take frame 4, which is fresh. -/
theorem failsNextAfter_newRects : failsNextAfter (exec (.composePoint 0) State.newRects) = some false := by decide +kernel

/-- By the rectangles before, the view takes frame 3 alone, which is not fresh. -/
theorem State.newRects_stale : ∃ v ∈ State.newRects.cameraViews 0 20, ¬ State.newRects.fresh 0 20 v := by
  have view : State.newRects.cameraViews 0 20 = [heldView] := by decide +kernel
  have age : State.newRects.sourceAge 0 20 heldView = some 44482 := by decide +kernel
  have limit : (State.newRects.timing 0).lines (State.newRects.n (Entry.portFreshnessLimit 0)) 1000 = 39996 := by decide +kernel
  refine ⟨heldView, view ▸ List.mem_singleton_self _, ?_⟩
  rintro ⟨a, found, young⟩
  rw [age] at found
  rw [limit] at young
  obtain rfl := Option.some.inj found
  exact absurd young (by decide)

/-- Refutes O29: the clause on COMPOSE_POINT judges each view by the CRC rectangles before the compose point (`State.metView`); the compose
point takes RectTable first, and a block that meets a new rectangle shows the newest true frame (R146), so that the view is fresh. -/
theorem not_compositionsServed : ¬ Obligations.CompositionsServed := by
  intro claim
  obtain ⟨-, stale⟩ := claim.1 State.newRects 0 (by decide) rfl rfl rfl rfl (by decide) (by decide) (by decide +kernel) (by decide)
    (by
      intro c chosen v viewed
      obtain rfl : c = { frame := 20, views := [heldView] } := List.mem_singleton.1 chosen
      obtain rfl := List.mem_singleton.1 viewed
      exact ⟨by decide, by decide, fun _ _ _ _ lead => by cases lead⟩)
  obtain ⟨t, step, -, fails, -⟩ := stale State.newRects_stale
  have shown : some (t.portRt 0).failedNext = some false := (congrArg failsNextAfter step).symm.trans failsNextAfter_newRects
  exact absurd ((Option.some.inj shown).symm.trans fails) (by decide)

end Sys2Proof.Machine
end

section
namespace Sys2Proof.Machine

open Sys2Proof

/-! Ports that enter SAFE (R242, R243, R250, R253, R410): what an entry brings to its own port, and what it leaves of the others. -/

/-- What concerns one port alone: the entries of its record, its PV pair and what the unit holds. -/
structure SamePort (s t : State) (n : Nat) : Prop where
  raw : ∀ a, a < 256 → t.raw (key (0x3400 + n) a) = s.raw (key (0x3400 + n) a)
  pair : t.vouched n = s.vouched n
  record : t.portRt n = s.portRt n

namespace SamePort

theorem refl (s : State) (n : Nat) : SamePort s s n := ⟨fun _ _ => rfl, rfl, rfl⟩

theorem trans {s t u : State} {n : Nat} (h : SamePort s t n) (g : SamePort t u n) : SamePort s u n :=
  ⟨fun a low => (g.raw a low).trans (h.raw a low), g.pair.trans h.pair, g.record.trans h.record⟩

theorem n {s t : State} {n : Nat} (h : SamePort s t n) {a : Nat} (low : a < 256) : t.n (key (0x3400 + n) a) = s.n (key (0x3400 + n) a) :=
  State.n_congr (h.raw a low)

theorem portState {s t : State} {n : Nat} (h : SamePort s t n) : t.portState n = s.portState n := h.n (by decide)

/-- A change of entries outside the ports' records, the PV pairs aside. -/
theorem of_keeps {s t : State} {keys : List Nat} (h : Keeps s t keys) {n : Nat} (port : n < 16)
    (outside : ∀ k ∈ keys, (k / 256 < 0x3400 ∨ 0x3410 ≤ k / 256) ∧ k ≠ Entry.pvPvPairs) : SamePort s t n where
  raw a low := h.raw (fun listed => by have := (outside _ listed).1; rw [key_div _ low] at this; omega) (ne_lost_of_record (by omega))
  pair := h.vouched n fun listed => (outside _ listed).2 rfl
  record := h.portRt n

end SamePort

/-- A port's entry is none of those that another port's entry to SAFE changes. -/
theorem not_mem_holdPortKeys_of_ne {m n a : Nat} (other : m ≠ n) (port : n < 16) (low : a < 256) :
    key (0x3400 + n) a ∉ holdPortKeys m := by
  simp only [holdPortKeys, List.mem_cons, List.not_mem_nil, or_false, Entry.portState, Entry.portSafeCause, Entry.portSafeKind,
    Entry.portSafeEntries, Entry.pvPvPairs, key]
  omega

/-- What a pass over ports does to one of them is what its own visit does, where no visit touches another port. -/
theorem SamePort.each {f : State → Nat → State} (other : ∀ t m n, m ≠ n → n < 16 → SamePort t (f t m) n) (s : State) {l : List Nat}
    (once : l.Nodup) {n : Nat} (port : n < 16) :
    (n ∉ l → SamePort s (s.each l f) n) ∧ (n ∈ l → ∃ u, SamePort s u n ∧ SamePort (f u n) (s.each l f) n) := by
  induction l generalizing s with
  | nil => exact ⟨fun _ => .refl s n, fun listed => absurd listed List.not_mem_nil⟩
  | cons m r ih =>
    obtain ⟨fresh, once⟩ := List.nodup_cons.1 once
    obtain ⟨unlisted, listed⟩ := ih (f s m) once
    refine ⟨fun out => ?_, fun inside => ?_⟩
    · rw [List.mem_cons, not_or] at out
      exact (other s m n (Ne.symm out.1) port).trans (unlisted out.2)
    · by_cases same : n = m
      · subst same
        exact ⟨s, .refl s n, unlisted fresh⟩
      · obtain ⟨u, before, after⟩ := listed ((List.mem_cons.1 inside).resolve_left same)
        exact ⟨u, (other s m n (Ne.symm same) port).trans before, after⟩

/-- The counters of a port that a check or an entry to SAFE advances have 32 bits. -/
theorem portCounter_width (n : Fin 16) : ∀ k ∈ [Entry.portSafeEntries n, Entry.safeTagFailures n, Entry.rectRectFailures n],
    ∀ p, widthOf p k = 32 := by
  have widths : ∀ n : Fin 16, ∀ k ∈ [Entry.portSafeEntries n, Entry.safeTagFailures n, Entry.rectRectFailures n],
      widthOf .hkz8840 k = 32 ∧ widthOf .hkz8830 k = 32 := by decide +kernel
  exact fun k listed => widthOf_parts (widths n k listed)

/-- The record of a port that enters SAFE (R253). -/
def PortRt.parked (r : PortRt) : PortRt := { r with exitCount := 0, acked := false, blankNext := false }

/-- The record of a port in SAFE at which a further cause occurs (R253). -/
def PortRt.parkedAgain (r : PortRt) (blank : Bool) : PortRt := { r with exitCount := 0, acked := false, blankNext := r.blankNext || blank }

/-- The entries that a port's entry to SAFE sets (R250, R251). -/
def State.showSafe (s : State) (n cause kind : Nat) : State :=
  (((s.setPortState n 5).setN (Entry.portSafeCause n) cause).setN (Entry.portSafeKind n) kind).bump (Entry.portSafeEntries n)

/-- A port's entry to SAFE with a cause and a kind of substitute (R250, R251). -/
def State.parks (s : State) (n cause kind : Nat) : State :=
  (s.showSafe n cause kind).setPortRt n ((s.showSafe n cause kind).portRt n).parked

theorem State.enterSafe_eq (s : State) (n cause : Nat) (blank : Bool) :
    s.enterSafe n cause blank = if s.portState n = 2 then s.parks n cause (s.safeKind n blank)
      else if s.portState n = 5 then s.setPortRt n ((s.portRt n).parkedAgain (s.safeKind n blank = 2)) else s := rfl

theorem State.enterSafeOpen_eq (s : State) (n cause : Nat) :
    s.enterSafeOpen n cause = if s.portState n = 1 then s.parks n cause 2 else s.enterSafe n cause true := rfl

theorem Keeps.showSafe (s : State) (n cause kind : Nat) : Keeps s (s.showSafe n cause kind) (holdPortKeys n) :=
  ((((Keeps.setPortState s n 5).mono (by simp [holdPortKeys])).trans (Keeps.setN _ _ _ (by simp [holdPortKeys]))).trans
    (Keeps.setN _ _ _ (by simp [holdPortKeys]))).trans (Keeps.bump _ _ (by simp [holdPortKeys]))

theorem State.setPortRt_n (s : State) (n : Nat) (r : PortRt) (k : Nat) : (s.setPortRt n r).n k = s.n k := rfl

theorem FrameKeeps.parks (s : State) (n cause kind : Nat) : FrameKeeps s (s.parks n cause kind) (holdPortKeys n) :=
  (FrameKeeps.of_keeps (Keeps.showSafe s n cause kind)).trans (.setPortRt ..)

/-- What a port shows once it has entered SAFE. -/
structure Parked (s t : State) (n cause kind : Nat) : Prop where
  state : t.portState n = 5
  unvouched : t.vouched n = false
  cause : t.n (Entry.portSafeCause n) = cause
  kind : t.n (Entry.portSafeKind n) = kind
  entries : t.n (Entry.portSafeEntries n) = (s.n (Entry.portSafeEntries n) + 1) % 2 ^ 32
  record : t.portRt n = (s.portRt n).parked

theorem Parked.between {s t u v : State} {n cause kind : Nat} (h : Parked u v n cause kind) (before : SamePort s u n)
    (after : SamePort v t n) : Parked s t n cause kind where
  state := after.portState.trans h.state
  unvouched := after.pair.trans h.unvouched
  cause := (after.n (by decide)).trans h.cause
  kind := (after.n (by decide)).trans h.kind
  entries := by rw [← before.n (a := 17) (by decide)]; exact (after.n (by decide)).trans h.entries
  record := by rw [← before.record]; exact after.record.trans h.record

theorem Parked.parks (s : State) {n : Nat} (port : n < 16) (cause kind : Nat) : Parked s (s.parks n cause kind) n cause kind := by
  have far {a : Nat} : key (0x3400 + n) a ≠ Entry.canEventsLost := ne_lost_of_record (by omega)
  have parked := Keeps.setPortState s n 5
  have unparked {a : Nat} (low : a < 256) (other : a ≠ 2) : key (0x3400 + n) a ∉ [Entry.portState n, Entry.pvPvPairs] := by
    simp only [List.mem_cons, List.not_mem_nil, or_false, Entry.portState, Entry.pvPvPairs, key]
    omega
  have later {k : Nat} (own : k ≠ Entry.portSafeCause n ∧ k ≠ Entry.portSafeKind n ∧ k ≠ Entry.portSafeEntries n)
      (lost : k ≠ Entry.canEventsLost) : (s.parks n cause kind).n k = (s.setPortState n 5).n k := by
    rw [State.parks, State.setPortRt_n, State.showSafe, State.n_bump_ne _ own.2.2.symm lost, State.n_setN_ne _ _ own.2.1.symm lost,
      State.n_setN_ne _ _ own.1.symm lost]
  refine ⟨?_, ?_, ?_, ?_, ?_, ?_⟩
  · exact (later ⟨key_ne_of_sub (by decide), key_ne_of_sub (by decide), key_ne_of_sub (by decide)⟩ far).trans
      (State.portState_setPortState s n 5 port)
  · refine (State.vouched_congr (later ⟨?_, ?_, ?_⟩ (by decide))).trans ((State.vouched_setPv _ n n _).trans (if_pos rfl))
    all_goals exact key_ne_of_record (by omega) (by decide) (by decide)
  · rw [State.parks, State.setPortRt_n, State.showSafe, State.n_bump_ne _ (key_ne_of_sub (by decide)) far,
      State.n_setN_ne _ _ (key_ne_of_sub (by decide)) far,
      State.n_setN _ _ _ far]
  · rw [State.parks, State.setPortRt_n, State.showSafe, State.n_bump_ne _ (key_ne_of_sub (by decide)) far, State.n_setN _ _ _ far]
  · rw [State.parks, State.setPortRt_n, State.showSafe, State.n_bump _ _ 32 far (portCounter_width ⟨n, port⟩ _ (by simp)),
      State.n_setN_ne _ _ (key_ne_of_sub (by decide)) far, State.n_setN_ne _ _ (key_ne_of_sub (by decide)) far,
      parked.n (unparked (by decide) (by decide)) far]
  · rw [State.parks, State.portRt_setPortRt_same, (Keeps.showSafe s n cause kind).portRt]

/-- An entry to SAFE leaves the other ports as they were. -/
theorem SamePort.parks (s : State) {m n : Nat} (other : m ≠ n) (port : n < 16) (cause kind : Nat) :
    SamePort s (s.parks m cause kind) n where
  raw a low := (FrameKeeps.parks s m cause kind).entries _ (not_mem_holdPortKeys_of_ne other port low) (ne_lost_of_record (by omega))
  pair := by
    have shown : (s.parks m cause kind).vouched n = (s.setPortState m 5).vouched n := by
      refine State.vouched_congr (s := s.setPortState m 5) ?_
      rw [State.parks, State.setPortRt_n, State.showSafe, State.n_bump_ne _ (key_ne_of_sub (by decide)) (by decide),
        State.n_setN_ne _ _ (key_ne_of_sub (by decide)) (by decide), State.n_setN_ne _ _ (key_ne_of_sub (by decide)) (by decide)]
    rw [shown, State.setPortState, State.vouched_setPv, if_neg other]
    exact State.vouched_congr (State.n_setN_ne _ _ (key_ne_of_sub (by decide)) (by decide))
  record := by
    rw [State.parks, State.portRt_setPortRt, if_neg other]
    exact (Keeps.showSafe s m cause kind).portRt n

theorem SamePort.setPortRt (s : State) {m n : Nat} (other : m ≠ n) (r : PortRt) : SamePort s (s.setPortRt m r) n :=
  ⟨fun _ _ => rfl, rfl, (State.portRt_setPortRt s m n r).trans (if_neg other)⟩

theorem SamePort.enterSafe (s : State) {m n : Nat} (other : m ≠ n) (port : n < 16) (cause : Nat) (blank : Bool) :
    SamePort s (s.enterSafe m cause blank) n := by
  rw [State.enterSafe_eq]
  split
  · exact .parks s other port _ _
  · split
    · exact .setPortRt s other _
    · exact .refl s n

theorem SamePort.enterSafeOpen (s : State) {m n : Nat} (other : m ≠ n) (port : n < 16) (cause : Nat) :
    SamePort s (s.enterSafeOpen m cause) n := by
  rw [State.enterSafeOpen_eq]
  split
  · exact .parks s other port _ _
  · exact .enterSafe s other port _ _

/-- A cause of R250 changes entries of LIVE ports alone. -/
theorem FrameKeeps.enterSafe (s : State) (n cause : Nat) (blank : Bool) :
    FrameKeeps s (s.enterSafe n cause blank) (if s.portState n = 2 then holdPortKeys n else []) := by
  rw [State.enterSafe_eq]
  split
  · exact .parks s n _ _
  · split
    · exact .setPortRt ..
    · exact .refl s _

theorem FrameKeeps.enterSafeOpen (s : State) (n cause : Nat) : FrameKeeps s (s.enterSafeOpen n cause) (holdPortKeys n) := by
  rw [State.enterSafeOpen_eq]
  split
  · exact .parks s n _ _
  · refine (FrameKeeps.enterSafe s n cause true).mono ?_
    split
    · exact fun _ listed => listed
    · simp

/-- An entry to SAFE leaves the outcome of the frame's checks. -/
theorem State.enterSafe_failed (s : State) (n cause : Nat) (blank : Bool) :
    ((s.enterSafe n cause blank).portRt n).failed = (s.portRt n).failed := by
  rw [State.enterSafe_eq]
  split
  · rw [State.parks, State.portRt_setPortRt_same, (Keeps.showSafe s n cause _).portRt]
    rfl
  · split
    · rw [State.portRt_setPortRt_same]
      rfl
    · rfl

theorem State.portCount_le (s : State) : s.portCount ≤ 16 := by
  unfold State.portCount
  split <;> decide

end Sys2Proof.Machine
end

section
namespace Sys2Proof.Machine

open Sys2Proof

/-! SAFE_REQ_n (R250, R422, R423). -/

theorem Keeps.inputs {s t : State} {keys : List Nat} (h : Keeps s t keys) : t.inputs = s.inputs :=
  (congrArg (fun u : State => u.inputs) h.rest : (State.rest t).inputs = (State.rest s).inputs)

/-- The entries that show SAFE_REQ_n. -/
def safeReqKeys : List Nat := [Entry.pinsSafeReqLevel, Entry.faultSafeReqState]

theorem State.showInputs_shows (s : State) :
    s.showInputs.n Entry.pinsSafeReqLevel = ofBool s.inputs.safeReq ∧
    s.showInputs.n Entry.faultSafeReqState = (if s.inputs.toggling then 2 else ofBool s.inputs.safeReq) ∧
    Keeps s s.showInputs safeReqKeys := by
  refine ⟨?_, State.n_setN _ _ _ (by decide), (Keeps.setN s _ _ (by simp [safeReqKeys])).trans (Keeps.setN _ _ _ (by simp [safeReqKeys]))⟩
  rw [State.showInputs, State.n_setN_ne _ _ (by decide) (by decide), State.n_setN _ _ _ (by decide)]

/-- An edge of SAFE_REQ_n counted and shown. -/
def State.edgeShown (s : State) (level toggling : Bool) : State :=
  (({ s with inputs := { safeReq := level, toggling := toggling } } : State).bump Entry.pinsSafeReqEdges).showInputs

theorem State.edgeShown_shows (s : State) (level toggling : Bool) :
    (s.edgeShown level toggling).n Entry.pinsSafeReqLevel = ofBool level ∧
    (s.edgeShown level toggling).n Entry.faultSafeReqState = (if toggling then 2 else ofBool level) ∧
    (s.edgeShown level toggling).n Entry.pinsSafeReqEdges = (s.n Entry.pinsSafeReqEdges + 1) % 2 ^ 32 ∧
    Keeps { s with inputs := { safeReq := level, toggling := toggling } } (s.edgeShown level toggling)
      (Entry.pinsSafeReqEdges :: safeReqKeys) := by
  have counted := Keeps.bump { s with inputs := { safeReq := level, toggling := toggling } } Entry.pinsSafeReqEdges
    (List.mem_singleton_self _)
  obtain ⟨pin, state, shown⟩ :=
    (({ s with inputs := { safeReq := level, toggling := toggling } } : State).bump Entry.pinsSafeReqEdges).showInputs_shows
  rw [counted.inputs] at pin state
  refine ⟨pin, state, ?_, (counted.mono (by simp)).trans (shown.mono (by simp +contextual))⟩
  exact (shown.n (by decide) (by decide)).trans (State.n_bump _ _ 32 (by decide) (widthOf_parts (by decide +kernel)))

/-- A taken edge: where the input counts as asserted, every port takes it as a cause (R250, R423). -/
theorem State.safeEdge_eq {s : State} (on : s.device ≠ 0) (level toggling : Bool) :
    s.safeEdge level toggling =
      if level || (s.inputs.toggling || toggling) then
        (s.edgeShown level (s.inputs.toggling || toggling)).each (List.range s.portCount) fun t n => t.enterSafe n 5 false
      else s.edgeShown level (s.inputs.toggling || toggling) := by
  have kept := (s.edgeShown_shows level (s.inputs.toggling || toggling)).2.2.2
  have count : (s.edgeShown level (s.inputs.toggling || toggling)).portCount = s.portCount := by simp only [State.portCount, kept.part]
  have live : ({ s with inputs := { safeReq := level, toggling := s.inputs.toggling || toggling } } : State).isOff = false :=
    State.isOff_eq_false on
  rw [← count]
  unfold State.safeEdge
  simp only [live, Bool.false_eq_true, if_false]
  show (if (s.edgeShown level (s.inputs.toggling || toggling)).inputs.safeReq ||
    (s.edgeShown level (s.inputs.toggling || toggling)).inputs.toggling then _ else _) = _
  rw [kept.inputs]
  rfl

/-- A cause of R250 at every port changes the entries of the LIVE ones alone. -/
theorem FrameKeeps.each_enterSafe (cause : Nat) (blank : Bool) (s : State) {l : List Nat} (once : l.Nodup) (ports : ∀ n ∈ l, n < 16) :
    FrameKeeps s (s.each l fun t n => t.enterSafe n cause blank) ((l.filter fun n => s.portState n = 2).flatMap holdPortKeys) := by
  induction l generalizing s with
  | nil => exact .refl s _
  | cons m r ih =>
    obtain ⟨fresh, once⟩ := List.nodup_cons.1 once
    have same : (r.filter fun n => (s.enterSafe m cause blank).portState n = 2) = r.filter fun n => s.portState n = 2 :=
      List.filter_congr fun n listed => by
        have other : m ≠ n := fun same => fresh (by rwa [same])
        rw [(SamePort.enterSafe s other (ports n (List.mem_cons_of_mem _ listed)) cause blank).portState]
    have rest := ih (s.enterSafe m cause blank) once fun n listed => ports n (List.mem_cons_of_mem _ listed)
    rw [same] at rest
    have first := FrameKeeps.enterSafe s m cause blank
    refine FrameKeeps.trans (first.mono fun k listed => ?_) (rest.mono fun k listed => ?_)
    · split at listed
      · rename_i live
        exact List.mem_flatMap.2 ⟨m, List.mem_filter.2 ⟨List.mem_cons_self .., by simpa using live⟩, listed⟩
      · exact absurd listed List.not_mem_nil
    · obtain ⟨n, found, own⟩ := List.mem_flatMap.1 listed
      exact List.mem_flatMap.2 ⟨n, List.mem_filter.2 ⟨List.mem_cons_of_mem _ (List.mem_filter.1 found).1, (List.mem_filter.1 found).2⟩, own⟩

/-- What a cause of R250 at each of some ports brings to one of them. -/
theorem State.each_enterSafe_shows (s : State) {l : List Nat} (once : l.Nodup) {n : Nat} (listed : n ∈ l) (port : n < 16) (cause : Nat)
    (blank : Bool) :
    let t := s.each l fun t n => t.enterSafe n cause blank
    (s.portState n = 2 → ∃ kind, Parked s t n cause kind) ∧ (s.portState n ≠ 2 → t.portState n = s.portState n) ∧
      (s.portState n = 5 → (t.portRt n).exitCount = 0) := by
  obtain ⟨u, before, after⟩ := (SamePort.each (f := fun t n => t.enterSafe n cause blank)
    (fun t m n other port => .enterSafe t other port cause blank) s once port).2 listed
  have visit := State.enterSafe_eq u n cause blank
  rw [before.portState] at visit
  refine ⟨fun live => ?_, fun other => ?_, fun safe => ?_⟩
  · rw [if_pos live] at visit
    exact ⟨_, (visit ▸ Parked.parks u port cause _).between before after⟩
  · rw [if_neg other] at visit
    refine after.portState.trans ?_
    rw [visit, ← before.portState]
    split <;> rfl
  · rw [if_neg (by omega), if_pos safe] at visit
    rw [after.record, visit, State.portRt_setPortRt_same]
    rfl

/-- What an asserted SAFE_REQ_n leads to, on a device that is not OFF (R250, R423). -/
theorem State.safeEdge_asserted {s : State} (on : s.device ≠ 0) (toggling : Bool) :
    let t := s.safeEdge true toggling
    t.n Entry.pinsSafeReqLevel = 1 ∧ t.n Entry.faultSafeReqState = (if s.inputs.toggling || toggling then 2 else 1) ∧
    t.n Entry.pinsSafeReqEdges = (s.n Entry.pinsSafeReqEdges + 1) % 2 ^ 32 ∧
    t.inputs = { safeReq := true, toggling := s.inputs.toggling || toggling } ∧
    (∀ n, n < s.portCount → (s.portState n = 2 → ∃ kind, Parked s t n 5 kind) ∧ (s.portState n ≠ 2 → t.portState n = s.portState n) ∧
      (s.portState n = 5 → (t.portRt n).exitCount = 0)) ∧
    EntriesKept s t ((Entry.pinsSafeReqEdges :: safeReqKeys) ++
      ((List.range s.portCount).filter fun n => s.portState n = 2).flatMap holdPortKeys) := by
  intro t
  obtain ⟨pin, state, edges, kept⟩ := s.edgeShown_shows true (s.inputs.toggling || toggling)
  have path : t = (s.edgeShown true (s.inputs.toggling || toggling)).each (List.range s.portCount) fun t n => t.enterSafe n 5 false :=
    (State.safeEdge_eq on true toggling).trans (if_pos rfl)
  generalize s.edgeShown true (s.inputs.toggling || toggling) = u at path pin state edges kept
  have ports : ∀ n ∈ List.range s.portCount, n < 16 := fun n listed => (List.mem_range.1 listed).trans_le s.portCount_le
  have same {n : Nat} (port : n < 16) : SamePort s u n :=
    have base : SamePort s { s with inputs := { safeReq := true, toggling := s.inputs.toggling || toggling } } n :=
      ⟨fun _ _ => rfl, rfl, rfl⟩
    base.trans (.of_keeps kept port (by decide))
  have live : ((List.range s.portCount).filter fun n => u.portState n = 2) = (List.range s.portCount).filter fun n => s.portState n = 2 :=
    List.filter_congr fun n listed => by rw [(same (ports n listed)).portState]
  have parked := FrameKeeps.each_enterSafe 5 false u List.nodup_range ports
  rw [live, ← path] at parked
  have pins {k : Nat} (far : k ≠ Entry.pvPvPairs ∧ 0x3410 * 256 ≤ k) (lost : k ≠ Entry.canEventsLost) : t.n k = u.n k := by
    refine parked.n (fun listed => s.not_mem_holdPortKeys far.1 (.inr far.2) ?_) lost
    obtain ⟨n, found, own⟩ := List.mem_flatMap.1 listed
    exact List.mem_flatMap.2 ⟨n, (List.mem_filter.1 found).1, own⟩
  refine ⟨(pins (by decide) (by decide)).trans pin, (pins (by decide) (by decide)).trans state,
    (pins (by decide) (by decide)).trans edges, parked.inputs.trans kept.inputs, fun n count => ?_, ?_⟩
  · have before := same (ports n (List.mem_range.2 count))
    have shows := State.each_enterSafe_shows u List.nodup_range (List.mem_range.2 count) (ports n (List.mem_range.2 count)) 5 false
    rw [← path, before.portState] at shows
    exact ⟨fun h => (shows.1 h).imp fun kind p => p.between before (.refl t n), shows.2⟩
  · exact EntriesKept.trans (s := s) kept.entries parked.entries

/-- The input no longer counts as asserted (R423). -/
theorem State.toggleQuiet_released {s : State} (on : s.device ≠ 0) (released : s.inputs.safeReq = false) :
    s.toggleQuiet = ({ s with inputs := { safeReq := false, toggling := false } } : State).showInputs := by
  have live : ({ s with inputs := { safeReq := false, toggling := false } } : State).isOff = false := State.isOff_eq_false on
  simp only [State.toggleQuiet, released, Bool.false_eq_true, if_false, State.ifOn, live]

/-- What a notice on a discrete input leaves: its record, and the free value of its class (R416, R423). -/
theorem State.inputNotice_shows (s : State) (u : UnitCode) :
    ∃ e, e.unit = u ∧ e.status = 3 ∧ e.openedAt = s.fc.ms ∧ e.number = (s.n Entry.faultEventsTotal + 1) % 2 ^ 32 ∧
      (s.inputNotice u).fc.log = (s.fc.log ++ [e]).drop (s.fc.log.length + 1 - 1024) ∧
      (s.inputNotice u).n Entry.faultEventsTotal = (s.n Entry.faultEventsTotal + 1) % 2 ^ 32 ∧
      Keeps { s with fc := (s.inputNotice u).fc, free := s.free + 1 } (s.inputNotice u) [Entry.faultEventsTotal] := by
  obtain ⟨cls, path⟩ : ∃ cls, s.inputNotice u = s.drawFree.2.record_ { unit := u, reporter := u, status := 3, cls := cls } := ⟨_, rfl⟩
  have kept := Keeps.record_ s.drawFree.2 { unit := u, reporter := u, status := 3, cls := cls }
  have total := s.drawFree.2.record_total { unit := u, reporter := u, status := 3, cls := cls }
  have fc := s.drawFree.2.record_fc { unit := u, reporter := u, status := 3, cls := cls }
  rw [← path] at kept total fc
  refine ⟨{ unit := u, reporter := u, status := 3, cls := cls
            number := (s.n Entry.faultEventsTotal + 1) % 2 ^ 32, openedAt := s.fc.ms }, rfl, rfl, rfl, rfl, ?_, total, kept⟩
  rw [fc]
  simp only [List.length_append, List.length_singleton]
  rfl

/-- Settles O59: an asserted edge is a cause of R250 at every port; the other edges only show the input, and a notice is only recorded. -/
theorem safeRequests : Obligations.SafeRequests := by
  intro s toggling ms on
  refine ⟨?_, fun quiet => ?_, fun asserted => ⟨_, rfl, ?_⟩, fun released => ?_, ?_, ?_⟩
  · obtain ⟨pin, state, edges, inputs, ports, entries⟩ := State.safeEdge_asserted on toggling
    refine ⟨_, rfl, pin, state, edges, inputs, fun n count => ?_, .of_mem (by simp), entries.seal.mono fun k listed => ?_⟩
    · obtain ⟨live, other, safe⟩ := ports n count
      refine ⟨?_, fun h => ?_, safe⟩
      · split
        · rename_i h
          exact (live h).choose_spec.state
        · rename_i h
          exact other h
      · obtain ⟨kind, parked⟩ := live h
        exact ⟨parked.unvouched, parked.cause, parked.entries⟩
    · rcases List.mem_append.1 listed with shown | own
      · have pins : ∀ k ∈ Entry.pinsSafeReqEdges :: safeReqKeys, k ∈ [Entry.pinsSafeReqLevel, Entry.faultSafeReqState,
            Entry.pinsSafeReqEdges, Entry.pvPvPairs] := by decide
        exact List.mem_append_left _ (pins k shown)
      · obtain ⟨n, found, own⟩ := List.mem_flatMap.1 own
        simp only [holdPortKeys, List.mem_cons, List.not_mem_nil, or_false] at own
        rcases own with own | own | own | own | pairs
        · exact List.mem_append_right _ (List.mem_flatMap.2 ⟨n, found, by simp [own]⟩)
        · exact List.mem_append_right _ (List.mem_flatMap.2 ⟨n, found, by simp [own]⟩)
        · exact List.mem_append_right _ (List.mem_flatMap.2 ⟨n, found, by simp [own]⟩)
        · exact List.mem_append_right _ (List.mem_flatMap.2 ⟨n, found, by simp [own]⟩)
        · exact List.mem_append_left _ (by simp [pairs])
  · obtain ⟨pin, state, edges, kept⟩ := s.edgeShown_shows false false
    have path : s.safeEdge false false = s.edgeShown false false := by
      rw [State.safeEdge_eq on, quiet]
      rfl
    rw [← path] at pin state edges kept
    exact ⟨_, rfl, pin, state, edges, (kept.mono (by decide)).trans (Keeps.seal _ _ _)⟩
  · rw [State.toggleQuiet, if_pos asserted]
    exact Keeps.seal s s []
  · obtain ⟨pin, state, kept⟩ := ({ s with inputs := { safeReq := false, toggling := false } } : State).showInputs_shows
    rw [← State.toggleQuiet_released on released] at pin state kept
    exact ⟨_, rfl, pin, state, kept.trans (Keeps.seal _ _ _)⟩
  · obtain ⟨e, unit, status, opened, number, log, total, kept⟩ :=
      ({ s with fc := { s.fc with ms := ms } } : State).inputNotice_shows ⟨.discreteInput, 0⟩
    have step : exec (.safeReqHeld ms) s =
        .next (s.seal (({ s with fc := { s.fc with ms := ms } } : State).inputNotice ⟨.discreteInput, 0⟩)) :=
      congrArg (fun t => s.answer t) (if_neg (by simp [State.isOff, on]))
    exact ⟨_, e, step, unit, status, opened, number, log, (State.seal_n ..).trans total,
      kept.trans (Keeps.seal _ _ _)⟩
  · refine ⟨_, congrArg (fun t => s.answer t) (if_neg (by simp [State.isOff, on])), ?_, ?_⟩
    · exact State.n_bump s _ 32 (by decide) (widthOf_parts (by decide +kernel))
    · exact (Keeps.bump s _ (List.mem_singleton_self _)).trans (Keeps.seal _ _ _)

end Sys2Proof.Machine
end

section
namespace Sys2Proof.Machine

open Sys2Proof

/-! Failed checks at a port and the disagreement of the PIU (R242, R246, R248, R250, R410). -/

/-- The entries that a failed check changes beside its counter: those of an event, of the port's entry to SAFE and of the device state. -/
def failKeys (n : Nat) : List Nat :=
  [Entry.portState n, Entry.pvPvPairs, Entry.portSafeCause n, Entry.portSafeKind n, Entry.portSafeEntries n, Entry.faultEventsTotal,
    Entry.faultOpenEvents, Entry.faultLastEventUnit, Entry.faultReportsMerged, Entry.faultEventsOverflowed, Entry.devDeviceState,
    Entry.devStateCause]

theorem reportKeys_sub_failKeys (n : Nat) : ∀ k ∈ reportKeys, k ∈ failKeys n := by simp [reportKeys, failKeys]

theorem holdPortKeys_sub_failKeys (n : Nat) : ∀ k ∈ holdPortKeys n, k ∈ failKeys n := by simp [holdPortKeys, failKeys]

theorem deviceKeys_sub_failKeys (n : Nat) : ∀ k ∈ [Entry.devStateCause, Entry.devDeviceState], k ∈ failKeys n := by simp [failKeys]

/-- A report on a unit that is no herd concerns no port's entries. -/
theorem SamePort.takeReport (s : State) {n : Nat} (port : n < 16) (reporter : UnitCode) {suspect : UnitCode} (kind : suspect.kind ≠ .herd)
    (cls : FaultClass) (detail : Nat) (ports : List Nat) (reaction : Nat) :
    SamePort s (s.takeReport reporter suspect cls detail ports reaction).1 n := by
  have reported := SamePort.of_keeps (Keeps.takeReport s reporter kind cls detail ports reaction) port (by decide)
  exact ⟨reported.raw, reported.pair, reported.record⟩

theorem SamePort.settle (s : State) {n : Nat} (port : n < 16) (cause : Nat) : SamePort s (s.settle cause) n :=
  .of_keeps (Keeps.settle s cause) port (by decide)

/-- The report of a failed check at a port (R250 step 2). -/
def State.checkReported (s : State) (n : Nat) : State :=
  (s.takeReport piuUnit ⟨.port, n⟩ .presentation (2 ^ n) (if s.portState n = 2 then [n] else []) 6).1

theorem State.portFails_eq (s : State) (n cause : Nat) (blank : Bool) :
    s.portFails n cause blank = ((s.checkReported n).enterSafe n cause blank).settle 1 := rfl

/-- A failed check opens or merges an event, and is a cause of R250 at its port. -/
theorem State.portFails_shows (s : State) {n : Nat} (port : n < 16) (cause : Nat) (blank : Bool) :
    EntriesKept s (s.portFails n cause blank) (failKeys n) ∧
    ((s.portFails n cause blank).portRt n).failed = (s.portRt n).failed ∧
    (s.portState n = 2 → ∃ kind, (blank = true → kind = 2) ∧ Parked s (s.portFails n cause blank) n cause kind) := by
  have kept := Keeps.takeReport s piuUnit (suspect := ⟨.port, n⟩) (fun kind => by cases kind) .presentation (2 ^ n)
    (if s.portState n = 2 then [n] else []) 6
  have reported : SamePort s (s.checkReported n) n := .takeReport s port piuUnit (fun kind => by cases kind) _ _ _ _
  have reports : EntriesKept s (s.checkReported n) reportKeys := kept.entries
  have entered := FrameKeeps.enterSafe (s.checkReported n) n cause blank
  have visit := State.enterSafe_eq (s.checkReported n) n cause blank
  have failed := State.enterSafe_failed (s.checkReported n) n cause blank
  rw [State.portFails_eq]
  generalize s.checkReported n = u at *
  have settled := Keeps.settle (u.enterSafe n cause blank) 1
  have last : SamePort (u.enterSafe n cause blank) ((u.enterSafe n cause blank).settle 1) n := .settle _ port 1
  refine ⟨?_, ?_, fun live => ?_⟩
  · refine ((reports.trans entered.entries).trans settled.entries).mono fun k listed => ?_
    rcases List.mem_append.1 listed with before | device
    · rcases List.mem_append.1 before with report | own
      · exact reportKeys_sub_failKeys n k report
      · split at own
        · exact holdPortKeys_sub_failKeys n k own
        · exact absurd own List.not_mem_nil
    · exact deviceKeys_sub_failKeys n k device
  · rw [last.record, failed, reported.record]
  · rw [if_pos (reported.portState.trans live)] at visit
    refine ⟨_, ?_, (visit ▸ Parked.parks u port cause _).between reported last⟩
    rintro rfl
    rfl

/-- A failed check of the frame in scan-out (R250): the frame has failed, and the port enters SAFE. -/
theorem State.failNow_shows (s : State) {n : Nat} (port : n < 16) (cause : Nat) (blank : Bool) :
    EntriesKept s (s.failNow n cause blank) (failKeys n) ∧ ((s.failNow n cause blank).portRt n).failed = true ∧
    (s.portState n = 2 → (s.failNow n cause blank).portState n = 5 ∧ (s.failNow n cause blank).n (Entry.portSafeCause n) = cause ∧
      (blank = true → (s.failNow n cause blank).n (Entry.portSafeKind n) = 2)) := by
  obtain ⟨entries, failed, parks⟩ := (s.setPortRt n { s.portRt n with failed := true }).portFails_shows port cause blank
  rw [State.portRt_setPortRt_same] at failed
  refine ⟨entries, failed, fun live => ?_⟩
  obtain ⟨kind, blanks, parked⟩ := parks live
  exact ⟨parked.state, parked.cause, fun h => parked.kind.trans (blanks h)⟩

/-- The counters of a port's checks are none of the entries that a failed check changes beside them. -/
theorem checkCounter_not_mem_failKeys {n i a : Nat} (port : n < 16) (record : i = 0x3420 + n ∨ i = 0x3430 + n) (low : a < 256) :
    key i a ∉ failKeys n := by
  simp only [failKeys, List.mem_cons, List.not_mem_nil, or_false, Entry.faultEventsTotal,
    Entry.faultOpenEvents, Entry.faultLastEventUnit, Entry.faultReportsMerged, Entry.faultEventsOverflowed, Entry.portState,
    Entry.portSafeCause, Entry.portSafeKind, Entry.portSafeEntries, Entry.pvPvPairs, Entry.devStateCause, Entry.devDeviceState, key]
  omega

/-! The disagreement of the PIU (R242, R410). -/

theorem State.fenced_markFenced (s : State) (u : UnitCode) : (s.markFenced u).fenced u = true := by
  unfold State.markFenced
  split
  · assumption
  · simp [State.fenced]

theorem State.markFenced_form (s : State) (u : UnitCode) : ∃ x, s.markFenced u = { s with fc := x } := by
  unfold State.markFenced
  split
  · exact ⟨s.fc, rfl⟩
  · exact ⟨_, rfl⟩

/-- The report of the PIU on itself (R410): the event names the LIVE ports. -/
def State.piuReported (s : State) : State :=
  (s.takeReport piuUnit piuUnit .presentation 0 ((List.range s.portCount).filter fun n => s.portState n = 2) 3).1

/-- The PIU named by an event and fenced (R410). -/
def State.piuFenced (s : State) : State := s.piuReported.markFenced piuUnit

theorem State.piuFenced_shows (s : State) :
    s.piuFenced.fenced piuUnit = true ∧ s.piuFenced.portCount = s.portCount ∧ EntriesKept s s.piuFenced reportKeys ∧
    ∀ n, n < 16 → SamePort s s.piuFenced n := by
  have kind : piuUnit.kind ≠ .herd := fun kind => by cases kind
  have kept : Keeps { s with fc := s.piuReported.fc } s.piuReported reportKeys := Keeps.takeReport s piuUnit kind .presentation 0 _ 3
  have same (n : Nat) (port : n < 16) : SamePort s s.piuReported n := SamePort.takeReport s port piuUnit kind .presentation 0 _ 3
  have part : s.piuReported.part = s.part := kept.part
  obtain ⟨x, form⟩ := s.piuReported.markFenced_form piuUnit
  refine ⟨State.fenced_markFenced _ _, ?_, ?_, fun n port => ?_⟩
  · rw [State.piuFenced, form]
    simp only [State.portCount, part]
  · rw [State.piuFenced, form]
    exact kept.entries
  · rw [State.piuFenced, form]
    exact ⟨(same n port).raw, (same n port).pair, (same n port).record⟩

theorem State.piuDisagrees_eq (s : State) :
    s.piuDisagrees = (s.piuFenced.each (List.range s.piuFenced.portCount) fun t n => t.enterSafeOpen n 7).settle 1 := rfl

/-- The entries that a disagreement of the PIU's copies changes. -/
def piuKeys : List Nat :=
  [Entry.pvPvPairs, Entry.faultEventsTotal, Entry.faultOpenEvents, Entry.faultLastEventUnit, Entry.faultReportsMerged,
    Entry.faultEventsOverflowed, Entry.devDeviceState, Entry.devStateCause] ++
    (List.range 16).flatMap fun n => [Entry.portState n, Entry.portSafeCause n, Entry.portSafeKind n, Entry.portSafeEntries n]

theorem reportKeys_sub_piuKeys : ∀ k ∈ reportKeys, k ∈ piuKeys := by decide

theorem deviceKeys_sub_piuKeys : ∀ k ∈ [Entry.devStateCause, Entry.devDeviceState], k ∈ piuKeys := by decide

theorem holdPortKeys_sub_piuKeys {n : Nat} (port : n < 16) : ∀ k ∈ holdPortKeys n, k ∈ piuKeys := by
  intro k own
  by_cases pair : k = Entry.pvPvPairs
  · exact List.mem_append_left _ (by simp [pair])
  · refine List.mem_append_right _ (List.mem_flatMap.2 ⟨n, List.mem_range.2 port, ?_⟩)
    simpa [holdPortKeys, pair] using own

theorem FrameKeeps.each {α : Type} (s : State) (l : List α) (f : State → α → State) {keys : List Nat}
    (h : ∀ t, ∀ a ∈ l, FrameKeeps t (f t a) keys) : FrameKeeps s (s.each l f) keys := by
  induction l generalizing s with
  | nil => exact .refl s keys
  | cons a r ih => exact (h s a (List.mem_cons_self ..)).trans (ih _ fun t b listed => h t b (List.mem_cons_of_mem _ listed))

/-- A disagreement of the PIU's copies fences the unit, and changes what an event and the ports' entries to SAFE change. -/
theorem State.piuDisagrees_shows (s : State) :
    s.piuDisagrees.fenced piuUnit = true ∧ (s.running = true → s.piuDisagrees.device = 5) ∧ EntriesKept s s.piuDisagrees piuKeys := by
  obtain ⟨fenced, -, reported, -⟩ := s.piuFenced_shows
  have safe : FrameKeeps s.piuFenced (s.piuFenced.each (List.range s.piuFenced.portCount) fun t n => t.enterSafeOpen n 7)
      ((List.range 16).flatMap holdPortKeys) := by
    refine .each _ _ _ fun t n listed => (FrameKeeps.enterSafeOpen t n 7).mono fun k own => List.mem_flatMap.2 ⟨n, ?_, own⟩
    exact List.mem_range.2 ((List.mem_range.1 listed).trans_le (State.portCount_le _))
  rw [State.piuDisagrees_eq]
  generalize s.piuFenced.each (List.range s.piuFenced.portCount) (fun t n => t.enterSafeOpen n 7) = t at safe
  have fenced : t.fenced piuUnit = true := (State.fenced_congr (congrArg Fc.fenced safe.fc)).trans fenced
  have settled := Keeps.settle t 1
  refine ⟨(settled.fenced piuUnit).trans fenced, fun running => ?_, ?_⟩
  · have device : t.device = s.device := (safe.n (by decide) (by decide)).trans (reported.n (by decide) (by decide))
    have works : t.running = true := by rwa [State.running, device]
    have degrades := (State.settle_degrades (State.degraded_of_fenced fenced (by decide)) 1).1
    rwa [if_pos works] at degrades
  · refine ((reported.trans safe.entries).trans settled.entries).mono fun k listed => ?_
    rcases List.mem_append.1 listed with before | device
    · rcases List.mem_append.1 before with report | own
      · exact reportKeys_sub_piuKeys k report
      · obtain ⟨n, port, own⟩ := List.mem_flatMap.1 own
        exact holdPortKeys_sub_piuKeys (List.mem_range.1 port) k own
    · exact deviceKeys_sub_piuKeys k device

/-- A port that is STARTING or LIVE enters SAFE with SAFE_BLANK where the PIU is out of service; another keeps its state (R410). -/
theorem State.enterSafeOpen_shows (s : State) {n : Nat} (port : n < 16) (cause : Nat) :
    (s.portState n = 1 ∨ s.portState n = 2 → Parked s (s.enterSafeOpen n cause) n cause 2) ∧
    (¬ (s.portState n = 1 ∨ s.portState n = 2) →
      (s.enterSafeOpen n cause).portState n = s.portState n ∧ (s.enterSafeOpen n cause).vouched n = s.vouched n) := by
  have parked := Parked.parks s port cause 2
  have blank : s.safeKind n true = 2 := by simp [State.safeKind]
  rw [State.enterSafeOpen_eq, State.enterSafe_eq, blank]
  refine ⟨fun runs => ?_, fun stopped => ?_⟩
  · rcases runs with starting | live
    · rwa [if_pos starting]
    · rwa [if_neg (by omega), if_pos live]
  · obtain ⟨unstarted, unlive⟩ := not_or.1 stopped
    rw [if_neg unstarted, if_neg unlive]
    split <;> exact ⟨rfl, rfl⟩

/-- What a disagreement of the PIU's copies brings to a port (R242, R410). -/
theorem State.piuDisagrees_port (s : State) {n : Nat} (port : n < 16) (absent : s.portCount ≤ n → s.portState n = 0) :
    (s.portState n = 1 ∨ s.portState n = 2 → Parked s s.piuDisagrees n 7 2) ∧
    (¬ (s.portState n = 1 ∨ s.portState n = 2) →
      s.piuDisagrees.portState n = s.portState n ∧ s.piuDisagrees.vouched n = s.vouched n) := by
  obtain ⟨-, count, -, same⟩ := s.piuFenced_shows
  obtain ⟨unlisted, listed⟩ := SamePort.each (f := fun t n => t.enterSafeOpen n 7)
    (fun t m n other port => .enterSafeOpen t other port 7) s.piuFenced (List.nodup_range (n := s.piuFenced.portCount)) port
  have last := SamePort.settle (s.piuFenced.each (List.range s.piuFenced.portCount) fun t n => t.enterSafeOpen n 7) port 1
  rw [State.piuDisagrees_eq]
  by_cases has : n < s.portCount
  · obtain ⟨u, before, after⟩ := listed (List.mem_range.2 (count.symm ▸ has))
    have before := (same n port).trans before
    have after := after.trans last
    obtain ⟨parks, stays⟩ := u.enterSafeOpen_shows port 7
    rw [before.portState, before.pair] at stays
    rw [before.portState] at parks
    refine ⟨fun runs => (parks runs).between before after, fun stopped => ?_⟩
    obtain ⟨state, pair⟩ := stays stopped
    exact ⟨after.portState.trans state, after.pair.trans pair⟩
  · have still := (same n port).trans ((unlisted (by rw [count]; simpa using has)).trans last)
    have off := absent (Nat.le_of_not_lt has)
    exact ⟨fun runs => by omega, fun _ => ⟨still.portState, still.pair⟩⟩

/-! The checks of tags and rectangles (R246, R248). -/

/-- A failed check of the frame in scan-out, counted already, and the disagreement of the copies where they differ. -/
theorem State.piuDisagrees_failNow (s : State) {n i a : Nat} (port : n < 16) (record : i = 0x3420 + n ∨ i = 0x3430 + n) (low : a < 256)
    (cause : Nat) (blank : Bool) : (s.failNow n cause blank).piuDisagrees.n (key i a) = s.n (key i a) := by
  have counter : key i a ∉ piuKeys := by
    intro listed
    simp only [piuKeys, List.mem_append, List.mem_flatMap, List.mem_range, List.mem_cons, List.not_mem_nil, or_false, Entry.portState,
      Entry.portSafeCause, Entry.portSafeKind, Entry.portSafeEntries, Entry.pvPvPairs, Entry.faultEventsTotal, Entry.faultOpenEvents,
      Entry.faultLastEventUnit, Entry.faultReportsMerged, Entry.faultEventsOverflowed, Entry.devDeviceState, Entry.devStateCause,
      key] at listed
    rcases listed with shown | ⟨m, bound, own⟩
    · omega
    · omega
  have far : key i a ≠ Entry.canEventsLost := ne_lost_of_record (by omega)
  exact ((s.failNow n cause blank).piuDisagrees_shows.2.2.n counter far).trans
    ((s.failNow_shows port cause blank).1.n (checkCounter_not_mem_failKeys port record low) far)

/-- The outcome of a check of the frame in scan-out, where `u` has counted a failure: `e` is expected, `a` and `b` are what the copies found, and
`ahead` is what fails the check besides (R242, R250). -/
def State.checkOutcome (s u : State) (n cause e a b : Nat) (ahead : Bool) : State :=
  let t := if ahead || a ≠ e || b ≠ e then u.failNow n cause true else s
  if copiesDiffer e a b then t.piuDisagrees else t

section
variable (s u : State) (n cause : Nat) {e a b : Nat}

/-- Both copies find what is expected. -/
theorem State.checkOutcome_sound (sound : a = e) : s.checkOutcome u n cause e a a false = s := by
  simp [State.checkOutcome, copiesDiffer, sound]

/-- Both copies find something else. -/
theorem State.checkOutcome_wrong (wrong : a ≠ e) (ahead : Bool) : s.checkOutcome u n cause e a a ahead = u.failNow n cause true := by
  simp [State.checkOutcome, copiesDiffer, wrong]

/-- One copy finds something else. -/
theorem State.checkOutcome_differ (differ : copiesDiffer e a b = true) (ahead : Bool) :
    s.checkOutcome u n cause e a b ahead = (u.failNow n cause true).piuDisagrees := by
  have bad : (ahead || a ≠ e || b ≠ e) = true := by
    by_contra sound
    simp only [Bool.or_eq_true, decide_eq_true_eq, not_or, not_not] at sound
    simp [copiesDiffer, sound] at differ
  simp only [State.checkOutcome, bad, differ, if_true]

end

/-- A failed check of a CRC rectangle counted, with its number (R248). -/
def State.rectFailed (s : State) (n i : Nat) : State := (s.bump (Entry.rectRectFailures n)).setN (Entry.rectLastFailedRect n) i

theorem State.rectFailed_shows (s : State) {n : Nat} (port : n < 16) (i : Nat) :
    (s.rectFailed n i).n (Entry.rectRectFailures n) = (s.n (Entry.rectRectFailures n) + 1) % 2 ^ 32 ∧
    (s.rectFailed n i).n (Entry.rectLastFailedRect n) = i ∧
    Keeps s (s.rectFailed n i) [Entry.rectRectFailures n, Entry.rectLastFailedRect n] := by
  have far {a : Nat} : key (0x3420 + n) a ≠ Entry.canEventsLost := ne_lost_of_record (by omega)
  refine ⟨?_, State.n_setN _ _ _ far, (Keeps.bump s _ (by simp)).trans (Keeps.setN _ _ _ (by simp))⟩
  rw [State.rectFailed, State.n_setN_ne _ _ (key_ne_of_sub (by decide)) far,
    State.n_bump s _ 32 far (portCounter_width ⟨n, port⟩ _ (by simp))]

theorem State.tagFailed_count (s : State) {n : Nat} (port : n < 16) :
    (s.bump (Entry.safeTagFailures n)).n (Entry.safeTagFailures n) = (s.n (Entry.safeTagFailures n) + 1) % 2 ^ 32 :=
  State.n_bump s _ 32 (ne_lost_of_record (by omega)) (portCounter_width ⟨n, port⟩ _ (by simp))

section
variable {s : State} {n : Nat} (runs : s.portRuns n = true) (shows : s.shows n = true)
include runs shows

/-- The check of a tag that is expected (R246). -/
theorem State.checkTag_eq {layer payload : Nat} (expected : s.expectedTag n layer = some payload) (a b : Nat) :
    s.checkTag n layer a b =
      s.checkOutcome (s.bump (Entry.safeTagFailures n)) n 2 (crc32 (tagBytes payload)) a b (s.tagAhead n layer) := by
  simp only [State.checkTag, runs, shows, expected]
  rfl

/-- The check of a CRC rectangle of the frame in scan-out that has an expected CRC (R248). -/
theorem State.checkRect_eq {i e : Nat} {c : Composed} {r : RectDesc} (scan : (s.portRt n).scan = some c)
    (active : (activeRects c.rects).find? (fun e => e.1 = i) = some (i, r)) (expected : s.expectedRect n c i r = some e) (a b : Nat) :
    s.checkRect n i a b = s.checkOutcome (s.rectFailed n i) n 3 e a b false := by
  simp only [State.checkRect, runs, shows, scan, Option.bind_some, active, Option.map_some, expected, State.checkOutcome, Bool.false_or]
  rfl

end

/-- A failed check leads from its count, which `u` has, to a failed frame, and leaves the count (R250). -/
theorem State.failNow_after {s u : State} {n i : Nat} {keys : List Nat} (port : n < 16) (counted : Keeps s u keys)
    (record : i = 0x3420 + n ∨ i = 0x3430 + n) (inRecord : ∀ k ∈ keys, k / 256 = i) (cause : Nat) :
    ((u.failNow n cause true).portRt n).failed = true ∧
    (s.portState n = 2 → (u.failNow n cause true).portState n = 5 ∧ (u.failNow n cause true).n (Entry.portSafeCause n) = cause ∧
      (u.failNow n cause true).n (Entry.portSafeKind n) = 2) ∧
    (∀ a, a < 256 → (u.failNow n cause true).n (key i a) = u.n (key i a)) ∧
    EntriesKept s (u.failNow n cause true) (keys ++ failKeys n) := by
  obtain ⟨entries, failed, parks⟩ := u.failNow_shows port cause true
  have outside : ∀ k ∈ keys, (k / 256 < 0x3400 ∨ 0x3410 ≤ k / 256) ∧ k ≠ Entry.pvPvPairs := by
    intro k listed
    have := inRecord k listed
    refine ⟨by omega, ?_⟩
    rintro rfl
    rw [key_div _ (by decide)] at this
    omega
  rw [(SamePort.of_keeps counted port outside).portState] at parks
  refine ⟨failed, fun live => ?_, fun a low => ?_, counted.entries.trans entries⟩
  · obtain ⟨state, because, blanks⟩ := parks live
    exact ⟨state, because, blanks rfl⟩
  · exact entries.n (checkCounter_not_mem_failKeys port record low) (ne_lost_of_record (by omega))

@[simp] theorem State.seal_fenced (s t : State) (u : UnitCode) : (s.seal t).fenced u = t.fenced u := rfl
@[simp] theorem State.seal_device (s t : State) : (s.seal t).device = t.device := rfl

/-- Settles O30: a failed check is counted and fails the frame (`State.failNow_after`); a disagreement fences the PIU and visits every port
(`State.piuDisagrees_port`). -/
theorem presentationChecked : Obligations.PresentationChecked := by
  refine ⟨fun s n layer rect a b count runs shows => ⟨fun payload expected => ?_, fun c r e scan active expected => ?_⟩,
    fun s running pairs absent => ?_⟩
  · have step (a b : BitVec 32) : exec (.routeTagCheck n layer a b) s = .next (s.seal (s.checkTag n layer a.toNat b.toNat)) :=
      State.onPort_next count
    have outcome := State.checkTag_eq runs shows expected
    have counted := Keeps.bump s (Entry.safeTagFailures n) (List.mem_singleton_self _)
    refine ⟨fun sound seen => ⟨_, step a a, ?_⟩, fun wrong => ⟨_, step a a, ?_⟩, fun differ => ⟨_, step a b, ?_⟩⟩
    · rw [outcome, seen, State.checkOutcome_sound s _ n 2 sound]
      exact Keeps.seal s s []
    · rw [outcome, State.checkOutcome_wrong s _ n 2 wrong]
      obtain ⟨failed, parks, kept, entries⟩ := State.failNow_after n.isLt counted (.inr rfl)
        (by simpa using key_div (0x3430 + n.val) (a := 6) (by decide)) 2
      simp only [State.seal_n, State.seal_portRt, State.seal_portState]
      exact ⟨(kept 6 (by decide)).trans (s.tagFailed_count n.isLt), failed, parks, .of_mem (by simp), entries.seal⟩
    · rw [outcome, State.checkOutcome_differ s _ n 2 differ]
      have kept := State.piuDisagrees_failNow (s.bump (Entry.safeTagFailures n)) n.isLt (.inr rfl) (a := 6) (by decide) 2 true
      simp only [State.seal_n, State.seal_fenced]
      exact ⟨(State.piuDisagrees_shows _).1, kept.trans (s.tagFailed_count n.isLt)⟩
  · have step (a b : BitVec 32) : exec (.crcRectangleCheck n rect a b) s = .next (s.seal (s.checkRect n rect a.toNat b.toNat)) :=
      State.onPort_next count
    have outcome := State.checkRect_eq runs shows scan active expected
    obtain ⟨failures, last, counted⟩ := s.rectFailed_shows n.isLt rect
    refine ⟨fun differ => ⟨_, step a b, ?_⟩, fun sound => ⟨_, step a a, ?_⟩, fun wrong => ⟨_, step a a, ?_⟩⟩
    · rw [outcome, State.checkOutcome_differ s _ n 3 differ]
      have kept := State.piuDisagrees_failNow (s.rectFailed n rect) n.isLt (.inl rfl) (a := 5) (by decide) 3 true
      simp only [State.seal_n, State.seal_fenced]
      exact ⟨(State.piuDisagrees_shows _).1, kept.trans failures⟩
    · rw [outcome, State.checkOutcome_sound s _ n 3 sound]
      exact Keeps.seal s s []
    · rw [outcome, State.checkOutcome_wrong s _ n 3 wrong]
      obtain ⟨failed, parks, kept, entries⟩ := State.failNow_after n.isLt counted (.inl rfl)
        (by simpa using ⟨key_div (0x3420 + n.val) (a := 5) (by decide), key_div (0x3420 + n.val) (a := 6) (by decide)⟩) 3
      simp only [State.seal_n, State.seal_portRt, State.seal_portState]
      exact ⟨(kept 5 (by decide)).trans failures, (kept 6 (by decide)).trans last, failed, parks, .of_mem (by simp [State.rectFailed]),
        entries.seal⟩
  · obtain ⟨fenced, device, entries⟩ := s.piuDisagrees_shows
    have step : exec .piuDisagreement s = .next (s.seal s.piuDisagrees) := congrArg (fun t => s.answer t) (if_pos running)
    refine ⟨_, step, ?_⟩
    simp only [State.seal_n, State.seal_fenced, State.seal_device, State.seal_vouched, State.seal_portState]
    refine ⟨fenced, device running, fun n port => ?_, .of_mem (by simp), entries.seal⟩
    obtain ⟨parks, stays⟩ := s.piuDisagrees_port port fun high => absent n high port
    by_cases runs : s.portState n = 1 ∨ s.portState n = 2
    · have parked := parks runs
      exact ⟨parked.unvouched, parked.state.trans (if_pos runs).symm, fun _ => ⟨parked.cause, parked.kind⟩⟩
    · obtain ⟨state, pair⟩ := stays runs
      have dark : s.vouched n = false := by
        rw [pairs n port]
        simpa using fun live => runs (.inr live)
      exact ⟨pair.trans dark, state.trans (if_neg runs).symm, fun h => absurd h runs⟩

end Sys2Proof.Machine
end

section
namespace Sys2Proof.Machine

open Sys2Proof

/-! The boundary of a lap without lanes (R210, R272), while a COMPUTE job waits unheld that an open pass draws over. -/

/-- What the boundary of a completed lap counts and shows once its jobs are pending again (R272, R289, R309, R22), on a partition `p` with
these herds. -/
def State.lapCounted (s : State) (k p tenNs : Nat) (l : Lap) (herds : List Nat) : State :=
  let u := (s.bump (Entry.slotLaps k)).setN (Entry.slotLapMax k) (max (s.n (Entry.slotLapMax k)) tenNs)
  let u := if u.n (Entry.slotAnnexBound k) < tenNs then u.bump (Entry.slotLapOverruns k) else u
  let u := (u.each herds fun u h => u.bump (Entry.herdLaps h)).countStats p k l []
  let u := u.each herds fun u h => u.setHerdRt h { u.herdRt h with acc := (u.herdRt h).acc.filter fun e => e.1 / 1024 ≠ k }
  ((u.flushUnits p).atBoundary k).takeShed p

/-- The boundary of a completed lap without lanes: no job of it ends or goes back to its queue. -/
theorem State.lapEnds_laneless {s : State} {k : Nat} {l : Lap} {img : TableImage} (runs : (s.slotRt k).lap = some l)
    (version : (s.slotRt k).active = some img) (whole : l.abandoned = false) (taken : l.inFlight = 0) (bare : l.lanes = [])
    (tenNs : Nat) :
    let u := s.purgeBatons k l.number
    let v := u.setSlotRt k { u.slotRt k with lap := none }
    s.lapEnds k tenNs = (v.reissueJobs k l).lapCounted k (s.slotRunner k) tenNs l (v.positions (s.slotRunner k)) := by
  simp only [State.lapEnds, runs, version, whole, taken, bare, State.lapCounted, List.any_nil, List.length_nil, List.range_zero,
    List.foldl_nil, Bool.false_eq_true, if_false, Bool.not_false, Bool.true_and, ne_eq, not_true_eq_false, decide_false]

/-- The descriptor of a target of 16 by 16 pixels whose frame buffer begins at offset 0. -/
@[irreducible] def drawnTarget : Nat := 16 * 2 ^ 496 + 16 * 2 ^ 480

/-- A running device with a lap of slot 1 that has no lanes.  A pass of partition 1 is open, and a queued COMPUTE job of that partition has
its output at offset 1; the job is not held. -/
def State.unheldJob : State :=
  { State.reset with
    dict := [(Entry.devDeviceState, .int 3)]
    boot := { State.reset.boot with managing := true }
    herds := { slots := [(1, { active := some {}, lap := some {} })] }
    jobs := [{ partition := 1, kind := 1, b := 1 }]
    raster := { passes := [{ partition := 1, desc := drawnTarget }] } }

/-- The device once the lap has ended, before COMPUTE jobs are held. -/
def State.lapless : State := { State.unheldJob with herds := { slots := [(1, { active := some {} })] } }

/-- Whatever length the image declares for the output, it begins within the pass's frame buffer. -/
theorem Pass.draws_drawnTarget (n : Nat) : Pass.draws { partition := 1, desc := drawnTarget } 1 n = true := by
  have base : bits drawnTarget 384 64 = 0 := by decide +kernel
  have size : descSize drawnTarget = (16, 16) := by decide +kernel
  have pixel : colourBytes (bits drawnTarget 472 4) = 4 := by decide +kernel
  have frame : to256 (16 * 16 * 4 + divCeil 16 8 * divCeil 16 8) = 1280 := by decide +kernel
  simp only [Pass.draws, size, pixel, base, frame, Bool.or_eq_true, Bool.and_eq_true, decide_eq_true_eq]
  exact .inl (.inl (.inl ⟨by omega, by omega⟩))

/-- The job is held, and the hold counted. -/
theorem State.lapless_holdOutputs : State.lapless.holdOutputs =
    ({ State.lapless with jobs := [{ partition := 1, kind := 1, b := 1, held := true }] } : State).bump
      (Entry.partRasterHeldComputeJobs 1) := by
  have meets : State.lapless.outputHeld 1 0 0 1 = true := by
    simp [State.outputHeld, State.lapless, State.unheldJob, Pass.draws_drawnTarget]
  have queued : State.lapless.jobs = [{ partition := 1, kind := 1, b := 1 }] := rfl
  simp only [State.holdOutputs, queued, List.filter_cons, meets]
  rfl

/-- HeldComputeJobs of partition 1 in the state that a step leaves. -/
def heldJobsAfter (a : Answer) : Option Value := match a with | .next t => some (t.raw (Entry.partRasterHeldComputeJobs 1)) | _ => none

/-- LAP_BOUNDARY looks at all COMPUTE jobs anew, and holds the one that waits. -/
theorem heldJobsAfter_unheldJob : heldJobsAfter (exec (.lapBoundary 1 0) State.unheldJob) = some (.int 1) := by
  have ended : State.unheldJob.lapEnds 1 0 = (State.lapless.holdOutputs.reissue 1).lapCounted 1 0 0 {} [] :=
    State.lapEnds_laneless (l := {}) (img := {}) rfl rfl rfl rfl rfl 0
  have step : exec (.lapBoundary 1 0) State.unheldJob =
      .next (State.unheldJob.seal
        (let t := (State.lapless.holdOutputs.reissue 1).lapCounted 1 0 0 {} []
         t.adaptSweep (t.slotRunner 1))) := by
    rw [← ended]
    rfl
  rw [step, State.lapless_holdOutputs]
  decide +kernel

/-- Refutes O44: the clause on LAP_BOUNDARY keeps every entry but the counts that it lists; its hypotheses do not exclude a COMPUTE job that
waits unheld where an open pass draws, which `State.holdOutputs` holds at the boundary and counts in HeldComputeJobs. -/
theorem not_lapsRun : ¬ Obligations.LapsRun := by
  intro claim
  obtain ⟨-, -, -, boundary⟩ := claim
  obtain ⟨t, step, -, -, -, -, -, -, -, -, kept⟩ := boundary State.unheldJob 1 0 {} {} (by decide +kernel) rfl rfl rfl rfl rfl
    (by decide) rfl rfl rfl rfl rfl (by decide +kernel) (by decide +kernel)
  have shown : some (t.raw (Entry.partRasterHeldComputeJobs 1)) = some (Value.int 1) :=
    (congrArg heldJobsAfter step).symm.trans heldJobsAfter_unheldJob
  have before : State.unheldJob.raw (Entry.partRasterHeldComputeJobs 1) = .int 0 := by decide +kernel
  rw [kept (Entry.partRasterHeldComputeJobs 1) (by decide +kernel) (by decide), before] at shown
  exact absurd shown (by decide)

end Sys2Proof.Machine
end

section
namespace Sys2Proof.Machine

open Sys2Proof

/-! The entries of relay table slots (R289): a slot's record holds its own entries alone, and what a change of version shows. -/

/-- What an entry of a slot's record reads after one of the same record is set. -/
theorem State.raw_set_slot (s : State) (k : Nat) (v : Value) (a b : Nat) (ha : a < 256) (hb : b < 256) :
    (s.set (key (0x4100 + k) a) v).raw (key (0x4100 + k) b) = if a = b then v else s.raw (key (0x4100 + k) b) := by
  by_cases same : a = b
  · subst same
    rw [if_pos rfl, State.raw_set _ _ _ (ne_lost_of_record (by omega))]
  · rw [if_neg same]
    exact State.raw_set_ne s v (key_ne_of_sub (by omega)) (ne_lost_of_record (by omega))

/-- The subindices of a slot's entries that show its active version. -/
def versionSubs : List Nat := [1, 9, 10, 11, 12, 13, 17, 19]

/-- The entries of a slot that show its active version. -/
def versionKeys (k : Nat) : List Nat := versionSubs.map (key (0x4100 + k))

theorem slotKeys_eq (k : Nat) : slotKeys k = versionKeys k ++ [7, 8, 14, 15, 16, 18].map (key (0x4100 + k)) := rfl

theorem versionKeys_sub {k i : Nat} (listed : i ∈ versionKeys k) : i ∈ slotKeys k := by
  rw [slotKeys_eq]
  exact List.mem_append_left _ listed

/-- An entry of a slot's record with another subindex shows nothing of the version. -/
theorem not_mem_versionKeys {k a : Nat} (other : a ∉ versionSubs) : key (0x4100 + k) a ∉ versionKeys k := fun listed => by
  obtain ⟨b, sub, same⟩ := List.mem_map.1 listed
  have : b = a := by simpa [key] using same
  exact other (this ▸ sub)

/-- The entries of a slot lie in its own record. -/
theorem slotKeys_div {k i : Nat} (listed : i ∈ slotKeys k) : i / 256 = 0x4100 + k := by
  rw [slotKeys_eq, versionKeys, ← List.map_append] at listed
  obtain ⟨a, sub, rfl⟩ := List.mem_map.1 listed
  exact key_div _ ((by decide : ∀ a ∈ versionSubs ++ [7, 8, 14, 15, 16, 18], a < 256) a sub)

theorem not_mem_slotKeys_of_slot {k j i : Nat} (listed : i ∈ slotKeys k) (other : k ≠ j) : i ∉ slotKeys j := fun both => by
  have := (slotKeys_div listed).symm.trans (slotKeys_div both)
  omega

theorem ne_lost_of_slotKeys {k i : Nat} (listed : i ∈ slotKeys k) : i ≠ Entry.canEventsLost := fun lost => by
  have := slotKeys_div listed
  simp only [lost, Entry.canEventsLost, key] at this
  omega

/-- The entries of the herds that versions give are no slot's. -/
theorem not_mem_loadKeys_of_slot {k i : Nat} (small : k < 128) (listed : i ∈ slotKeys k) : i ∉ loadKeys := fun load => by
  have record := slotKeys_div listed
  obtain ⟨h, herd, named⟩ := List.mem_flatMap.1 load
  rw [List.mem_range] at herd
  simp only [List.mem_cons, List.not_mem_nil, or_false] at named
  rcases named with rfl | rfl | rfl | rfl | rfl | rfl <;> rw [key_div _ (by decide)] at record <;> omega

theorem Keeps.zero (s : State) (l : List Nat) {keys : List Nat} (h : ∀ k ∈ l, k ∈ keys) : Keeps s (s.zero l) keys :=
  Keeps.each s l _ fun t k listed => Keeps.setN t k 0 (h k listed)

/-- A version shown changes its slot's entries alone. -/
theorem Keeps.showSlot (s : State) (k : Nat) : Keeps s (s.showSlot k) (versionKeys k) := by
  cases version : (s.slotRt k).active with
  | none =>
    simp only [State.showSlot, version]
    exact ((Keeps.zero s _ (by simp [versionKeys, versionSubs])).trans (Keeps.setB _ _ _ (by simp [versionKeys, versionSubs]))).trans
      (Keeps.setN _ _ _ (by simp [versionKeys, versionSubs]))
  | some img =>
    simp only [State.showSlot, version]
    have named : Keeps s (((s.setN (Entry.slotActiveVersion k) img.version).setB (Entry.slotTableDigest k) img.digest).setN
        (Entry.slotLanes k) img.lanes) (versionKeys k) :=
      ((Keeps.setN s _ _ (by simp [versionKeys, versionSubs])).trans (Keeps.setB _ _ _ (by simp [versionKeys, versionSubs]))).trans
        (Keeps.setN _ _ _ (by simp [versionKeys, versionSubs]))
    exact ((((named.trans (Keeps.setN _ _ _ (by simp [versionKeys, versionSubs]))).trans
      (Keeps.setN _ _ _ (by simp [versionKeys, versionSubs]))).trans (Keeps.setN _ _ _ (by simp [versionKeys, versionSubs]))).trans
      (Keeps.setN _ _ _ (by simp [versionKeys, versionSubs]))).trans (Keeps.setN _ _ _ (by simp [versionKeys, versionSubs]))

/-- What the entries of a slot read of a version that is shown, full or fallback (R289). -/
structure State.ShowsVersion (s : State) (k : Nat) (img : TableImage) (fb : Bool) : Prop where
  state : s.n (Entry.slotState k) = 1
  version : s.n (Entry.slotActiveVersion k) = img.version
  digest : s.b (Entry.slotTableDigest k) = img.digest
  lanes : s.n (Entry.slotLanes k) = img.lanes
  trigger : s.n (Entry.slotTrigger k) = img.trigger
  jobKind : s.n (Entry.slotJobKind k) = img.jobKind
  fallback : s.n (Entry.slotFallback k) = ofBool fb
  annex : s.n (Entry.slotAnnexBound k) = if fb then img.annexFallback else img.annexFull

theorem State.showSlot_shows {s : State} {k : Nat} {img : TableImage} (version : (s.slotRt k).active = some img) :
    (s.showSlot k).ShowsVersion k img (s.slotRt k).fallback := by
  constructor <;>
    simp [State.showSlot, version, State.n, State.b, State.setN, State.setB, State.raw_set_slot, Value.toInt, Value.toBytes]
  cases (s.slotRt k).fallback <;> rfl

/-- What a version shows stays where a slot's entries stay. -/
theorem State.ShowsVersion.congr {s t : State} {k : Nat} {img : TableImage} {fb : Bool} (h : s.ShowsVersion k img fb)
    (same : ∀ i ∈ slotKeys k, t.raw i = s.raw i) : t.ShowsVersion k img fb where
  state := (State.n_congr (same _ (by simp [slotKeys]))).trans h.state
  version := (State.n_congr (same _ (by simp [slotKeys]))).trans h.version
  digest := (State.b_congr (same _ (by simp [slotKeys]))).trans h.digest
  lanes := (State.n_congr (same _ (by simp [slotKeys]))).trans h.lanes
  trigger := (State.n_congr (same _ (by simp [slotKeys]))).trans h.trigger
  jobKind := (State.n_congr (same _ (by simp [slotKeys]))).trans h.jobKind
  fallback := (State.n_congr (same _ (by simp [slotKeys]))).trans h.fallback
  annex := (State.n_congr (same _ (by simp [slotKeys]))).trans h.annex

/-! What leaves the records of slots as they are. -/

/-- `t` has the slots' records of `s`, and its entries but those that `keys` lists. -/
structure SlotsKept (s t : State) (keys : List Nat) : Prop where
  entries : EntriesKept s t keys
  slots : ∀ k, t.slotRt k = s.slotRt k

namespace SlotsKept

variable {s t u : State} {keys : List Nat}

theorem of_keeps (h : Keeps s t keys) : SlotsKept s t keys := ⟨h.entries, State.slotRt_congr h.herds⟩

theorem trans (h : SlotsKept s t keys) (g : SlotsKept t u keys) : SlotsKept s u keys :=
  ⟨fun k listed lost => (g.entries k listed lost).trans (h.entries k listed lost), fun k => (g.slots k).trans (h.slots k)⟩

theorem setN (h : SlotsKept s t keys) {k : Nat} (n : Nat) (listed : k ∈ keys) : SlotsKept s (t.setN k n) keys :=
  h.trans (of_keeps (Keeps.setN t k n listed))

theorem setHerdRt (s : State) (h : Nat) (r : HerdRt) (keys : List Nat) : SlotsKept s (s.setHerdRt h r) keys :=
  ⟨fun _ _ _ => rfl, fun _ => rfl⟩

theorem each {α : Type} (s : State) (l : List α) (f : State → α → State) (h : ∀ t, ∀ a ∈ l, SlotsKept t (f t a) keys) :
    SlotsKept s (s.each l f) keys := by
  simp only [State.each]
  induction l generalizing s with
  | nil => exact ⟨fun _ _ _ => rfl, fun _ => rfl⟩
  | cons a r ih => exact (h s a (List.mem_cons_self ..)).trans (ih _ fun t b listed => h t b (List.mem_cons_of_mem _ listed))

/-- What the herds show of the active versions is in their own entries. -/
theorem showHerds (s : State) (p : Nat) : SlotsKept s (s.showHerds p) loadKeys := by
  refine each s _ _ fun t h listed => ?_
  have herd : h < 8 := by
    have part : s.herdCount ≤ 8 := by cases part : s.part <;> simp [State.herdCount, part]
    have := List.mem_range.1 (List.mem_filter.1 listed).1
    omega
  have shown {k : Nat} (own : k ∈ [Entry.herdWorkBytes h, Entry.cacheCacheBytes h, Entry.herdArithStatsChannelsUsed h,
      Entry.cachePinnedBytes h, Entry.cacheResidentBytes h, Entry.cacheResidentModels h]) : k ∈ loadKeys :=
    List.mem_flatMap.2 ⟨h, List.mem_range.2 herd, own⟩
  dsimp only
  exact ((((((setHerdRt t h _ loadKeys).setN _ (shown (by simp))).setN _ (shown (by simp))).setN _ (shown (by simp))).setN _
    (shown (by simp))).setN _ (shown (by simp))).setN _ (shown (by simp))

end SlotsKept

/-! Stage and Unload (R280, R287). -/

/-- A Stage of 1 begins a stage; one of 0 does nothing (R39). -/
theorem State.entryEffect_stage (s : State) (k : Fin 128) (value : Bool) :
    s.entryEffect (Entry.slotStage k) (.int (ofBool value)) = if value then s.stageSlot k else s := by
  cases value <;> fin_cases k <;> rfl

/-- An Unload of 1 unloads; one of 0 does nothing (R39). -/
theorem State.entryEffect_unload (s : State) (k : Fin 128) (value : Bool) :
    s.entryEffect (Entry.slotUnload k) (.int (ofBool value)) = if value then s.unloadSlot k else s := by
  cases value <;> fin_cases k <;> rfl

section
variable {s : State} {k : Fin 128} (running : s.running = true) (managed : s.boot.managing = true)
include running managed

theorem exec_stage (value : Bool) : exec (.stage k value) s = .next (s.seal (if value then s.stageSlot k else s)) := by
  show s.answer (s.written (Entry.slotStage k) (.int (ofBool value))) = _
  rw [State.written_running running managed, State.entryEffect_stage]
  rfl

theorem exec_unload (value : Bool) : exec (.unload k value) s = .next (s.seal (if value then s.unloadSlot k else s)) := by
  show s.answer (s.written (Entry.slotUnload k) (.int (ofBool value))) = _
  rw [State.written_running running managed, State.entryEffect_unload]
  rfl

end

section
variable {s : State} {k : Nat} {img : TableImage}

/-- A state shown for a stage, with its StageError. -/
theorem State.stageShown_shows (s : State) (k state error : Nat) :
    let t := (s.setN (Entry.slotStageState k) state).setN (Entry.slotStageError k) error
    t.n (Entry.slotStageState k) = state ∧ t.n (Entry.slotStageError k) = error ∧
      Keeps s t [Entry.slotStageState k, Entry.slotStageError k] := by
  refine ⟨?_, State.n_setN _ _ _ (ne_lost_of_record (by omega)),
    (Keeps.setN s _ _ (by simp)).trans (Keeps.setN _ _ _ (by simp))⟩
  rw [State.n_setN_ne _ _ (key_ne_of_sub (by decide)) (ne_lost_of_record (by omega)), State.n_setN _ _ _ (ne_lost_of_record (by omega))]

/-- A stage whose checks pass begins the load (R280 step 2). -/
theorem State.stageSlot_passed (user : k < 120) (passed : s.stageCheck k = (0, some img)) :
    s.stageSlot k = ((s.setSlotRt k { s.slotRt k with staged := none, loading := some img }).setN (Entry.slotStageState k) 1).setN
      (Entry.slotStageError k) 0 := by
  simp only [State.stageSlot, if_neg (Nat.not_le.2 user), passed]

/-- A stage that fails its checks drops what was staged and loading; one for want of room counts as a refused pin (R281, R287). -/
theorem State.stageSlot_failed (user : k < 120) {e : Nat} (failed : s.stageCheck k = (e, none)) :
    ∃ u, Keeps (s.setSlotRt k { s.slotRt k with staged := none, loading := none }) u
        [Entry.partCachePinRefused (s.n (Entry.slotPartition k))] ∧
      s.stageSlot k = (u.setN (Entry.slotStageState k) 3).setN (Entry.slotStageError k) e := by
  refine ⟨_, ?_, by simp only [State.stageSlot, if_neg (Nat.not_le.2 user), failed]; rfl⟩
  split
  · exact Keeps.bump _ _ (by simp)
  · exact Keeps.refl _ _

/-- The end of a load in an ACTIVE slot: the version waits for the lap boundary (R280 step 3). -/
theorem State.stageLoaded_active (loading : (s.slotRt k).loading = some img) (active : (s.slotRt k).active ≠ none) :
    s.stageLoaded k = (s.setSlotRt k { s.slotRt k with staged := some img, loading := none }).setN (Entry.slotStageState k) 2 := by
  simp [State.stageLoaded, loading, active]

/-- A version made active, before its slot and its herds show it (R280 step 4). -/
def State.swapped (s : State) (k : Nat) (img : TableImage) : State :=
  let r := s.slotRt k
  let u := (s.setSlotRt k { r with
    active := some img, staged := none, reload := none
    fallback := (img.variant (s.positions (s.slotRunner k)).length).getD r.fallback }).setN (Entry.slotStageState k) 0
  if r.active.isNone then
    u.zero [Entry.slotLaps k, Entry.slotLapsAbandoned k, Entry.slotLapMax k, Entry.slotLapOverruns k]
  else u

theorem State.swapIn_staged (staged : (s.slotRt k).staged = some img) :
    s.swapIn k = ((s.swapped k img).showSlot k).showHerds (s.slotRunner k) := by
  simp only [State.swapIn, staged]
  rfl

/-- A first version made active: its slot counts laps from 0 (R289). -/
theorem State.swapped_first (empty : (s.slotRt k).active = none) :
    (s.swapped k img).n (Entry.slotStageState k) = 0 ∧ (s.swapped k img).n (Entry.slotLaps k) = 0 ∧
    (∃ fb, (s.swapped k img).slotRt k = { s.slotRt k with active := some img, staged := none, reload := none, fallback := fb }) ∧
    (∀ j, j ≠ k → (s.swapped k img).slotRt j = s.slotRt j) ∧ EntriesKept s (s.swapped k img) (slotKeys k) := by
  set r : SlotRt := { s.slotRt k with
    active := some img, staged := none, reload := none
    fallback := (img.variant (s.positions (s.slotRunner k)).length).getD (s.slotRt k).fallback } with record
  have path : s.swapped k img = ((s.setSlotRt k r).setN (Entry.slotStageState k) 0).zero
      [Entry.slotLaps k, Entry.slotLapsAbandoned k, Entry.slotLapMax k, Entry.slotLapOverruns k] := by
    simp [State.swapped, empty, record]
  have kept : Keeps (s.setSlotRt k r) (s.swapped k img) (slotKeys k) := by
    rw [path]
    exact (Keeps.setN _ _ _ (by simp [slotKeys])).trans (Keeps.zero _ _ (by simp [slotKeys]))
  have slots (j : Nat) : (s.swapped k img).slotRt j = if k = j then r else s.slotRt j :=
    (State.slotRt_congr kept.herds j).trans (State.slotRt_setSlotRt ..)
  refine ⟨?_, ?_, ⟨_, (slots k).trans (if_pos rfl)⟩, fun j other => (slots j).trans (if_neg other.symm), kept.entries⟩
  · rw [path]
    simp [State.zero, State.n, State.setN, State.raw_set_slot, Value.toInt]
  · rw [path]
    simp [State.zero, State.n, State.setN, State.raw_set_slot, Value.toInt]

/-- The end of a load in an EMPTY slot: the version is active at once, and shown (R280 step 4). -/
theorem State.stageLoaded_first (small : k < 128) (loading : (s.slotRt k).loading = some img) (empty : (s.slotRt k).active = none) :
    (s.stageLoaded k).n (Entry.slotStageState k) = 0 ∧ (s.stageLoaded k).n (Entry.slotLaps k) = 0 ∧
    (∃ fb, (s.stageLoaded k).ShowsVersion k img fb ∧ (s.stageLoaded k).slotRt k = { s.slotRt k with
      active := some img, staged := none, loading := none, reload := none, fallback := fb }) ∧
    (∀ j, j ≠ k → (s.stageLoaded k).slotRt j = s.slotRt j) ∧ EntriesKept s (s.stageLoaded k) (slotKeys k ++ loadKeys) := by
  set r : SlotRt := { s.slotRt k with staged := some img, loading := none } with record
  set u := (s.setSlotRt k r).setN (Entry.slotStageState k) 2 with loaded
  have begun : Keeps (s.setSlotRt k r) u (slotKeys k) := Keeps.setN _ _ _ (by simp [slotKeys])
  have slots (j : Nat) : u.slotRt j = if k = j then r else s.slotRt j :=
    (State.slotRt_congr begun.herds j).trans (State.slotRt_setSlotRt ..)
  have own : u.slotRt k = r := (slots k).trans (if_pos rfl)
  obtain ⟨state, laps, ⟨fb, active⟩, others, swapped⟩ := State.swapped_first (s := u) (k := k) (img := img) (by rw [own]; exact empty)
  have path : s.stageLoaded k = ((u.swapped k img).showSlot k).showHerds (u.slotRunner k) := by
    rw [← State.swapIn_staged (by rw [own])]
    simp [State.stageLoaded, loading, empty, loaded, record]
  have shown := Keeps.showSlot (u.swapped k img) k
  have version := State.showSlot_shows (s := u.swapped k img) (k := k) (img := img) (by rw [active])
  have herds := SlotsKept.showHerds ((u.swapped k img).showSlot k) (u.slotRunner k)
  have same (i : Nat) (listed : i ∈ slotKeys k) : (s.stageLoaded k).raw i = ((u.swapped k img).showSlot k).raw i := by
    rw [path]
    exact herds.entries i (not_mem_loadKeys_of_slot small listed) (ne_lost_of_slotKeys listed)
  have kept (j : Nat) : (s.stageLoaded k).slotRt j = (u.swapped k img).slotRt j := by
    rw [path, herds.slots, State.slotRt_congr shown.herds]
  refine ⟨?_, ?_, ⟨fb, ?_, ?_⟩, fun j other => ?_, ?_⟩
  · rw [State.n_congr (same _ (by simp [slotKeys])), shown.n (not_mem_versionKeys (by decide)) (ne_lost_of_record (by omega)), state]
  · rw [State.n_congr (same _ (by simp [slotKeys])), shown.n (not_mem_versionKeys (by decide)) (ne_lost_of_record (by omega)), laps]
  · rw [active] at version
    exact version.congr same
  · rw [kept, active, own]
  · rw [kept, others j other, slots, if_neg other.symm]
  · rw [path]
    have stated : EntriesKept s ((u.swapped k img).showSlot k) (slotKeys k) := fun i other lost =>
      (shown.entries i (fun listed => other (versionKeys_sub listed)) lost).trans
        ((swapped i other lost).trans (begun.entries i other lost))
    exact stated.trans herds.entries

end

/-! The load for another herd count (R284). -/

/-- A slot's record once the load for another herd count has ended: the fallback version is active in the other bank, the full one waits. -/
def SlotRt.reloaded (r : SlotRt) : SlotRt :=
  match r.reload with
  | some (true, false) => { r with fallback := true, reload := none, active := r.active.map fun x => { x with bank := 1 - x.bank } }
  | some (false, false) => { r with reload := some (false, true) }
  | _ => r

theorem SlotRt.reloaded_fallback {r : SlotRt} (h : r.reload = some (true, false)) :
    r.reloaded = { r with fallback := true, reload := none, active := r.active.map fun x => { x with bank := 1 - x.bank } } := by
  simp only [SlotRt.reloaded, h]

theorem SlotRt.reloaded_full {r : SlotRt} (h : r.reload = some (false, false)) :
    r.reloaded = { r with reload := some (false, true) } := by
  simp only [SlotRt.reloaded, h]

/-- What the end of that load does to one slot. -/
def State.reloadSlot (s : State) (k : Nat) : State :=
  match (s.slotRt k).reload with
  | some (true, false) => s.applyReload k true
  | some (false, false) => s.setSlotRt k { s.slotRt k with reload := some (false, true) }
  | _ => s

theorem State.reloadDone_eq (s : State) (p : Nat) : s.reloadDone p = s.each (s.slotsOf p) State.reloadSlot := rfl

/-- One slot's end of the load changes that slot's record, and its own entries alone. -/
theorem State.reloadSlot_kept (s : State) (k : Nat) :
    (∀ j, (s.reloadSlot k).slotRt j = if k = j then (s.slotRt k).reloaded else s.slotRt j) ∧
    EntriesKept s (s.reloadSlot k) (slotKeys k) := by
  unfold State.reloadSlot SlotRt.reloaded
  split
  · have shown := Keeps.showSlot (s.setSlotRt k { s.slotRt k with
      fallback := true, reload := none, active := (s.slotRt k).active.map fun x => { x with bank := 1 - x.bank } }) k
    exact ⟨fun j => (State.slotRt_congr shown.herds j).trans (State.slotRt_setSlotRt ..),
      shown.entries.mono fun _ => versionKeys_sub⟩
  · exact ⟨fun j => State.slotRt_setSlotRt .., fun _ _ _ => rfl⟩
  · refine ⟨fun j => ?_, fun _ _ _ => rfl⟩
    split
    · rename_i same
      rw [same]
    · rfl

/-- The end of the load changes each slot of the pass once, and the slots' entries alone. -/
theorem State.each_reloadSlot {l : List Nat} (once : l.Nodup) (s : State) :
    (∀ k, (s.each l State.reloadSlot).slotRt k = if k ∈ l then (s.slotRt k).reloaded else s.slotRt k) ∧
    EntriesKept s (s.each l State.reloadSlot) (l.flatMap slotKeys) := by
  simp only [State.each]
  induction l generalizing s with
  | nil => exact ⟨fun k => rfl, fun _ _ _ => rfl⟩
  | cons j r ih =>
    obtain ⟨fresh, once⟩ := List.nodup_cons.1 once
    obtain ⟨slots, entries⟩ := ih once (s.reloadSlot j)
    obtain ⟨first, own⟩ := s.reloadSlot_kept j
    refine ⟨fun k => ?_, own.trans entries⟩
    rw [List.foldl_cons, slots, first]
    by_cases same : j = k
    · subst same
      simp [fresh]
    · simp [same, Ne.symm same]

/-- A slot that waited for its fallback version shows it afterwards. -/
theorem State.each_reloadSlot_shows {l : List Nat} (once : l.Nodup) {s : State} {k : Nat} {img : TableImage} (listed : k ∈ l)
    (waits : (s.slotRt k).reload = some (true, false)) (active : (s.slotRt k).active = some img) :
    (s.each l State.reloadSlot).ShowsVersion k { img with bank := 1 - img.bank } true := by
  induction l generalizing s with
  | nil => exact absurd listed List.not_mem_nil
  | cons j r ih =>
    obtain ⟨fresh, once⟩ := List.nodup_cons.1 once
    obtain ⟨slots, -⟩ := s.reloadSlot_kept j
    by_cases same : j = k
    · subst same
      have version : (s.reloadSlot j).ShowsVersion j { img with bank := 1 - img.bank } true := by
        set r : SlotRt := { s.slotRt j with
          fallback := true, reload := none, active := (s.slotRt j).active.map fun x => { x with bank := 1 - x.bank } } with record
        have own : (s.setSlotRt j r).slotRt j = r := (State.slotRt_setSlotRt ..).trans (if_pos rfl)
        have path : s.reloadSlot j = (s.setSlotRt j r).showSlot j := by
          simp only [State.reloadSlot, waits]
          rfl
        have shown := State.showSlot_shows (s := s.setSlotRt j r) (k := j) (img := { img with bank := 1 - img.bank })
          (by rw [own, record, active]; rfl)
        rw [own] at shown
        rw [path]
        exact shown
      obtain ⟨-, later⟩ := State.each_reloadSlot once (s.reloadSlot j)
      refine version.congr fun i own => later i (fun other => ?_) (ne_lost_of_slotKeys own)
      obtain ⟨k, rest, named⟩ := List.mem_flatMap.1 other
      exact not_mem_slotKeys_of_slot own (fun same => fresh (same ▸ rest)) named
    · have still : (s.reloadSlot j).slotRt k = s.slotRt k := (slots k).trans (if_neg same)
      exact ih once ((List.mem_cons.1 listed).resolve_left (Ne.symm same)) (by rw [still]; exact waits) (by rw [still]; exact active)

theorem State.mem_slotsOf {s : State} {p k : Nat} : k ∈ s.slotsOf p ↔ k < 128 ∧ p ≠ 0 ∧ s.slotRunner k = p := by
  simp [State.slotsOf]

theorem State.slotsOf_nodup (s : State) (p : Nat) : (s.slotsOf p).Nodup := List.nodup_range.filter _

/-- Settles O45: a stage by the outcome of its checks, the end of a load by `State.stageLoaded_active` and `State.stageLoaded_first`, and the
load for another herd count slot by slot (`State.each_reloadSlot`). -/
theorem tablesLoaded : Obligations.TablesLoaded := by
  refine ⟨fun s k img user running managed => ⟨fun passed => ?_, fun e failed => ?_, fun loading active => ?_, fun loading empty => ?_,
    fun active => ?_, ?_, ?_⟩, fun s p => ?_⟩
  · obtain ⟨state, error, kept⟩ := State.stageShown_shows
      (s.setSlotRt k { s.slotRt k with staged := none, loading := some img }) k 1 0
    rw [← State.stageSlot_passed user passed] at state error kept
    exact ⟨_, exec_stage running managed true, state, error, kept.trans (Keeps.seal s _ _)⟩
  · obtain ⟨u, counted, path⟩ := State.stageSlot_failed user failed
    obtain ⟨state, error, kept⟩ := State.stageShown_shows u k 3 e
    rw [← path] at state error kept
    exact ⟨_, exec_stage running managed true, state, error,
      ((counted.mono (by simp)).trans (kept.mono (by simp))).trans (Keeps.seal s _ _)⟩
  · refine ⟨_, rfl, ?_⟩
    simp only [State.seal_n]
    rw [State.stageLoaded_active loading active]
    exact ⟨State.n_setN _ _ _ (ne_lost_of_record (by omega)), (Keeps.setN _ _ _ (by simp)).trans (Keeps.seal s _ _)⟩
  · obtain ⟨state, laps, ⟨fb, version, own⟩, others, entries⟩ := State.stageLoaded_first k.isLt loading empty
    exact ⟨_, rfl, state, version.state, version.version, version.digest, version.lanes, version.trigger, version.jobKind, laps,
      congrArg SlotRt.active own, congrArg SlotRt.staged own, congrArg SlotRt.loading own, others, .of_mem (by simp), entries.seal⟩
  · refine ⟨_, exec_unload running managed true, ?_⟩
    have path : s.unloadSlot k = s.setSlotRt k { s.slotRt k with unload := true } := by
      simp [State.unloadSlot, Nat.not_le.2 user, active]
    simp only [if_true]
    rw [path]
    exact Keeps.seal s _ []
  · exact ⟨_, exec_stage running managed false, Keeps.seal s s []⟩
  · exact ⟨_, exec_unload running managed false, Keeps.seal s s []⟩
  · have once := s.slotsOf_nodup (p.val + 1)
    obtain ⟨slots, entries⟩ := State.each_reloadSlot once s
    rw [← State.reloadDone_eq] at slots entries
    refine ⟨_, rfl, fun k small runner => ⟨fun waits => ⟨?_, fun img active => ?_⟩, fun waits => ?_⟩, fun k other => ?_,
      .of_mem (by simp), ?_⟩
    · exact (slots k).trans ((if_pos (State.mem_slotsOf.2 ⟨small, by omega, runner⟩)).trans (SlotRt.reloaded_fallback waits))
    · have shown := State.each_reloadSlot_shows once (State.mem_slotsOf.2 ⟨small, by omega, runner⟩) waits active
      rw [← State.reloadDone_eq] at shown
      exact ⟨shown.fallback, shown.annex⟩
    · exact (slots k).trans ((if_pos (State.mem_slotsOf.2 ⟨small, by omega, runner⟩)).trans (SlotRt.reloaded_full waits))
    · exact (slots k).trans (if_neg fun listed => other (State.mem_slotsOf.1 listed).2.2)
    · refine (entries.mono fun i listed => ?_).seal
      obtain ⟨k, own, named⟩ := List.mem_flatMap.1 listed
      exact List.mem_flatMap.2 ⟨k, List.mem_range.2 (State.mem_slotsOf.1 own).1, named⟩

end Sys2Proof.Machine
end

section
namespace Sys2Proof.Machine

open Sys2Proof

/-! The end of a herd's reset (R18, R285), where PaceMin does not show the lowest of the paces measured. -/

/-- A running device whose herd 0 is in RESET.  Herd 0 measured a pace of 900, and PaceMin reads 0. -/
def State.stalePace : State :=
  { State.reset with
    dict := [(Entry.devDeviceState, .int 3), (Entry.herdState 0, .int 2)]
    boot := { State.reset.boot with managing := true }, pace := { State.reset.pace with paces := [(0, 900)] } }

/-- PaceMin of the state that a step leaves. -/
def paceMinAfter (a : Answer) : Option Value := match a with | .next t => some (t.raw Entry.devPaceMin) | _ => none

/-- The herd that returns to service has PaceMin shown anew. -/
theorem paceMinAfter_stalePace : paceMinAfter (exec (.herdResetComplete 0 true) State.stalePace) = some (.int 900) := by
  decide +kernel

/-- Refutes O46: the clause on a herd found cleared keeps every entry but State and HerdResetCount of the herd; its hypotheses do not tie
PaceMin to the paces measured, and `State.returnHerd` shows their lowest. -/
theorem not_herdResets : ¬ Obligations.HerdResets := by
  intro claim
  obtain ⟨-, -, -, cleared⟩ := claim State.stalePace 0 (by decide)
  obtain ⟨t, step, -, -, -, -, -, -, -, -, -, -, -, kept⟩ := cleared (by decide +kernel) (by decide +kernel) rfl
  have shown : some (t.raw Entry.devPaceMin) = some (Value.int 900) := (congrArg paceMinAfter step).symm.trans paceMinAfter_stalePace
  have before : State.stalePace.raw Entry.devPaceMin = .int 0 := by decide +kernel
  rw [kept Entry.devPaceMin (by decide) (by decide), before] at shown
  exact absurd shown (by decide)

end Sys2Proof.Machine
end
